-- ==== Sys2Proof/Word.lean ====
section
/-! DEFINITION. The word types of the model: the unsigned fields of packets and registers (R8, R9, chapter 02 "Opcodes"). -/

namespace Sys2Proof

/-- One byte of a packet or of a stored image (R8). -/
abbrev Byte := BitVec 8
/-- An unsigned 8-bit field (chapter 02, "Opcodes"). -/
abbrev U8 := BitVec 8
/-- An unsigned 16-bit field. -/
abbrev U16 := BitVec 16
/-- An unsigned 32-bit field. -/
abbrev U32 := BitVec 32
/-- An unsigned 64-bit field; device time is one of these (R135). -/
abbrev U64 := BitVec 64
/-- A register: 32 bits, accessed only as a whole word (R9). -/
abbrev Word := BitVec 32

end Sys2Proof
end

