-- ==== Sys2Proof/Syntax.lean ====
section
/-! DEFINITION. The commands of the block: one constructor per row of spec/opcode_table.json, in its order, with the
operands the row needs: a host command carries the header of its packet (Table 2.2) and its parameters (Tables 2.4 to
2.16); an event carries what reaches the device from outside it (levels, measurements, received fields). -/

namespace Sys2Proof

/-- The three command transports (Table 2.1). -/
inductive Transport where
  | spi
  | link
  | eth
  deriving DecidableEq, Repr

/-- Who sent a datagram: its source address and UDP port, 0 on other transports. -/
structure Peer where
  ip   : U32 := 0
  port : U16 := 0
  deriving DecidableEq, Repr

/-- The header of a received command packet (Table 2.2), without the fields that the row fixes (MAGIC, LENGTH) and those that nothing
reads (SOURCE, STATUS; log entry 137). `opcode` is the OPCODE byte of a packet whose opcode lies outside Tables 2.4 to 2.16, none where it
is the row's (R31); `padBad` is the offset of the first nonzero padding byte, where there is one (R29); `peer` is the sender on Ethernet. -/
structure Hdr where
  tr       : Transport
  version  : U8 := 1
  tag      : U16
  role     : U8
  seq      : U16
  flags    : U8 := 0
  subaddr  : U8 := 0
  reserved : U8 := 0
  opcode   : Option U8 := none
  padBad   : Option Nat := none
  peer     : Peer := {}
  deriving DecidableEq, Repr

/-- The fields every chunk of a chunked upload carries before the opcode's own parameters (R47). -/
structure Chunk where
  token  : U32
  offset : U32
  total  : U32
  deriving DecidableEq, Repr

/-- Where a packet came in: the transport, and the sender on Ethernet. -/
structure Arrival where
  tr   : Transport
  peer : Peer := {}
  deriving DecidableEq, Repr

/-- When a microcell fires, in ps, and the microcells of its macropixel that fire up to the span w after it (R124, R125). -/
structure Firing where
  time  : Nat
  after : List Nat := []
  deriving DecidableEq, Repr

/-- What a receiver in TRAIN has of the far end and of itself: the ARG of READY, its margin, its first decision-feedback tap and its main
cursor (R242, R256). -/
structure ReadyObs where
  farArg : Nat
  margin : Nat
  tap    : Int
  cursor : Int
  deriving DecidableEq, Repr

/-- Whether the clamp of the input carried more than its current limit, and whether the converter's built-in check failed (R305, R320). -/
structure ConversionObs where
  overcurrent : Bool
  broken      : Bool
  deriving DecidableEq, Repr

/-- An ARP request: the address asked for, and who asks (R234). -/
structure ArpAsk where
  ip     : U32
  sender : U32
  mac    : Nat
  deriving DecidableEq, Repr

/-- What one step of a stepped operation finds when it looks at the world: whether it is the last step, whether what it
measures passes, a code its chapter defines for a failure, and measured numbers and bytes (R44, R46). -/
structure StepObs where
  final : Bool
  ok    : Bool := true
  code  : Nat := 0
  data  : List Int := []
  bytes : List Byte := []
  deriving DecidableEq, Repr

/-- What one boot step finds (Table 3.10): whether the main path of this attempt succeeded, whether the alternate path
did, and the step's own findings (units, slots, tiles, lanes, devices, axes, ports, the fuse words). -/
structure BootObs where
  ok      : Bool
  altOk   : Bool := true
  items   : List Nat := []
  value   : Nat := 0
  fuses   : List (Nat × U32) := []
  fusesOk : Bool := true
  deriving DecidableEq, Repr

/-- An answer on the Beacon bus to STATUS_READ (R86). -/
structure DriverReply where
  status : U16
  faults : U16
  deriving DecidableEq, Repr

/-- A packet that the primary passes on between a host and a secondary (R37, R278). `kind` is 1 for points, 2 for a frame packet, 3 for
export, 4 for a Bell frame: `bytes` is then the whole packet; any other kind is a command packet, a reply or an event packet, `bytes` its
payload. -/
structure CasPacket where
  kind    : Nat
  opcode  : U8
  tag     : U16
  seq     : U16
  status  : U8
  bytes   : List Byte
  role    : U8 := 0
  subaddr : U8 := 0
  deriving DecidableEq, Repr

/-- A received link packet (R241, R244, R245): the 58 scrambled bits before its HEAD block, its blocks as they came over the lane, each
with its header bit and its scrambled payload, and for each the number of its codeword in the count of codewords that the lane has
received since its bring-up. -/
structure LinkPacket where
  before : Nat
  blocks : List (Bool × Nat)
  words  : List Nat
  deriving DecidableEq, Repr

/-- The commands of the block: each constructor is the row of spec/opcode_table.json whose mnemonic its docstring gives. -/
inductive Instr where
  /-- NOP (R32): Host command that does nothing and is answered OK. -/
  | nop (h : Hdr)
  /-- SESSION_OPEN (R32): Opens a session with a role and heartbeat on its transport, closing any existing session there. -/
  | sessionOpen (h : Hdr) (role : U8) (heartbeatMs : U16)
  /-- SESSION_CLOSE (R34): Closes the session and aborts its stepped operations at the next step boundary. -/
  | sessionClose (h : Hdr)
  /-- IDENT_GET (R39): Returns the identity, firmware version, feature word and device count. -/
  | identGet (h : Hdr)
  /-- STATUS_GET (R73): Returns the mode, active Watch, epoch, fault summary and device time. -/
  | statusGet (h : Hdr)
  /-- TIME_GET (R136): Returns a coherent device time and the PPS lock state. -/
  | timeGet (h : Hdr)
  /-- RESET_SOFT (R55): Resets the device into BOOT or into DORMANT after sending its reply. -/
  | resetSoft (h : Hdr) (target : U8)
  /-- HEARTBEAT (R34): Keeps the session alive against its heartbeat period. -/
  | heartbeat (h : Hdr)
  /-- REG_READ (R43): Reads count consecutive registers after checking every address. -/
  | regRead (h : Hdr) (addr : U32) (count : U16)
  /-- REG_WRITE (R43): Writes count consecutive registers after checking every address and lock. -/
  | regWrite (h : Hdr) (addr : U32) (vals : List U32)
  /-- REG_RMW (R43): Read-modify-writes one register under a mask and returns the old and new values. -/
  | regRmw (h : Hdr) (addr : U32) (mask : U32) (value : U32)
  /-- REG_POLL (R36): Waits until a masked register equals a value or the timeout ends. -/
  | regPoll (h : Hdr) (addr : U32) (mask : U32) (value : U32) (timeoutUs : U32)
  /-- BULK_READ (R168): Stepped copy of histogram window views, each channel view copied as one unit. -/
  | bulkRead (h : Hdr) (addr : U32) (len : U32)
  /-- REG_LIST_WRITE (R38): Applies a list of address-value writes in order, stopping at the first failure. -/
  | regListWrite (h : Hdr) (entries : List (U32 × U32))
  /-- MODE_GET (R57): Returns the present mode and the target of any running transition. -/
  | modeGet (h : Hdr)
  /-- MODE_SET (R57): Starts a stepped mode transition to CONFIG, SCAN or SERVICE after the preconditions. -/
  | modeSet (h : Hdr) (target : U8)
  /-- GUARD_ARM (R391): Checks the GUARD preconditions for a named set and issues an arm token valid for 1 s. -/
  | guardArm (h : Hdr) (set : U8) (mapCrc : U32)
  /-- GUARD_ENTER (R60): Enters GUARD: locks RWL registers, computes the frozen CRC and pins guard cells. -/
  | guardEnter (h : Hdr) (token : U32) (mapCrc : U32)
  /-- SLEEP (R70): Arms the wake sources and enters DORMANT. -/
  | sleep (h : Hdr) (wakeMask : U8)
  /-- MODE_SET_AT (R62): Schedules a CONFIG-SCAN transition at a future device-time tick. -/
  | modeSetAt (h : Hdr) (target : U8) (time : U64)
  /-- MODE_HISTORY (R57): Returns the 16 most recent mode transitions. -/
  | modeHistory (h : Hdr)
  /-- PLAN_LOAD (R192): Chunked upload of a scan plan into one of four slots. -/
  | planLoad (h : Hdr) (ck : Chunk) (slot : U8) (data : List Byte)
  /-- PLAN_ACTIVATE (R201): Checks a slot and activates its plan from the next frame boundary with a new epoch. -/
  | planActivate (h : Hdr) (slot : U8)
  /-- PLAN_GET (R192): Returns the bytes of a stored plan slot. -/
  | planGet (h : Hdr) (slot : U8) (offset : U32)
  /-- ADAPT_FREEZE (R206): Freezes or resumes Tender adaptation of shapes and k. -/
  | adaptFreeze (h : Hdr) (freeze : U8)
  /-- PLACEMENT_READ (R212): Stepped read of the placement tables of a held epoch. -/
  | placementRead (h : Hdr) (epoch : U8)
  /-- ROI_SET (R192): Replaces one region entry of the plan in force from the next frame boundary. -/
  | roiSet (h : Hdr) (roi : U8) (fields : List Byte)
  /-- FRAME_RATE_SET (R192): Changes the frame rate of the plan in force from the next frame boundary. -/
  | frameRateSet (h : Hdr) (rate : U32)
  /-- PLAN_CHECK (R201): Evaluates a plan slot and returns its verdict and planned point rate. -/
  | planCheck (h : Hdr) (slot : U8)
  /-- PATTERN_LOAD (R93): Stores and checks a pattern program of up to 256 steps. -/
  | patternLoad (h : Hdr) (program : U8) (steps : List U64)
  /-- PATTERN_RUN (R92): Starts or arms a pattern program as the shot source. -/
  | patternRun (h : Hdr) (program : U8) (repeats : U16)
  /-- PATTERN_STOP (R92): Returns the shot source to the grid at the next frame boundary. -/
  | patternStop (h : Hdr)
  /-- EMITTER_STATUS (R97): Returns the 2-bit status of every emitter of a bank. -/
  | emitterStatus (h : Hdr) (bank : U8)
  /-- PIN_TEST (R95): Stepped common-mode test of FIRE and bus pairs for shorts and stuck lines. -/
  | pinTest (h : Hdr)
  /-- LANTERN_LIMIT (R104): Sets a Lantern limit for a bank and window, refusing values above the cap. -/
  | lanternLimit (h : Hdr) (bank : U8) (window : U8) (limit : U32)
  /-- LANTERN_LEDGER (R108): Stepped read of the used fraction of every cell of a bank and window. -/
  | lanternLedger (h : Hdr) (bank : U8) (window : U8)
  /-- DRIVER_STATUS (R86): Returns the last status and faults of a Beacon bus driver. -/
  | driverStatus (h : Hdr) (address : U8)
  /-- AXIS_CONFIG (R286): Configures an axis type, inputs, outputs and limits while it is OFF. -/
  | axisConfig (h : Hdr) (axis : U8) (type : U8) (params : List Byte)
  /-- AXIS_COEF (R296): Replaces the sections of one loop, swapping at once or deferred while saturated. -/
  | axisCoef (h : Hdr) (axis : U8) (loop : U8) (coefs : List (List U32))
  /-- AXIS_ENABLE (R292): Requests axis state OFF, run or SAFE under the transition rules. -/
  | axisEnable (h : Hdr) (axis : U8) (state : U8)
  /-- AXIS_STATUS (R301): Returns an axis angle, outer error, flags and miss run. -/
  | axisStatus (h : Hdr) (axis : U8)
  /-- TIDE_SCAN (R309): Writes the Tide scan mask and starting gains. -/
  | tideScan (h : Hdr) (mask : U32) (gains : U64)
  /-- TIDE_READ (R318): Snapshots and restarts the accumulators of the masked inputs and returns them. -/
  | tideRead (h : Hdr) (mask : U32)
  /-- SIFTER_SET (R332): Chunked load of a Sifter channel filter, by cross-fade or restart. -/
  | sifterSet (h : Hdr) (ck : Chunk) (channel : U8) (mode : U8) (taps : U16) (data : List Byte)
  /-- SFD_READ (R335): Returns the latest detector amplitude and phase of the masked channels. -/
  | sfdRead (h : Hdr) (mask : U32)
  /-- CAL_RUN (R361): Stepped calibration of the masked quantities with commit in the final step. -/
  | calRun (h : Hdr) (mask : U32)
  /-- CAL_STATUS (R362): Returns the time and result of each calibrated quantity. -/
  | calStatus (h : Hdr)
  /-- CAL_SET_READ (R369): Stepped read of one temperature set. -/
  | calSetRead (h : Hdr) (index : U8)
  /-- CAL_CAMERA (R352): Checks and stores a camera's intrinsic and extrinsic matrices. -/
  | calCamera (h : Hdr) (port : U8) (intrinsics : List U32) (extrinsic : List U32)
  /-- CAL_FACTORY (R368): Replaces the factory set with the set nearest 25 °C and the global values. -/
  | calFactory (h : Hdr)
  /-- CAL_TRIGGER (R366): Writes the automatic calibration temperature delta and enable. -/
  | calTrigger (h : Hdr) (deltaT : U8) (enable : U8)
  /-- GUARD_MAP_LOAD (R377): Chunked load of a guard map set into both Keepers. -/
  | guardMapLoad (h : Hdr) (ck : Chunk) (set : U8) (data : List Byte)
  /-- GUARD_MAP_READ (R377): Returns a guard map set and its CRC. -/
  | guardMapRead (h : Hdr) (set : U8) (offset : U32)
  /-- GUARD_LEAVE (R60): Turns the safety outputs off, unlocks RWL registers and returns to CONFIG. -/
  | guardLeave (h : Hdr) (mapCrc : U32)
  /-- SAFE_ACK (R392): Clears one latched SAFE fault after the Keepers' self-test and readback checks. -/
  | safeAck (h : Hdr) (fault : U16)
  /-- KEEPER_STATUS (R395): Returns both Keeper state records and the output and readback lines. -/
  | keeperStatus (h : Hdr)
  /-- BELL_CONFIG (R400): Writes the Bell connection identity, time expectation and transport. -/
  | bellConfig (h : Hdr) (connection : U32) (tExpectUs : U32) (transport : U8)
  /-- BELL_STATUS (R405): Returns the Bell frame and confirmation counters. -/
  | bellStatus (h : Hdr)
  /-- SAFETY_CONFIG (R395): Returns the frozen CRC, k and the set in force. -/
  | safetyConfig (h : Hdr)
  /-- STREAM_CONFIG (R237): Writes the returns per point and OUT_CTL options. -/
  | streamConfig (h : Hdr) (returns : U8) (options : U32)
  /-- EXPORT_SELECT (R228): Accepts channels for raw export in order while the spare capacity lasts. -/
  | exportSelect (h : Hdr) (channels : List U16)
  /-- LANE_CONFIG (R265): Writes the lane profile to the Pantry for the next start, DEGRADE at once. -/
  | laneConfig (h : Hdr) (lanes : U8) (personality : U8) (rate : U8) (fec : U8) (degrade : U8)
  /-- LANE_STATUS (R249): Returns the state, rate, margin and errors of every lane. -/
  | laneStatus (h : Hdr)
  /-- LANE_STEP_UP (R253): Stepped rate increase of lanes 0 to 3 one at a time. -/
  | laneStepUp (h : Hdr) (rate : U8)
  /-- LANE_TEST (R262): Runs one test pattern or loopback on one lane in SERVICE. -/
  | laneTest (h : Hdr) (lane : U8) (test : U8) (durationMs : U32)
  /-- NET_CONFIG (R235): Writes the IPv4 settings, ports and PTP function. -/
  | netConfig (h : Hdr) (address : U32) (netmask : U32) (gateway : U32) (pointPort : U16) (adminPort : U16) (ptp : U8)
  /-- CASCADE_STATUS (R272): Returns presence, mode, link, faults and time offset of each cascade device. -/
  | cascadeStatus (h : Hdr)
  /-- CAM_CONFIG (R341): Configures a disabled camera port's lanes, format, size and rate. -/
  | camConfig (h : Hdr) (port : U8) (lanes : U8) (format : U8) (width : U16) (height : U16) (rate : U32)
  /-- CAM_ENABLE (R350): Enables or disables a camera port, withdrawing its maps when disabled. -/
  | camEnable (h : Hdr) (port : U8) (on : U8)
  /-- CCI_XFER (R348): Queues a CCI write for blanking or performs a CCI read. -/
  | cciXfer (h : Hdr) (port : U8) (address : U8) (delay : U8) (rlen : U8) (bytes : List Byte) (acked : Bool) (answer : List Byte)
  /-- CAM_STATS (R347): Returns the published histogram or zone sums of a port. -/
  | camStats (h : Hdr) (port : U8) (part : U8)
  /-- CAM_MESH_LOAD (R345): Chunked load of a port's 32 × 24 undistortion mesh. -/
  | camMeshLoad (h : Hdr) (ck : Chunk) (port : U8) (data : List Byte)
  /-- CAM_STATUS (R344): Returns a port's frame counts and state. -/
  | camStatus (h : Hdr) (port : U8)
  /-- PMC_CONFIG (R443): Points a counter at an event type with filters and restarts it. -/
  | pmcConfig (h : Hdr) (counter : U8) (event : U16) (filters : U32)
  /-- PMC_FREEZE (R442): Takes and holds, or releases, a snapshot of all counters. -/
  | pmcFreeze (h : Hdr) (freeze : U8)
  /-- PMC_READ (R442): Returns counter values with their OVF flags. -/
  | pmcRead (h : Hdr) (first : U8) (n : U8)
  /-- FAULT_LIST (R446): Returns fault table entries in order of first raise. -/
  | faultList (h : Hdr) (offset : U16)
  /-- FAULT_CLEAR (R54): Clears fault flags whose cause has gone, never a SAFE fault. -/
  | faultClear (h : Hdr) (source : U8) (code : U16)
  /-- BIST_RUN (R448): Stepped run of the masked built-in self-tests. -/
  | bistRun (h : Hdr) (mask : U32)
  /-- EVENT_SUBSCRIBE (R52): Sets the session's event sources and minimum fault class. -/
  | eventSubscribe (h : Hdr) (sources : List Byte) (minClass : U8)
  /-- LOGBOOK_READ (R78): Returns the 64 Logbook entries oldest first. -/
  | logbookRead (h : Hdr)
  /-- SEC_CHALLENGE (R459): Issues a nonce for an access scope, replacing any standing challenge. -/
  | secChallenge (h : Hdr) (scope : U8)
  /-- SEC_RESPONSE (R459): Opens an access scope if the signature recovers a permitted key. -/
  | secResponse (h : Hdr) (scope : U8) (signature : List Byte)
  /-- SEC_PASSWORD (R460): Opens SERVICE access with the service password, counting failures. -/
  | secPassword (h : Hdr) (password : List Byte)
  /-- FW_UPDATE (R456): Chunked, authenticated write of a firmware image into the non-running slot. -/
  | fwUpdate (h : Hdr) (ck : Chunk) (data : List Byte)
  /-- FW_STATUS (R456): Returns the running and staged versions and the fused SVN. -/
  | fwStatus (h : Hdr)
  /-- SEC_CLOSE (R461): Closes the access scopes opened by the session. -/
  | secClose (h : Hdr)
  /-- STEP_QUERY (R44): Returns the state and progress of a stepped operation. -/
  | stepQuery (h : Hdr) (token : U32)
  /-- STEP_ABORT (R46): Aborts the session's stepped operation at the next step boundary. -/
  | stepAbort (h : Hdr) (token : U32)
  /-- STEP_LIST (R44): Returns the tokens of outstanding stepped operations. -/
  | stepList (h : Hdr)
  /-- STEP_FETCH (R48): Returns part of a stepped operation's result to its own session. -/
  | stepFetch (h : Hdr) (token : U32) (offset : U32)
  /-- PACKET_DISCARDED (R31): A received packet with bad magic, length or size is discarded and counted. -/
  | packetDiscarded (tr : Transport)
  /-- CRC_ERROR (R31): A received packet whose CRC fails is answered CRC_ERROR and not executed. -/
  | crcError (src : Arrival) (opcode : U8) (tag : U16) (seq : U16)
  /-- SPI_SHIFT_OUT (R28): A chip-select period with direction 0x02 shifts out the oldest pending packet. -/
  | spiShiftOut (clocked : Nat)
  /-- SESSION_HEARTBEAT_TIMEOUT (R34): No packet within the heartbeat period closes the session. -/
  | sessionHeartbeatTimeout (tr : Transport)
  /-- STEPPED_OP_STEP (R44): One step of a stepped operation runs on Watch for at most 250 µs. -/
  | steppedOpStep (token : U32) (obs : StepObs)
  /-- STEP_PROGRESS (R44): Progress record of a running stepped operation, at most every 10 ms. -/
  | stepProgress (token : U32)
  /-- UPLOAD_TIMEOUT (R47): A chunked upload with no chunk for 10 s ends with TIMEOUT. -/
  | uploadTimeout (token : U32)
  /-- RESULT_RELEASE (R48): A stepped result is released 10 s after STEP_DONE. -/
  | resultRelease (token : U32)
  /-- EVENTS_LOST (R52): Once queue space returns, the session is told how many records were lost. -/
  | eventsLost (tr : Transport)
  /-- POWER_UP (R55): Power-up clears the reset causes and starts BOOT. -/
  | powerUp 
  /-- RESET_N_LOW (R67): A low level on RESET_N holds the device in reset. -/
  | resetNLow (lowNs : Nat)
  /-- RESET_N_RISE (R67): The rising edge of RESET_N begins BOOT and latches the cascade straps. -/
  | resetNRise (straps : Nat)
  /-- CORE_SUPPLY_FAULT (R66): A core supply outside its window for 10 µs resets the device with cause SUPPLY. -/
  | coreSupplyFault (outsideUs : Nat)
  /-- WAKE_EDGE (R70): A rising edge on WAKE starts a full BOOT from DORMANT. -/
  | wakeEdge (highNs : Nat)
  /-- LANE0_WAKE_ACTIVITY (R70): Receive activity on lane 0 for 10 µs wakes the device from DORMANT. -/
  | lane0WakeActivity (activeUs : Nat) (swingMv : Nat)
  /-- CRYSTAL_STOP (R134): No crystal edge for 2 µs raises F.CLK.001. -/
  | crystalStop 
  /-- REF_PLL_UNLOCK (R134): Loss of reference PLL lock raises F.CLK.002 and invalidates device time. -/
  | refPllUnlock 
  /-- BOOT_STEP_COMPLETE (R74): A boot step attempt succeeds or its policy applies, then the next step starts. -/
  | bootStepComplete (obs : BootObs)
  /-- BOOT_STEP_TIMEOUT (R74): A boot step attempt not succeeded at its timeout has failed. -/
  | bootStepTimeout (obs : BootObs)
  /-- MODE_SET_AT_TICK (R62): At the scheduled tick the preconditions are checked and the transition made or refused. -/
  | modeSetAtTick 
  /-- SHOT_DECISION (R87): A projected angle or target tick reaches the next target and Beacon decides a shot. -/
  | shotDecision (bank : Nat)
  /-- SHOT_FIRE (R88): At the fire instant Beacon pulses FIRE, launches the edge and Lantern books the energy. -/
  | shotFire (bank : Nat)
  /-- DRIVER_POLL (R86): Beacon reads each present driver with STATUS_READ once per poll period. -/
  | driverPoll (address : Nat) (reply : Option DriverReply)
  /-- MAP_SEND (R81): Beacon sends MAP with HOLD to a driver in the next bus gap. -/
  | mapSend (address : Nat)
  /-- RAMP_UPDATE (R94): A RAMP moves CUR by its step and sends PROFILE_WRITE in the next bus gap. -/
  | rampUpdate 
  /-- REF_WINDOW_CLOSE (R97): The reference window of a fired shot closes and the emitter's F and M counts update. -/
  | refWindowClose (bank : Nat) (cells : Nat)
  /-- BCN_CODE_SEED_WRITE (R91): A seed write takes effect at the start of the bank's next block. -/
  | bcnCodeSeedWrite (bank : Nat) (value : Word)
  /-- BCN_DRV_WRITE (R81): A driver map write may clear PRESENT and triggers a MAP send. -/
  | bcnDrvWrite (address : Nat) (value : Word)
  /-- BCN_BANK_WRITE (R82): A bank register write; FIRE_MODE 3 is discarded with BAD_PARAM. -/
  | bcnBankWrite (bank : Nat) (value : Word)
  /-- LNT_BUCKET_CLOSE (R100): A ledger bucket closes, is rounded up and the window slides. -/
  | lntBucketClose (window : Nat)
  /-- LNT_XCHK_SAMPLE (R105): Lantern compares a bank's monitor sample with its expected value. -/
  | lntXchkSample (bank : Nat) (sample : Int) (quality : Nat)
  /-- LNT_GRID_WRITE (R103): A grid register write in CONFIG raises every cell's newest bucket to the bank maximum. -/
  | lntGridWrite (index : Nat) (value : Word)
  /-- LNT_LIMIT_WRITE (R104): A limit write stores at most the cap. -/
  | lntLimitWrite (index : Nat) (value : Word)
  /-- FRAME_BOUNDARY (R122): At a frame boundary the swap, ambient latch, retirements and deferred settings apply. -/
  | frameBoundary 
  /-- PLACEMENT_CUT (R203): 2 ms before a boundary Tender starts computing the next placement. -/
  | placementCut 
  /-- PLACEMENT_READY (R203): Tender completes a placement and hands tables to the blocks with the epoch. -/
  | placementReady (durationUs : Nat)
  /-- TRIM_RECOMPUTE (R114): Firmware recomputes the trim code and state of every bias region. -/
  | trimRecompute 
  /-- HV_MEAS_UPDATE (R118): SPD_HV_MEAS updates; outside the window all regions go OFF with F.SPD.002. -/
  | hvMeasUpdate (millivolts : Nat)
  /-- REGION_OFFTARGET_TIMEOUT (R117): A region LOW or HIGH for more than 1 s raises F.SPD.004. -/
  | regionOfftargetTimeout (region : Nat)
  /-- MASK_COMMIT (R119): Copies the shadow hot-pixel mask to the active mask at once or at the next boundary. -/
  | maskCommit 
  /-- MASK_SAVE (R120): Writes the active mask to the Pantry. -/
  | maskSave 
  /-- MASK_PARITY_ERROR (R120): A mask word failing parity is reloaded from the saved mask with F.SPD.012. -/
  | maskParityError (word : Nat)
  /-- SPD_TAB_WIN_WRITE (R131): A write through the SPD table window, locked for MASK_SHADOW in GUARD. -/
  | spdTabWinWrite (index : Nat) (value : Word)
  /-- GATE_EVENT (R124): A macropixel's coincidence gate passes an event. The row comes at every fire of a microcell. -/
  | gateEvent (channel : Nat) (pre : Nat) (cell : Nat) (fire : Firing)
  /-- VERNIER_CONVERSION (R143): A vernier conversion ends with a stamp or a failure. -/
  | vernierConversion (channel : Nat) (vernier : Nat) (edge : Nat) (count : Option Nat)
  /-- SHOT_EDGE_ARRIVAL (R140): A tile pairs a shot edge with its oldest non-missing descriptor and stamps it. -/
  | shotEdgeArrival (tile : Nat) (vernier : Nat) (edge : Nat) (count : Nat)
  /-- ZOOM_IN (R162): At the close of the window of shot ZOOM_AT candidates in range are locked and get windows. -/
  | zoomIn (channel : Nat)
  /-- HISTOGRAM_CLOSE (R159): 80 ns after its last window or missing descriptor a histogram closes to QUEUED. -/
  | histogramClose (channel : Nat)
  /-- PEAK_FIND_START (R165): The peak finder takes the oldest QUEUED buffer. -/
  | peakFindStart (tile : Nat)
  /-- PEAK_FIND_DONE (R165): Peak finding ends after 1.875 µs and the buffer passes to DONE. -/
  | peakFindDone (tile : Nat) (parityError : Bool)
  /-- DET_DONE (R173): A DET engine finishes a histogram and hands its returns to OUT and the Keepers. -/
  | detDone (bank : Nat) (parityError : Bool)
  /-- TILE_CTL_WRITE (R171): A TILE_CTL write, locked in GUARD, with STACK only in SERVICE. -/
  | tileCtlWrite (tile : Nat) (value : Word)
  /-- TILE_RETIRE (R170): RETIRE retires the tile at once in CONFIG or at the next boundary. -/
  | tileRetire (tile : Nat)
  /-- TILE_TAB_DATA_READ (R171): A read returns the selected table word and advances INDEX. -/
  | tileTabDataRead (tile : Nat)
  /-- DET_TAB_COMMIT (R174): TAB_COMMIT copies the DET shadow tables at the next frame boundary after checking them. -/
  | detTabCommit 
  /-- POINT_PACKET_FLUSH (R217): A point packet closes when the flush time has passed since its first record. -/
  | pointPacketFlush (sub : Nat)
  /-- FRAME_PACKET_SEND (R225): Once statistics are latched and all points queued the frame packet is sent. -/
  | framePacketSend 
  /-- LP_TRANSMIT (R244): The transmitter starts the highest-priority ready link packet between packets. -/
  | lpTransmit (lane : Nat)
  /-- LP_RECEIVE (R245): A received link packet is accepted and delivered or discarded with NAK. -/
  | lpReceive (lane : Nat) (lp : LinkPacket)
  /-- CODEWORD_RECEIVE (R240): A codeword is decoded, corrected or judged bad. -/
  | codewordReceive (lane : Nat) (symbolErrors : Nat)
  /-- LINK_BLOCK_RECEIVE (R245): A LINK block updates acknowledgement, NAK replay, pauses and requests. -/
  | linkBlockReceive (lane : Nat) (payload : Nat)
  /-- LINK_BLOCK_MISSED (R257): A LINK block absent at its position; three in a row lose lock. -/
  | linkBlockMissed (lane : Nat)
  /-- ACK_TIMEOUT (R246): ACK_SEQ not advanced for ACK_TIMEOUT superframes triggers a replay. -/
  | ackTimeout (lane : Nat)
  /-- SUPERFRAME_LOCK (R243): Finding MARKER three times running gains superframe lock. -/
  | superframeLock (lane : Nat)
  /-- LANE_READY (R249): Both sides send READY after training and the lane enters ALIGN. -/
  | laneReady (lane : Nat) (obs : ReadyObs)
  /-- ALIGN_COMPLETE (R249): After 16 superframes in ALIGN the lane becomes ACTIVE and replays if needed. -/
  | alignComplete (lane : Nat)
  /-- BRINGUP_TIMEOUT (R250): A bring-up attempt not ACTIVE within 300 ms fails. -/
  | bringupTimeout (lane : Nat)
  /-- STEP_OFFER (R251): A received STEP_OFFER is accepted or refused. -/
  | stepOffer (lane : Nat) (rates : Nat) (sfc : Nat)
  /-- STEP_ACCEPT (R251): A received STEP_ACCEPT schedules the rate change at a superframe count. -/
  | stepAccept (lane : Nat) (code : Nat) (sfc : Nat)
  /-- RATE_CHANGE (R251): At the agreed superframe both sides change rate and enter TRAIN. -/
  | rateChange (lane : Nat)
  /-- STEP_TIMEOUT (R251): A step not ACTIVE within 400 ms returns the lane to the previous rate. -/
  | stepTimeout (lane : Nat)
  /-- LANE_RETRAIN_TIMEOUT (R258): A lost lane not ACTIVE within 300 ms is brought up again, then every 1 s. -/
  | laneRetrainTimeout (lane : Nat)
  /-- MARGIN_LOW (R256): A margin below MARGIN_LOW for 100 µs sends RETRAIN. -/
  | marginLow (lane : Nat) (margin : Nat)
  /-- RETRAIN (R256): A received RETRAIN makes the far end send TRAIN blocks for 1 ms. -/
  | retrain (lane : Nat)
  /-- IDLE_ENTER (R261): After IDLE_AFTER with nothing to send the lane enters electrical idle. -/
  | idleEnter (lane : Nat)
  /-- IDLE_EXIT (R261): An LP becoming ready ends IDLE with 4 superframes of TRAIN. -/
  | idleExit (lane : Nat)
  /-- PAUSE_TIMEOUT (R248): A VC paused for more than 10 ms raises F.LNK.006. -/
  | pauseTimeout (lane : Nat) (vc : Nat)
  /-- LANE_TEST_END (R262): The test duration ends and the lane retrains. -/
  | laneTestEnd (lane : Nat) (bits : Nat) (errors : Nat)
  /-- LNK_INJECT_GO (R263): GO starts COUNT error injections, one per superframe, in SERVICE. -/
  | lnkInjectGo (value : Word)
  /-- ETH_LOCK_LOSS (R257): An Ethernet port loses PCS block or RS-FEC alignment lock. -/
  | ethLockLoss (port : Nat)
  /-- ARP_RETRY (R234): An unresolved destination is requested again every 100 ms. -/
  | arpRetry (ip : U32)
  /-- ARP_REPLY (R234): A received ARP reply resolves a destination for 60 s. -/
  | arpReply (ip : U32) (mac : Nat)
  /-- ARP_CACHE_EXPIRY (R234): A cached resolution expires after 60 s. -/
  | arpCacheExpiry (ip : U32)
  /-- DEST_UNRESOLVED_TIMEOUT (R234): A destination unresolved for 1 s raises F.OUT.003. -/
  | destUnresolvedTimeout (ip : U32)
  /-- ICMP_ECHO (R234): A received ICMP echo request is answered. -/
  | icmpEcho (src : U32) (bytes : List Byte)
  /-- PTP_MESSAGE (R235): A received PTP message is stamped and updates the offset or discipline. -/
  | ptpMessage (kind : Nat) (offsetNs : Int) (rate : Int)
  /-- PTP_LOCK_LOST (R235): PTP lock lost for 2 s with ptp 2 raises F.OUT.004. -/
  | ptpLockLost 
  /-- DISCOVERY_PACKET (R269): A secondary's discovery packet is checked and the secondary admitted or excluded. -/
  | discoveryPacket (lane : Nat) (index : Nat) (ident : U32) (fw : U32) (features : U32)
  /-- CAS_TIME_SEND (R270): The primary sends a TIME frame every 10 µs. -/
  | casTimeSend 
  /-- CAS_TIME_FRAME (R271): A secondary receives a TIME frame and sets or checks its count. -/
  | casTimeFrame (time : U64) (crcOk : Bool)
  /-- CAS_ANGLE_FRAME (R274): A secondary receives a relayed axis prediction. -/
  | casAngleFrame (axis : Nat) (angle : Int) (rate : Int) (time : U64)
  /-- CAS_FRAME_FRAME (R274): A secondary receives the next frame number and boundary tick. -/
  | casFrameFrame (frame : U32) (time : U64)
  /-- CAS_MODE_FRAME (R275): A secondary receives a cascade mode transition and its tick. -/
  | casModeFrame (mode : Nat) (time : U64)
  /-- CAS_INHIBIT_FRAME (R275): A received INHIBIT makes the device treat the fault as its own. -/
  | casInhibitFrame (source : Nat) (code : U16)
  /-- CAS_ECHO_FRAME (R272): A named secondary drives an echo edge 256 ticks after the frame. -/
  | casEchoFrame (index : Nat)
  /-- CASCADE_MODE_TICK (R275): Every cascade device changes mode at the announced tick. -/
  | cascadeModeTick 
  /-- ECHO_MEASURE (R272): The primary measures each secondary's delay once per second. -/
  | echoMeasure (index : Nat) (roundTrip : Option Nat)
  /-- CAS_TIME_SILENCE (R271): 20 µs without a valid frame raises F.CAS.003 on a secondary. -/
  | casTimeSilence 
  /-- CASCADE_FORWARD (R278): The primary queues a forwarded secondary packet or drops it whole. -/
  | cascadeForward (index : Nat) (packet : CasPacket)
  /-- SECONDARY_ABSENT (R279): A cascade lane not ACTIVE for 1 s marks the secondary absent. -/
  | secondaryAbsent (index : Nat)
  /-- PEDESTAL_TICK (R289): At each inner tick Pedestal applies outputs, requests conversions and computes axes. -/
  | pedestalTick 
  /-- TICK_DEADLINE (R291): Results not complete 250 ns before the next tick make a missed tick. -/
  | tickDeadline (axis : Nat)
  /-- AXIS_START_TIMEOUT (R292): An axis not in RUN within START_TO enters FAULT with F.PDS.004. -/
  | axisStartTimeout (axis : Nat)
  /-- RESONANT_DAC_UPDATE (R299): A RESONANT axis on a DAC writes its drive every 1 µs. -/
  | resonantDacUpdate (axis : Nat)
  /-- PDS_PERIOD_WRITE (R284): A PERIOD write, refused while any axis is not OFF. -/
  | pdsPeriodWrite (value : Word)
  /-- TIDE_TRIG_EDGE (R310): A scan trigger starts a pass or becomes pending or is lost. -/
  | tideTrigEdge (edge : Nat)
  /-- TIDE_CONVERSION_START (R306): A slice's discharge ends and its conversion starts. -/
  | tideConversionStart (slice : Nat)
  /-- TIDE_CONVERSION_END (R307): A conversion ends; the sample is delivered and the slice takes the next input. -/
  | tideConversionEnd (slice : Nat) (raw : Int) (ovr : Bool) (clamp : Bool) (limits : ConversionObs)
  /-- TIDE_TONE_BURST (R314): Every PERIOD an impedance-check burst starts on the checked inputs. -/
  | tideToneBurst 
  /-- TONE_BURST_END (R315): At burst end |Z| is computed and OPEN or SHORT judged. -/
  | toneBurstEnd 
  /-- TIDE_ROTATION (R319): Every ROT period the spare slice starts its background calibration. -/
  | tideRotation 
  /-- SLICE_CAL_DONE (R319): A spare slice completes calibration and replaces the longest-serving slice or fails. -/
  | sliceCalDone (offsets : List Int) (gains : List Int)
  /-- TEMP_CONVERSION (R322): Every 1 ms the on-die sensors and thermistors are read. -/
  | tempConversion (sensors : List Int) (thermistors : List Int)
  /-- TID_SNAP (R318): SNAP snapshots and restarts every input's accumulators. -/
  | tidSnap (value : Word)
  /-- TID_PAIR_WRITE (R302): A differential pair write, refused while an axis runs. -/
  | tidPairWrite (value : Word)
  /-- TID_TONE_WRITE (R314): A tone write, refused if the burst exceeds the period. -/
  | tidToneWrite (value : Word)
  /-- SIFTER_SLOT (R325): In its slot a channel takes its input and advances its chain and detector. -/
  | sifterSlot (channel : Nat)
  /-- SFT_POP_VAL (R337): A read removes the selected channel's oldest FIFO entry and latches its metadata. -/
  | sftPopVal 
  /-- SFT_CH_DET_WRITE (R339): A detector write, refused while Pedestal owns the channel. -/
  | sftChDetWrite (channel : Nat) (value : Word)
  /-- SIFTER_PARITY_ERROR (R338): A delay-line or coefficient parity error disables the channel. -/
  | sifterParityError (channel : Nat)
  /-- DMK_EDGE (R146): An input edge is stamped coarse and fine or merged. -/
  | dmkEdge (input : Nat) (rising : Bool) (fine : Nat)
  /-- DMK_IV_ARM (R148): ARM starts an interval measurement. -/
  | dmkIvArm 
  /-- DMK_IV_TIMEOUT (R148): No STOP edge within the timeout ends the interval measurement. -/
  | dmkIvTimeout 
  /-- DMK_FREQ_START (R149): START begins or restarts a frequency gate. -/
  | dmkFreqStart (input : Nat) (value : Word)
  /-- DMK_FREQ_GATE_END (R149): A gate ends and the period is fitted by least squares. -/
  | dmkFreqGateEnd (input : Nat)
  /-- PPS_EDGE (R138): A PPS edge is accepted or rejected, updates discipline and may apply a time set. -/
  | ppsEdge (rising : Bool) (fine : Nat)
  /-- PPS_TIMEOUT (R138): No accepted PPS edge for 1.5 s raises F.CLK.003. -/
  | ppsTimeout 
  /-- CLK_TIME_SET (R137): A write of CLK_TIME_SET_HI sets device time at once or at the next PPS edge. -/
  | clkTimeSet (hi : Word)
  /-- CLK_CTL_WRITE (R235): A CLK_CTL write; DISCIPLINE under PTP is refused. -/
  | clkCtlWrite (value : Word)
  /-- CSI_FRAME_START (R343): An FS packet starts and stamps a camera frame. -/
  | csiFrameStart (port : Nat)
  /-- CSI_LINE (R342): A long packet line is checked and processed into the back map. -/
  | csiLine (port : Nat) (pixels : List Nat) (crcOk : Bool)
  /-- CSI_FRAME_END (R343): An FE packet ends the frame, judges it and swaps or discards maps. -/
  | csiFrameEnd (port : Nat)
  /-- CSI_FRAME_TIMEOUT (R343): A frame ends two frame periods after its FS. -/
  | csiFrameTimeout (port : Nat)
  /-- CAM_NO_SIGNAL (R344): No FS for 4 frame periods enters NO_SIGNAL. -/
  | camNoSignal (port : Nat)
  /-- CCI_WRITE_ISSUE (R348): A queued CCI write is issued in blanking and comes into force. -/
  | cciWriteIssue (port : Nat) (acked : Bool) (late : Bool)
  /-- GLZ_MAP_PARITY (R354): A map buffer parity error withdraws the buffer. -/
  | glzMapParity (port : Nat) (buffer : Nat)
  /-- GLZ_P_EXPOFS_WRITE (R350): An exposure offset write is staged. -/
  | glzPExpofsWrite (port : Nat) (value : Word)
  /-- GLZ_P_MAP_WRITE (R350): A map size write withdraws both buffers. -/
  | glzPMapWrite (port : Nat) (value : Word)
  /-- CAL_AUTO_START (R366): A due quantity runs automatically once the mode allows. -/
  | calAutoStart 
  /-- CAL_BOOT_MASK_WRITE (R367): A boot mask write, refused for quantities without a CONFIG form. -/
  | calBootMaskWrite (value : Word)
  /-- KEEPER_SAMPLE (R379): A Keeper judges a sample record and updates its counts. -/
  | keeperSample (keeper : Nat) (crcOk : Bool)
  /-- CLUSTER_SEARCH (R382): A search of confirmed neighbours completes and may violate a field. -/
  | clusterSearch (keeper : Nat)
  /-- KEEPER_STALE (R381): A cell without a sample for T_STALE is set to its full count. -/
  | keeperStale (keeper : Nat) (cell : Nat)
  /-- KEEPER_CLOCK_CHECK (R374): Every 100 µs each Keeper checks the other's clock ratio. -/
  | keeperClockCheck (keeper : Nat) (ppm : Int)
  /-- KEEPER_SELFTEST (R374): Each Keeper completes a self-test pass every 10 ms. -/
  | keeperSelftest (keeper : Nat) (ok : Bool)
  /-- KEEPER_DISAGREE (R376): Commands differing for 1 ms raise F.KPR.002. -/
  | keeperDisagree 
  /-- FSEL_CHANGE (R383): A field-select input change is checked for antivalence. -/
  | fselChange (a : Nat) (b : Nat)
  /-- FSEL_DEBOUNCE (R383): A valid value held for FSEL_DEB selects the set. -/
  | fselDebounce 
  /-- FSEL_INVALID_TIMEOUT (R383): Inputs invalid for 10 ms raise F.KPR.006. -/
  | fselInvalidTimeout 
  /-- RESTART_RELEASE (R389): A debounced release of RESTART is accepted or refused as a restart. -/
  | restartRelease (skewUs : Nat)
  /-- RESTART_STUCK (R389): RESTART held for 5 s sets RESTART_STUCK. -/
  | restartStuck 
  /-- AUTO_RESTART (R384): In AUTO mode conditions held for T_AUTO switch the pair on. -/
  | autoRestart (pair : Nat)
  /-- EDM_CHECK (R388): After T_EDM the EDM input is checked against the pair state. -/
  | edmCheck (pair : Nat)
  /-- READBACK_CHECK (R386): Readback not following after RB_DELAY raises F.KPR.003. -/
  | readbackCheck (line : Nat)
  /-- TEST_PULSE (R387): An on line is pulsed low and its readback checked. -/
  | testPulse (line : Nat) (lowFollows : Bool) (highFollows : Bool)
  /-- KPR_TIDE_TIMEOUT (R390): A named plausibility input without a sample for 10 ms raises F.KPR.008. -/
  | kprTideTimeout (input : Nat)
  /-- BELL_FRAME_BUILD (R401): A Bell frame is built on its period or after a state change and checked by both Keepers. -/
  | bellFrameBuild 
  /-- CONFIRM_RECEIVE (R405): A CONFIRM frame is tested and counted. -/
  | confirmReceive (bytes : List Byte)
  /-- BELL_CONFIRM_TIMEOUT (R405): No CONFIRM within T_EXPECT raises F.BEL.001. -/
  | bellConfirmTimeout 
  /-- EPOCH_BOUNDARY (R412): The active Watch captures its image and starts the epoch copy. -/
  | epochBoundary 
  /-- EPOCH_SEAL (R412): An epoch copy completes with its seal. -/
  | epochSeal 
  /-- WATCH_HEARTBEAT (R414): A Watch heartbeat reaches the always-on island. -/
  | watchHeartbeat (unit : Nat)
  /-- WATCH_FAIL_DECLARE (R414): Missed heartbeats or an internal error declare a unit failed. -/
  | watchFailDeclare (unit : Nat) (internal : Bool)
  /-- WATCH_RESTART (R411): A unit held OFF for 10 ms starts its self-test. -/
  | watchRestart (unit : Nat)
  /-- WATCH_SELFTEST_DONE (R411): A unit's self-test ends and it syncs or fails. -/
  | watchSelftestDone (unit : Nat) (ok : Bool)
  /-- TAKE_BACK (R422): After the hold-off a formerly active unit takes control back by a planned swap. -/
  | takeBack 
  /-- REHEARSE (R423): REHEARSE requests a planned swap. -/
  | rehearse 
  /-- SLT_CTL_WRITE (R426): A Sector Lights control write, refused if MATRIX changes while a channel is enabled. -/
  | sltCtlWrite (value : Word)
  /-- SLT_PINTEST (R431): PINTEST runs the indicator pin test. -/
  | sltPintest (shorted : Nat)
  /-- SLT_PERIOD (R428): An LED period boundary applies its duty or engine value. -/
  | sltPeriod (led : Nat)
  /-- SLT_RUN_END (R432): A qualifying on-run ends and its open test is made. -/
  | sltRunEnd (led : Nat) (lengthNs : Nat) (millivolts : Nat) (regulating : Bool)
  /-- SLT_ENG_CFG_WRITE (R430): An engine MODE write restarts the engine at phase 0. -/
  | sltEngCfgWrite (engine : Nat) (value : Word)
  /-- PMC_INCREMENT (R440): A source reports qualifying events and the counter adds them or wraps. -/
  | pmcIncrement (event : U16) (inst : Nat) (addr : U32) (cls : Nat) (master : Nat) (priv : Nat) (n : Nat)
  /-- PMC_CNT_WRITE (R443): A write sets a live counter value. -/
  | pmcCntWrite (index : Nat) (high : Bool) (value : Word)
  /-- PMC_EVT_WRITE (R443): A PMC_EVT or PMC_FLT write reprograms the counter as PMC_CONFIG. -/
  | pmcEvtWrite (index : Nat) (filter : Bool) (value : Word)
  /-- FUSE_PROGRAM (R452): PROG programs one fuse word in SERVICE and reads it back. -/
  | fuseProgram (readback : Word)
  /-- PASSWORD_COMMIT (R460): COMMIT sets the service password with a new salt. -/
  | passwordCommit 
  /-- PASSWORD_CLEAR (R460): CLEAR removes the service password. -/
  | passwordClear 
  /-- CHALLENGE_EXPIRY (R459): A standing challenge lapses after 60 s. -/
  | challengeExpiry 
  /-- RC_READ (R12): A read of a read-clear register returns and clears it. -/
  | rcRead (addr : U32)
  /-- LATCHING_READ (R136): A read of a LO or first word latches the remaining words. -/
  | latchingRead (addr : U32)
  /-- REGISTER_WRITE (R12): A write to a register with no row of its own, by its access code and lock. -/
  | registerWrite (addr : U32) (value : Word)
  /-- RESTART_PRESS (R389): A debounced press of RESTART starts the press timing that leads to a restart, a refusal or RESTART_STUCK. -/
  | restartPress 
  /-- EDM_INPUT_CHANGE (R388): A change of EDM_A or EDM_B is checked against its pair's state and feeds switch-on condition 4. -/
  | edmInputChange (a : Bool) (b : Bool)
  /-- SAFE_READBACK_CHANGE (R386): A change of a SAFE_RB readback line starts the RB_DELAY check and feeds switch-on condition 5. -/
  | safeReadbackChange (lines : Nat)
  /-- PCS_BLOCK_LOCK (R257): An Ethernet port gains PCS block lock (and RS-FEC alignment lock) and returns from lost to in lock. -/
  | pcsBlockLock (port : Nat)
  /-- ARP_REQUEST (R234): An ARP request received on port 0 for the device's address is answered. -/
  | arpRequest (ask : ArpAsk)
  /-- REG_POLL_END (R36): A REG_POLL completes with the matching value or with TIMEOUT when its timeout_us ends. -/
  | regPollEnd (tr : Transport)
  /-- SAFE_ACK_SELFTEST_END (R392): The Keepers' self-test run on receipt of SAFE_ACK ends and the command is answered OK or 0x0703. -/
  | safeAckSelftestEnd (okA : Bool) (okB : Bool)
  deriving DecidableEq, Repr

end Sys2Proof
end

