-- ==== Sys2Proof/Machine/Header.lean ====
section
/-! DEFINITION. The packet header of a host command. -/

namespace Sys2Proof.Machine

/-- The header of the packet that carries a host command (Table 2.2); an event has none. -/
def hdrOf : Instr → Option Hdr
  | .nop h => some h
  | .sessionOpen h _ _ => some h
  | .sessionClose h => some h
  | .identGet h => some h
  | .statusGet h => some h
  | .timeGet h => some h
  | .resetSoft h _ => some h
  | .heartbeat h => some h
  | .regRead h _ _ => some h
  | .regWrite h _ _ => some h
  | .regRmw h _ _ _ => some h
  | .regPoll h _ _ _ _ => some h
  | .bulkRead h _ _ => some h
  | .regListWrite h _ => some h
  | .modeGet h => some h
  | .modeSet h _ => some h
  | .guardArm h _ _ => some h
  | .guardEnter h _ _ => some h
  | .sleep h _ => some h
  | .modeSetAt h _ _ => some h
  | .modeHistory h => some h
  | .planLoad h _ _ _ => some h
  | .planActivate h _ => some h
  | .planGet h _ _ => some h
  | .adaptFreeze h _ => some h
  | .placementRead h _ => some h
  | .roiSet h _ _ => some h
  | .frameRateSet h _ => some h
  | .planCheck h _ => some h
  | .patternLoad h _ _ => some h
  | .patternRun h _ _ => some h
  | .patternStop h => some h
  | .emitterStatus h _ => some h
  | .pinTest h => some h
  | .lanternLimit h _ _ _ => some h
  | .lanternLedger h _ _ => some h
  | .driverStatus h _ => some h
  | .axisConfig h _ _ _ => some h
  | .axisCoef h _ _ _ => some h
  | .axisEnable h _ _ => some h
  | .axisStatus h _ => some h
  | .tideScan h _ _ => some h
  | .tideRead h _ => some h
  | .sifterSet h _ _ _ _ _ => some h
  | .sfdRead h _ => some h
  | .calRun h _ => some h
  | .calStatus h => some h
  | .calSetRead h _ => some h
  | .calCamera h _ _ _ => some h
  | .calFactory h => some h
  | .calTrigger h _ _ => some h
  | .guardMapLoad h _ _ _ => some h
  | .guardMapRead h _ _ => some h
  | .guardLeave h _ => some h
  | .safeAck h _ => some h
  | .keeperStatus h => some h
  | .bellConfig h _ _ _ => some h
  | .bellStatus h => some h
  | .safetyConfig h => some h
  | .streamConfig h _ _ => some h
  | .exportSelect h _ => some h
  | .laneConfig h _ _ _ _ _ => some h
  | .laneStatus h => some h
  | .laneStepUp h _ => some h
  | .laneTest h _ _ _ => some h
  | .netConfig h _ _ _ _ _ _ => some h
  | .cascadeStatus h => some h
  | .camConfig h _ _ _ _ _ _ => some h
  | .camEnable h _ _ => some h
  | .cciXfer h _ _ _ _ _ _ _ => some h
  | .camStats h _ _ => some h
  | .camMeshLoad h _ _ _ => some h
  | .camStatus h _ => some h
  | .pmcConfig h _ _ _ => some h
  | .pmcFreeze h _ => some h
  | .pmcRead h _ _ => some h
  | .faultList h _ => some h
  | .faultClear h _ _ => some h
  | .bistRun h _ => some h
  | .eventSubscribe h _ _ => some h
  | .logbookRead h => some h
  | .secChallenge h _ => some h
  | .secResponse h _ _ => some h
  | .secPassword h _ => some h
  | .fwUpdate h _ _ => some h
  | .fwStatus h => some h
  | .secClose h => some h
  | .stepQuery h _ => some h
  | .stepAbort h _ => some h
  | .stepList h => some h
  | .stepFetch h _ _ => some h
  | _ => none

/-- The opcode of a host command (Tables 2.4 to 2.16); an event has none. -/
def opOf : Instr → Nat
  | .nop _ => 0x00
  | .sessionOpen _ _ _ => 0x01
  | .sessionClose _ => 0x02
  | .identGet _ => 0x03
  | .statusGet _ => 0x04
  | .timeGet _ => 0x05
  | .resetSoft _ _ => 0x06
  | .heartbeat _ => 0x07
  | .regRead _ _ _ => 0x10
  | .regWrite _ _ _ => 0x11
  | .regRmw _ _ _ _ => 0x12
  | .regPoll _ _ _ _ _ => 0x13
  | .bulkRead _ _ _ => 0x14
  | .regListWrite _ _ => 0x15
  | .modeGet _ => 0x20
  | .modeSet _ _ => 0x21
  | .guardArm _ _ _ => 0x22
  | .guardEnter _ _ _ => 0x23
  | .sleep _ _ => 0x24
  | .modeSetAt _ _ _ => 0x25
  | .modeHistory _ => 0x26
  | .planLoad _ _ _ _ => 0x30
  | .planActivate _ _ => 0x31
  | .planGet _ _ _ => 0x32
  | .adaptFreeze _ _ => 0x33
  | .placementRead _ _ => 0x34
  | .roiSet _ _ _ => 0x35
  | .frameRateSet _ _ => 0x36
  | .planCheck _ _ => 0x37
  | .patternLoad _ _ _ => 0x40
  | .patternRun _ _ _ => 0x41
  | .patternStop _ => 0x42
  | .emitterStatus _ _ => 0x43
  | .pinTest _ => 0x44
  | .lanternLimit _ _ _ _ => 0x45
  | .lanternLedger _ _ _ => 0x46
  | .driverStatus _ _ => 0x47
  | .axisConfig _ _ _ _ => 0x50
  | .axisCoef _ _ _ _ => 0x51
  | .axisEnable _ _ _ => 0x52
  | .axisStatus _ _ => 0x53
  | .tideScan _ _ _ => 0x54
  | .tideRead _ _ => 0x55
  | .sifterSet _ _ _ _ _ _ => 0x56
  | .sfdRead _ _ => 0x57
  | .calRun _ _ => 0x60
  | .calStatus _ => 0x61
  | .calSetRead _ _ => 0x62
  | .calCamera _ _ _ _ => 0x63
  | .calFactory _ => 0x64
  | .calTrigger _ _ _ => 0x65
  | .guardMapLoad _ _ _ _ => 0x70
  | .guardMapRead _ _ _ => 0x71
  | .guardLeave _ _ => 0x72
  | .safeAck _ _ => 0x73
  | .keeperStatus _ => 0x74
  | .bellConfig _ _ _ _ => 0x75
  | .bellStatus _ => 0x76
  | .safetyConfig _ => 0x77
  | .streamConfig _ _ _ => 0x80
  | .exportSelect _ _ => 0x81
  | .laneConfig _ _ _ _ _ _ => 0x82
  | .laneStatus _ => 0x83
  | .laneStepUp _ _ => 0x84
  | .laneTest _ _ _ _ => 0x85
  | .netConfig _ _ _ _ _ _ _ => 0x86
  | .cascadeStatus _ => 0x87
  | .camConfig _ _ _ _ _ _ _ => 0x90
  | .camEnable _ _ _ => 0x91
  | .cciXfer _ _ _ _ _ _ _ _ => 0x92
  | .camStats _ _ _ => 0x93
  | .camMeshLoad _ _ _ _ => 0x94
  | .camStatus _ _ => 0x95
  | .pmcConfig _ _ _ _ => 0xA0
  | .pmcFreeze _ _ => 0xA1
  | .pmcRead _ _ _ => 0xA2
  | .faultList _ _ => 0xA3
  | .faultClear _ _ _ => 0xA4
  | .bistRun _ _ => 0xA5
  | .eventSubscribe _ _ _ => 0xA6
  | .logbookRead _ => 0xA7
  | .secChallenge _ _ => 0xB0
  | .secResponse _ _ _ => 0xB1
  | .secPassword _ _ => 0xB2
  | .fwUpdate _ _ _ => 0xB3
  | .fwStatus _ => 0xB4
  | .secClose _ => 0xB5
  | .stepQuery _ _ => 0xC0
  | .stepAbort _ _ => 0xC1
  | .stepList _ => 0xC2
  | .stepFetch _ _ _ => 0xC3
  | _ => 0

end Sys2Proof.Machine
end

