-- ==== Sys2Proof/Config.lean ====
section
/-! DEFINITION. What the spec leaves open and the machine goes on with: free values, uninterpreted, so that no proof can
see what they are (log entries 1 to 9). -/

namespace Sys2Proof.Config

/-- A free value for each draw of the state's own counter (log entry 1). -/
opaque freeNat : Nat → Nat

/-- Which way an exact tie, or a fraction whose rounding the spec does not state, is rounded: the site and the exact
numerator decide (log entry 2). -/
opaque roundUp : Nat → Int → Bool

/-- GAUSS3's δ (R178) where its quotient is 0 / 0 (log entry 3). -/
opaque gaussOpen : Rat → Rat

/-- The gaps between the 256 points of the firmware's λ table for a threshold k, whose places R182 does not state (log entry 4). -/
opaque lambdaGap : Nat → Nat → Nat

/-- λ by saturation (R182) where C_N is 0 or the logarithm's argument is not positive (log entry 4). -/
opaque lambdaOpen : Nat → Rat → Rat

/-- The reflectivity of a return whose formula divides by 0 (R183 states no result; log entry 7). -/
opaque reflOpen : Nat → Nat

/-- How a reserved setting of a selector that a register stores acts (log entry 9). -/
opaque reservedMode : Nat → Nat

/-- The coding seed of a bank derived from the fused per-device key (R91 does not state the derivation; log entry 10). -/
opaque derivedSeed : Nat → Nat

/-- The calibrated delay of the shot-edge tree to a tile, in ticks (R142; log entry 6). -/
opaque treeDelay : Nat → Nat

/-- A rate or mean of R205 whose divisor is 0, by what it is of (log entry 19). -/
opaque openRate : Nat → Rat

/-- Sine and cosine of an angle in AU: R353 states their accuracy, 2⁻²⁰, not their values (log entry 20). -/
opaque sinAu : Int → Rat
opaque cosAu : Int → Rat

/-- The interpolated colour (0 R, 1 G, 2 B) of a pixel from the 5 × 5 window about it, −1 outside the image: R345 names the
method, not its coefficients (log entry 21). -/
opaque demosaic : Nat → Nat → List Int → Int

/-- The median of a pixel's same-colour neighbours when fewer than four lie in the image (log entry 21). -/
opaque borderMedian : List Int → Int

/-- The feature word of the fuses (IDENT_GET, R269) for an ordering code, and VERSION and KEY_SLOT of a running firmware image that
the state does not hold (log entry 38). -/
opaque features : Nat → Nat
opaque fwVersion : Nat → Nat
opaque fwKeySlot : Nat → Nat

/-- The phase in AU of a vector, −2³¹ to 2³¹ − 1: R335 states its unit, not how it is computed (log entry 46). -/
opaque phaseAu : Rat → Rat → Int

/-- The first ten of the 19 symmetric half-band taps and the built-in filter of a preset, in Q2.30: R328 and R330 state what they
achieve, not their values (log entry 47). -/
opaque halfBand : Nat → Int
opaque builtinTap : Nat → Nat → Int

/-- A rational that stands for π within the accuracy of R353 (log entry 48). -/
opaque piApprox : Rat

/-- The values of Glodehel's die test by kind (0 SKEW, 1 vernier gain, 2 emitter walk, 3 XGAIN, 4 BREAKDOWN, 5 DET tables, 6 slice
offsets, 7 slice gains, 8 AGE) and index: the spec gives none (log entry 53). -/
opaque factory : Nat → Nat → Nat

/-- The 58 bits in a lane's scrambler when it starts to scramble at a tick: R241 states no initial value (log entry 165). -/
opaque scramblerSeed : Nat → Nat → Nat

/-- The journal bytes used, in units of 64 bytes, after a number of commands: the size of a record is not stated (log entry 83). -/
opaque journalUnits : Nat → Nat

end Sys2Proof.Config
end

