-- ==== Sys2Proof/Machine/Ops.lean ====
section
/-! DEFINITION. The named operations every block uses: sparse maps in one canonical form, little-endian byte strings (R8),
the CRC-32C of a packet (R30), bit fields, saturating and wrapping counters (R441). -/

namespace Sys2Proof.Machine

/-- A sparse array: the entries that differ from the array's default, keys strictly rising. -/
abbrev SMap (V : Type) := List (Nat × V)

/-- The entry of `m` at `i`; `d` is what an unlisted key reads as. -/
def mget {V : Type} (d : V) (m : SMap V) (i : Nat) : V :=
  match m with
  | [] => d
  | (k, v) :: r => if k = i then v else mget d r i

/-- Puts `(i, v)` before the first larger key. -/
def mins {V : Type} (m : SMap V) (i : Nat) (v : V) : SMap V :=
  match m with
  | [] => [(i, v)]
  | (k, w) :: r => if i < k then (i, v) :: (k, w) :: r else (k, w) :: mins r i v

/-- `m` without its entry at `i`. -/
def mdel {V : Type} (m : SMap V) (i : Nat) : SMap V :=
  m.filter (fun e => e.1 != i)

/-- `m` with `v` at `i`; writing the default `d` removes the entry, so that equal arrays are equal lists. -/
def mset {V : Type} [DecidableEq V] (d : V) (m : SMap V) (i : Nat) (v : V) : SMap V :=
  if v = d then mdel m i else mins (mdel m i) i v

/-- `m` with `f` applied to its entry at `i`. -/
def mupd {V : Type} [DecidableEq V] (d : V) (m : SMap V) (i : Nat) (f : V → V) : SMap V :=
  mset d m i (f (mget d m i))

/-- `f` applied to every listed entry of `m`; entries that become the default leave the list. -/
def mmap {V : Type} [DecidableEq V] (d : V) (f : V → V) (m : SMap V) : SMap V :=
  (m.map (fun e => (e.1, f e.2))).filter (fun e => decide (e.2 ≠ d))

/-- The keys of `m` are strictly rising. -/
def msorted {V : Type} : SMap V → Bool
  | [] => true
  | [_] => true
  | (k, _) :: (k', v') :: r => decide (k < k') && msorted ((k', v') :: r)

/-- The canonical form: keys strictly rising, no entry equal to the default of its key. -/
def mwf {V : Type} [DecidableEq V] (d : Nat → V) (m : SMap V) : Bool :=
  msorted m && m.all (fun e => decide (e.2 ≠ d e.1))

/-- `n` bytes of `x`, least significant first (R8). -/
def le : Nat → Nat → List Byte
  | 0, _ => []
  | n + 1, x => BitVec.ofNat 8 x :: le n (x / 256)

/-- The number a little-endian byte string spells (R8). -/
def ofLe : List Byte → Nat
  | [] => 0
  | b :: r => b.toNat + 256 * ofLe r

/-- `n` bytes of the two's-complement code of `x`. -/
def leInt (n : Nat) (x : Int) : List Byte :=
  le n (x % (256 ^ n : Nat)).toNat

/-- The two's-complement number a little-endian byte string spells. -/
def ofLeInt (l : List Byte) : Int :=
  let v := ofLe l
  let m := 256 ^ l.length
  if 2 * v < m then (v : Int) else (v : Int) - m

/-- Bytes `at` to `at + n − 1` of `l`, zero past its end. -/
def bytesAt (l : List Byte) (off n : Nat) : List Byte :=
  let x := (l.drop off).take n
  x ++ List.replicate (n - x.length) 0

/-- The unsigned little-endian field of `n` bytes at `off`. -/
def field (l : List Byte) (off n : Nat) : Nat :=
  ofLe (bytesAt l off n)

/-- The signed little-endian field of `n` bytes at `off`. -/
def sfield (l : List Byte) (off n : Nat) : Int :=
  ofLeInt (bytesAt l off n)

/-- A number of `n` bytes, most significant first. -/
def be (n x : Nat) : List Byte := (le n x).reverse

/-- `l` padded with zero bytes to a multiple of 4 (R29, R44, R50). -/
def pad4 (l : List Byte) : List Byte :=
  l ++ List.replicate ((4 - l.length % 4) % 4) 0

/-- `n` bit steps of a reflected 32-bit CRC. -/
def crcBits (poly : Nat) : Nat → Nat → Nat
  | 0, c => c
  | n + 1, c => crcBits poly n (if c % 2 = 1 then (c / 2) ^^^ poly else c / 2)

/-- The register of a reflected CRC after the bytes of a string. -/
def crcBytes (poly : Nat) : List Byte → Nat → Nat
  | [], c => c
  | b :: r, c => crcBytes poly r (crcBits poly 8 (c ^^^ b.toNat))

/-- A reflected 32-bit CRC: initial value and final XOR of all ones. -/
def crcRefl (poly : Nat) (l : List Byte) : Nat := (crcBytes poly l 0xFFFFFFFF) ^^^ 0xFFFFFFFF

/-- The CRC-32C of a byte string (R30: polynomial 0x1EDC_6F41, reflected 0x82F6_3B78). -/
def crc32c (l : List Byte) : Nat := crcRefl 0x82F63B78 l

/-- One bit of an MSB-first CRC of `n` bits with polynomial `poly`. -/
def crcMsbBit (n poly c : Nat) (b : Bool) : Nat :=
  let c' := 2 * c % 2 ^ n
  if c.testBit (n - 1) = b then c' else c' ^^^ poly

/-- An MSB-first CRC over the lowest `len` bits of `x`, from the register `c`. -/
def crcMsb (n poly x : Nat) : Nat → Nat → Nat
  | 0, c => c
  | i + 1, c => crcMsb n poly x i (crcMsbBit n poly c (x.testBit i))

/-- Bits `lo + n − 1` to `lo` of `x`. -/
def bits (x lo n : Nat) : Nat :=
  (x / 2 ^ lo) % 2 ^ n

/-- Bit `i` of `x`. -/
def tb (x i : Nat) : Bool :=
  x.testBit i

/-- 1 for true. -/
def b2n (b : Bool) : Nat :=
  if b then 1 else 0

/-- `x` with bit `i` equal to `b`. -/
def putBit (x i : Nat) (b : Bool) : Nat :=
  if x.testBit i then (if b then x else x - 2 ^ i) else (if b then x + 2 ^ i else x)

/-- `x` with bits `lo + n − 1` to `lo` replaced by `v`. -/
def putBits (x lo n v : Nat) : Nat :=
  x - bits x lo n * 2 ^ lo + (v % 2 ^ n) * 2 ^ lo

/-- The two's-complement reading of the `n`-bit code `x`. -/
def sx (n x : Nat) : Int :=
  let y := x % 2 ^ n
  if 2 * y < 2 ^ n then (y : Int) else (y : Int) - (2 ^ n : Nat)

/-- The `n`-bit two's-complement code of `x`. -/
def cx (n : Nat) (x : Int) : Nat :=
  (x % (2 ^ n : Nat)).toNat

/-- A counter that sticks at `top` (R441). -/
def satAdd (top a b : Nat) : Nat :=
  min top (a + b)

/-- `x` held within `lo` to `hi`. -/
def clampI (lo hi x : Int) : Int :=
  if x < lo then lo else if hi < x then hi else x

/-- Division rounded up. -/
def ceilDiv (a b : Nat) : Nat :=
  (a + b - 1) / b

/-- Integer division rounded to nearest, halves away from zero for a nonnegative quotient. -/
def roundDiv (a : Int) (b : Nat) : Int :=
  Int.fdiv (2 * a + b) (2 * b)

/-- The bits set in `x`, lowest first, among the first `n`. -/
def setBits (n x : Nat) : List Nat :=
  (List.range n).filter (fun i => x.testBit i)

/-- The number of bits set among the first `n`. -/
def popCount (n x : Nat) : Nat :=
  (setBits n x).length

/-- The mask with the listed bits set. -/
def maskOf (l : List Nat) : Nat :=
  l.foldl (fun m i => if m.testBit i then m else m + 2 ^ i) 0

/-- The integer square root of `x`, by Newton steps from `g` with the fuel given. -/
def isqrtGo : Nat → Nat → Nat → Nat
  | 0, _, g => g
  | f + 1, x, g =>
    let g' := (g + x / g) / 2
    if g' < g then isqrtGo f x g' else g

/-- The integer square root. -/
def isqrt (x : Nat) : Nat :=
  if x = 0 then 0 else isqrtGo (2 * x.log2 + 4) x (2 ^ (x.log2 / 2 + 1))

/-- Bytes as words. -/
def wordOf (x : Nat) : Word := BitVec.ofNat 32 x

end Sys2Proof.Machine
end

