-- ==== Sys2Proof/Machine/Flags.lean ====
section
/-! DEFINITION. Rounding and exact roots over rational numbers. Where the spec states no rounding, or a tie falls exactly
between two values, which neighbour results is a free value (log entry 2). -/

namespace Sys2Proof.Machine

/-- A number rounded to an integer where the spec does not state how: exact integers stay, any other value becomes one of its
two neighbours, freely. -/
def roundOpen (site : Nat) (x : Rat) : Int :=
  if x.den = 1 then x.num
  else if Config.roundUp site x.num then x.floor + 1 else x.floor

/-- round(x): the nearest integer; an exact tie goes freely to one of the two. -/
def roundNear (site : Nat) (x : Rat) : Int :=
  if x.den = 2 then (if Config.roundUp site x.num then x.floor + 1 else x.floor)
  else (x + 1 / 2).floor

/-- √x to 1/256 (R177), in units of 1/256. -/
def sqrt256 (site : Nat) (x : Rat) : Nat :=
  let y := 65536 * x
  let r := isqrt y.floor.toNat
  if (r : Rat) * r = y then r
  else if Config.roundUp site y.num then r + 1 else r

end Sys2Proof.Machine
end

