-- ==== Sys2Proof/Machine/Blocks.lean ====
section
/-! DEFINITION. The state of each block of the device, as plain data: one structure per block, its reset value beside it.
Registers that are plain storage stand in the one register file (Machine/State.lean); what is structured stands here. -/

namespace Sys2Proof.Machine

/-- The six modes (Table 3.1). -/
inductive Mode where
  | dormant
  | boot
  | config
  | scan
  | guard
  | service
  deriving DecidableEq, Repr

/-- The code of a mode (Table 3.1). -/
def Mode.code : Mode → Nat
  | .dormant => 0
  | .boot => 1
  | .config => 2
  | .scan => 3
  | .guard => 4
  | .service => 5

/-- The mode with a code (Table 3.1). -/
def Mode.ofCode : Nat → Option Mode
  | 0 => some .dormant
  | 1 => some .boot
  | 2 => some .config
  | 3 => some .scan
  | 4 => some .guard
  | 5 => some .service
  | _ => none

/-- A fault identifier: the source that raises it and its code, class in [15:13] and number in [9:0] (R53). -/
structure FaultId where
  src  : Nat
  code : Nat
  deriving DecidableEq, Repr

/-- The identifier F.BLOCK.nnn of a source and a class (R53). -/
def fid (src cls n : Nat) : FaultId := { src := src, code := cls * 0x2000 + n }

/-- The class of a fault: 0 INFO, 1 WARN, 2 DEGRADE, 3 STOP, 4 SAFE (R53). -/
def FaultId.cls (f : FaultId) : Nat := f.code / 0x2000

/-- An entry of the fault table (R446). -/
structure FaultEntry where
  id     : FaultId
  count  : Nat
  raised : Bool
  first  : U64
  last   : U64
  deriving DecidableEq, Repr

/-- An event record (Table 2.18). -/
structure Record where
  src     : Nat
  seq     : Nat
  time    : U64
  code    : Nat
  payload : List Byte
  lost    : Bool := false
  deriving DecidableEq, Repr

/-- What the hardware hands to Watch in one step: a record for the sessions, the end of SCAN or SERVICE for the stepped
operations (R46, R61, R63), a transport going down (R34), the end of a step that held the command channel's lane from tick `since` on
(R252), a reset or the entry to DORMANT (R34, R69). -/
inductive Signal where
  | record (r : Record)
  | modeLeft
  | stopInTransition
  | transportDown (t : Transport)
  | laneBack (since : Nat)
  | deviceReset
  deriving DecidableEq, Repr

/-- A transition of MODE_HISTORY (R57). -/
structure ModeEntry where
  time  : U64
  src   : Mode
  dst   : Mode
  cause : Nat
  deriving DecidableEq, Repr

/-- DEV: mode, start and pins (chapter 03). `codeRead` is the ordering code read at S02 (R3, R6); `tooWarm` and `tooHot` are the
over-temperature conditions with their hysteresis (R466); `stepAt` is the tick at which the running attempt of a boot step began (R74). -/
structure DevSt where
  mode       : Mode := .boot
  target     : Option Mode := none
  lastCause  : Nat := 0
  history    : List ModeEntry := []
  sched      : Option (Mode × U64) := none
  wakeMask   : Nat := 0
  startCause : Nat := 0
  halted     : Bool := false
  degraded   : Bool := false
  attempt    : Nat := 0
  step       : Nat := 0
  bootFails  : Nat := 0
  codeRead   : Option Nat := none
  inReset    : Bool := false
  hotHold    : Bool := false
  tooWarm    : Bool := false
  tooHot     : Bool := false
  hvEnable   : Bool := false
  faultLow   : Bool := true
  noTiles    : Bool := false
  noLanes    : Bool := false
  stopFails  : Nat := 0
  stepAt     : Nat := 0
  deriving DecidableEq, Repr

/-- The always-on island: what survives every reset but power-up (Table 26.3). `fraction` is indexed 3 × bank + window. -/
structure AlwaysOn where
  resetCause : Nat := 0
  fraction   : SMap Nat := []
  restartSeenOpen : Bool := false
  heldLog    : List (List Byte) := []
  deriving DecidableEq, Repr

/-- The boot record (Table 3.13). -/
structure BootRecord where
  start     : Nat := 0
  counts    : Nat := 0
  altNext   : Nat := 0
  watch     : Nat := 0
  fw        : Nat := 0
  dir       : Nat := 0
  rate      : Nat := 0
  tileFail  : Nat := 0
  tileCount : Nat := 0
  cascade   : Nat := 0
  deriving DecidableEq, Repr

/-- EVT: fault table, event log, per-source sequence numbers and last 64 records, newest first, latched windows (R51, R420,
R446, R447, Table 22.8). -/
structure EvtSt where
  table     : List FaultEntry := []
  tableFull : Nat := 0
  log       : SMap (List Byte) := []
  head      : Nat := 0
  wraps     : Nat := 0
  seq       : SMap Nat := []
  recent    : SMap (List Record) := []
  logLatch  : List Byte := []
  fltLatch  : List Byte := []
  deriving DecidableEq, Repr

/-- CLK: device time and PPS discipline (R135 to R139). `integ` is held in 1/65,536 of a 0.05 ppb step. -/
structure ClkSt where
  time      : U64 := 0
  timeValid : Bool := false
  xtalOk    : Bool := true
  refLock   : Bool := false
  latchHi   : Nat := 0
  setLo     : Nat := 0
  setArmed  : Option U64 := none
  ppsRef    : Option Nat := none
  ppsMissAt : Nat := 0
  ppsStamp  : U64 := 0
  ppsFine   : Nat := 0
  ppsErr    : Int := 0
  integ     : Int := 0
  term      : Int := 0
  lockRun   : Nat := 0
  present   : Bool := false
  locked    : Bool := false
  rejected  : Nat := 0
  missing   : Nat := 0
  rejTimes  : List Nat := []
  ppsQuiet  : Bool := false
  deriving DecidableEq, Repr

/-- One Daymark input: its last stamp, the tick it was taken at, and the 20 ns merge count (R146). -/
structure DmkIn where
  stamped : Bool := false
  tick    : Nat := 0
  time    : U64 := 0
  fine    : Nat := 0
  coarse  : Bool := false
  merged  : Nat := 0
  latch   : List Nat := []
  deriving DecidableEq, Repr

/-- One frequency engine: the exact sums of its gate and its last result (R149). Stamps are in 1/320 tick since stamp 0. -/
structure DmkFreq where
  running   : Bool := false
  gateEnd   : Nat := 0
  edges     : Nat := 0
  n         : Nat := 0
  t0        : Nat := 0
  t0c       : Nat := 0
  st        : Nat := 0
  snt       : Nat := 0
  stt       : Nat := 0
  stc       : Nat := 0
  sntc      : Nat := 0
  sttc      : Nat := 0
  anyCoarse : Bool := false
  period    : Nat := 0
  flags     : Nat := 0
  resid     : Nat := 0
  latch     : List Nat := []
  deriving DecidableEq, Repr

/-- DMK (R146 to R149). The stampers START and STOP are busy until the tick held. -/
structure DmkSt where
  ins       : SMap DmkIn := []
  freq      : SMap DmkFreq := []
  startBusy : Nat := 0
  stopBusy  : Nat := 0
  startMissed : Nat := 0
  stopMissed : Nat := 0
  armed     : Bool := false
  ivStart   : Option Nat := none
  ivDue     : Nat := 0
  ivCount   : Nat := 0
  ivValue   : Nat := 0
  ivValid   : Bool := false
  ivTimeout : Bool := false
  deriving DecidableEq, Repr

/-- A granted shot that has not fired, or its descriptor (R88, R89, R140): the emitter it addresses, its coded slot, its
energy and the cells Lantern fixed, its planned fire tick once set-up has started and the target it serves; `cur` is the drive
current booked, `timed` tells that its target was a tick (BCN_TRIG.MODE TIME). -/
structure Shot where
  num     : Nat
  bank    : Nat
  row     : Nat
  profile : Nat
  cols    : Nat
  pw      : Nat
  slot    : Nat
  driver  : Nat
  dq      : Nat
  cells   : List Nat
  fireAt  : Option Nat := none
  plan    : Nat := 0
  column  : Nat := 0
  pattern : Bool := false
  frame   : Nat := 0
  epoch   : Nat := 0
  cur     : Nat := 0
  timed   : Bool := false
  deriving DecidableEq, Repr

/-- Why a descriptor is marked missing (R140, R158). -/
inductive Missing where
  | lantern
  | skipped
  deriving DecidableEq, Repr

/-- A shot descriptor on its way to the tiles: the shots it lists, the fire tick it announces, or the reason it is
marked missing (R140). `sent` is the tick at which Beacon sent it. -/
structure Descriptor where
  shots   : List Shot
  fireAt  : Nat := 0
  missing : Option Missing := none
  sent    : Nat := 0
  deriving DecidableEq, Repr

/-- A Beacon bus driver as Beacon sees it (R84, R86): the currents and column masks of its 8 profiles as last written, the
highest current it may still apply from before that, what row and profile it holds, the last reply, silent polls, the faults that
exclude it (bits of FAULTS, bit 7 for silence), whether FAULT_CLEAR and MAP wait to be sent. -/
structure Driver where
  cur      : SMap Nat := []
  oldCur   : SMap Nat := []
  cols     : SMap Nat := []
  held     : Option (Nat × Nat) := none
  status   : Nat := 0
  faults   : Nat := 0
  silent   : Nat := 0
  excl     : Nat := 0
  clearDue : Bool := false
  mapDue   : Bool := false
  deriving DecidableEq, Repr

/-- The counts of one emitter (R97). -/
structure Emitter where
  fired  : Nat := 0
  misses : Nat := 0
  opened : Bool := false
  deriving DecidableEq, Repr

/-- A FIRE pulse (R82, R360): the tick of its fire instant, how many fine steps later its rising edge comes, its width in units of 0.625 ns. -/
structure Pulse where
  rise  : Nat
  late  : Nat
  width : Nat
  deriving DecidableEq, Repr

/-- A PROFILE_WRITE that waits for a bus gap (R85, R94). -/
structure ProfileWrite where
  driver  : Nat
  profile : Nat
  cur     : Nat
  cols    : Nat
  deriving DecidableEq, Repr

/-- The coding generator and permutation of one bank (R91). `perm` lists the slots of the block; empty is the identity. -/
structure Coding where
  state   : Nat := 0
  perm    : List Nat := []
  pos     : Nat := 0
  seed    : Option Nat := none
  deriving DecidableEq, Repr

/-- One bank of Beacon (R88, R89): shots in flight oldest first, the ticks of the last decision put to Lantern and of the
last fire, shots whose reference window is open, shot numbers; `ahead` tells that the angle has been before a target of that direction
(R87). -/
structure BeaconBank where
  inFlight : List Shot := []
  lastPut  : Option Nat := none
  lastFire : Option Nat := none
  refOpen  : List Shot := []
  nextNum  : Nat := 0
  coding   : Coding := {}
  ahead    : Option Bool := none
  deriving DecidableEq, Repr

/-- A running RAMP (R94). -/
structure Ramp where
  driver  : Nat
  profile : Nat
  final   : Nat
  every   : Nat
  step    : Nat
  shots   : Nat := 0
  due     : Bool := false
  deriving DecidableEq, Repr

/-- The pattern engine (R92 to R94): which program runs or is armed (with its repeats), where it stands, its loops, its ramps and the target
the next shot or wait is counted from; `ended` tells that its last pass is over, `ahead` as in BeaconBank. -/
structure Pattern where
  running : Option Nat := none
  armed   : Option (Nat × Nat) := none
  stopDue : Bool := false
  repeats : Nat := 0
  passes  : Nat := 0
  pc      : Nat := 0
  done    : Nat := 0
  loop0   : Option Nat := none
  loop1   : Option Nat := none
  ramps   : List Ramp := []
  base    : Int := 0
  ended   : Bool := false
  ahead   : Option Bool := none
  deriving DecidableEq, Repr

/-- BCN (chapter 04); plain registers stand in the register file. `busUntil` is the tick at which the bus and its gap end, `busCmd` that a
command frame holds it, `lastFrame` the last frame put on it (its bits, its word); `writes` are PROFILE_WRITEs that wait; `fire` holds
the last pulse of each FIRE pair. -/
structure BcnSt where
  banks     : SMap BeaconBank := []
  drivers   : SMap Driver := []
  emitters  : SMap Emitter := []
  programs  : SMap (List U64) := []
  pattern   : Pattern := {}
  source    : Nat := 2
  busUntil  : Nat := 0
  busCmd    : Bool := false
  lastFrame : Nat × Nat := (0, 0)
  writes    : List ProfileWrite := []
  fire      : SMap (Option Pulse) := []
  inhibited : Bool := false
  pollDue   : SMap Nat := []
  derived   : SMap Nat := []
  deriving DecidableEq, Repr

/-- The ledger of one cell of one bank and window (R100): the open bucket in DQ and the 8 closed ones, newest first, each a
multiple of cap/65,536. -/
structure Cell where
  cur     : Nat := 0
  buckets : List Nat := []
  deriving DecidableEq, Repr

/-- LNT (R99 to R108). `cells` is indexed (3 × bank + window) × 4,096 + cell; `common` holds what every cell of a bank and
window carries beside its own buckets (R103, R107), indexed 3 × bank + window. -/
structure LntSt where
  running   : Bool := false
  cells     : SMap Cell := []
  common    : SMap (List Nat) := []
  caps      : List Nat := []
  windows   : List Nat := []
  limits    : SMap Nat := []
  capsValid : Bool := false
  bucketAt  : SMap Nat := []
  blocked   : Nat := 0
  invalid   : Nat := 0
  above     : SMap Nat := []
  xchkAt    : SMap Nat := []
  lastCur   : SMap Nat := []
  dead      : Bool := false
  suppressing : Nat := 0
  deriving DecidableEq, Repr

/-- The channel parameters of one placement entry (Tables 5.10, 7.8, 9.6): macropixel, CHCFG and the track they serve. -/
structure Track where
  bank    : Nat := 0
  depth   : Nat := 1
  nAcc    : Nat := 1
  zoomAt  : Nat := 0
  zlo     : Nat := 0
  zhi     : Nat := 2047
  shape   : Nat := 0
  x0      : Nat := 0
  y0      : Nat := 0
  k       : Nat := 1
  w       : Nat := 0
  row     : Nat := 0
  strip   : Nat := 0
  vsub    : Nat := 1
  hdiv    : Nat := 1
  prio    : Nat := 0
  erow    : Nat := 0
  profile : Nat := 0
  pinned  : Bool := false
  deriving DecidableEq, Repr

/-- A candidate of the tracker (R161, R162). -/
structure Cand where
  bin    : Nat
  score  : Nat
  locked : Bool := false
  window : Option Int := none
  placed : Nat := 0
  late   : Bool := false
  nZoom  : Nat := 0
  deriving DecidableEq, Repr

/-- The states of a histogram buffer, in the coding of BUFSTATE (R160, Table 7.9). -/
inductive BufState where
  | idle
  | accum
  | queued
  | peak
  | done
  deriving DecidableEq, Repr

/-- The result of one passing return (Table 8.1); `net` is net3 (R177). -/
structure Return where
  range     : Nat
  intensity : Nat
  refl      : Nat
  conf      : Nat
  cls       : Nat
  flags     : Nat
  net       : Rat
  deriving DecidableEq, Repr

/-- One histogram buffer: its bins, its candidates, the fields of its header (Table 7.4) and what it waits for. `coarse` is
indexed by bin, `fine` by 128 × window + bin. `shots` are the numbers of the fired shots assigned to it with their fire
instants in fine steps, `firedAt` their fire ticks, each with whether its target was a tick; `assigned` counts every decided shot. -/
structure Hist where
  state     : BufState := .idle
  coarse    : SMap Nat := []
  fine      : SMap Nat := []
  cands     : List (Option Cand) := [none, none, none, none]
  frame     : Nat := 0
  epoch     : Nat := 0
  bank      : Nat := 0
  column    : Nat := 0
  nAcc      : Nat := 0
  nRx       : Nat := 0
  missLnt   : Nat := 0
  missSkip  : Nat := 0
  missStall : Nat := 0
  assigned  : Nat := 0
  zoomAt    : Nat := 0
  zoomDue   : Option Nat := none
  zoomed    : Bool := false
  refSpacing : Nat := 0
  refPool   : Nat := 0
  refBudget : Nat := 0
  outside   : Nat := 0
  binSat    : Bool := false
  zoomSat   : Bool := false
  truncated : Bool := false
  stalled   : Bool := false
  clipped   : Bool := false
  parity    : Bool := false
  stack     : Nat := 1
  closeDue  : Nat := 0
  closeTime : U64 := 0
  track     : Track := {}
  shots     : List (Nat × Nat) := []
  exhaust   : SMap Nat := []
  cBins     : SMap (Nat × Nat) := []
  cWins     : SMap (Nat × Nat) := []
  dqSum     : Nat := 0
  judged    : Bool := false
  returns   : List Return := []
  firedAt   : List (Nat × Bool) := []
  dead      : Bool := false
  deriving DecidableEq, Repr

/-- A fire instant a tile has attributed: bank, instant in fine steps, shot number, the epoch of the shot (R140, R153, R154). -/
structure Fire where
  bank  : Nat
  time  : Nat
  num   : Nat
  epoch : Nat := 0
  deriving DecidableEq, Repr

/-- A histogram as a channel gathers its shots (R158, R160, R167): its points in order as (frame, column, shots counted), how many it
sums, the shots of each by the track it serves, what became of shots that came before it had a buffer, its buffer, and the instant of
its zoom-in point if that came before the buffer. -/
structure Gather where
  points  : List (Nat × Nat × Nat)
  stack   : Nat := 1
  perPoint : Nat := 1
  stall   : Nat := 0
  lnt     : Nat := 0
  skip    : Nat := 0
  buf     : Option Nat := none
  zoomDue : Option Nat := none
  deriving DecidableEq, Repr

/-- One channel of a tile (R144, R152, R160): pre-stamps of its accepted stops, newest first, how many since the bank's last
fire, failed conversions per vernier in this frame, its two buffers. `gathers` are the histograms whose shots are being told, oldest
first; `lastBuf` the buffer of the most recent assigned shot; `busy` holds, per vernier, the pre-stamp and coincidence count of the stop
it converts and whether that was the shot's 8th (R175); `marked` are the verniers that convert an injected event (R363). `view` is the buffer most recently DONE, held by a copy until the tick
`copyEnd` (R168); `closedIn` counts, for a frame, the histograms closed in it (R200). -/
structure Chan where
  stops    : List Nat := []
  budget   : Nat := 0
  vernFail : SMap Nat := []
  retired  : Bool := false
  bufs     : SMap Hist := []
  gathers  : List Gather := []
  lastBuf  : Option Nat := none
  busy     : SMap (Option (Nat × Nat × Bool)) := []
  marked   : List Nat := []
  view     : Option Nat := none
  copyEnd  : Nat := 0
  closedIn : Nat × Nat := (0, 0)
  deriving DecidableEq, Repr

/-- One tile (R140, R152, R165, R170): the number of descriptors it has taken from the descriptor path, the recent fire
instants newest first, its channels by position, retirement, the peak finder's buffer and end tick. -/
structure Tile where
  taken     : Nat := 0
  fires     : List Fire := []
  chans     : SMap Chan := []
  retired   : Bool := false
  cause     : Nat := 0
  retireDue : Nat := 0
  parityErr : Nat := 0
  peak      : Option (Nat × Nat) := none
  peakEnd   : Nat := 0
  qmax      : Nat := 0
  closed    : Nat := 0
  deriving DecidableEq, Repr

/-- The adaptation memory of one track (row and strip, R204, R205). -/
structure Adapt where
  shape    : Nat
  k        : Nat
  streak   : Nat := 0
  lastWant : Int := 0
  deriving DecidableEq, Repr

/-- The statistics of one track in one frame (R204, R188): RAW, LIVE and live microcells, histograms, histograms with a
passing SOLID or SOFT return, sum of net3/N_RX. -/
structure TrackStat where
  raw   : Nat := 0
  live  : Nat := 0
  nLive : Nat := 0
  hists : Nat := 0
  rets  : Nat := 0
  pSum  : Rat := 0
  deriving DecidableEq, Repr

/-- A placement: its epoch, the frame it started at, the plan it comes from, the track of each channel, what was left out,
the routes of all the substreams of the cascade (4 × device + bank) and the planned tile load (R207, R212, Tables 9.5, 9.6, 9.9); `grid`
holds by row the N_acc that the shot grid counts (R198, R210). -/
structure Placement where
  epoch    : Nat := 0
  slot     : Nat := 0
  frame    : Nat := 0
  plan     : List Byte := []
  tracks   : SMap Track := []
  unplaced : Nat := 0
  route    : Nat := 0
  routes   : SMap Nat := []
  load     : Nat := 0
  frozen   : Bool := false
  pattern  : Bool := false
  pins     : Bool := false
  crc      : Nat := 0
  grid     : SMap Nat := []
  deriving DecidableEq, Repr

/-- Where a bank stands in the shot grid in force (R198): the column and the index among the column's targets. -/
structure GridPos where
  column : Nat := 0
  index  : Nat := 0
  done   : Bool := false
  deriving DecidableEq, Repr

/-- TND (chapter 09). `adaptOld` is the adaptation memory of the placement in force, should the coming one be refused (R209). `stats` are the complete statistics of the last frame, `statsNow` those of the frame running, both
indexed by 4 × row + strip. -/
structure TndSt where
  slots     : SMap (List Byte) := []
  plan      : Option (List Byte) := none
  nextPlan  : Option (List Byte) := none
  slot      : Nat := 0
  nextSlot  : Nat := 0
  active    : Option Placement := none
  shadow    : Option Placement := none
  epoch     : Nat := 0
  history   : List Placement := []
  adapt     : SMap (Option Adapt) := []
  adaptOld  : SMap (Option Adapt) := []
  frozen    : Bool := false
  faultFrozen : Bool := false
  pinned    : List Nat := []
  pins      : Bool := false
  unpinDue  : Bool := false
  cutDone   : Bool := false
  computing : Option Placement := none
  planTime  : Nat := 0
  frame     : Nat := 0
  frameTick : Nat := 0
  frameTime : U64 := 0
  firstFrame : Bool := true
  frameOn   : Bool := false
  frameRem  : Nat := 0
  grid      : SMap GridPos := []
  stats     : SMap TrackStat := []
  statsNow  : SMap TrackStat := []
  deriving DecidableEq, Repr

/-- One bias region (Table 5.9): its enable bit and dead-time class, the trim code, state and excess bias (units of 20 mV)
in force, those computed for the next boundary, the tick since which it has been LOW or HIGH, and for how long it has been
on in this frame (R114 to R117, R126). -/
structure Region where
  enable   : Bool := true
  dtClass  : Nat := 0
  dtForce  : Nat := 0
  state    : Nat := 3
  vex      : Nat := 0
  trim     : Nat := 0
  nextState : Nat := 3
  nextVex  : Nat := 0
  nextTrim : Nat := 0
  due      : Bool := false
  offSince : Option Nat := none
  onSince  : Option Nat := none
  onTicks  : Nat := 0
  deriving DecidableEq, Repr

/-- The ambient counts of one channel (R126, Table 5.8). -/
structure Ambient where
  raw     : Nat := 0
  pass    : Nat := 0
  rawSat  : Bool := false
  passSat : Bool := false
  live    : Nat := 0
  nLive   : Nat := 0
  dead    : Bool := false
  deriving DecidableEq, Repr

/-- The coincidence gate of a channel (R124): its fires within the last span, newest first, each with its microcell and its instant in ps,
and whether it has passed an event and is not yet armed again. -/
structure Gate where
  recent : List (Nat × Nat) := []
  shut   : Bool := false
  deriving DecidableEq, Repr

/-- SPD (chapter 05). Mask words are indexed 48 × y + x div 32 (1 is masked); `breakdown` holds the words of Table 5.8. `ambFrame` and
`ambEpoch` name the frame latched (R126); `trimAt` and `hvAt` are the ticks of the last recomputation and measurement (R114, Table 5.6);
`blankEnd` ends the blank of a swap (R122). -/
structure SpdSt where
  regions     : SMap Region := []
  breakdown   : SMap Nat := []
  maskShadow  : SMap Nat := []
  maskActive  : SMap Nat := []
  maskPending : Bool := false
  hvMeas      : Nat := 0
  hvInSince   : Option Nat := none
  biasOn      : Bool := false
  hvRec       : Nat := 0
  dtInForce   : Nat := 0x3C200C14
  ambient     : SMap Ambient := []
  latched     : SMap Ambient := []
  ambFrame    : Nat := 0
  ambEpoch    : Nat := 0
  trimAt      : Option Nat := none
  hvAt        : Option Nat := none
  gates       : SMap Gate := []
  blankEnd    : Nat := 0
  lampLive    : Nat := 0
  lampUnfit   : Nat := 0
  dead        : List Nat := []
  deriving DecidableEq, Repr

/-- DET (chapter 08): shadow and active tables, parameters in force, counters of the frames not yet latched, the last frame
latched. `force` holds the DET registers as they act until the next frame boundary (R174), by offset; `past` holds, oldest first, the
parameters and tables in force before each of the last boundaries, with the device time of that boundary. -/
structure DetSt where
  shadow    : SMap Nat := []
  active    : SMap Nat := []
  pending   : Bool := false
  force     : SMap Nat := []
  past      : List (Nat × SMap Nat × SMap Nat) := []
  counts    : SMap (List Nat) := []
  latched   : List Nat := []
  frame     : Nat := 0
  weather   : Nat := 0
  deriving DecidableEq, Repr

/-- A packet the device sends: the header fields of Table 2.2 and the payload; its bytes are made by Machine/Packet.lean. `peer` is where it
goes on Ethernet. -/
structure Packet where
  opcode  : Nat
  tag     : Nat := 0
  source  : Nat := 0x10
  role    : Nat := 0
  seq     : Nat := 0
  reply   : Bool := true
  status  : Nat := 0
  subaddr : Nat := 0
  payload : List Byte := []
  urgent  : Bool := false
  peer    : Peer := {}
  deriving DecidableEq, Repr

/-- One of the last 8 accepted commands of a session: sequence, tag, the cached reply once there is one (R35). -/
structure Cached where
  seq   : Nat
  tag   : Nat
  reply : Option Packet := none
  deriving DecidableEq, Repr

/-- What a command that has not been answered waits for: REG_POLL its register and deadline, SAFE_ACK the Keepers'
self-test, a wrong password its delay (R36, R392, R460). -/
inductive Wait where
  | poll (addr mask value due : Nat)
  | safeAck (fault : Nat)
  | denied (due : Nat)
  deriving DecidableEq, Repr

/-- A command that a primary has handed to a secondary: the device, and what its reply has to match (R37). -/
structure Away where
  dev  : Nat
  op   : Nat
  tag  : Nat
  seq  : Nat
  role : Nat
  peer : Peer := {}
  deriving DecidableEq, Repr

/-- A session (R32 to R36, R52). `sources` is the subscription mask, absent until the session subscribes; `lost` counts the
discarded records per source; `away` lists the commands with a secondary, `remote` the stepped operations
that secondaries run for it, each by device and token (R37); `resume` is the sequence of a held command that is being served; `number` tells sessions apart within the
model, `name` is the number SESSION_OPEN returned; `peer` sent the SESSION_OPEN of an Ethernet session. -/
structure Session where
  number    : Nat
  name      : Nat := 0
  role      : Nat
  heartbeat : Nat
  lastSeq   : Nat
  accepted  : List Cached := []
  eventSeq  : Nat := 0
  sources   : Option Nat := none
  minClass  : Nat := 1
  lost      : SMap Nat := []
  lostMark  : Nat := 0
  lastSeen  : Nat := 0
  wait      : Option (Wait × Packet) := none
  held      : List Instr := []
  resume    : Option Nat := none
  away      : List Away := []
  remote    : List (Nat × Nat) := []
  peer      : Peer := {}
  deriving DecidableEq, Repr

/-- A stepped operation (R44 to R48): its state as STEP_QUERY codes it, the ending that takes effect at the next step
boundary, the sources whose blocks it holds (`holdAll` for a mode transition, R63), what it was asked, what was uploaded. -/
structure StepOp where
  token    : Nat
  opcode   : Nat
  owner    : Option (Transport × Nat)
  step     : Nat := 0
  steps    : Nat := 0
  state    : Nat := 1
  ending   : Option (Nat × List Byte) := none
  holds    : List Nat := []
  holdAll  : Bool := false
  params   : List Nat := []
  bytes    : List Byte := []
  total    : Nat := 0
  chunkAt  : Nat := 0
  sentAt   : Option Nat := none
  result   : List Byte := []
  status   : Nat := 0
  doneAt   : Option Nat := none
  released : Bool := false
  deriving DecidableEq, Repr

/-- The command side of Watch (chapter 02): one session per transport, the pending outbound packets of each transport, the
stepped operations since reset with the tokens issued, the next session number, the error counts of CMD_ERRORS, the delayed replies of
commands that came without a session, each with the tick it is due (R460); `strays` lists the commands with a secondary that belong to no
session, each with its transport (R37). -/
structure CmdSt where
  spi       : Option Session := none
  link      : Option Session := none
  eth       : Option Session := none
  outSpi    : List Packet := []
  outLink   : List Packet := []
  outEth    : List Packet := []
  ops       : List StepOp := []
  issued    : List Nat := []
  sessNext  : Nat := 1
  discarded : Nat := 0
  crcErrors : Nat := 0
  late      : List (Nat × Transport × Packet) := []
  strays    : List (Transport × Away) := []
  deriving DecidableEq, Repr


/-! ### OUT, LNK, NET and CAS (chapters 10 to 12) -/

/-- A stream packet (Table 10.1): its type, frame, count, substream and payload; PCRC is computed when it is sent. -/
structure StreamPkt where
  kind    : Nat
  frame   : Nat
  seq     : Nat := 0
  dev     : Nat := 0
  sub     : Nat
  count   : Nat
  time    : U64 := 0
  last    : Bool := false
  payload : List Byte
  deriving DecidableEq, Repr

/-- What one link packet or datagram carries (R244): a packet of the command transport, a stream packet, a Bell frame, a
packet of the cascade. -/
inductive LpBody where
  | command (p : Packet)
  | stream (p : StreamPkt)
  | bell (bytes : List Byte)
  | cas (p : CasPacket)
  | discovery (bytes : List Byte)
  deriving DecidableEq, Repr

/-- A link packet in a retry buffer: its LSEQ, virtual channel, what it carries and its LENGTH (R244, R246). -/
structure Lp where
  seq  : Nat
  vc   : Nat
  body : LpBody
  len  : Nat
  deriving DecidableEq, Repr

/-- A point substream (R215, R217): closed packets waiting, the open packet's records, when its first record was queued, the
next SEQ, whether export of its lane is skipped (R232). -/
structure OutSub where
  packets   : List StreamPkt := []
  openFrame : Nat := 0
  openCount : Nat := 0
  openBytes : List Byte := []
  openAt    : Nat := 0
  seq       : Nat := 0
  skipping  : Bool := false
  deriving DecidableEq, Repr

/-- What OUT keeps of a frame until its frame packet is sent (Table 10.7). `det` holds N_PASS, N_SOLID, N_SOFT, N_WINDOW,
N_INTERF and N_DROPPED as DET counts them for the frame (R188), `latched` that DET has processed its last histogram; `lanes`
are the lanes that carried its points. -/
structure FrameRec where
  frame    : Nat
  start    : U64
  finish   : U64 := 0
  epoch    : Nat := 0
  flags    : Nat := 0
  planCrc  : Nat := 0
  sent     : Nat := 0
  dropped  : Nat := 0
  empty    : Nat := 0
  unplaced : Nat := 0
  pkts     : List Nat := [0, 0, 0, 0]
  ended    : Bool := false
  det      : List Nat := [0, 0, 0, 0, 0, 0]
  weather  : Nat := 0
  latched  : Bool := false
  lanes    : Nat := 0
  overflow : Bool := false
  skips    : Bool := false
  deriving DecidableEq, Repr

/-- An ARP resolution (R234): the MAC address once known, when it was, since when it has been unresolved, the last request and the port it
goes out on. -/
structure Arp where
  ip      : U32
  mac     : Option Nat := none
  since   : Nat := 0
  asked   : Nat := 0
  faulted : Bool := false
  port    : Nat := 0
  deriving DecidableEq, Repr

/-- What the network answers or asks of its own: an ARP request for an address, an ARP reply to an address and MAC address, an ICMP echo
reply (R234). -/
inductive NetOut where
  | ask (ip : Nat)
  | arp (ip mac : Nat)
  | echo (ip : Nat) (rest : List Byte)
  deriving DecidableEq, Repr

/-- OUT (R215 to R237). `routes` is the lane of each substream in force; `expQ` holds export segments with their lanes,
`frameQ` frame packets with theirs; `list` is the export list in the host's order with what was accepted, `expLane` the lane
of each accepted channel. The network settings and PTP state of R233 to R235 stand here too: `ethOut` is what the network has to send, each
with its port, `streamSrc` the peer of the Ethernet session that last sent STREAM_CONFIG. -/
structure OutSt where
  subs      : SMap OutSub := []
  routes    : SMap Nat := []
  expQ      : List (Nat × StreamPkt) := []
  expSeq    : Nat := 0
  frameQ    : List (Nat × StreamPkt) := []
  frameSeq  : SMap Nat := []
  frames    : List FrameRec := []
  list      : List (Nat × Bool) := []
  expLane   : SMap Nat := []
  hseq      : SMap Nat := []
  expPaused : Bool := false
  fwd       : SMap (List (Nat × CasPacket)) := []
  fwdFault  : Bool := false
  netAddr   : Nat := 0
  netMask   : Nat := 0
  netGate   : Nat := 0
  pointPort : Nat := 0
  ptp       : Nat := 0
  streamSrc : Peer := {}
  arp       : List Arp := []
  ethOut    : List (Nat × NetOut) := []
  ptpOfs    : Int := 0
  ptpSeen   : Bool := false
  ptpLocked : Bool := false
  ptpRun    : Nat := 0
  ptpLost   : Option Nat := none
  deriving DecidableEq, Repr

/-- The states of a Vymon Link lane, in the coding of Table 11.4. -/
inductive LaneState where
  | anchored
  | detect
  | train
  | align
  | active
  | idle
  | step
  | test
  | failed
  deriving DecidableEq, Repr

/-- The code of a lane state (Table 11.4). -/
def LaneState.code : LaneState → Nat
  | .anchored => 0 | .detect => 1 | .train => 2 | .align => 3 | .active => 4
  | .idle => 5 | .step => 6 | .test => 7 | .failed => 8

/-- One lane (R244 to R262): state and rate code, the transmitter's next LSEQ, its unacknowledged packets oldest first and
those still to be resent, the receiver's expected LSEQ, pauses, runs and times that its rules count, the step or retraining in
progress. `lock` stands for PCS lock in the Ethernet
personality, `reqOut` is the REQ code of the last request sent, `moved` holds the packets of a lost lane that this one resends. `sf0` is the tick its superframe count started from 0. The line: `sent` is the last packet started, `lineAt` the number of the block, since `sf0`, at which its HEAD
stands, `scr` the scrambler's register there; `rxCw` counts the codewords received, `badCws` the latest bad ones; `frame` is the last
Ethernet frame sent. -/
structure Lane where
  state     : LaneState := .anchored
  rate      : Nat := 0
  since     : Nat := 0
  lock      : Bool := false
  precTx    : Bool := false
  precRx    : Bool := false
  txSeq     : Nat := 0
  unacked   : List Lp := []
  resend    : List Lp := []
  replays   : Nat := 0
  ackAt     : Nat := 0
  rxExpect  : Nat := 0
  nak       : Bool := false
  paused    : Nat := 0
  pausedAt  : SMap Nat := []
  missRun   : Nat := 0
  badTimes  : List Nat := []
  margin    : Nat := 0
  retrains  : List Nat := []
  trainBlocks : Nat := 0
  farIdle   : Bool := false
  quietAt   : Nat := 0
  exitAt    : Nat := 0
  sf0       : Nat := 0
  offered   : Option (Nat × Nat) := none
  stepTo    : Option (Nat × Nat) := none
  stepFrom  : Option Nat := none
  stepAt    : Nat := 0
  keepSeq   : Bool := false
  lost      : Bool := false
  lostAt    : Nat := 0
  lostRate  : Nat := 0
  attempts  : Nat := 0
  moved     : List Lp := []
  reqOut    : Nat := 0
  heldAt    : Option Nat := none
  sent      : Option Lp := none
  lineAt    : Nat := 0
  scr       : Nat := 0
  rxCw      : Nat := 0
  badCws    : List Nat := []
  frame     : List Byte := []
  deriving DecidableEq, Repr

/-- LNK (chapter 11): the lanes, the profile and the settings in force (both as Table 11.11), the running test (lane, code,
end tick), the tick at which the running injection is over and the superframe that it has injected into last, the lanes lost during the
frame running. -/
structure LnkSt where
  lanes     : SMap Lane := []
  cfg       : Nat := 0x0100020F
  testOn    : Bool := false
  testLane  : Nat := 0
  testCode  : Nat := 0
  testEnd   : Nat := 0
  testBits  : Nat := 0
  testErrs  : Nat := 0
  testLock  : Bool := false
  injEnd    : Nat := 0
  injLast   : Option Nat := none
  lostFrame : Bool := false
  restored  : Bool := false
  deriving DecidableEq, Repr

/-- A secondary as the primary knows it (R269 to R280): admitted, excluded with the reason, absent; its identity, delay and
drift, and what it has answered to the check of a transition. -/
structure Secondary where
  admitted : Bool := false
  excluded : Bool := false
  absent   : Bool := false
  delay    : Nat := 0
  drift    : Int := 0
  echoes   : List Int := []
  rejoin   : Bool := false
  lostAt   : Option Nat := none
  deriving DecidableEq, Repr

/-- A frame on or for the CAS_TIME line (R270): TYPE, bits [91:16] of Table 12.2, the ticks when it was queued and when its start pattern
goes out. -/
structure CasFrame where
  kind    : Nat
  payload : Nat
  born    : Nat
  start   : Nat
  deriving DecidableEq, Repr

/-- CAS (chapter 12). On a secondary `timeSet` tells that its count was set from TIME frames, `lastFrame` when the last valid
frame came, `myDelay` its own delay; `nextFrame` the announced boundary (frame, tick); `modeAt` the announced transition. On
the primary `sendAt` is when the next TIME frame goes out; `outFrames` are the frames queued for CAS_TIME, in their order on the line, `lineFree`
the tick from which the line is free of those that started, `sent` the 96 bits of the frames that started last. On a secondary `hello` tells that
its discovery packet waits (R269). -/
structure CasSt where
  index     : Nat := 0
  secs      : SMap Secondary := []
  found     : Bool := false
  myDelay   : Nat := 0
  timeSet   : Bool := false
  timeOk    : Bool := false
  lastFrame : Nat := 0
  nextFrame : Option (Nat × Nat) := none
  modeAt    : Option (Nat × Nat) := none
  sendAt    : Nat := 0
  outFrames : List CasFrame := []
  lineFree  : Nat := 0
  hello     : Bool := false
  sent      : List Nat := []
  edgeAt    : Option Nat := none
  silent    : Bool := false
  deriving DecidableEq, Repr

/-! ### PDS, TID and SFT (chapters 13 to 15) -/

/-- One loop of an axis (R287, R288, R296): the sections in force, their x1, x2, y1, y2, the last clamped output, whether the
clamp acted on it, the last input, a pending set with its flag and the loop ticks waited, and the runs of the following-error
and settling timers. -/
structure LoopSt where
  coefs   : List (List Int) := []
  hist    : List (Int × Int × Int × Int) := []
  out     : Int := 0
  sat     : Bool := false
  input   : Int := 0
  pending : Option (List (List Int)) := none
  flagged : Bool := false
  waited  : Nat := 0
  feRun   : Nat := 0
  settle  : Nat := 0
  deriving DecidableEq, Repr

/-- A sample an axis uses: its normalised value, its instant in reference ticks, its SETTLING tag. -/
structure AxisSample where
  value    : Int
  at'      : Nat
  settling : Bool := false
  deriving DecidableEq, Repr

/-- An entry of an axis's history (R298): its tick, and θ and ω, or φ, the NCO word, A_m and ψ of a RESONANT axis; an entry
that is not `live` marks that the axis left STARTING and RUN. -/
structure AxisPast where
  at'  : Nat
  live : Bool := true
  res  : Bool := false
  a    : Int := 0
  b    : Int := 0
  c    : Int := 0
  d    : Int := 0
  deriving DecidableEq, Repr

/-- The states of an axis (Table 13.3). -/
inductive AxisState where
  | off
  | starting
  | run
  | safe
  | fault
  deriving DecidableEq, Repr

/-- The code of an axis state (Table 13.3). -/
def AxisState.code : AxisState → Nat
  | .off => 0 | .starting => 1 | .run => 2 | .safe => 3 | .fault => 4

/-- One axis of Pedestal (R283 to R299): type and AXIS_CONFIG block, state, loops, the set-point of the inner loop, misses,
sticky flags, the fault that holds it, the tick's samples and result, the registers as they act in this tick (TGT_A to
PRED_LIMIT), the latest measurement (θ, its instant in 1/320 tick, ω in Q16.16), the encoder counts and stamps, the NCO, the
trajectory (Q16.16 AU), the history newest first. -/
structure Axis where
  kind     : Nat := 0
  cfg      : List Byte := []
  state    : AxisState := .off
  inner    : LoopSt := {}
  outer    : LoopSt := {}
  setPoint : Int := 0
  nextSet  : Option Int := none
  result   : Option Int := none
  uForce   : Int := 0
  done     : Bool := true
  missRun  : Nat := 0
  missTotal : Nat := 0
  ovrRun   : Nat := 0
  sticky   : Nat := 0
  faultNum : Nat := 0
  startAt  : Nat := 0
  got      : Option AxisSample := none
  got2     : Option AxisSample := none
  lat      : List Nat := []
  theta    : Int := 0
  thetaAt  : Option Nat := none
  omega    : Int := 0
  nE       : Nat := 0
  tEnc     : Option Nat := none
  idxSeen  : Nat := 0
  sinceIdx : Nat := 0
  fBase    : Option Nat := none
  term     : Int := 0
  nco      : Nat := 0
  phi      : Nat := 0
  phiAt    : Nat := 0
  psi      : Int := 0
  amp      : Int := 0
  traj     : Int := 0
  trajUp   : Bool := true
  past     : List AxisPast := []
  predNow  : Option (Int × Int × Nat) := none
  perrMax  : Nat := 0
  predWarn : Option Nat := none
  pwmA     : Nat := 0
  pwmB     : Nat := 0
  deriving DecidableEq, Repr

/-- A DAC output moving to a code, at `slew` codes per µs since a tick, or at once (R292, R299). -/
structure Dac where
  start : Nat := 0
  goal  : Nat := 0
  since : Nat := 0
  slew  : Nat := 0
  deriving DecidableEq, Repr

/-- PDS: the axes, the DACs, the last inner tick and its count. -/
structure PdsSt where
  axes   : SMap Axis := []
  dacs   : SMap Dac := []
  tickAt : Nat := 0
  tickN  : Nat := 0
  deriving DecidableEq, Repr

/-- What a snapshot keeps of an input (R317, R318). -/
structure TidAcc where
  sum    : Int := 0
  count  : Nat := 0
  lo     : Int := 0
  hi     : Int := 0
  settle : Nat := 0
  ovr    : Bool := false
  clamp  : Bool := false
  full   : Bool := false
  deriving DecidableEq, Repr

/-- A delivered sample (Table 14.2), with the reference tick of its start beside the device time. -/
structure Sample where
  time     : U64 := 0
  tick     : Nat := 0
  code     : Int := 0
  range    : Nat := 0
  ovr      : Bool := false
  clamp    : Bool := false
  settling : Bool := false
  tone     : Bool := false
  inj      : Bool := false
  slice    : Nat := 0
  deriving DecidableEq, Repr

/-- One input of Tide (R302 to R318): its gain, the run of small samples, the last two values, accumulators and snapshot, the latest sample and how many were delivered. -/
structure TidInput where
  gain    : Nat := 0
  small   : Nat := 0
  last    : Int := 0
  last2   : Int := 0
  acc     : TidAcc := {}
  snap    : TidAcc := {}
  sample  : Option Sample := none
  count   : Nat := 0
  deriving DecidableEq, Repr

/-- What a slice does: nothing, a discharge or a conversion (R306) of an input, with its end or start. -/
inductive SliceJob where
  | idle
  | discharge (input : Nat) (inj : Bool) (due : Nat)
  | convert (input : Nat) (inj : Bool) (gain : Nat) (time : U64) (tick : Nat)
  deriving DecidableEq, Repr

/-- One SAR slice (R306, R319, R320): its state as TID_SLICE codes it, rotations failed in a row, when it was last calibrated and
put into service, offsets in codes, gain factors in Q1.15. -/
structure Slice where
  state  : Nat := 0
  fails  : Nat := 0
  calAt  : Nat := 0
  since  : Nat := 0
  off    : List Int := [0, 0, 0, 0]
  gc     : List Int := [32768, 32768, 32768, 32768]
  job    : SliceJob := .idle
  deriving DecidableEq, Repr

/-- TID (chapter 14). `queue` holds the inputs of the pass that are still to be converted, `inject` the injected requests
waiting; `calOn` is the slice whose calibration runs, until `calEnd`; `swapIn` the slice waiting to replace `swapOut`. -/
structure TidSt where
  inputs    : SMap TidInput := []
  slices    : List Slice := [{}, {}, { state := 1 }]
  queue     : List Nat := []
  passOn    : Bool := false
  trigPend  : Bool := false
  trigAt    : Option Nat := none
  trigWarn  : Option Nat := none
  ptick     : Nat := 0
  inject    : List Nat := []
  toneAt    : Nat := 0
  toneMask  : Nat := 0
  toneEnd   : Nat := 0
  impFail   : Nat := 0
  rotAt     : Nat := 0
  calOn     : Option Nat := none
  calEnd    : Nat := 0
  swap      : Option (Nat × Nat) := none
  rotStop   : Bool := false
  halted    : Bool := false
  fgCal     : Bool := false
  fgDone    : List Nat := []
  tempAt    : Nat := 0
  therm     : SMap Nat := []
  accLatch  : List Nat := []
  deriving DecidableEq, Repr

/-- A filter of a Sifter channel: decimation MLOG, RATIO of a resampler (0 for a decimating FIR) and taps (R328, R331). -/
structure Fir where
  taps  : List Int := []
  deriving DecidableEq, Repr

/-- An entry of a channel's output FIFO (R337): value, flags as SFT_POP_META codes them (bits 30 to 24), sequence, time. -/
structure SftOut where
  value : Int
  flags : Nat
  seq   : Nat
  time  : Nat
  deriving DecidableEq, Repr

/-- One bin of a single-frequency detector (R335, R336): its phase, the sums of the running window, samples and periods in it. -/
structure SfdBin where
  phase   : Nat := 0
  si      : Rat := 0
  sq      : Rat := 0
  n       : Nat := 0
  periods : Nat := 0
  deriving DecidableEq, Repr

/-- One Sifter channel (R325 to R338). `stages` are the half-band delay lines with their decimation phase, `line` the FIR's
delay line newest first, `firN` its inputs counted, `frac` the resampler's accumulator in 1/2²⁴; `fade` is the output count of
a running fade from `old`; `fill` the outputs that still carry FILL; `flags` the flags collected since the last output. -/
structure SftChan where
  en      : Bool := false
  rate    : Nat := 0
  h       : Nat := 0
  mlog    : Nat := 0
  ratio   : Nat := 0
  taps    : List Int := []
  old     : List Int := []
  fade    : Nat := 0
  fadeLen : Nat := 0
  staged  : Option (List Int) := none
  stages  : List (List Int × Bool) := []
  line    : List Int := []
  firN    : Nat := 0
  frac    : Nat := 0
  fill    : Nat := 0
  flags   : Nat := 0
  lastN   : Nat := 0
  held    : Int := 0
  missed  : Nat := 0
  stale   : Bool := false
  frame   : Option Nat := none
  fifo    : List SftOut := []
  seq     : Nat := 0
  made    : Nat := 0
  dropped : Nat := 0
  satWarn : Option Nat := none
  track   : SfdBin := {}
  tone    : SfdBin := {}
  amp     : Nat := 0
  phase   : Int := 0
  toneAmp : Nat := 0
  tonePhase : Int := 0
  broken  : Bool := false
  deriving DecidableEq, Repr

/-- SFT: the channels and what SFT_POP_VAL and SFT_CH_AMP latch. -/
structure SftSt where
  chans    : SMap SftChan := []
  popMeta  : Nat := 0x80000000
  popTime  : Nat := 0
  phaseLatch : SMap Int := []
  deriving DecidableEq, Repr

/-! ### GLZ (chapter 16) -/

/-- The states of a camera port (R344), in the coding of CAM_STATUS. -/
inductive PortState where
  | disabled
  | waiting
  | streaming
  | noSignal
  | offline
  deriving DecidableEq, Repr

/-- The code of a port state (R344). -/
def PortState.code : PortState → Nat
  | .disabled => 0 | .waiting => 1 | .streaming => 2 | .noSignal => 3 | .offline => 4

/-- A colour map (R350): its size, its texels row by row, and per row the frame number and exposure time. -/
structure ColourMap where
  w      : Nat
  h      : Nat
  frame  : Nat
  rows   : List (Int × List Nat)
  deriving DecidableEq, Repr

/-- A queued CCI write (R348): address, bytes, the delay stated, the frame planned, whether it carries the staged exposure
offset. -/
structure CciWrite where
  addr  : Nat
  bytes : List Byte
  delay : Nat
  frame : Nat
  deriving DecidableEq, Repr

/-- The published statistics of a frame (R347): frame, settings number, histogram and zone sums. -/
structure CamStats where
  frame    : Nat := 0
  settings : Nat := 0
  hist     : List Nat := []
  zones    : List (Nat × Nat × Nat) := []
  deriving DecidableEq, Repr

/-- One camera port (R340 to R352). `lines` are the received lines of the frame in progress with their arrival stamps;
`pendingSet` lists the settings numbers issued with the frame each comes into force and the exposure offset that comes with
it; `mesh` holds the 768 nodes, `geom` K then E in Q16.16. -/
structure GlzPort where
  state    : PortState := .disabled
  en       : Bool := false
  lanes    : Nat := 0
  format   : Nat := 0
  width    : Nat := 0
  height   : Nat := 0
  rate     : Nat := 0
  frame    : Nat := 0
  sof      : U64 := 0
  sofTick  : Nat := 0
  inFrame  : Bool := false
  lines    : List (U64 × List Nat) := []
  received : Nat := 0
  queue    : List CciWrite := []
  settings : Nat := 0
  setNow   : Nat := 0
  pendingSet : List (Nat × Nat × Option Nat) := []
  staged   : Option Nat := none
  expOfs   : Nat := 0
  lateBlank : Bool := false
  front    : Option ColourMap := none
  back     : Bool := false
  stats    : CamStats := {}
  mesh     : List Nat := []
  geom     : List Int := []
  quietAt  : Nat := 0
  deriving DecidableEq, Repr

/-! ### CAL (chapter 17) -/

/-- The calibrated values of one temperature (Table 17.5): SKEW by channel as s24 codes, vernier gains by 34 × tile + word, the
emitter walk by 16 × bank + point, LNT_XGAIN by bank. -/
structure CalSet where
  temp  : Int := 0
  mask  : Nat := 0
  time  : U64 := 0
  skew  : SMap Nat := []
  vgain : SMap Nat := []
  walk  : SMap Nat := []
  xgain : SMap Nat := []
  deriving DecidableEq, Repr

/-- The global calibration (Table 17.6): BREAKDOWN by region, the DET tables by 1,024 × table + index, corrections of the slices,
AGE and CAL_ZERO as codes, LAMP, camera geometry by port. -/
structure CalGlobal where
  breakdown : SMap Nat := []
  tables    : SMap Nat := []
  slices    : List (List Int × List Int) := []
  age       : Nat := 0
  zero      : Nat := 0
  lamp      : Int := 0
  geom      : SMap (List Int) := []
  deriving DecidableEq, Repr

/-- CAL. `result` holds result, code and device time of each quantity; `queue` what a run has still to do, `outcome` what it has
found, `staged` what it will commit; `tRun` and `tQ` are T_die at the start of the run and of the quantity; `tLast` T_die at the
last committed run; `walk` the emitter walk in force; `qAt` the tick at which the quantity began, `events` the injected events that the vernier
4 × channel + v has stamped for it (R363), `held` the global values that wait for the next boundary (R361). -/
structure CalSt where
  result   : SMap (Nat × Nat × U64) := []
  due      : Nat := 0
  dueTold  : Nat := 0
  running  : Nat := 0
  queue    : List Nat := []
  outcome  : List (Nat × Nat × Nat) := []
  staged   : List (Nat × List Int) := []
  tRun     : Int := 0
  tQ       : Int := 0
  tLast    : SMap (Option Int) := []
  tForce   : Int := 0
  recompute : Bool := false
  lamp     : Int := 0
  walk     : SMap Nat := []
  factoryOnly : Bool := false
  loaded   : List Nat := []
  bootDue  : Bool := false
  qAt      : Nat := 0
  events   : SMap Nat := []
  held     : List (Nat × List Int) := []
  corrected : Nat := 0
  deriving DecidableEq, Repr

/-- The wear levelling of the Pantry (R370, R371): writes per physical block, the physical block of each logical one, the spare
blocks, retired ones, the directory's sequence number, words corrected since reset. -/
structure PantryMap where
  writes  : SMap Nat := []
  place   : SMap Nat := []
  freed   : List Nat := []
  taken   : List Nat := []
  retired : List Nat := []
  dirSeq  : Nat := 0
  deriving DecidableEq, Repr

/-- An axis of the boot profile (S12): its configuration and loops. -/
structure BootAxis where
  axis  : Nat
  kind  : Nat
  cfg   : List Byte
  inner : List (List Int)
  outer : List (List Int)
  timeout : Nat := 5000
  deriving DecidableEq, Repr

/-- A camera of the boot profile (R349): where its identity is read, the identity expected, its enable state, CAM_CONFIG's
parameters. -/
structure BootCam where
  port   : Nat
  addr   : Nat
  cciReg : Nat
  ident  : Nat
  en     : Bool
  lanes  : Nat
  format : Nat
  width  : Nat
  height : Nat
  rate   : Nat
  deriving DecidableEq, Repr

/-- The levels on the input pins that an outside party drives; a reset does not change them (R383, R386, R388, R389): the two
field-select channels, EDM_A (bit 0) and EDM_B, the readback lines 0A, 0B, 1A, 1B (bits 0 to 3), RESTART after its debounce. -/
structure PinSt where
  fselA    : Nat := 0
  fselB    : Nat := 0
  edm      : Nat := 0
  readback : Nat := 0
  restart  : Bool := false
  deriving DecidableEq, Repr

/-- A sample record as DET sends it to a Keeper (R375): the cell, PFLAGS, N_RX, ANGLE, the passing returns as (RANGE, CLASS,
INTENSITY), BG_MAX. -/
structure SampleRec where
  h     : Nat
  v     : Nat
  time  : U64
  flags : Nat
  nRx   : Nat
  angle : Int
  rets  : List (Nat × Nat × Nat)
  bgMax : Nat
  deriving DecidableEq, Repr

/-- One Keeper (R374, R379 to R382): the records on their way from DET, the counts c by (4 × set + field, guard row, guard
column) as `guardKey` packs them, per plan cell the tick (plus 1) of its last sample and the tick from which T_STALE runs, the
violated fields (bit 4 × set + field), the pending searches oldest first, a backlog of R382, the pairs it commands on, samples
evaluated, its last self-test and clock check, when the next ones are due, a cell that a search last confirmed. -/
structure Keeper where
  inbox    : List SampleRec := []
  counts   : SMap Nat := []
  seen     : SMap Nat := []
  base     : SMap Nat := []
  violated : Nat := 0
  searches : List (Nat × Nat × Nat × Nat) := []
  backlog  : Bool := false
  on       : Nat := 0
  samples  : Nat := 0
  selfBad  : Bool := false
  clockBad : Bool := false
  selfAt   : Nat := 0
  clockAt  : Nat := 0
  hit      : Nat × Nat := (0, 0)
  deriving DecidableEq, Repr

/-- The Keepers (chapter 18): the two evaluations, the guard map sets as loaded, the set in force, what the field-select inputs have
shown since when, the latched SAFE faults oldest first, whether one was raised since the last SAFE_ACK was taken, a SAFE fault carried out of GUARD, the arm token (value, set, tick), the
pairs that await a restart, condition 1 to 5 of R384 held since, the ticks at which lines, readback lines and pairs last changed,
the press of RESTART, the test pulse slots, the named analog inputs that fail, the counters of Table 18.8. -/
structure KprSt where
  a         : Keeper := {}
  b         : Keeper := {}
  sets      : SMap (List Byte) := []
  set       : Nat := 0
  fselAt    : Nat := 0
  latched   : List FaultId := []
  safeSince : Bool := false
  carried   : Bool := false
  arm       : Option (Nat × Nat × Nat) := none
  needRestart : Nat := 0
  condAt    : SMap (Option Nat) := []
  lineAt    : SMap Nat := []
  rbAt      : SMap Nat := []
  pairAt    : SMap Nat := []
  disagree  : Option Nat := none
  pressAt   : Option Nat := none
  pressDead : Bool := false
  stuck     : Bool := false
  pulse0    : Nat := 0
  pulseSlot : Nat := 0
  pulseBad  : Nat := 0
  tideBad   : Nat := 0
  tideAt    : SMap Nat := []
  guardAt   : Nat := 0
  frozen    : Nat := 0
  trips     : Nat := 0
  restarts  : Nat := 0
  refused   : Nat := 0
  interf    : Nat := 0
  overload  : Nat := 0
  tripTime  : U64 := 0
  tripCell  : Nat := 0
  tripLatch : Nat × Nat := (0, 0)
  deriving DecidableEq, Repr

/-! ### SEC (chapter 23) -/

/-- The standing challenge: its scope, its nonce, the tick at which it was issued (R459). -/
structure Challenge where
  scope : Nat
  nonce : List Byte
  since : Nat
  deriving DecidableEq, Repr

/-- SEC (R450 to R463). `fused` are the fuse words as S02 read them; `service` and `scopeD` (SERVICE and DEBUG) tell, of a scope that was opened, by
what (1 vendor key, 2 owner key, 3 password) and by which session number; `slot` is the running firmware slot. -/
structure SecSt where
  fused     : SMap Nat := []
  service   : Option (Nat × Nat) := none
  scopeD    : Option (Nat × Nat) := none
  challenge : Option Challenge := none
  pwSet     : SMap Nat := []
  slot      : Nat := 0
  deriving DecidableEq, Repr

/-- The Pantry's Security region (R460): salt and hash of the service password once set, consecutive failures. -/
structure PwRecord where
  isSet : Bool := false
  salt  : List Byte := []
  hash  : List Byte := []
  fails : Nat := 0
  deriving DecidableEq, Repr

/-! ### The Pantry -/

/-- The Pantry (chapters 03, 05, 11, 17, 23): what persists over every reset. `fuses` are the fuse words as they stand now;
`fw` holds the image slots A and B. -/
structure Pantry where
  boot      : BootRecord := {}
  log       : List (List Byte) := []
  mask      : SMap Nat := []
  fuses     : SMap Nat := []
  fw        : SMap (List Byte) := []
  password  : PwRecord := {}
  lnkProfile : Option Nat := none
  axes      : List BootAxis := []
  cams      : List BootCam := []
  sets      : SMap (Option CalSet) := []
  factory   : Option CalSet := none
  global    : Option CalGlobal := none
  factoryGlobal : Option CalGlobal := none
  map       : PantryMap := {}
  deriving DecidableEq, Repr

/-! ### BEL (chapter 19) -/

/-- Bell (R397 to R410): running, the SEQ of the next frame, when the last frame was built and what it showed (bytes 22 to 27 as
a list), frames waiting unsent oldest first, the build times of the frames since START by SEQ, newest first, the CONFIRM side: connected, S_last, the last
consumer TIME, when the last one was accepted; recent check failures; when a rebuild of a withheld frame is due and since when CHECK
has been withheld; when F.BEL.003 was last raised; the counters; the source of the last BELL_CONFIG that came over Ethernet (R407). -/
structure BelSt where
  running   : Bool := false
  seq       : Nat := 0
  builtAt   : Nat := 0
  shown     : List Nat := []
  waiting   : List (List Byte) := []
  built     : List (Nat × Nat) := []
  connected : Bool := false
  sLast     : Option Nat := none
  timeLast  : Nat := 0
  confirmAt : Nat := 0
  fails     : List Nat := []
  rebuildAt : Option Nat := none
  heldSince : Option Nat := none
  supAt     : Option Nat := none
  sent      : Nat := 0
  received  : Nat := 0
  checkFail : Nat := 0
  late      : Nat := 0
  superseded : Nat := 0
  withheld  : Nat := 0
  rttMax    : Nat := 0
  src       : Peer := {}
  deriving DecidableEq, Repr

/-! ### WCH, SLT and PMC (chapters 20 to 22) -/

/-- The mirrored state of an epoch (R412): the command side, the plan slots, every RW and RWL register, and the settings that
commands keep beside the registers: Lantern's limits, the network settings; `points` are the delivery points, the next SEQ of each
source (R420). -/
structure Image where
  cmd     : CmdSt := {}
  slots   : SMap (List Byte) := []
  regs    : SMap Word := []
  limits  : SMap Nat := []
  points  : SMap Nat := []
  netAddr : Nat := 0
  netMask : Nat := 0
  netGate : Nat := 0
  deriving DecidableEq, Repr

/-- The standby's buffers (R412): the last sealed epoch, and the image whose copy runs while WchSt.copy says so. -/
structure Mirror where
  sealed  : Option Image := none
  copying : Option Image := none
  deriving DecidableEq, Repr

/-- One Watch unit (R411, R414): its state as Table 20.1 codes it, since when, its last heartbeat, the times of its failures and
their count, whether it was active when it failed, when it last became active. -/
structure WchUnit where
  state    : Nat := 0
  since    : Nat := 0
  beat     : Nat := 0
  failAt   : List Nat := []
  fails    : Nat := 0
  wasActive : Bool := false
  activeAt : U64 := 0
  activeHi : Nat := 0
  deriving DecidableEq, Repr

/-- The two units and the mirror (chapter 20): which unit is active, the number of the last sealed epoch, the start of the copy that runs, a
boundary that waits for its seal, the stretches of late, the next boundary, the longest copy in µs, pages of the last copy,
commands accepted since the capture, early boundaries, the cause of a swap that is pending, whether its boundary has come
and it waits for the end of a step, a lost Watch (F.WCH.003), the
counters. -/
structure WchSt where
  a         : WchUnit := {}
  b         : WchUnit := {}
  active    : Nat := 0
  epoch     : Nat := 0
  copy      : Option Nat := none
  waiting   : Bool := false
  stretches : List Nat := []
  nextAt    : Nat := 0
  longest   : Nat := 0
  pages     : Nat := 0
  journal   : Nat := 0
  early     : Nat := 0
  swap      : Option Nat := none
  swapStep  : Bool := false
  lost      : Bool := false
  failovers : Nat := 0
  takebacks : Nat := 0
  rehearsals : Nat := 0
  deriving DecidableEq, Repr

/-- Where an LED stands among its on-runs (R428, R433): the runs counted modulo 256, a stretch that is due, the slots it still lengthens
the present run by, the on-slots it has borrowed, the slots that the present run has lasted (0: dark). -/
structure LedWave where
  runs   : Nat := 0
  due    : Bool := false
  ext    : Nat := 0
  borrow : Nat := 0
  age    : Nat := 0
  deriving DecidableEq, Repr

/-- One indicator LED (R428, R432): the duty in force, how many of its periods have ended since the scan began, its on-runs as they stood at the
start of the period, failed tests in a row, its status (0 not tested, 1 good, 2 open), periods since its last qualifying run. -/
structure Led where
  duty   : Nat := 0
  period : Nat := 0
  wave   : LedWave := {}
  fails  : Nat := 0
  status : Nat := 0
  quiet  : Nat := 0
  deriving DecidableEq, Repr

/-- SLT (chapter 21): the LEDs, the tick at which the scan and the periods began, per channel the CUR in force before its last write and
the tick of that write, the pins marked by the last pin test, whether one is to run, the tick at which each engine's phase was 0,
low-headroom tests, when F.SLT.003 was last raised. -/
structure SltSt where
  leds    : SMap Led := []
  scanAt  : Nat := 0
  curOld  : SMap (Nat × Nat) := []
  marks   : Nat := 0
  testDue : Bool := false
  engAt   : SMap Nat := []
  lowHead : Nat := 0
  warnAt  : Option Nat := none
  deriving DecidableEq, Repr

/-- PMC (chapter 22): live counters, OVF bits, the held snapshot (values, OVF, device time), HI words latched by counter. -/
structure PmcSt where
  cnt    : SMap Nat := []
  ovf    : Nat := 0
  told   : Nat := 0
  snap   : Option (SMap Nat × Nat × U64) := none
  hi     : SMap Nat := []
  snapHi : Nat := 0
  deriving DecidableEq, Repr

end Sys2Proof.Machine
end

