-- ==== Sys2Proof/Machine/Regs.lean ====
section
/-! DEFINITION. The register map (R9, R12, R495, Table 26.1): one descriptor per register or array of registers, with the
bits of each access code and the reset value, from the register table of the block's chapter. What is marked "view" below is
computed from structured state when it is read; the rest is stored. -/

namespace Sys2Proof.Machine

/-- A register, or an array of `n` registers `stride` bytes apart repeated `m` times `mstride` apart: the bits of each
access code (Table 0.4; bits in none are RO), the reset value. -/
structure RegDesc where
  base    : Nat
  n       : Nat := 1
  stride  : Nat := 4
  m       : Nat := 1
  mstride : Nat := 0
  rw      : Nat := 0
  rwl     : Nat := 0
  w1c     : Nat := 0
  w1s     : Nat := 0
  rc      : Nat := 0
  wo      : Nat := 0
  reset   : Nat := 0
  deriving DecidableEq, Repr

/-- The index of `a` in an arithmetic run of `n` places `stride` apart from `b`. -/
def runIndex (b n stride a : Nat) : Option Nat :=
  if a < b then none
  else if stride = 0 then (if a = b then some 0 else none)
  else if (a - b) % stride = 0 ∧ (a - b) / stride < n then some ((a - b) / stride)
  else none

/-- Whether a descriptor names the address `a`. -/
def RegDesc.covers (d : RegDesc) (a : Nat) : Bool :=
  if a < d.base then false
  else if d.m ≤ 1 then (runIndex d.base d.n d.stride a).isSome
  else
    let q := (a - d.base) / d.mstride
    decide (q < d.m) && (runIndex (d.base + q * d.mstride) d.n d.stride a).isSome

/-- DEV (Tables 0.2, 3.6 to 3.9). All but RESET_CAUSE are views. -/
def regsDev : List RegDesc :=
  [ { base := 0x00000000 }, { base := 0x00000004 }, { base := 0x00000008, w1c := 0x3F },
    { base := 0x0000000C }, { base := 0x00000010 } ]

/-- CMD (Table 26.2): views. -/
def regsCmd : List RegDesc :=
  [ { base := 0x00001000 }, { base := 0x00001004 } ]

/-- BCN (Tables 4.7 to 4.10). STATUS and CTL.SOURCE are views. -/
def regsBcn : List RegDesc :=
  [ { base := 0x00020000, rwl := 0xFFF00900, reset := 0x00000900 },
    { base := 0x00020004, rwl := 0x13 },
    { base := 0x00020008, rwl := 0xFFF, reset := 0x320 },
    { base := 0x0002000C },
    { base := 0x00020010, n := 4, rwl := 0xFFFFFFFF },
    { base := 0x00020020, n := 4, rwl := 0xFFFF0031 },
    { base := 0x00020040, n := 16, rwl := 0xCF },
    { base := 0x00020080, rwl := 0x7FFFF, reset := 0x00021000 },
    { base := 0x00020084, rwl := 0xFFFFFFFF, reset := 0x76543210 },
    { base := 0x00020088, rwl := 0xFFFFFFFF, reset := 0xFEDCBA98 },
    { base := 0x0002008C, rwl := 0x3FFF, reset := 0x64 },
    { base := 0x00020090 },
    { base := 0x000200A0, n := 4 },
    { base := 0x000200C0, n := 4 },
    { base := 0x000200D0, n := 4 },
    { base := 0x000200E0 } ]

/-- LNT (Table 4.11). CAP, LIMIT, WINDOW and STATUS are views. -/
def regsLnt : List RegDesc :=
  [ { base := 0x00028000, n := 12 },
    { base := 0x00028040, n := 12, rwl := 0xFFFFFFFF },
    { base := 0x00028080, n := 3 },
    { base := 0x00028090, rwl := 0xFF0 },
    { base := 0x00028094, rwl := 0xFFFFFFFF },
    { base := 0x00028098, rwl := 0xFFFFFFFF },
    { base := 0x0002809C, rwl := 0xFFFFFFFF },
    { base := 0x000280A0, rwl := 0xFFFFFFFF },
    { base := 0x000280A4, rwl := 0xFFFFFF00, reset := 0x40006400 },
    { base := 0x000280A8, rwl := 0x1F1F1F1F },
    { base := 0x000280B0, n := 4, rwl := 0xFFFFFFFF },
    { base := 0x000280C0 },
    { base := 0x000280D0, n := 4 } ]

/-- SPD (Tables 5.6 and 5.7). STATUS, HV_MEAS, HV_REC, REGION_SUM, MASK_COUNT, LAMP and the window are views. -/
def regsSpd : List RegDesc :=
  [ { base := 0x00030000, rwl := 0x100, w1s := 0x3 },
    { base := 0x00030004, rwl := 0x01FFFFFF, reset := 0x012C0064 },
    { base := 0x00030008 },
    { base := 0x0003000C, rwl := 0xFFFFFFFF, reset := 0x7D004650 },
    { base := 0x00030010 },
    { base := 0x00030014 },
    { base := 0x00030018, rwl := 0x7F7F7F7F, reset := 0x3C200C14 },
    { base := 0x0003001C },
    { base := 0x00030020 },
    { base := 0x00030024 },
    { base := 0x00030028 },
    { base := 0x0003002C },
    { base := 0x00030030, rw := 0x000FFFFF },
    { base := 0x00030400, n := 256, rwl := 0xFFFFFFFF } ]

/-- CLK (Tables 6.4 and 6.5). CTL and CLK_PPS_CFG, CLK_PPS_LIM and AGE are stored. -/
def regsClk : List RegDesc :=
  [ { base := 0x00040000, rw := 0x113 },
    { base := 0x00040004 },
    { base := 0x00040008, rwl := 0x007FFFFF },
    { base := 0x0004000C },
    { base := 0x00040010 },
    { base := 0x00040014 },
    { base := 0x00040018, wo := 0xFFFFFFFF },
    { base := 0x0004001C, wo := 0xFFFFFFFF },
    { base := 0x00040020 },
    { base := 0x00040024 },
    { base := 0x00040028 },
    { base := 0x0004002C },
    { base := 0x00040030, rw := 0xFFFFFFFF, reset := 0x04000010 },
    { base := 0x00040034, rw := 0xFFFFFFFF, reset := 0x13880040 },
    { base := 0x00040038 } ]

/-- DMK (Tables 6.6 and 6.7). -/
def regsDmk : List RegDesc :=
  [ { base := 0x00048000, rwl := 0x07070707 },
    { base := 0x00048004, rwl := 0x77, reset := 0x66 },
    { base := 0x00048008, rw := 0xFFFF0002, w1s := 0x1, reset := 0x03E80000 },
    { base := 0x0004800C },
    { base := 0x00048010 },
    { base := 0x00048014 },
    { base := 0x00048020, n := 4, rw := 0xFFFFFFFE, w1s := 0x1, reset := 0x0FA0 },
    { base := 0x00048040, n := 16 },
    { base := 0x00048080, n := 16 },
    { base := 0x000480C0, n := 4 } ]

/-- TILE[n] (Tables 7.6 and 7.7). STATUS, PF_Q and the table window are views. -/
def regsTile : List RegDesc :=
  [ { base := 0x00100000, m := 48, mstride := 0x10000, rwl := 0x00FF3F00, w1s := 0x1, reset := 0x00030000 },
    { base := 0x00100004, m := 48, mstride := 0x10000 },
    { base := 0x00100008, m := 48, mstride := 0x10000 },
    { base := 0x0010000C, m := 48, mstride := 0x10000, rc := 0x003F0000 },
    { base := 0x00100010, m := 48, mstride := 0x10000 },
    { base := 0x00100014, m := 48, mstride := 0x10000 },
    { base := 0x00100018, m := 48, mstride := 0x10000, rw := 0x0003003F },
    { base := 0x0010001C, m := 48, mstride := 0x10000 },
    { base := 0x00101000, n := 16, stride := 16, m := 48, mstride := 0x10000, rwl := 0x00FFFFFF },
    { base := 0x00101004, n := 16, stride := 16, m := 48, mstride := 0x10000, rc := 0xFFFFFFFF },
    { base := 0x00101008, n := 16, stride := 16, m := 48, mstride := 0x10000, rc := 0xFFFFFFFF },
    { base := 0x0010100C, n := 16, stride := 16, m := 48, mstride := 0x10000 } ]

/-- DET (Tables 8.5 and 8.6). STATUS, the counters and the window are views. -/
def regsDet : List RegDesc :=
  [ { base := 0x00500000, rwl := 0x00070311, w1s := 0x00800000, reset := 0x00030100 },
    { base := 0x00500004, rwl := 0xFFFF, reset := 0x0340 },
    { base := 0x00500008, rwl := 0x1F0F, reset := 0x0804 },
    { base := 0x0050000C, rwl := 0x3F, reset := 0x20 },
    { base := 0x00500010, rwl := 0x00FFFFFF, reset := 0x00602030 },
    { base := 0x00500014, rwl := 0xFF, reset := 0x80 },
    { base := 0x00500018, rwl := 0x00FFFFFF },
    { base := 0x0050001C, rwl := 0xFFFF, reset := 0x2080 },
    { base := 0x00500020, rw := 0x0007FFFF },
    { base := 0x00500024 },
    { base := 0x00500030, n := 7 },
    { base := 0x00500400, n := 256, rwl := 0xFFFFFFFF } ]

/-- TND (Tables 9.9 and 9.10). All but ADAPT and SUN_RATE are views. -/
def regsTnd : List RegDesc :=
  [ { base := 0x00580000 }, { base := 0x00580004 },
    { base := 0x00580008, rwl := 0xFFFFFF0F, reset := 0x2080E602 },
    { base := 0x0058000C, rwl := 0xFFFFFFFF, reset := 0x00030D40 },
    { base := 0x00580010 }, { base := 0x00580014 }, { base := 0x00580018 } ]

/-- PMC (Tables 22.6 and 22.7). Counters, OVF, STATUS and SNAP_TIME are views. -/
def regsPmc : List RegDesc :=
  [ { base := 0x00900000, rw := 0x111 },
    { base := 0x00900004 },
    { base := 0x00900008 }, { base := 0x0090000C },
    { base := 0x00900010, w1c := 0xFFFFFFFF }, { base := 0x00900014, w1c := 0xFFFFFFFF },
    { base := 0x00900020, n := 8, rw := 0xFFFFFFFF },
    { base := 0x00900100, n := 64, stride := 8, rw := 0x0100FFFF },
    { base := 0x00900104, n := 64, stride := 8, rw := 0xFFFFFF0F, reset := 0xFF000000 },
    { base := 0x00900400, n := 64, stride := 8, rw := 0xFFFFFFFF },
    { base := 0x00900404, n := 64, stride := 8, rw := 0xFFFF } ]

/-- EVT (Table 22.8). STATUS, RAISED, HEAD, WRAPS and the windows are views. -/
def regsEvt : List RegDesc :=
  [ { base := 0x00910000, rw := 0x107, reset := 0x1 },
    { base := 0x00910004 }, { base := 0x00910008 }, { base := 0x0091000C }, { base := 0x00910010 },
    { base := 0x00910014, rw := 0x1FF }, { base := 0x00910018, rw := 0x3FF },
    { base := 0x00910040, n := 16 }, { base := 0x00910080, n := 6 } ]
/-- OUT (Tables 10.12 and 10.13). -/
def regsOut : List RegDesc :=
  [ { base := 0x00600000, rwl := 0x03FF3113, reset := 0x00321000 },
    { base := 0x00600004 }, { base := 0x00600008 }, { base := 0x0060000C }, { base := 0x00600010 },
    { base := 0x00600014 }, { base := 0x00600018 }, { base := 0x0060001C },
    { base := 0x00600020, rwl := 0xFFFFFFFF }, { base := 0x00600024, rwl := 0xFFFF },
    { base := 0x00600028, rwl := 0x3FFF, reset := 0x40 },
    { base := 0x00600030 }, { base := 0x00600034 }, { base := 0x00600038 },
    { base := 0x00600100, n := 256 } ]

/-- LNK (Tables 11.10 to 11.12). CFG, STATUS, PROFILE, LANE_STAT and the test registers are views. -/
def regsLnk : List RegDesc :=
  [ { base := 0x00680000 }, { base := 0x00680004 },
    { base := 0x00680008, rwl := 0xFFFF, reset := 0xC210 },
    { base := 0x0068000C, rwl := 0xFFFFFF00, reset := 0x200F1900 },
    { base := 0x00680010, rwl := 0xFFFF, reset := 0x0408 },
    { base := 0x00680014 },
    { base := 0x00680040, n := 8, rwl := 0xFFFF3F00 },
    { base := 0x00680060, n := 8 },
    { base := 0x00680080, n := 32, rc := 0xFFFFFFFF },
    { base := 0x00680100 }, { base := 0x00680104 }, { base := 0x00680108 },
    { base := 0x0068010C }, { base := 0x00680110 },
    { base := 0x00680114, rw := 0x0703F0FF, w1s := 0x80000000, reset := 0x00001001 } ]

/-- GLZ (Tables 16.5 to 16.8). -/
def regsGlz : List RegDesc :=
  [ { base := 0x00700000, rwl := 0xFFFFFFFF, reset := 0x01000000 },
    { base := 0x00700004, rwl := 0xFFFFFFFF },
    { base := 0x00700008, rwl := 0x00FFFFFF },
    { base := 0x00700010, rw := 0x0007FFFF },
    { base := 0x00700400, n := 256, rwl := 0xFFFFFFFF },
    { base := 0x00701000, n := 3, m := 2, mstride := 0x1000 },
    { base := 0x0070100C, m := 2, mstride := 0x1000, rwl := 0x00733710, reset := 0x00001000 },
    { base := 0x00701010, m := 2, mstride := 0x1000, rwl := 0x07FF07FF, reset := 0x03C00500 },
    { base := 0x00701014, n := 2, m := 2, mstride := 0x1000, rwl := 0xFFFFFFFF, reset := 0x01000100 },
    { base := 0x0070101C, m := 2, mstride := 0x1000, rwl := 0x3FFF, reset := 0x0200 },
    { base := 0x00701020, m := 2, mstride := 0x1000, rwl := 0xFFFFFFFF, reset := 0x10001000 },
    { base := 0x00701024, m := 2, mstride := 0x1000, rwl := 0xFFFF, reset := 0x1000 },
    { base := 0x00701028, n := 2, stride := 8, m := 2, mstride := 0x1000, rwl := 0xFFFFFFFF, reset := 0x1000 },
    { base := 0x0070102C, n := 2, stride := 8, m := 2, mstride := 0x1000, rwl := 0xFFFFFFFF },
    { base := 0x00701038, m := 2, mstride := 0x1000, rwl := 0xFFFF, reset := 0x1000 },
    { base := 0x0070103C, m := 2, mstride := 0x1000, rwl := 0x00FFFFFF },
    { base := 0x00701040, m := 2, mstride := 0x1000, rwl := 0x00FFFFFF, reset := 0xC350 },
    { base := 0x00701044, n := 3, m := 2, mstride := 0x1000, rw := 0xFFFFFFFF },
    { base := 0x00701050, n := 7, m := 2, mstride := 0x1000 },
    { base := 0x0070106C, m := 2, mstride := 0x1000, rc := 0xFFFFFFFF },
    { base := 0x00701070, n := 2, m := 2, mstride := 0x1000 },
    { base := 0x00701078, m := 2, mstride := 0x1000, rwl := 0x3, reset := 0x1 } ]

/-- CAS (Table 12.6). -/
def regsCas : List RegDesc :=
  [ { base := 0x00A00000, rwl := 0xF, reset := 0x1 },
    { base := 0x00A00004 }, { base := 0x00A00008 }, { base := 0x00A0000C, rc := 0xFFFFFFFF },
    { base := 0x00A00014, n := 3 }, { base := 0x00A00024, n := 3 },
    { base := 0x00A00034, n := 3 }, { base := 0x00A00044, n := 3 } ]


/-- SEC (Table 23.7). All but FUSE_ADDR and FUSE_DATA are views or write-only. -/
def regsSec : List RegDesc :=
  [ { base := 0x00980000, n := 8 },
    { base := 0x00980020, rw := 0xFF }, { base := 0x00980024, rw := 0xFFFFFFFF },
    { base := 0x00980028, w1s := 0x1 }, { base := 0x0098002C },
    { base := 0x00980030, n := 4, wo := 0xFFFFFFFF }, { base := 0x00980040, wo := 0x3 } ]

/-- PDS (Tables 13.6 and 13.7). CTL and the RWL registers of an axis are stored, the rest are views. -/
def regsPds : List RegDesc :=
  [ { base := 0x00780000, rwl := 0xFFFFF, reset := 0x00000FA0 },
    { base := 0x00780004 }, { base := 0x00780008 },
    { base := 0x0078000C, rw := 0x13 },
    { base := 0x00780080, n := 40 },
    { base := 0x00780200, n := 9, m := 4, mstride := 0x100 },
    { base := 0x00780224, m := 4, mstride := 0x100, w1c := 0x1C1 },
    { base := 0x00780228, n := 3, m := 4, mstride := 0x100, rwl := 0xFFFFFFFF },
    { base := 0x00780234, n := 2, m := 4, mstride := 0x100, rwl := 0xFFFFFFFF, reset := 0x7FFF8001 },
    { base := 0x0078023C, m := 4, mstride := 0x100, rwl := 0xFFFFFFFF, reset := 0x80008000 },
    { base := 0x00780240, m := 4, mstride := 0x100, rwl := 0xFFFFFFFF, reset := 0x20009C40 },
    { base := 0x00780244, m := 4, mstride := 0x100, rwl := 0xFFFF, reset := 0x000003E8 },
    { base := 0x00780248, m := 4, mstride := 0x100, rwl := 0xFFFFFFFF },
    { base := 0x0078024C, n := 9, m := 4, mstride := 0x100 },
    { base := 0x00780270, m := 4, mstride := 0x100, rc := 0xFFFFFFFF },
    { base := 0x00780274, m := 4, mstride := 0x100, rwl := 0xFFFFFFFF, reset := 0x00091A2B } ]

/-- TID (Tables 14.5 to 14.7). Status, flags, window, slices and temperatures are views. -/
def regsTid : List RegDesc :=
  [ { base := 0x00790000, rwl := 0xFF0FF0F0, reset := 0x0800A020 },
    { base := 0x00790004 },
    { base := 0x00790008, rwl := 0xFFFFFFFF },
    { base := 0x0079000C, n := 2, rwl := 0xFFFFFFFF },
    { base := 0x00790014, rwl := 0xFFFF },
    { base := 0x00790018, rwl := 0xFFFFFDFF, reset := 0x00882064 },
    { base := 0x0079001C, rwl := 0xFF13 },
    { base := 0x00790020, rc := 0xFFFFFFFF },
    { base := 0x00790024, w1c := 0x1 },
    { base := 0x00790028, n := 2, w1c := 0xFFFFFFFF },
    { base := 0x00790030 },
    { base := 0x00790034, w1s := 0x1 },
    { base := 0x00790038, rw := 0x1F },
    { base := 0x00790040, n := 5 },
    { base := 0x00790100, n := 32, rwl := 0xFFFFFF00, reset := 0x0C000000 },
    { base := 0x00790200, n := 3 },
    { base := 0x00790300, n := 12 } ]

/-- SFT (Tables 15.4 and 15.5). FADE, DET, FREQ, RD_SEL and SAT are stored, the rest are views. -/
def regsSft : List RegDesc :=
  [ { base := 0x007A0000 }, { base := 0x007A0004 },
    { base := 0x007A0008, w1c := 0xFFFFFFFF },
    { base := 0x007A000C, rw := 0x1F },
    { base := 0x007A0010, n := 3 },
    { base := 0x007A0100, n := 2, m := 32, mstride := 0x20 },
    { base := 0x007A0108, m := 32, mstride := 0x20, rwl := 0x7FF, reset := 0x40 },
    { base := 0x007A010C, m := 32, mstride := 0x20, rwl := 0xF03F0000, reset := 0x00010000 },
    { base := 0x007A0110, m := 32, mstride := 0x20, rwl := 0xFFFFFFFF },
    { base := 0x007A0114, n := 3, m := 32, mstride := 0x20 } ]

/-- CAL (Table 17.8). CTL, BOOT_MASK, DARK_AMB and ZERO are stored, the rest are views. -/
def regsCal : List RegDesc :=
  [ { base := 0x00800000, rwl := 0xFF010000, reset := 0x40010000 },
    { base := 0x00800004, n := 11 },
    { base := 0x00800030, rwl := 0x1FF, reset := 0x23 },
    { base := 0x00800034, rwl := 0xFFFFFF, reset := 0x3E8 },
    { base := 0x00800038, rwl := 0xFFFFFF },
    { base := 0x00800040, n := 9 },
    { base := 0x00800080, n := 2 },
    { base := 0x00800100, n := 16 } ]

/-- KPR (Tables 18.8 and 18.9). The words at 0x0000 to 0x003C are stored; the rest are views. -/
def regsKpr : List RegDesc :=
  [ { base := 0x00880000, rwl := 0x733, reset := 0x103 },
    { base := 0x00880004, rwl := 0xFFFFFFFF, reset := 0x28640064 },
    { base := 0x00880008, rwl := 0xFFFF, reset := 0x12C },
    { base := 0x0088000C, rwl := 0xFF00FFFF, reset := 0x0A0000C8 },
    { base := 0x00880010, rwl := 0xFFFF, reset := 0x3E8 },
    { base := 0x00880014, rwl := 0xFFFFFFFF, reset := 0x01000000 },
    { base := 0x00880018, n := 2 },
    { base := 0x00880020, n := 4, stride := 8, rwl := 0x8000001F },
    { base := 0x00880024, n := 4, stride := 8, rwl := 0xFFFFFFFF, reset := 0x7FFF8001 },
    { base := 0x00880040, n := 19 } ]

/-- BEL (Table 19.5). -/
def regsBel : List RegDesc :=
  [ { base := 0x00890000, rwl := 0xFF01, reset := 0x400 },
    { base := 0x00890004, rwl := 0xFFFFFFFF },
    { base := 0x00890008, rwl := 0xFFFFF, reset := 0x2710 },
    { base := 0x0089000C, rwl := 0xFFFFFFFF },
    { base := 0x00890010, rwl := 0xFFFFFFFF, reset := 0xC211C211 },
    { base := 0x00890014, n := 8 },
    { base := 0x00890034, rc := 0xFFFFFF } ]

/-- WCH (Table 20.4). CTL is a view; the counters are views too. -/
def regsWch : List RegDesc :=
  [ { base := 0x00010000, w1s := 1 },
    { base := 0x00010004 },
    { base := 0x00010008, rwl := 0x3F, reset := 4 },
    { base := 0x0001000C, rwl := 0x3FF, reset := 0xA },
    { base := 0x00010010, n := 9 } ]

/-- SLT (Tables 21.3 and 21.4). STATUS, PINTEST, LOWHEAD and the status of an LED are views. -/
def regsSlt : List RegDesc :=
  [ { base := 0x008A0000, rw := 0xFFF1, w1s := 0x80000000, reset := 0xFF10 },
    { base := 0x008A0004 },
    { base := 0x008A0008 },
    { base := 0x008A000C, rc := 0xFFFFFFFF },
    { base := 0x008A0020, n := 8, rw := 0x800000FF, reset := 0x64 },
    { base := 0x008A0040, n := 4, stride := 8, rw := 0xC3FF0000, reset := 0x00640000 },
    { base := 0x008A0044, n := 4, stride := 8, rw := 0x0FFF0FFF, reset := 0x0FFF0000 },
    { base := 0x008A0100, n := 32, rw := 0x07100FFF } ]

/-- Every register of the device, block by block (R495). -/
def regTable : List (List RegDesc) :=
  [regsDev, regsCmd, regsBcn, regsLnt, regsSpd, regsClk, regsDmk, regsTile, regsDet, regsTnd,
    regsOut, regsLnk, regsGlz, regsPmc, regsEvt, regsCas, regsSec, regsPds, regsTid, regsSft, regsCal,
    regsKpr, regsBel, regsWch, regsSlt]

/-- The descriptor of the register at an address, if the tables name one. -/
def regDesc (a : Nat) : Option RegDesc :=
  regTable.findSome? (fun l => l.find? (fun d => d.covers a))

/-- The bits that a word of a DET table holds (Table 8.7): 0 WALK, 1 KREF and σ_ref, 2 NEAR_LIMIT and O. -/
def detTabMask (t i : Nat) : Nat :=
  match t with
  | 0 => if i < 512 then 0xFFFF else 0
  | 1 => if i < 32 then 0xFFFFFFFF else if i < 36 then 0xFFFF else 0
  | _ => if i = 0 then 0xFFFFFF else if i < 33 then 0xFFFF else 0

/-- The value a stored register has after a reset (Reset column of its table). -/
def regReset (a : Nat) : Nat :=
  match regDesc a with
  | some d => d.reset
  | none => 0

end Sys2Proof.Machine
end

