-- ==== Sys2Proof/Machine/State.lean ====
section
/-! DEFINITION. The state of the device: everything the spec gives it, as plain data, the queue of waiting commands, and the
state after reset (R55, R69, R498). -/

namespace Sys2Proof.Machine

/-- The hardware beside Watch's command side: one part per block. `ticks` counts 1.25 ns reference ticks for every interval
timer (R137); `free` counts the draws of free values (log entry 1); `outbox` is what the step running hands to Watch;
`ack` and `ackData` are the status and data of the last register access made by an event row; `vgain` holds the vernier
gain words of the tiles, 34 × tile + word (Table 7.9); `preds` holds the latest prediction of each axis as Beacon and
Lantern read it: angle, rate in Q16.16 per tick, the tick it is valid for (R274, R297); `temps` holds the on-die sensors in 1/64 °C
(R322); `latch` holds, by address, what a read of a LO or first word latched (R136, R137); `elev` is the direction table
(Table 16.8). -/
structure Hw where
  ticks  : Nat := 0
  free   : Nat := 0
  regs   : SMap Word := []
  outbox : List Signal := []
  ack    : Nat := 0
  ackData : List Byte := []
  dev    : DevSt := {}
  on     : AlwaysOn := {}
  pantry : Pantry := {}
  evt    : EvtSt := {}
  clk    : ClkSt := {}
  dmk    : DmkSt := {}
  bcn    : BcnSt := {}
  lnt    : LntSt := {}
  spd    : SpdSt := {}
  temps  : SMap Int := []
  vgain  : SMap Nat := []
  latch  : SMap Nat := []
  tiles  : SMap Tile := []
  descs  : List Descriptor := []
  preds  : SMap (Option (Int × Int × Nat)) := []
  det    : DetSt := {}
  tnd    : TndSt := {}
  out    : OutSt := {}
  lnk    : LnkSt := {}
  cas    : CasSt := {}
  glz    : SMap GlzPort := []
  elev   : SMap Nat := []
  pins   : PinSt := {}
  kpr    : KprSt := {}
  bel    : BelSt := {}
  wch    : WchSt := {}
  slt    : SltSt := {}
  pmc    : PmcSt := {}
  sec    : SecSt := {}
  pds    : PdsSt := {}
  tid    : TidSt := {}
  sft    : SftSt := {}
  cal    : CalSt := {}
  deriving DecidableEq, Repr

/-- The state of the device: the queue of waiting commands, the hardware, Watch's command side, the standby's copies of it. -/
structure State where
  pending : List Instr := []
  hw      : Hw := {}
  cmd     : CmdSt := {}
  mirror  : Mirror := {}
  deriving DecidableEq, Repr

/-- Why a step stops. -/
inductive Fault where
  /-- TIDE_CONVERSION_END of an input driven past the clamp's current: R305 leaves what follows undefined. Safe: the model
  stops where the device would go on in a way that nothing states. -/
  | clampOvercurrent
  deriving DecidableEq, Repr

/-- Why a command has no meaning. -/
inductive Refusal where
  /-- A command whose meaning the model has not reached, answered by its arm of Machine/Dispatch.lean alone. Safe. -/
  | notModelled (mnemonic : String)
  deriving DecidableEq, Repr

/-- The device right after power-up: BOOT at S01, the cause POWER_ON set (R55, R72); no command waits, no session is open. -/
def State.reset : State := { hw := { on := { resetCause := 1 }, dev := { step := 1 } } }

end Sys2Proof.Machine
end

