-- ==== Sys2Proof/Machine/Record.lean ====
section
/-! DEFINITION. Registers by address, free values, event records, the fault table, descriptors of shots that do not fire
(R12, R51 to R53, R89, R441, R446, R447). -/

namespace Sys2Proof.Machine

/-- The stored word of the register at `a`. -/
def Hw.reg (hw : Hw) (a : Nat) : Nat :=
  (mget (wordOf (regReset a)) hw.regs a).toNat

/-- `hw` with the stored word at `a` replaced. -/
def Hw.setReg (hw : Hw) (a v : Nat) : Hw :=
  { hw with regs := mset (wordOf (regReset a)) hw.regs a (wordOf v) }

/-- A stored counter register raised by `n`, sticking at 0xFFFF_FFFF (R441). -/
def Hw.stick (hw : Hw) (a n : Nat) : Hw :=
  hw.setReg a (satAdd 0xFFFFFFFF (hw.reg a) n)

/-- A stored traffic counter raised by `n`, wrapping (R441). -/
def Hw.wrap (hw : Hw) (a n : Nat) : Hw :=
  hw.setReg a (hw.reg a + n)

/-- A free value (log entry 1). -/
def Hw.draw (hw : Hw) : Nat × Hw :=
  (Config.freeNat hw.free, { hw with free := hw.free + 1 })

/-- The number of source IDs an event record can carry (Table 2.19). -/
def srcDev : Nat := 0x01
def srcCmd : Nat := 0x02
def srcWch : Nat := 0x03
def srcBcn : Nat := 0x04
def srcLnt : Nat := 0x05
def srcSpd : Nat := 0x06
def srcClk : Nat := 0x07
def srcDmk : Nat := 0x08
def srcTile (n : Nat) : Nat := 0x10 + n
def srcDet : Nat := 0x40
def srcTnd : Nat := 0x41
def srcOut : Nat := 0x42
def srcLnk : Nat := 0x43
def srcGlz (p : Nat) : Nat := 0x44 + p
def srcPds : Nat := 0x46
def srcTid : Nat := 0x47
def srcSft : Nat := 0x48
def srcCal : Nat := 0x49
def srcKpr (k : Nat) : Nat := 0x4A + k
def srcBel : Nat := 0x4C
def srcSlt : Nat := 0x4D
def srcPmc : Nat := 0x4E
def srcSec : Nat := 0x4F
def srcCas : Nat := 0x50
def srcEvt : Nat := 0x51

/-- The bytes of an event record (Table 2.18). -/
def Record.bytes (r : Record) : List Byte :=
  le 1 r.src ++ le 3 r.seq ++ le 8 r.time.toNat ++ le 2 r.code ++ le 1 r.payload.length
    ++ le 1 (b2n r.lost) ++ r.payload

/-- A record entered in the event log: 64 bytes, zero-padded; a full ring overwrites the oldest (R447). -/
def logRecord (r : Record) (e : EvtSt) : EvtSt :=
  { e with
    log := mset [] e.log e.head ((r.bytes ++ List.replicate 64 0).take 64)
    head := (e.head + 1) % 512
    wraps := if e.head = 511 then (e.wraps + 1) % 2 ^ 32 else e.wraps }

/-- A record of `src` with the next number of its sequence (R51), handed to Watch. -/
def Hw.post (hw : Hw) (src code : Nat) (payload : List Byte) (logged : Bool) : Hw :=
  let q := mget 0 hw.evt.seq src
  let r : Record := { src := src, seq := q, time := hw.clk.time, code := code, payload := payload.take 48 }
  let e := { hw.evt with
    seq := mset 0 hw.evt.seq src ((q + 1) % 2 ^ 24)
    recent := mset [] hw.evt.recent src ((r :: mget [] hw.evt.recent src).take 64) }
  { hw with evt := if logged then logRecord r e else e, outbox := hw.outbox ++ [.record r] }

/-- An event that is no fault (codes 0xE000 to 0xFFFF, R53). -/
def Hw.event (hw : Hw) (src code : Nat) (payload : List Byte) : Hw :=
  hw.post src code payload false

/-- The fault table with one more raise of `f` (R446): a new entry in order of first raise, up to 1,024. -/
def raiseEntry (f : FaultId) (t : U64) (e : EvtSt) : EvtSt :=
  if e.table.any (fun x => decide (x.id = f)) then
    { e with table := e.table.map (fun x =>
        if x.id = f then { x with count := satAdd 0xFFFF x.count 1, raised := true, last := t } else x) }
  else if e.table.length < 1024 then
    { e with table := e.table ++ [{ id := f, count := 1, raised := true, first := t, last := t }] }
  else { e with tableFull := satAdd 0xFFFF e.tableFull 1 }

/-- The count an entry of the fault table holds. -/
def EvtSt.count (e : EvtSt) (f : FaultId) : Nat :=
  match e.table.find? (fun x => decide (x.id = f)) with
  | some x => x.count
  | none => 1

/-- Whether the fault `f` is raised now. -/
def Hw.isRaised (hw : Hw) (f : FaultId) : Bool :=
  hw.evt.table.any (fun x => decide (x.id = f) && x.raised)

/-- Whether a fault of class `c` is raised now. -/
def Hw.classRaised (hw : Hw) (c : Nat) : Bool :=
  hw.evt.table.any (fun x => decide (x.id.cls = c) && x.raised)

/-- A fault recorded: table entry, event record with count and state first (Table 2.18), event log (R447). -/
def Hw.recordFault (hw : Hw) (f : FaultId) (extra : List Byte) : Hw :=
  let e := raiseEntry f hw.clk.time hw.evt
  let hw := { hw with evt := e }
  hw.post f.src f.code (le 2 (e.count f) ++ le 1 1 ++ extra) (decide (bits (hw.reg 0x00910000) 0 3 ≤ f.cls))

/-- A fault's flag cleared, with a record of state 0 (R104, R446); nothing happens when it is not raised. -/
def Hw.clearFault (hw : Hw) (f : FaultId) : Hw :=
  if hw.isRaised f then
    let e := { hw.evt with table := hw.evt.table.map (fun x => if x.id = f then { x with raised := false } else x) }
    let hw := { hw with evt := e }
    hw.post f.src f.code (le 2 (e.count f) ++ le 1 0) (decide (bits (hw.reg 0x00910000) 0 3 ≤ f.cls))
  else hw

/-- Whether the protective function is enabled: the ordering code read from the fuses is AG7680-IS (Table 0.1). -/
def Hw.isIS (hw : Hw) : Bool :=
  hw.dev.codeRead = some 0

/-- The descriptor of a shot that does not fire, sent to the tiles (R89, R140). -/
def Hw.sendMissing (hw : Hw) (s : Shot) (why : Missing) : Hw :=
  { hw with descs := hw.descs ++ [{ shots := [s], missing := some why, sent := hw.ticks }] }

end Sys2Proof.Machine
end

