-- ==== Sys2Proof/Machine/Bus.lean ====
section
/-! DEFINITION. The Beacon bus and the FIRE pairs (R82 to R85): the words of its frames with their CRCs, how long a frame holds the
bus, and the pulse a shot puts on its pairs. -/

namespace Sys2Proof.Machine

/-- A SELECT frame (Table 4.2). -/
def selectWord (addr row prof : Nat) : Nat :=
  let h := addr % 16 * 128 + row % 16 * 8 + prof % 8
  h * 32 + crcMsb 5 0x05 h 11 0x1F

/-- A command frame (Table 4.3). -/
def commandWord (addr type payload : Nat) : Nat :=
  let h := (addr % 16 * 16 + type % 16) * 2 ^ 32 + payload % 2 ^ 32
  h * 256 + crcMsb 8 0x07 h 40 0

/-- The command frames: PROFILE_WRITE, STATUS_READ, FAULT_CLEAR, MAP, DISARM_ALL. -/
def profileWord (a prof cur cols : Nat) : Nat :=
  commandWord a 1 (prof % 8 * 2 ^ 29 + cur % 1024 * 2 ^ 19 + cols % 2 ^ 16)
def statusWord (a : Nat) : Nat := commandWord a 2 0
def faultClearWord (a : Nat) : Nat := commandWord a 3 0
def mapWord (a : Nat) (hold : Bool) : Nat := commandWord a 4 (b2n hold)
def disarmWord : Nat := commandWord 0xF 0xF 0

/-- A command frame put on the bus once it is free; it holds the bus for `ticks` with its gap (R83, R84). -/
def Hw.busCommand (hw : Hw) (word ticks : Nat) : Hw :=
  { hw with bcn := { hw.bcn with busUntil := max hw.bcn.busUntil hw.ticks + ticks, busCmd := true, lastFrame := (48, word) } }

/-- DISARM_ALL: no driver holds a row any longer (R84, R90, R95). -/
def Hw.disarmAll (hw : Hw) : Hw :=
  ({ hw with bcn := { hw.bcn with
      drivers := (List.range 16).foldl (fun m a => mupd {} m a (fun d => { d with held := none })) hw.bcn.drivers } }).busCommand disarmWord 400

/-- The FIRE pairs that a shot of a bank's row pulses (R80, R82): SPLIT, BOTH, A_ONLY. -/
def Hw.firePairs (hw : Hw) (b row : Nat) : List Nat :=
  match bits (hw.reg (0x00020020 + 4 * b)) 4 2 with
  | 0 => [2 * b + row / 32 % 2]
  | 1 => [2 * b, 2 * b + 1]
  | _ => [2 * b]

/-- W(b, CUR): the emitter walk table in force, linear between its points at CUR = 64 × j + 63, flat beyond its ends (R360). -/
def Hw.walkAt (hw : Hw) (b cur : Nat) : Rat :=
  let w := fun j => ((mget 0 hw.cal.walk (16 * b + j) : Nat) : Rat)
  if cur ≤ 63 then w 0
  else
    let j := (cur - 63) / 64
    if 15 ≤ j then w 15 else w j + (w (j + 1) - w j) * (((cur - 63) % 64 : Nat) : Rat) / 64

/-- D(b, CUR): what a FIRE edge is delayed behind the fire instant, in fine steps (R360). -/
def Hw.fireDelay (hw : Hw) (b cur : Nat) : Nat :=
  let top := (List.range 64).foldl (fun m i => max m (mget 0 hw.cal.walk i)) 0
  (roundOpen 402 ((top : Rat) - hw.walkAt b cur)).toNat

/-- The pulse of a shot: (max(PW, 1) + 1) × 0.625 ns, from D(b, CUR) behind its fire tick, on every pair it pulses (R82, R360). -/
def Hw.pulse (hw : Hw) (s : Shot) (t : Nat) : Hw :=
  { hw with bcn := { hw.bcn with
      fire := (hw.firePairs s.bank s.row).foldl (fun m p => mset none m p (some { rise := t, late := hw.fireDelay s.bank s.cur, width := max s.pw 1 + 1 })) hw.bcn.fire } }

/-- Whether a FIRE pair is high now; it is idle in DORMANT and BOOT (R68, Table 3.2). -/
def Hw.fireHigh (hw : Hw) (pair : Nat) : Bool :=
  match mget none hw.bcn.fire pair with
  | some p => decide (hw.dev.mode ≠ .dormant ∧ hw.dev.mode ≠ .boot ∧ 80 * p.rise + p.late ≤ 80 * hw.ticks ∧ 80 * hw.ticks < 80 * p.rise + p.late + 40 * p.width)
  | none => false

end Sys2Proof.Machine
end

