-- ==== Sys2Proof/Machine/Plan.lean ====
section
/-! DEFINITION. A scan plan as its bytes lie (Tables 9.1 to 9.3): fields, governors (R193), rows and strips (R194), point
origins, the anchor and fit of a shape (R195), shot groups and targets (R198). A plan "in force" is its bytes with 16 region
entries (R192). -/

namespace Sys2Proof.Machine

/-- Header fields (Table 9.1). -/
def planNRoi (p : List Byte) : Nat := field p 1 1
def planV (p : List Byte) : Nat := field p 2 2
def planH (p : List Byte) : Nat := field p 4 2
def planAxis (p : List Byte) : Nat := field p 6 1
def planReturns (p : List Byte) : Nat := field p 7 1
def planOrigin (p : List Byte) : Int := sfield p 8 4
def planStep (p : List Byte) : Int := sfield p 12 4
def planRate (p : List Byte) : Nat := field p 16 4
def planIW (p : List Byte) : Nat := field p 24 1
def planIH (p : List Byte) : Nat := field p 25 1
def planKInit (p : List Byte) : Nat := field p 27 1 % 16
def planKMin (p : List Byte) : Nat := field p 27 1 / 16
def planGateW (p : List Byte) : Nat := field p 28 1
def planDepthMax (p : List Byte) : Nat := field p 29 1
def planZoomDiv (p : List Byte) : Nat := field p 30 1
def planAdaptOff (p : List Byte) : Bool := tb (field p 31 1) 0
def planRangeMin (p : List Byte) : Nat := field p 32 2
def planRangeMax (p : List Byte) : Nat := field p 34 2
def planPointLanes (p : List Byte) : Nat := field p 36 1 % 16
def planExportLanes (p : List Byte) : Nat := field p 37 1 % 16
def planPW (p : List Byte) : Nat := field p 38 1

/-- The bytes of a stored plan with 16 region entries, those from N_ROI onwards disabled (R192). -/
def planInForce (p : List Byte) : List Byte :=
  let n := 16 * planNRoi p
  p.take 64 ++ bytesAt (p.drop 64 |>.take n) 0 256 ++ p.drop (64 + n)

/-- Region entry `i` of a plan in force (Table 9.2). -/
def roiAt (p : List Byte) (i : Nat) : List Byte := bytesAt p (64 + 16 * i) 16

/-- Row entry `v` of a plan in force (Table 9.3). -/
def rowAt (p : List Byte) (v : Nat) : List Byte := bytesAt p (320 + 8 * v) 8
def rowBank (p : List Byte) (v : Nat) : Nat := field (rowAt p v) 0 1
def rowErow (p : List Byte) (v : Nat) : Nat := field (rowAt p v) 1 1
def rowEcol (p : List Byte) (v : Nat) : Nat := field (rowAt p v) 2 1
def rowProfile (p : List Byte) (v : Nat) : Nat := field (rowAt p v) 3 1 % 8
def rowX (p : List Byte) (v : Nat) : Nat := field (rowAt p v) 4 2
def rowY (p : List Byte) (v : Nat) : Nat := field (rowAt p v) 6 2

/-- Whether the enabled region entry `i` contains the cell (h, v). -/
def roiHolds (p : List Byte) (h v i : Nat) : Bool :=
  let r := roiAt p i
  decide (field r 10 1 ≠ 0) && decide (field r 0 2 ≤ h) && decide (h ≤ field r 2 2) &&
    decide (field r 4 2 ≤ v) && decide (v ≤ field r 6 2)

/-- The region entry that governs the cell (h, v): highest PRIORITY, the lower index on a tie; none is the header (R193). -/
def governor (p : List Byte) (h v : Nat) : Option Nat :=
  (List.range 16).foldl (fun best i =>
    if roiHolds p h v i then
      match best with
      | none => some i
      | some j => if field (roiAt p j) 10 1 < field (roiAt p i) 10 1 then some i else some j
    else best) none

/-- What a governor sets (R193, R194): shots per point, priority, HDIV, VSUB, shape byte, first and last column, whether it
switches adaptation off. -/
def govSpp (p : List Byte) : Option Nat → Nat
  | some i => field (roiAt p i) 8 2
  | none => field p 20 2
def govPrio (p : List Byte) : Option Nat → Nat
  | some i => field (roiAt p i) 10 1
  | none => 0
def govHdiv (p : List Byte) : Option Nat → Nat
  | some i => field (roiAt p i) 11 1 % 16
  | none => field p 22 1 % 16
def govVsub (p : List Byte) : Option Nat → Nat
  | some i => field (roiAt p i) 11 1 / 16
  | none => field p 22 1 / 16
def govShape (p : List Byte) : Option Nat → Nat
  | some i => if field (roiAt p i) 12 1 = 0xFF then field p 26 1 else field (roiAt p i) 12 1
  | none => field p 26 1
def govFirst (p : List Byte) : Option Nat → Nat
  | some i => field (roiAt p i) 0 2
  | none => 0
def govLast (p : List Byte) : Option Nat → Nat
  | some i => min (field (roiAt p i) 2 2) (planH p - 1)
  | none => planH p - 1
def govAdaptOff (p : List Byte) : Option Nat → Bool
  | some i => tb (field (roiAt p i) 13 1) 0
  | none => planAdaptOff p

/-- The governors of the cells of row `v`, each once, in column order. -/
def rowGovernors (p : List Byte) (v : Nat) : List (Option Nat) :=
  (List.range (planH p)).foldl (fun l h => let g := governor p h v; if l.contains g then l else l ++ [g]) []

/-- Of the governors of a row, the one of highest priority, the lower index on a tie (R194). -/
def topGovernor (p : List Byte) (v : Nat) : Option Nat :=
  (rowGovernors p v).foldl (fun best g =>
    if govPrio p best < govPrio p g then g
    else if govPrio p best = govPrio p g then
      match best, g with
      | some i, some j => if j < i then some j else some i
      | _, _ => best
    else best) none

/-- VSUB(v), N_acc(v) and P(v) of a row (R194). -/
def rowVsub (p : List Byte) (v : Nat) : Nat :=
  max 1 ((rowGovernors p v).foldl (fun m g => max m (govVsub p g)) 1)
def rowNAcc (p : List Byte) (v : Nat) : Nat := (rowGovernors p v).foldl (fun m g => max m (govSpp p g)) 1
def rowPrio (p : List Byte) (v : Nat) : Nat := (rowGovernors p v).foldl (fun m g => max m (govPrio p g)) 0

/-- Whether column `h` is a point origin of row `v`, and the columns its point spans (R194). -/
def isOrigin (p : List Byte) (v h : Nat) : Bool :=
  let g := governor p h v
  decide (govFirst p g ≤ h) && decide ((h - govFirst p g) % (max 1 (govHdiv p g)) = 0)
def pointSpan (p : List Byte) (v h : Nat) : Nat :=
  let g := governor p h v
  min (max 1 (govHdiv p g)) (govLast p g + 1 - h)

/-- The points of row `v` that include column `h`: the origins at or before `h` whose spans hold it, ascending. -/
def pointsAt (p : List Byte) (v h : Nat) : List Nat :=
  ((List.range 4).filterMap (fun d =>
    if d ≤ h ∧ isOrigin p v (h - d) ∧ d < pointSpan p v (h - d) then some (h - d) else none)).reverse

/-- Width, height and microcell count of a shape (Table 5.3). -/
def shapeW : Nat → Nat
  | 0 => 1 | 1 => 2 | 2 => 2 | 3 => 4 | 4 => 4 | 5 => 8 | 6 => 8 | 7 => 4 | _ => 1
def shapeH : Nat → Nat
  | 0 => 1 | 1 => 1 | 2 => 2 | 3 => 2 | 4 => 4 | 5 => 4 | 6 => 8 | 7 => 16 | _ => 1
def shapeN (s : Nat) : Nat := shapeW s * shapeH s

/-- The shape in force if it fits the strip, else the largest below it that fits; COLUMN64 that does not fit falls back to
BLOCK64's order (R195). -/
def fitShape (w h s : Nat) : Nat :=
  if shapeW s ≤ w ∧ shapeH s ≤ h then s
  else
    let top := if s = 7 then 6 else s
    ((List.range (top + 1)).filter (fun c => decide (shapeW c ≤ w ∧ shapeH c ≤ h))).foldl max 0

/-- The anchor of a shape in strip `s` of row `v` (R195). -/
def anchorX (p : List Byte) (v sh : Nat) : Nat :=
  ((rowX p v + (planIW p - shapeW sh) / 2) / shapeW sh) * shapeW sh
def stripH (p : List Byte) (v : Nat) : Nat := planIH p / rowVsub p v
def anchorY (p : List Byte) (v s sh : Nat) : Nat :=
  ((rowY p v + s * stripH p v + (stripH p v - shapeH sh) / 2) / shapeH sh) * shapeH sh

/-- The shot groups of a bank: pairs (EROW, PROFILE) of its rows, ascending (R198). -/
def groupsOf (p : List Byte) (b : Nat) : List (Nat × Nat) :=
  let rows := (List.range (planV p)).filter (fun v => decide (rowBank p v = b))
  let keys := rows.map (fun v => 8 * rowErow p v + rowProfile p v)
  ((List.range 512).filter (fun k => keys.contains k)).map (fun k => (k / 8, k % 8))

/-- The rows of one group of a bank. -/
def groupRows (p : List Byte) (b : Nat) (g : Nat × Nat) : List Nat :=
  (List.range (planV p)).filter (fun v => decide (rowBank p v = b ∧ rowErow p v = g.1 ∧ rowProfile p v = g.2))

/-- n(h): the shots a group fires at column `h`, the largest over the points of its placed rows that include `h`, of
ceil(N_acc / span) (R198). `rowN` gives the N_acc of a row's tracks, 0 for a row not placed. -/
def shotsAt (p : List Byte) (rowN : Nat → Nat) (b : Nat) (g : Nat × Nat) (h : Nat) : Nat :=
  ((groupRows p b g).filter (fun v => decide (0 < rowN v))).foldl (fun m v =>
    (pointsAt p v h).foldl (fun m o => max m (ceilDiv (rowN v) (max 1 (pointSpan p v o)))) m) 0

/-- The fraction of the frame, as a pair (numerator, denominator), at which target (h, i, g of G) of n lies, in columns:
h + (i + (g + 0.5) / G) / n (R198). -/
def targetFrac (h i g bigG n : Nat) : Nat × Nat :=
  (h * (2 * bigG * n) + 2 * bigG * i + 2 * g + 1, 2 * bigG * n)

/-- The target tick under TIME, from the frame's first boundary (R198); the frame period is 800,000,000,000 / FRAME_RATE. -/
def targetTick (p : List Byte) (h i g bigG n : Nat) : Nat :=
  let (a, d) := targetFrac h i g bigG n
  (800000000000 * a) / (max 1 (planRate p) * d * max 1 (planH p))

/-- The columns a group's shots light: the OR of its rows' ECOL columns (R198). -/
def groupCols (p : List Byte) (b : Nat) (g : Nat × Nat) : Nat :=
  maskOf ((groupRows p b g).map (fun v => rowEcol p v))

end Sys2Proof.Machine
end

