-- ==== Sys2Proof/Machine/Member.lean ====
section
/-! DEFINITION. Which histogram a shot belongs to (R140, R158 to R160, R162, R167, R170, R200): the points of a channel, their buffers,
the stall rule, stacked sums, the descriptors of missing shots, the close of everything at the end of SCAN. -/

namespace Sys2Proof.Machine

/-- A tile, and `hw` with a tile replaced. -/
def Hw.tile (hw : Hw) (n : Nat) : Tile := mget {} hw.tiles n
def Hw.setTile (hw : Hw) (n : Nat) (t : Tile) : Hw := { hw with tiles := mset {} hw.tiles n t }
def Tile.chan (t : Tile) (p : Nat) : Chan := mget {} t.chans p
def Tile.setChan (t : Tile) (p : Nat) (c : Chan) : Tile := { t with chans := mset {} t.chans p c }
def Chan.buf (c : Chan) (i : Nat) : Hist := mget {} c.bufs i
def Chan.setBuf (c : Chan) (i : Nat) (h : Hist) : Chan := { c with bufs := mset {} c.bufs i h }

/-- Address of a register of tile `n`, and of channel `k` (R171). -/
def tileReg (n off : Nat) : Nat := 0x00100000 + n * 0x10000 + off
def chanReg (k off : Nat) : Nat := tileReg (k / 16) (0x1000 + 0x10 * (k % 16) + off)

/-- The track that a placement gives a channel; none when its macropixel is not VALID (R153). -/
def Placement.track (p : Placement) (k : Nat) : Option Track :=
  if p.tracks.any (fun e => decide (e.1 = k)) then some (mget {} p.tracks k) else none

/-- The track a channel serves under the placement in force. -/
def Hw.trackOf (hw : Hw) (k : Nat) : Option Track := hw.tnd.active.bind (fun p => p.track k)

/-- The placement of an epoch while one is in force: a shot keeps the parameters of its own epoch (R153). -/
def Hw.placementOf (hw : Hw) (epoch : Nat) : Option Placement :=
  match hw.tnd.active with
  | some p => if p.epoch = epoch then some p else hw.tnd.history.find? (fun x => decide (x.epoch = epoch))
  | none => none

/-- Device time in fine steps, now and at a tick that has passed. -/
def Hw.fineNow (hw : Hw) : Nat := 80 * hw.clk.time.toNat
def Hw.fineAt (hw : Hw) (tick : Nat) : Nat := 80 * (hw.clk.time.toNat + tick - hw.ticks)

/-! ### Gathering the shots of a histogram -/

/-- The shots counted so far. -/
def Gather.total (g : Gather) : Nat := g.points.foldl (fun n p => n + p.2.2) 0

/-- Whether a further point joins the sum: every point so far has its shots and the sum wants more (R167). -/
def Gather.wants (g : Gather) : Bool := decide (g.points.length < g.stack) && g.points.all (fun p => decide (g.perPoint ≤ p.2.2))

/-- The gather in which a shot of a point counts: the one that holds the point, or, for a shot of a pattern program, the newest while
its newest point wants shots (R198, R200). -/
def gatherIx (pattern : Bool) (frame col : Nat) (gs : List Gather) : Option Nat :=
  if pattern then
    match gs.getLast? with
    | some g => (match g.points.getLast? with
      | some p => if p.2.2 < g.perPoint then some (gs.length - 1) else none
      | none => none)
    | none => none
  else gs.findIdx? (fun g => g.points.any (fun p => decide (p.1 = frame ∧ p.2.1 = col)))

/-- One more shot of a point that the gather holds; none when the point has its shots already (R198). -/
def Gather.count (g : Gather) (pattern : Bool) (frame col : Nat) : Option Gather :=
  if pattern then
    some { g with points := g.points.dropLast ++ (g.points.getLast?.map (fun p => (p.1, p.2.1, p.2.2 + 1))).toList }
  else if g.points.any (fun p => decide (p.1 = frame ∧ p.2.1 = col ∧ p.2.2 < g.perPoint)) then
    some { g with points := g.points.map (fun p => if p.1 = frame ∧ p.2.1 = col then (p.1, p.2.1, p.2.2 + 1) else p) }
  else none

/-- A shot of a point (frame, column): the gathers with the shot counted, and in which of them; none for a shot beyond its point's
N_acc. Eight gathers are kept. -/
def gatherShot (perPoint stack : Nat) (pattern : Bool) (frame col : Nat) (gs : List Gather) : List Gather × Option Nat :=
  match gatherIx pattern frame col gs with
  | some i =>
    match (gs.getD i { points := [] }).count pattern frame col with
    | some g => (gs.set i g, some i)
    | none => (gs, none)
  | none =>
    match gs.getLast? with
    | some g =>
      if g.wants then (gs.set (gs.length - 1) { g with points := g.points ++ [(frame, col, 1)] }, some (gs.length - 1))
      else fresh
    | none => fresh
where
  /-- A new histogram begins. -/
  fresh : List Gather × Option Nat :=
    let old := gs.drop (gs.length - 7)
    (old ++ [{ points := [(frame, col, 1)], stack := stack, perPoint := perPoint }], some old.length)

/-! ### Counting a shot -/

/-- What a tile learns of a shot: it fired at an instant, or it is missing, with the reason and the instant of the descriptor; both in
fine steps. -/
inductive Seen where
  | fired (time : Nat)
  | miss (lantern : Bool) (time : Nat)
  deriving DecidableEq, Repr

/-- The instant at which the window of a shot ends; that of a missing one is counted from its descriptor (log entry 150). -/
def Seen.windowEnd : Seen → Nat
  | .fired t => t + 163840
  | .miss _ t => t + 163840

/-- A shot counted in a histogram's header and, when it fired, entered among its shots (R158, R159, R162, R163). -/
def countShot (s : Shot) (seen : Seen) (h : Hist) : Hist :=
  let h := { h with assigned := h.assigned + 1 }
  let h := if h.assigned = h.zoomAt then { h with zoomDue := some seen.windowEnd } else h
  match seen with
  | .fired t =>
    { h with
      nRx := h.nRx + 1
      dqSum := h.dqSum + s.dq
      shots := h.shots ++ [(s.num, t)]
      firedAt := h.firedAt ++ [(s.fireAt.getD s.plan, s.timed)]
      closeDue := max h.closeDue (t + 163840 + 5120)
      cands := h.cands.map (fun o => o.map (fun c =>
        if c.window.isSome ∧ c.placed < t then { c with nZoom := c.nZoom + 1 } else c)) }
  | .miss l t =>
    { h with
      missLnt := h.missLnt + (if l then 1 else 0)
      missSkip := h.missSkip + (if l then 0 else 1)
      closeDue := max h.closeDue (t + 5120) }

/-- A fresh histogram of a track for a point, with what became of its shots before it had a buffer (R160, R169). -/
def newHist (tr : Track) (s : Shot) (col : Nat) (g : Gather) : Hist :=
  { state := .accum, frame := s.frame, epoch := s.epoch, bank := s.bank, column := col, nAcc := tr.nAcc * g.stack
    zoomAt := tr.zoomAt, stack := g.stack, track := tr, zoomDue := g.zoomDue
    missStall := g.stall, missLnt := g.lnt, missSkip := g.skip, assigned := g.stall + g.lnt + g.skip
    stalled := decide (0 < g.stall) }

/-- A shot told before its histogram has a buffer: lost to the stall rule if it fired, else missing for its own reason (R160). -/
def Gather.lose (g : Gather) (zoomAt : Nat) (seen : Seen) : Gather :=
  let g := if g.total = zoomAt then { g with zoomDue := some seen.windowEnd } else g
  match seen with
  | .fired _ => { g with stall := g.stall + 1 }
  | .miss true _ => { g with lnt := g.lnt + 1 }
  | .miss false _ => { g with skip := g.skip + 1 }

/-- The buffer in which a histogram may start: IDLE, and not held by a copy (R160, R168). -/
def Chan.idleBuf (c : Chan) (now : Nat) : Option Nat :=
  (List.range 2).find? (fun i => decide ((c.buf i).state = BufState.idle) && !(decide (c.view = some i) && decide (now < c.copyEnd)))

/-- The shot given to the channel for one point: its buffer, a new one if histograms may start, or the stall rule. The results tell that a
stalled histogram has started, and the shots lost to the stall (R160, R170). -/
def assignShot (tr : Track) (stack now : Nat) (may : Bool) (s : Shot) (col : Nat) (seen : Seen) (c : Chan) : Chan × Bool × Nat :=
  match gatherShot tr.nAcc stack s.pattern s.frame col c.gathers with
  | (gs, none) => ({ c with gathers := gs }, false, 0)
  | (gs, some i) =>
    let g := gs.getD i { points := [] }
    match g.buf with
    | some b =>
      if (c.buf b).state = .accum then
        ({ c.setBuf b (countShot s seen (c.buf b)) with gathers := gs, lastBuf := some b }, false, 0)
      else ({ c with gathers := gs }, false, 0)
    | none =>
      if ¬ may then (c, false, 0)
      else
        match c.idleBuf now with
        | some b =>
          let h := countShot s seen (newHist tr s col g)
          ({ c.setBuf b h with gathers := gs.set i { g with buf := some b }, lastBuf := some b }, h.stalled, 0)
        | none =>
          let g' := g.lose tr.zoomAt seen
          ({ c with gathers := gs.set i g' }, false, g'.stall - g.stall)

/-- The points that a shot serves on a channel, if its placement assigns it there: those of the row that include its column, or the point
of a pattern program (R198, R200). -/
def pointsFor (plan : List Byte) (tr : Track) (frameNow : Nat) (s : Shot) (c : Chan) : List Nat :=
  if tr.bank ≠ s.bank ∨ tr.erow ≠ s.row then []
  else if s.pattern then [if s.timed then (if c.closedIn.1 = frameNow then c.closedIn.2 else 0) else s.column]
  else if tr.profile = s.profile then pointsAt plan tr.row s.column else []

/-- The shot offered to channel position `p` of tile `n`, under the placement of its epoch; F.TILE.014 when a histogram starts late. -/
def offerShot (n p : Nat) (s : Shot) (seen : Seen) (hw : Hw) : Hw :=
  let k := 16 * n + p
  match hw.placementOf s.epoch with
  | none => hw
  | some pl =>
    match pl.track k with
    | none => hw
    | some tr =>
      (pointsFor pl.plan tr hw.tnd.frame s ((hw.tile n).chan p)).foldl (fun (hw : Hw) col =>
        let t := hw.tile n
        let c := t.chan p
        let stack := if hw.dev.mode = .service then bits (hw.reg (tileReg n 0)) 8 6 + 1 else 1
        let (c', late, lost) := assignShot tr stack hw.ticks (!(c.retired || t.retired)) s col seen c
        let hw := hw.setTile n (t.setChan p c')
        let hw := if lost = 0 then hw else hw.stick (tileReg n 0x10) lost
        if late then hw.recordFault (fid (srcTile n) 1 14) (le 2 n ++ le 2 k) else hw) hw

/-- The shot offered to every channel of a tile. -/
def offerAll (n : Nat) (s : Shot) (seen : Seen) (hw : Hw) : Hw :=
  (List.range 16).foldl (fun h p => offerShot n p s seen h) hw

/-! ### Missing shots (R140) -/

/-- One missing-shot descriptor told to a tile. -/
def tellMissing (n : Nat) (d : Descriptor) (hw : Hw) : Hw :=
  match d.missing with
  | some why => d.shots.foldl (fun h s => offerAll n s (.miss (decide (why = .lantern)) (hw.fineAt d.sent)) h) hw
  | none => hw

/-- A tile retires the missing-shot descriptors that are the oldest it holds (R140). -/
def retireMissing (n : Nat) : List Descriptor → Hw → Hw
  | [], hw => hw
  | d :: r, hw =>
    if d.missing.isSome then
      let hw := tellMissing n d hw
      retireMissing n r (hw.setTile n { hw.tile n with taken := (hw.tile n).taken + 1 })
    else hw

/-- Tile `n` brought up to date with the missing-shot descriptors it holds. -/
def settleTile (n : Nat) (hw : Hw) : Hw :=
  retireMissing n (hw.descs.drop (hw.tile n).taken) hw

/-! ### The end of SCAN (R59, R159) -/

/-- The buffers of a tile QUEUED or in PEAK. -/
def Tile.queue (t : Tile) : Nat :=
  t.chans.foldl (fun n c => n + (c.2.bufs.filter (fun b => decide (b.2.state = .queued ∨ b.2.state = .peak))).length) 0

/-- A histogram that is accumulating closes as it stands; `dead` tells of its channel (R159, R220). -/
def truncateHist (t : U64) (dead : Bool) (h : Hist) : Hist :=
  if h.state = .accum then { h with state := .queued, truncated := true, closeTime := t, dead := dead } else h

/-- Every accumulating histogram of a tile closes as it stands. -/
def truncateTile (t : U64) (dead : Nat → Bool) (x : Tile) : Tile :=
  let open' := x.chans.foldl (fun n c => n + (c.2.bufs.filter (fun b => decide (b.2.state = .accum))).length) 0
  let chans := (x.chans.map (fun e => (e.1, { e.2 with gathers := [], bufs := mmap {} (truncateHist t (dead e.1)) e.2.bufs }))).filter
    (fun e => decide (e.2 ≠ {}))
  let x := { x with closed := (x.closed + open') % 2 ^ 32, chans := chans }
  { x with qmax := max x.qmax x.queue }

/-- Tile `n` at the end of SCAN: it takes every missing-shot descriptor sent so far, then its histograms close. -/
def endTile (n : Nat) (hw : Hw) : Hw :=
  let hw := (hw.descs.drop (hw.tile n).taken).foldl (fun h d => tellMissing n d h) hw
  hw.setTile n { truncateTile hw.clk.time (fun p => hw.spd.dead.contains (16 * n + p)) (hw.tile n) with taken := hw.descs.length }

end Sys2Proof.Machine
end

