-- ==== Sys2Proof/Machine/Faults.lean ====
section
/-! DEFINITION. Raising faults, and what a STOP or a SAFE fault does to the emitters and the mode (R54, R59, R64, R65, R90). -/

namespace Sys2Proof.Machine

/-- Beacon's steps when the emitters are inhibited (R90): no further decision, every granted shot that has not fired
cancelled and marked missing, its reservation released with it, DISARM_ALL on the bus. -/
def Hw.inhibit (hw : Hw) : Hw :=
  let shots := (List.range 4).flatMap (fun b => (mget {} hw.bcn.banks b).inFlight)
  let hw' := shots.foldl (fun h s => h.sendMissing s .skipped) hw
  ({ hw' with bcn := { hw'.bcn with
      inhibited := true
      banks := (List.range 4).foldl (fun m b => mupd {} m b (fun k => { k with inFlight := [] })) hw'.bcn.banks } } : Hw).disarmAll

/-- A mode change with its entry in MODE_HISTORY, newest first, 16 kept (R57). -/
def Hw.toMode (hw : Hw) (m : Mode) (cause : Nat) : Hw :=
  { hw with dev := { hw.dev with
      mode := m, lastCause := cause, target := none
      history := ({ time := hw.clk.time, src := hw.dev.mode, dst := m, cause := cause } :: hw.dev.history).take 16 } }

/-- The record of the frame in progress closed (Table 10.7): its END and the flags that hold of it. -/
def Hw.endFrames (hw : Hw) (early : Bool) : Hw :=
  let f := b2n early + 8 * b2n (hw.tnd.frozen || hw.tnd.faultFrozen) + 16 * b2n (decide (hw.bcn.source = 1)) +
    32 * b2n (decide (hw.dev.mode = .guard)) + 64 * b2n hw.lnk.lostFrame + 128 * b2n hw.out.ptpLocked
  { hw with out := { hw.out with frames := hw.out.frames.map (fun r =>
      if r.ended then r else { r with ended := true, finish := hw.clk.time, flags := r.flags ||| f }) } }

/-- SCAN ends (R59): no further decision, histograms close as they stand, the frame ends, no placement is in force. -/
def Hw.scanEnd (hw : Hw) : Hw :=
  let hw := (List.range 48).foldl (fun h n => endTile n h) (hw.endFrames true)
  { hw with
    bcn := { hw.bcn with source := 2, pattern := { hw.bcn.pattern with running := none, ramps := [], stopDue := false, ended := false }, writes := [] }
    tnd := { hw.tnd with active := none, shadow := none, computing := none, cutDone := false, frameOn := false, grid := [] } }

/-- Faults that record only: what the pin test and the lamp-room test of a CONFIG entry find (R95, R128). -/
def Hw.pinTest (hw : Hw) (mask : Nat) : Hw :=
  let hw := hw.disarmAll.setReg 0x00020090 (mask % 2 ^ 32)
  if mask = 0 then hw else hw.recordFault (fid srcBcn 3 1) (le 4 mask)

/-- The groups of lamp-room cells with fewer live cells than BCN_REF.K (R128). -/
def unfitGroups (live k : Nat) : Nat :=
  maskOf ((List.range 16).filter (fun g => decide (popCount 4 (live / 2 ^ (4 * g)) < k)))

/-- BCN_REF.K as it acts: clamped to 1 to 4 when written (Table 4.7). -/
def Hw.refK (hw : Hw) : Nat := bits (hw.reg 0x00020080) 16 3

/-- Index of an emitter: 1,024 a bank, 16 a row (R97). -/
def emIx (b row col : Nat) : Nat := 1024 * b + 16 * row + col

/-- The lamp-room group of a column (BCN_REF_MAP). -/
def Hw.refGroup (hw : Hw) (c : Nat) : Nat :=
  if c < 8 then bits (hw.reg 0x00020084) (4 * c) 4 else bits (hw.reg 0x00020088) (4 * (c - 8)) 4

/-- The emitters of a column whose group is unfit start their counts F and M afresh (R128). -/
def Hw.restUnfit (hw : Hw) (unfit : Nat) : Hw :=
  { hw with bcn := { hw.bcn with emitters := hw.bcn.emitters.foldl (fun m e =>
      if tb unfit (hw.refGroup (e.1 % 16)) then mset {} m e.1 { e.2 with fired := 0, misses := 0 } else m) hw.bcn.emitters } }

/-- The lamp-room injection test (R128): the live cells replace the old ones, every unfit group raises F.SPD.010 and rests the counts of its
emitters. No test runs in GUARD (Table 22.5), so that no group becomes unfit there. -/
def Hw.lampTest (hw : Hw) (live : Nat) : Hw :=
  let unfit := unfitGroups live hw.refK
  let hw := ({ hw with spd := { hw.spd with lampLive := live % 2 ^ 64, lampUnfit := unfit } } : Hw).restUnfit unfit
  (setBits 16 unfit).foldl (fun h g => h.recordFault (fid srcSpd 2 10) (le 2 g)) hw

/-- What every entry to CONFIG does to the emission path (R81, R95, R128): pin test, lamp-room test, MAP to every present
driver. `none` takes the reading as a free value (log entry 5). -/
def Hw.configTests (hw : Hw) (pins lamp : Option Nat) : Hw :=
  let (p, hw) := match pins with
    | some x => (x, hw)
    | none => hw.draw
  let (l, hw) := match lamp with
    | some x => (x, hw)
    | none => hw.draw
  let hw := hw.pinTest (p &&& 0x010107FF)
  let hw := hw.lampTest l
  { hw with bcn := { hw.bcn with drivers := (List.range 16).foldl (fun m a =>
      if tb (hw.reg (0x00020040 + 4 * a)) 7 then mupd {} m a (fun d => { d with mapDue := true }) else m) hw.bcn.drivers } }

/-- The axes in use (R58). -/
def Hw.axesInUse (hw : Hw) : List Nat :=
  let plan := match hw.tnd.nextPlan with
    | some p => [planAxis p]
    | none => []
  let trig := hw.reg 0x00020004
  let g := hw.reg 0x00028090
  plan ++ (if tb trig 4 then [] else [bits trig 0 2]) ++ (if tb g 4 then [] else [bits g 6 2]) ++ (if tb g 8 then [bits g 10 2] else [])

/-- Whether a STOP fault of a source lies in the ranging or emission path of pinned cells (R64): Beacon, Lantern, the SPAD
bias, CLK, the Keepers, a tile that serves a pinned cell, an axis in use where any cell is pinned. `axis` is the axis a fault of PDS names;
without it every axis in FAULT counts. -/
def Hw.inPinnedPath (hw : Hw) (src : Nat) (axis : Option Nat) : Bool :=
  src = srcBcn || src = srcLnt || src = srcSpd || src = srcClk || src = srcKpr 0 || src = srcKpr 1 ||
  (decide (src = srcPds) && !hw.tnd.pinned.isEmpty &&
    hw.axesInUse.any (fun a => match axis with
      | some b => decide (a = b)
      | none => decide ((mget {} hw.pds.axes a).state = .fault))) ||
  (match hw.tnd.active with
   | some p => p.tracks.any (fun e => e.2.pinned && decide (srcTile (e.1 / 16) = src))
   | none => false)

/-- The line commands of both Keepers, each line the AND of the two (R376): bits 0A, 0B, 1A, 1B. -/
def KprSt.pairsOn (k : KprSt) : Nat := k.a.on &&& k.b.on
def KprSt.lines (k : KprSt) : Nat := 3 * b2n (tb k.pairsOn 0) + 12 * b2n (tb k.pairsOn 1)

/-- The Keepers command pairs: lines and pairs that change carry the tick; commands that differ count from then (R376, R386, R388). -/
def Hw.command (hw : Hw) (a b : Nat) : Hw :=
  let k := { hw.kpr with a := { hw.kpr.a with on := a }, b := { hw.kpr.b with on := b } }
  let change := (List.range 2).filter (fun p => tb k.pairsOn p != tb hw.kpr.pairsOn p)
  { hw with kpr := { k with
      pairAt := change.foldl (fun m p => mset 0 m p hw.ticks) k.pairAt
      lineAt := change.foldl (fun m p => mset 0 (mset 0 m (2 * p) hw.ticks) (2 * p + 1) hw.ticks) k.lineAt
      disagree := if a = b then none else match k.disagree with | some t => some t | none => some hw.ticks } }

/-- The fields of a set that a Keeper sees violated; a backlog violates all (R382). -/
def Keeper.viol (x : Keeper) (s : Nat) : Nat := if x.backlog then 15 else bits x.violated (4 * s) 4

/-- The set, the fields and the pair of a Keeper event (R395). -/
def Hw.kprEvent (hw : Hw) (code pair : Nat) : Hw :=
  hw.event (srcKpr 0) code (le 1 hw.kpr.set ++ le 1 (hw.kpr.a.viol hw.kpr.set) ++ le 1 pair)

/-- Commands that change a pair (R395, event 0xE002). -/
def Hw.drive2 (hw : Hw) (a b : Nat) : Hw :=
  let was := hw.kpr.pairsOn
  let hw := hw.command a b
  (List.range 2).foldl (fun h p => if tb was p != tb h.kpr.pairsOn p then h.kprEvent 0xE002 p else h) hw

/-- The effect of a SAFE fault (R65): the safety outputs go off and latch off; the device stays in GUARD. A SAFE_ACK that runs sees
that it was raised (R393). -/
def Hw.safeEffect (hw : Hw) (f : FaultId) : Hw :=
  let hw := hw.drive2 0 0
  { hw with kpr := { hw.kpr with safeSince := true, latched := if hw.kpr.latched.contains f then hw.kpr.latched else hw.kpr.latched ++ [f] } }

/-- F.KPR.001, raised together with what takes a pinned cell out of service in GUARD (R64, R98, R123, R128, R143, R170). -/
def Hw.safe001 (hw : Hw) : Hw :=
  (hw.recordFault (fid (srcKpr 0) 4 1) []).safeEffect (fid (srcKpr 0) 4 1)

/-- The axis that the payload of a PDS fault names. -/
def axisOf (extra : List Byte) : Option Nat := extra.head?.map (·.toNat)

/-- The effect of a STOP fault of a source in the present mode (Table 3.5); an entry to CONFIG runs its tests (R95, R128, R431). It
cancels a scheduled transition (R62) and a transition to SCAN or GUARD (R63). -/
def Hw.stopEffect (hw : Hw) (src : Nat) (extra : List Byte) : Hw :=
  let hw := { hw with dev := { hw.dev with sched := none } }
  match hw.dev.mode with
  | .dormant => hw
  | .boot => { hw with dev := { hw.dev with stopFails := hw.dev.stopFails + 1 } }
  | .config =>
    let hw := { hw with bcn := { hw.bcn with inhibited := true } }
    if hw.dev.target = some .scan ∨ hw.dev.target = some .guard then
      { hw with dev := { hw.dev with target := none }, outbox := hw.outbox ++ [.stopInTransition] }
    else hw
  | .scan =>
    let hw := (hw.inhibit.scanEnd.toMode .config 0x02).configTests none none
    { hw with outbox := hw.outbox ++ [.modeLeft], slt := { hw.slt with testDue := true } }
  | .guard => if hw.inPinnedPath src (axisOf extra) then hw.inhibit.safe001 else hw
  | .service => hw.inhibit

/-- The priority of a CAS_TIME frame (R270): INHIBIT, MODE, FRAME, ANGLE, TIME; ECHO goes in the gaps (R272). -/
def casRank (kind : Nat) : Nat :=
  match kind with
  | 5 => 0 | 4 => 1 | 3 => 2 | 2 => 3 | 1 => 4 | _ => 5

/-- The 96 bits of a frame, under the CRC-16 of R243 (Table 12.2). -/
def CasFrame.word (f : CasFrame) : Nat :=
  let top := f.kind * 2 ^ 76 + f.payload % 2 ^ 76
  top * 2 ^ 16 + crcMsb 16 0x1021 top 80 0xFFFF

/-- A frame that is to start at `at'`, its last bit 208 ticks later: ANGLE carries its age there, TIME the tick of the CAS_SYNC edge that
follows (Table 12.2). `lag` is device time less the reference ticks. -/
def CasFrame.setAt (f : CasFrame) (lag : Int) (at' : Nat) : CasFrame :=
  let payload := match f.kind with
    | 1 => 4 * ceilDiv ((at' : Int) + 208 + lag).toNat 4 % 2 ^ 64 * 2 ^ 12
    | 2 => f.payload / 1024 * 1024 + min 1023 (at' + 208 - f.born)
    | _ => f.payload
  { f with payload := payload, start := at' }

/-- Waiting frames in their order, each 224 ticks after the one before it (R270). -/
def casSchedule (lag : Int) : Nat → List CasFrame → List CasFrame
  | _, [] => []
  | t, f :: r => f.setAt lag t :: casSchedule lag (t + 224) r

/-- A frame among those that wait, in the priority order of R270. -/
def insertFrame (e : CasFrame) : List CasFrame → List CasFrame
  | [] => [e]
  | x :: r => if casRank e.kind < casRank x.kind then e :: x :: r else x :: insertFrame e r

/-- A frame queued for CAS_TIME: it goes out at once where the line is free, else by its priority; a frame that started is sent whole (R270;
log entry 39). A waiting ANGLE frame of the same axis makes place for the new one. -/
def Hw.casQueue (hw : Hw) (kind payload : Nat) : Hw :=
  let gone := hw.cas.outFrames.filter (fun f => decide (f.start ≤ hw.ticks))
  let stale := fun (f : CasFrame) => decide (kind = 2 ∧ f.kind = 2 ∧ f.payload / 2 ^ 74 = payload / 2 ^ 74)
  let wait := hw.cas.outFrames.filter (fun f => !decide (f.start ≤ hw.ticks) && !stale f)
  let free := gone.foldl (fun n f => max n (f.start + 224)) hw.cas.lineFree
  let lag := (hw.clk.time.toNat : Int) - hw.ticks
  { hw with cas := { hw.cas with
      sent := if gone.isEmpty then hw.cas.sent else gone.map CasFrame.word
      lineFree := free
      outFrames := casSchedule lag (max free hw.ticks) (insertFrame { kind := kind, payload := payload % 2 ^ 76, born := hw.ticks, start := 0 } wait) } }

/-- The INHIBIT a primary sends on a STOP fault of the cascade, in GUARD only for a fault in a pinned path (R275, R276). -/
def Hw.casInhibit (hw : Hw) (src : Nat) (f : FaultId) (pinned : Bool) : Hw :=
  if hw.cas.found ∧ hw.cas.index = 0 ∧ (hw.dev.mode ≠ .guard ∨ pinned) then
    hw.casQueue 5 (src % 4 * 2 ^ 74 + f.code * 2 ^ 56)
  else hw

/-- A fault raised: recorded, then the effect of its class (Table 2.20). -/
def Hw.raise (hw : Hw) (f : FaultId) (extra : List Byte) : Hw :=
  let hw := hw.recordFault f extra
  if f.cls = 3 then (hw.casInhibit 0 f (hw.inPinnedPath f.src (axisOf extra))).stopEffect f.src extra
  else if f.cls = 4 then hw.safeEffect f
  else hw

end Sys2Proof.Machine
end

