-- ==== Sys2Proof/Machine/GuardMap.lean ====
section
/-! DEFINITION. Guard maps as their bytes lie (Tables 18.1 to 18.3): the check of GUARD_MAP_LOAD, the cells of a set, the set CRC
and the guard CRC (R377, R378). -/

namespace Sys2Proof.Machine

/-- A cell entry of a map: guard row, guard column, NEAR, FAR of P0, P1, W0, W1 (Table 18.3). -/
structure GuardCell where
  j    : Nat
  i    : Nat
  near : Nat
  far  : List Nat
  deriving DecidableEq, Repr

def mapFields (m : List Byte) : Nat := field m 1 1
def mapGw (m : List Byte) : Nat := field m 2 2
def mapGh (m : List Byte) : Nat := field m 4 1
def mapDh (m : List Byte) : Nat := field m 5 1
def mapH0 (m : List Byte) : Nat := field m 6 2
def mapV0 (m : List Byte) : Nat := field m 8 2
def mapRows (m : List Byte) : Nat := field m 10 2
def mapCluster (m : List Byte) (f : Nat) : Nat := field m (12 + f) 1
def mapObscure (m : List Byte) : Nat := field m 16 2
def mapBgLimit (m : List Byte) : Nat := field m 18 2
def mapCells (m : List Byte) : Nat := field m 20 2

/-- The row records from an offset: (J, I0, cell count, offset of the entries). The fuel is ROWS. -/
def mapRuns (m : List Byte) : Nat → Nat → List (Nat × Nat × Nat × Nat)
  | 0, _ => []
  | n + 1, off =>
    let c := field m (off + 2) 1 + 1
    (field m off 1, field m (off + 1) 1, c, off + 4) :: mapRuns m n (off + 4 + 10 * c)

/-- The cells of a set. -/
def guardCells (m : List Byte) : List GuardCell :=
  (mapRuns m (mapRows m) 32).flatMap (fun (j, i0, c, off) => (List.range c).map (fun x =>
    { j := j, i := i0 + x, near := field m (off + 10 * x) 2
      far := (List.range 4).map (fun f => field m (off + 10 * x + 2 + 2 * f) 2) }))

/-- The first cell entry out of its range, as its offset. -/
def badCell (m : List Byte) (off c : Nat) : Option Nat :=
  (List.range c).findSome? (fun x => (List.range 4).findSome? (fun f =>
    let o := off + 10 * x + 2 + 2 * f
    let far := field m o 2
    if far = 0 ∨ (field m (off + 10 * x) 2 < far ∧ far ≤ 38370) then none else some o))

/-- The row records walked in order: the first offending byte, or the offset after the last record and the cells counted. -/
def walkRows (m : List Byte) (gw gh : Nat) : Nat → Nat → Option (Nat × Nat) → Nat → Except Nat (Nat × Nat)
  | 0, off, _, cells => .ok (off, cells)
  | n + 1, off, last, cells =>
    let j := field m off 1
    let i0 := field m (off + 1) 1
    let c := field m (off + 2) 1 + 1
    if m.length < off + 4 then .error m.length
    else if gh ≤ j then .error off
    else if (match last with | some (j', _) => decide (j < j') | none => false) then .error off
    else if (match last with | some (j', e) => decide (j = j' ∧ i0 < e) | none => false) then .error (off + 1)
    else if gw ≤ i0 + c - 1 then .error (off + 2)
    else if field m (off + 3) 1 ≠ 0 then .error (off + 3)
    else if m.length < off + 4 + 10 * c then .error m.length
    else match badCell m (off + 4) c with
      | some o => .error o
      | none => walkRows m gw gh n (off + 4 + 10 * c) (some (j, i0 + c)) (cells + c)

/-- The first offending byte of a map, if any (R377). -/
def badMap (m : List Byte) : Option Nat :=
  if field m 0 1 ≠ 1 then some 0
  else if 15 < mapFields m then some 1
  else if mapGw m = 0 ∨ 256 < mapGw m then some 2
  else if mapGh m = 0 ∨ 64 < mapGh m then some 4
  else if ¬ (mapDh m = 1 ∨ mapDh m = 2 ∨ mapDh m = 4) then some 5
  else match (List.range 4).find? (fun f => decide (mapCluster m f = 0 ∨ 16 < mapCluster m f)) with
    | some f => some (12 + f)
    | none =>
      match (List.range 10).find? (fun k => decide (field m (22 + k) 1 ≠ 0)) with
      | some k => some (22 + k)
      | none =>
        if m.length < 32 then some m.length
        else match walkRows m (mapGw m) (mapGh m) (mapRows m) 32 none 0 with
          | .error o => some o
          | .ok (off, cells) =>
            if off < m.length then some off
            else if cells ≠ mapCells m then some 20
            else none

/-- A map whose FIELDS and ROWS are both 0 clears its set (R377). -/
def clearsSet (m : List Byte) : Bool := decide (mapFields m = 0 ∧ mapRows m = 0)

/-- The map of a set; an empty set has none. -/
def KprSt.map (k : KprSt) (s : Nat) : List Byte := mget [] k.sets s
def KprSt.loaded (k : KprSt) (s : Nat) : Bool := !(k.map s).isEmpty
def loadedSets (k : KprSt) : List Nat := (List.range 8).filter (fun s => k.loaded s)

/-- Cell entries loaded in all sets but one. -/
def KprSt.cellsBut (k : KprSt) (s : Nat) : Nat :=
  ((loadedSets k).filter (fun x => decide (x ≠ s))).foldl (fun n x => n + mapCells (k.map x)) 0

/-- The set CRC, and the guard CRC over the 8 set CRCs and the 16 parameter words (R378). -/
def KprSt.setCrc (k : KprSt) (s : Nat) : Nat := if k.loaded s then crc32c (k.map s) else 0
def Hw.guardCrc (hw : Hw) : Nat :=
  crc32c ((List.range 8).flatMap (fun s => le 4 (hw.kpr.setCrc s)) ++ (List.range 16).flatMap (fun i => le 4 (hw.reg (0x00880000 + 4 * i))))

/-- The plan cell of a guard cell (R377). -/
def planCell (m : List Byte) (c : GuardCell) : Nat × Nat := (mapH0 m + c.i * mapDh m, mapV0 m + c.j)

/-- The guard cell of a set that a plan cell (h, v) is, if the set holds it. -/
def cellAt (m : List Byte) (h v : Nat) : Option GuardCell :=
  if v < mapV0 m ∨ h < mapH0 m ∨ (h - mapH0 m) % max 1 (mapDh m) ≠ 0 then none
  else
    let j := v - mapV0 m
    let i := (h - mapH0 m) / max 1 (mapDh m)
    (guardCells m).find? (fun c => decide (c.j = j ∧ c.i = i))

/-- Whether field `f` of a set holds a cell: the set has the field and the cell's FAR is not 0 (Tables 18.1, 18.3). -/
def inField (m : List Byte) (f : Nat) (c : GuardCell) : Bool := tb (mapFields m) f && decide (c.far.getD f 0 ≠ 0)

/-- The field that output pair `p` follows: P1 for pair 1 where the set holds one, else P0 (R383). -/
def pairField (m : List Byte) (p : Nat) : Nat := if p = 1 ∧ tb (mapFields m) 1 then 1 else 0

/-- The largest FAR of a plan cell in any loaded set, in cm (R375). -/
def Hw.farMax (hw : Hw) (h v : Nat) : Nat :=
  (loadedSets hw.kpr).foldl (fun n s => match cellAt (hw.kpr.map s) h v with
    | some c => c.far.foldl max n
    | none => n) 0

end Sys2Proof.Machine
end

