-- ==== Sys2Proof/Machine/Angle.lean ====
section
/-! DEFINITION. Axes as others see them (R283, R297, R298): the history of each axis and the angle measured at a time. -/

namespace Sys2Proof.Machine

def Hw.axis (hw : Hw) (a : Nat) : Axis := mget {} hw.pds.axes a
def Hw.setAxis (hw : Hw) (a : Nat) (x : Axis) : Hw := { hw with pds := { hw.pds with axes := mset {} hw.pds.axes a x } }

/-- PDS_CTL.PERIOD and HSTEP (R284, R298). -/
def Hw.period (hw : Hw) : Nat := max 1 (bits (hw.reg 0x00780000) 0 20)
def Hw.hstep (hw : Hw) : Nat := ceilDiv 800000000 (4096 * hw.period)

/-- An angle modulo a turn, as s32 (R283). -/
def au (x : Int) : Int := sx 32 (cx 32 x)

/-- The angle of a sinusoid A × sin(x), x in AU; its rounding is open (log entry 2). -/
def sinAngle (site : Nat) (amp x : Int) : Int := roundOpen site ((amp : Rat) * Config.sinAu (au x))

/-- The angle that the entry `e` gives at a later tick: the sinusoid model, or its angle advanced by its rate. -/
def AxisPast.ahead (e : AxisPast) (t : Nat) : Int :=
  let dt : Int := (t : Int) - e.at'
  if e.res then au (sinAngle 1301 e.c (e.a + e.b * dt - e.d))
  else au (e.a + roundOpen 1302 (((e.b * dt : Int) : Rat) / 65536))

/-- Cubic Hermite interpolation between two entries (R298). -/
def hermite (p q : AxisPast) (t : Nat) : Int :=
  let h : Rat := ((q.at' - p.at' : Nat) : Rat)
  let s : Rat := ((t - p.at' : Nat) : Rat) / h
  let d : Rat := (au (q.a - p.a) : Rat)
  let v := (s ^ 3 - 2 * s ^ 2 + s) * h * (p.b : Rat) / 65536 + (3 * s ^ 2 - 2 * s ^ 3) * d + (s ^ 3 - s ^ 2) * h * (q.b : Rat) / 65536
  au (p.a + roundOpen 1303 v)

/-- The entries that bracket `t`: the newest at or before it and the oldest after it, from a history newest first. -/
def bracket (t : Nat) : List AxisPast → Option AxisPast → Option (AxisPast × Option AxisPast)
  | [], _ => none
  | e :: r, after => if e.at' ≤ t then some (e, after) else bracket t r (some e)

/-- The measured angle of an axis at a tick, if it has one: at most 1.0 s old, while the axis was in STARTING or RUN (R298). -/
def Hw.measuredAngle (hw : Hw) (a t : Nat) : Option Int :=
  if t + 800000000 < hw.ticks then none
  else match bracket t (hw.axis a).past none with
    | none => none
    | some (e, after) =>
      if ¬ e.live then none
      else match after with
        | some n => if n.live ∧ ¬ e.res ∧ e.at' < n.at' then some (hermite e n t) else some (e.ahead t)
        | none => some (e.ahead t)

end Sys2Proof.Machine
end

