-- ==== Sys2Proof/Machine/Tide.lean ====
section
/-! DEFINITION. Tide (chapter 14): ranges, slices, passes and triggers, injected requests, autoranging, accumulators, the
impedance check, calibration of the slices, temperatures. Delivery of samples stands in Machine/Motion.lean. -/

namespace Sys2Proof.Machine

def Hw.tin (hw : Hw) (i : Nat) : TidInput := mget {} hw.tid.inputs i
def Hw.setTin (hw : Hw) (i : Nat) (x : TidInput) : Hw := { hw with tid := { hw.tid with inputs := mset {} hw.tid.inputs i x } }
def Hw.slice (hw : Hw) (s : Nat) : Slice := hw.tid.slices.getD s {}
def Hw.setSlice (hw : Hw) (s : Nat) (x : Slice) : Hw := { hw with tid := { hw.tid with slices := hw.tid.slices.set s x } }

/-! ### Settings (Tables 14.5 to 14.7) -/

/-- T_dis in ticks (R306): TDIS × 0.25 µs, 0 acting as 16. -/
def Hw.tDis (hw : Hw) : Nat := 200 * (let n := bits (hw.reg 0x00790000) 4 4; if n = 0 then 16 else n)
def Hw.scanMask (hw : Hw) : Nat := hw.reg 0x00790008
def Hw.inReg (hw : Hw) (i : Nat) : Nat := hw.reg (0x00790100 + 4 * i)
def Hw.startGain (hw : Hw) (i : Nat) : Nat := bits (hw.reg (0x0079000C + 4 * (i / 16))) (2 * (i % 16)) 2
def Hw.diffPair (hw : Hw) (p : Nat) : Bool := tb (hw.reg 0x00790014) p

/-- Whether an input may not be named: the odd input of a differential pair (R302). -/
def Hw.oddOfPair (hw : Hw) (i : Nat) : Bool := decide (i % 2 = 1) && hw.diffPair (i / 2)

/-- TID_TONE: period in ticks, burst length in ticks (R314). -/
def Hw.tonePeriod (hw : Hw) : Nat := 800000 * bits (hw.reg 0x00790018) 22 10
def toneTicks (w : Nat) : Nat := ceilDiv (bits w 16 6 * 8000000) (max 1 (bits w 0 9))

/-- Inputs that an axis in STARTING or RUN names as IN or IN2 and that its injected conversions serve: those of a QUASI_STATIC axis; the IN of a
RESONANT one, which R289 injects nothing for, stays in the scan that feeds its detector (R309; log entry 181). -/
def Hw.axisInputs (hw : Hw) : List Nat :=
  (List.range 4).flatMap (fun a =>
    let x := hw.axis a
    if (x.state = .starting ∨ x.state = .run) ∧ x.kind = 2 then [field x.cfg 0 1, field x.cfg 1 1]
    else [])

/-! ### Slices at work (R306, R309, R311) -/

/-- The active slices, lower first. -/
def Hw.actives (hw : Hw) : List Nat := (List.range 3).filter (fun s => decide ((hw.slice s).state = 0))

def Hw.startJob (hw : Hw) (s input : Nat) (inj : Bool) : Hw :=
  hw.setSlice s { hw.slice s with job := .discharge input inj (hw.ticks + hw.tDis) }

/-- Idle active slices take what waits: injected requests first, then the next input of the pass. The fuel is the number of
slices. -/
def assignGo : Nat → Hw → Hw
  | 0, hw => hw
  | f + 1, hw =>
    match hw.actives.find? (fun s => decide ((hw.slice s).job = .idle)) with
    | none => hw
    | some s =>
      match hw.tid.inject, hw.tid.queue with
      | i :: r, _ => assignGo f (({ hw with tid := { hw.tid with inject := r } } : Hw).startJob s i true)
      | [], i :: r => assignGo f (({ hw with tid := { hw.tid with queue := r } } : Hw).startJob s i false)
      | [], [] => hw
def Hw.assign (hw : Hw) : Hw := if hw.tid.halted then hw else assignGo 3 hw

/-- The inputs of a pass (R302, R309). -/
def Hw.passInputs (hw : Hw) : List Nat :=
  (setBits 32 hw.scanMask).filter (fun i => !hw.oddOfPair i && !hw.axisInputs.contains i)

/-- Whether a pass may start: a mask, no foreground calibration (R321), conversions not stopped (R320). -/
def Hw.mayPass (hw : Hw) : Bool := decide (hw.scanMask ≠ 0) && !hw.tid.fgCal && !hw.tid.halted

def Hw.startPass (hw : Hw) : Hw :=
  let l := hw.passInputs
  if l.isEmpty then hw else ({ hw with tid := { hw.tid with passOn := true, queue := l } } : Hw).assign

/-- TID_TRIG.SRC. -/
def Hw.trigSrc (hw : Hw) : Nat := bits (hw.reg 0x0079001C) 0 2

/-- What follows the end of a pass: a pending trigger's pass, or the next one in free-run (R309, R310). -/
def Hw.endPass (hw : Hw) : Hw :=
  let scanning := hw.tid.slices.any (fun s => match s.job with
    | .discharge _ inj _ => !inj
    | .convert _ inj _ _ _ => !inj
    | .idle => false)
  if hw.tid.passOn ∧ hw.tid.queue.isEmpty ∧ ¬ scanning then
    let hw := { hw with tid := { hw.tid with passOn := false } }
    if ¬ hw.mayPass then hw
    else if hw.tid.trigPend then ({ hw with tid := { hw.tid with trigPend := false } } : Hw).startPass
    else if hw.trigSrc = 0 then hw.startPass
    else hw
  else hw

/-- A scan trigger: it starts a pass, becomes pending or is lost; triggers of one tick count once (R309, R310). -/
def Hw.trigger (hw : Hw) : Hw :=
  if hw.tid.trigAt = some hw.ticks ∨ hw.scanMask = 0 then hw
  else
    let hw := { hw with tid := { hw.tid with trigAt := some hw.ticks } }
    if ¬ hw.tid.passOn ∧ hw.mayPass then hw.startPass
    else if ¬ hw.tid.trigPend then { hw with tid := { hw.tid with trigPend := true } }
    else
      let hw := (hw.stick 0x00790020 1).setReg 0x00790024 1
      match hw.tid.trigWarn with
      | some t => if hw.ticks < t + 800000000 then hw
                  else ({ hw with tid := { hw.tid with trigWarn := some hw.ticks } } : Hw).raise (fid srcTid 1 3) [0]
      | none => ({ hw with tid := { hw.tid with trigWarn := some hw.ticks } } : Hw).raise (fid srcTid 1 3) [0]

/-- TIDE_TRIG_EDGE: edge 0 rising, 1 falling. -/
def tideTrigEdge (edge : Nat) (hw : Hw) : Hw :=
  let w := hw.reg 0x0079001C
  if (bits w 0 2 = 1 ∨ bits w 0 2 = 3) ∧ edge % 2 = bits w 4 1 then hw.trigger else hw

/-- A Pedestal tick start as a trigger, every PTICK_DIV-th (R289, R309). -/
def Hw.ptickTrigger (hw : Hw) : Hw :=
  let n := (hw.tid.ptick + 1) % (bits (hw.reg 0x0079001C) 8 8 + 1)
  let hw := { hw with tid := { hw.tid with ptick := n } }
  if n = 0 ∧ (hw.trigSrc = 2 ∨ hw.trigSrc = 3) then hw.trigger else hw

/-- An injected request (R311): an idle slice, else the discharge of a scan input, else it waits. -/
def Hw.injectReq (hw : Hw) (i : Nat) : Hw :=
  if hw.tid.halted then hw
  else
    let free := hw.actives.find? (fun s => match (hw.slice s).job with
      | .idle => true
      | .discharge _ inj _ => !inj
      | .convert _ _ _ _ _ => false)
    match free with
    | none => { hw with tid := { hw.tid with inject := hw.tid.inject ++ [i] } }
    | some s =>
      let hw := match (hw.slice s).job with
        | .discharge j _ _ => { hw with tid := { hw.tid with queue := j :: hw.tid.queue } }
        | _ => hw
      hw.startJob s i true

/-- TIDE_SCAN's effect, also of a write of TID_SCAN_MASK: free-run starts at once (R309). -/
def Hw.scanGo (hw : Hw) : Hw :=
  if ¬ hw.tid.passOn ∧ hw.trigSrc = 0 ∧ hw.mayPass then hw.startPass else hw
def Hw.setScan (hw : Hw) (mask gains : Nat) : Hw :=
  let hw := ((hw.setReg 0x00790008 mask).setReg 0x0079000C (gains % 2 ^ 32)).setReg 0x00790010 (gains / 2 ^ 32)
  let hw := (List.range 32).foldl (fun h i => h.setTin i { h.tin i with gain := h.startGain i, small := 0 }) hw
  hw.scanGo

/-- The gain of an input's next conversion (R312): the starting gain, or under AUTO its own between GMIN and GMAX. -/
def Hw.gainNow (hw : Hw) (i : Nat) : Nat :=
  let w := hw.inReg i
  if tb w 28 then max (bits w 24 2) (min (bits w 26 2) (hw.tin i).gain) else hw.startGain i

/-- TIDE_CONVERSION_START: the discharge has ended, the input is connected and sampled (R306). -/
def tideConversionStart (s : Nat) (hw : Hw) : Hw :=
  match (hw.slice s).job with
  | .discharge i inj due =>
    if s < 3 ∧ due ≤ hw.ticks ∧ ¬ hw.tid.halted then
      hw.setSlice s { hw.slice s with job := .convert i inj (hw.gainNow i) hw.clk.time hw.ticks }
    else hw
  | _ => hw

/-! ### Samples (R307, R312, R313, R317, R319) -/

/-- The corrected code (R319). -/
def Slice.correct (x : Slice) (gain : Nat) (raw : Int) : Int :=
  clampI (-2048) 2047 (roundNear 1401 (((raw - x.off.getD gain 0) * x.gc.getD gain 32768 : Int) / (32768 : Rat)))

/-- G of a gain code, and the normalised value (R307). -/
def gainOf (g : Nat) : Nat := 4 ^ g
def normal (code : Int) (g : Nat) : Int := code * 2 ^ 20 / (gainOf g : Int)

/-- The gain an input takes for its next conversion (R312). -/
def Hw.nextGain (hw : Hw) (i : Nat) (x : TidInput) (code : Int) (ovr : Bool) : Nat × Nat :=
  let w := hw.inReg i
  if ¬ tb w 28 then (hw.startGain i, 0)
  else
    let gmin := bits w 24 2
    let gmax := bits w 26 2
    let g := max gmin (min gmax x.gain)
    if 1792 < code.natAbs ∨ ovr then (if gmin < g then g - 1 else g, 0)
    else if code.natAbs < 256 then
      if 16 ≤ x.small + 1 then (if g < gmax then g + 1 else g, 0) else (g, x.small + 1)
    else (g, 0)

/-- The accumulators with one more sample (R317). -/
def TidAcc.add (a : TidAcc) (v : Int) (ovr clamp : Bool) : TidAcc :=
  if a.full then a
  else
    let m := Int.fdiv v 65536
    { a with
      sum := a.sum + v, count := a.count + 1, ovr := a.ovr || ovr, clamp := a.clamp || clamp
      lo := if a.count = 0 then m else min a.lo m, hi := if a.count = 0 then m else max a.hi m
      full := decide (a.count + 1 = 0xFFFFFFFF) }

/-- A converted sample enters its input's range state, accumulators and flags. -/
def Hw.takeSample (hw : Hw) (s i : Nat) (inj : Bool) (g : Nat) (time : U64) (tick : Nat) (raw : Int) (ovr clamp : Bool) : Hw × Sample :=
  let x := hw.tin i
  let code := (hw.slice s).correct g raw
  let v := normal code g
  let slew : Int := bits (hw.reg 0x00790000) 24 8 * 2 ^ 23
  let changed := match x.sample with | some p => decide (p.range ≠ g) | none => false
  let settling := changed && decide (slew < (x.last - x.last2).natAbs)
  let smp : Sample := { time := time, tick := tick, code := code, range := g, ovr := ovr, clamp := clamp, settling := settling
                        tone := tb hw.tid.toneMask i && decide (hw.ticks ≤ hw.tid.toneEnd), inj := inj, slice := s }
  let (ng, small) := hw.nextGain i { x with gain := g } code ovr
  let y := { x with
    gain := ng, small := if ng = g then (if changed ∧ small ≠ 0 then 1 else small) else 0
    last := v, last2 := x.last, sample := some smp, count := x.count + 1
    acc := if settling then { x.acc with settle := satAdd 0xFFFF x.acc.settle 1 } else x.acc.add v ovr clamp }
  let hw := hw.setTin i y
  let hw := if ovr then hw.setReg 0x0079002C (hw.reg 0x0079002C ||| 2 ^ i) else hw
  let hw := if clamp ∧ ¬ tb (hw.reg 0x00790028) i then
      (hw.setReg 0x00790028 (hw.reg 0x00790028 ||| 2 ^ i)).raise (fid srcTid 1 1) (le 1 i)
    else hw
  (hw, smp)

/-- The replacement of an active slice by a calibrated spare once the former is not converting; a discharge passes over to the
new slice (R319). -/
def Hw.swapSlices (hw : Hw) : Hw :=
  match hw.tid.swap with
  | none => hw
  | some (fresh, old) =>
    match (hw.slice old).job with
    | .convert _ _ _ _ _ => hw
    | job =>
      let hw := hw.setSlice fresh { hw.slice fresh with state := 0, since := hw.ticks, job := job }
      let hw := hw.setSlice old { hw.slice old with state := 1, job := .idle }
      let hw := { hw with tid := { hw.tid with swap := none } }
      hw.assign

/-! ### Snapshots (R318) -/

def Hw.snapInput (hw : Hw) (i : Nat) : Hw :=
  let x := hw.tin i
  hw.setTin i { x with snap := x.acc, acc := {} }

/-- TID_SNAP: every input. -/
def tidSnap (v : Nat) (hw : Hw) : Hw :=
  let hw := { hw with ack := 0, ackData := [] }
  if tb v 0 then (List.range 32).foldl (fun h i => h.snapInput i) hw else hw

/-- TIDE_READ: the masked inputs restart and are returned. -/
def TidAcc.bytes (a : TidAcc) : List Byte := leInt 8 a.sum ++ le 4 a.count ++ leInt 2 a.lo ++ leInt 2 a.hi
def Hw.tideRead (hw : Hw) (mask : Nat) : Hw × List Byte :=
  let l := setBits 32 mask
  (l.foldl (fun h i => h.setTin i { h.tin i with acc := {} }) hw, l.flatMap (fun i => (hw.tin i).acc.bytes))

/-- The window of TID_ACC_SEL: the five words, latched by a read of the first. -/
def Hw.accWords (hw : Hw) : List Nat :=
  let a := (hw.tin (hw.reg 0x00790038 % 32)).snap
  let s := cx 64 a.sum
  [s % 2 ^ 32, s / 2 ^ 32, a.count, cx 16 a.hi * 65536 + cx 16 a.lo,
    a.settle * 65536 + 4 * b2n a.full + 2 * b2n a.clamp + b2n a.ovr]

/-! ### The impedance check (R314, R315) -/

/-- TIDE_TONE_BURST: every PERIOD a burst starts on the inputs with CHECK. -/
def tideToneBurst (hw : Hw) : Hw :=
  if hw.ticks < hw.tid.toneAt ∨ hw.tonePeriod = 0 then hw
  else
    let mask := maskOf ((List.range 32).filter (fun i => tb (hw.inReg i) 31 && !hw.oddOfPair i))
    let chans := (setBits 32 mask).foldl (fun m i => mupd {} m i (fun (c : SftChan) => { c with tone := {} })) hw.sft.chans
    { hw with
      tid := { hw.tid with toneAt := hw.ticks + hw.tonePeriod, toneMask := mask, toneEnd := hw.ticks + toneTicks (hw.reg 0x00790018) }
      sft := { hw.sft with chans := chans } }

/-- |Z| of a response amplitude (Q1.31 of 800 mV) at the burst's current, in Ω: 0.8 V / 2³¹ over AMP × 0.25 µA. -/
def impedance (amp w : Nat) : Rat := (amp : Rat) * 3200000 / 2147483648 / ((max 1 (bits w 10 6) : Nat) : Rat)

/-- The verdict on an input: OPEN, SHORT or neither. -/
def Hw.impBad (hw : Hw) (i amp : Nat) : Bool :=
  let z := impedance amp (hw.reg 0x00790018)
  let zmax := bits (hw.inReg i) 16 8
  let zmin := bits (hw.inReg i) 8 8
  (decide (zmax ≠ 0) && decide (((1000 * zmax : Nat) : Rat) < z)) || (decide (zmin ≠ 0) && decide (z < ((10 * zmin : Nat) : Rat)))

/-! ### Calibration of the slices (R319, R320) -/

def Hw.spare (hw : Hw) : Option Nat := (List.range 3).find? (fun s => decide ((hw.slice s).state = 1 ∨ (hw.slice s).state = 2))
def Hw.usable (hw : Hw) : Nat := (hw.tid.slices.filter (fun s => decide (s.state = 0 ∨ s.state = 1))).length
def Hw.calTicks (hw : Hw) : Nat := 3072 * (hw.tDis + 800)

/-- TIDE_ROTATION: every ROT period the spare starts its calibration. -/
def tideRotation (hw : Hw) : Hw :=
  let rot := 8000000 * max 1 (bits (hw.reg 0x00790000) 12 8)
  if hw.ticks < hw.tid.rotAt + rot ∨ hw.tid.rotStop ∨ hw.tid.calOn.isSome ∨ hw.tid.swap.isSome then hw
  else match hw.spare with
    | some s => { hw with tid := { hw.tid with rotAt := hw.ticks, calOn := some s, calEnd := hw.ticks + hw.calTicks } }
    | none => hw

/-- The active slice that has served longest, the lower on a tie. -/
def Hw.oldestActive (hw : Hw) : Option Nat :=
  hw.actives.foldl (fun best s =>
    match best with
    | none => some s
    | some b => if (hw.slice s).since < (hw.slice b).since then some s else some b) none

/-- Whether results pass (R319): offsets within 32 codes, gain factors within 0.98 to 1.02. -/
def calPasses (offs gains : List Int) : Bool :=
  (List.range 4).all (fun g =>
    let o := offs.getD g 0
    let c := gains.getD g 32768
    decide (o.natAbs ≤ 32) && decide (98 * 32768 ≤ 100 * c) && decide (100 * c ≤ 102 * 32768))

/-- SLICE_CAL_DONE: a spare that passes replaces the longest-serving slice; one that fails stays spare, and is retired at its
third failure in a row (R319, R320). In a foreground run the next slice follows at once (R321). -/
def sliceCalDone (offs gains : List Int) (hw : Hw) : Hw :=
  match hw.tid.calOn with
  | none => hw
  | some s =>
    if hw.ticks < hw.tid.calEnd then hw
    else
      let x := hw.slice s
      let hw := { hw with tid := { hw.tid with calOn := none } }
      if calPasses offs gains then
        let hw := hw.setSlice s { x with state := 1, fails := 0, calAt := hw.ticks, off := offs.take 4, gc := gains.take 4 }
        let hw := match hw.oldestActive with
          | some o => { hw with tid := { hw.tid with swap := some (s, o) } }
          | none => hw
        { hw with tid := { hw.tid with fgDone := s :: hw.tid.fgDone } }.swapSlices
      else
        let n := x.fails + 1
        let hw := hw.setSlice s { x with state := if 3 ≤ n then 3 else 2, fails := min 3 n }
        let hw := { hw with tid := { hw.tid with rotStop := hw.tid.rotStop || decide (3 ≤ n) } }
        hw.raise (fid srcTid 2 4) (le 1 s)

/-- An active slice whose converter fails its built-in check: the spare replaces it without calibration; with fewer than two
usable slices conversions stop (R320). What it was converting is taken again first. -/
def Hw.sliceBroken (hw : Hw) (s : Nat) : Hw :=
  let spare := (List.range 3).find? (fun k => decide ((hw.slice k).state = 1))
  let was := (hw.slice s).state
  let again := match (hw.slice s).job with
    | .discharge i inj _ => some (i, inj)
    | .convert i inj _ _ _ => some (i, inj)
    | .idle => none
  let tid := match again with
    | some (i, true) => { hw.tid with inject := i :: hw.tid.inject }
    | some (i, false) => { hw.tid with queue := i :: hw.tid.queue }
    | none => hw.tid
  let swap := match tid.swap with
    | some (k, o) => if k = s ∨ o = s then none else some (k, o)
    | none => none
  let hw := ({ hw with tid := { tid with swap := swap } } : Hw).setSlice s { hw.slice s with state := 3, job := .idle }
  let hw := match spare with
    | some k => if was = 0 then hw.setSlice k { hw.slice k with state := 0, since := hw.ticks } else hw
    | none => hw
  if hw.usable < 2 then
    let hw := { hw with tid := { hw.tid with halted := true, passOn := false, queue := [], inject := [] } }
    hw.raise (fid srcTid 3 5) (le 1 s)
  else hw.assign

/-! ### Temperatures (R322) -/

/-- The thermistor readings: resistance in Ω; a new OPEN or SHORT raises F.TID.006. -/
def Hw.takeTherm (hw : Hw) (j : Nat) (r : Int) : Hw :=
  let n := r.toNat
  let bad := decide (2000000 < n ∨ n < 10)
  let w := (if 2000000 < n then 2 ^ 31 else 0) + (if n < 10 then 2 ^ 30 else 0) + n % 2 ^ 24
  let was := decide (2 ^ 30 ≤ mget 0 hw.tid.therm j)
  let hw := { hw with tid := { hw.tid with therm := mset 0 hw.tid.therm j w } }
  if bad ∧ ¬ was then hw.raise (fid srcTid 1 6) (le 1 j) else hw

/-! ### Registers (Table 14.5) -/

def Hw.tidStatus (hw : Hw) : Nat :=
  let sp := (hw.spare).getD 0
  hw.usable * 2 ^ 24 + sp * 2 ^ 20 + b2n hw.tid.trigPend * 2 ^ 9 + b2n hw.tid.passOn * 2 ^ 8 + b2n hw.tid.fgCal * 2 + b2n (decide (hw.scanMask ≠ 0))

def Hw.tidView (hw : Hw) (off : Nat) : Nat :=
  if off = 0x04 then hw.tidStatus
  else if off = 0x30 then hw.tid.impFail
  else if 0x40 ≤ off ∧ off ≤ 0x50 then
    (if off = 0x40 ∨ hw.tid.accLatch.isEmpty then hw.accWords else hw.tid.accLatch).getD ((off - 0x40) / 4) 0
  else if 0x200 ≤ off ∧ off < 0x20C then
    let x := hw.slice ((off - 0x200) / 4)
    x.state * 2 ^ 30 + min 3 x.fails * 2 ^ 28 + min 0xFFFF ((hw.ticks - x.calAt) / 800000)
  else if 0x300 ≤ off ∧ off < 0x320 then cx 16 (mget 0 hw.temps ((off - 0x300) / 4))
  else if 0x320 ≤ off ∧ off < 0x330 then mget 0 hw.tid.therm ((off - 0x320) / 4)
  else 0

end Sys2Proof.Machine
end

