-- ==== Sys2Proof/Machine/Keeper.lean ====
section
/-! DEFINITION. Keeper A and Keeper B (chapter 18): judging samples, counts and cluster searches, field select, the safety outputs
with readback, test pulses and EDM, restart, the analog plausibility inputs, GUARD entry and SAFE_ACK. -/

namespace Sys2Proof.Machine

/-! ### The two Keepers -/

/-- Keeper `k`: 0 is A, any other is B. -/
def KprSt.keeper (x : KprSt) (k : Nat) : Keeper := if k = 0 then x.a else x.b
def Hw.keeper (hw : Hw) (k : Nat) : Keeper := hw.kpr.keeper k
def Hw.setKeeper (hw : Hw) (k : Nat) (x : Keeper) : Hw :=
  { hw with kpr := if k = 0 then { hw.kpr with a := x } else { hw.kpr with b := x } }

/-- A count's key: set, field, guard row, guard column. -/
def guardKey (s f j i : Nat) : Nat := ((4 * s + f) * 64 + j) * 256 + i
/-- A plan cell's key. -/
def cellKey (h v : Nat) : Nat := 65536 * v + h

/-- k of R381, and T_STALE in ticks. -/
def Hw.kDepth (hw : Hw) : Nat := bits (hw.reg 0x00880000) 8 3 + 1
def Hw.tStale (hw : Hw) : Nat := 80000 * bits (hw.reg 0x00880010) 0 16

/-- Keepers evaluate in GUARD only; a SAFE fault arises only there (R65, Table 3.2). -/
def Hw.guarding (hw : Hw) : Bool := decide (hw.dev.mode = .guard)
def Hw.kprFault (hw : Hw) (k n arg : Nat) : Hw :=
  if hw.guarding then hw.raise (fid (srcKpr k) 4 n) (le 2 arg) else hw

/-- The map of the set in force. -/
def Hw.mapNow (hw : Hw) : List Byte := hw.kpr.map hw.kpr.set

/-- Field select (R383): valid when B shows the complement of A; then A is the set number. -/
def Hw.fselValid (hw : Hw) : Bool := decide (hw.pins.fselB = 7 - hw.pins.fselA ∧ hw.pins.fselA ≤ 7)

/-! ### The safety outputs (R384 to R388) -/

/-- RB_DELAY, TP_WIDTH, T_EDM, T_AUTO, FSEL_DEB in ticks. -/
def Hw.rbDelay (hw : Hw) : Nat := 800 * bits (hw.reg 0x00880004) 24 8
def Hw.tpWidth (hw : Hw) : Nat := 800 * bits (hw.reg 0x00880004) 16 8
def Hw.tpPeriod (hw : Hw) : Nat := 800000 * bits (hw.reg 0x00880004) 0 16
def Hw.tEdm (hw : Hw) : Nat := 800000 * bits (hw.reg 0x00880008) 0 16
def Hw.tAuto (hw : Hw) : Nat := 8000000 * bits (hw.reg 0x0088000C) 0 16
def Hw.fselDeb (hw : Hw) : Nat := 80000 * bits (hw.reg 0x0088000C) 24 8

/-- Condition 3 of R384 for one Keeper and pair: every cell of the field it follows has a sample newer than T_STALE, valid and
free. A count of 0 says valid and free. -/
def Hw.fieldFree (hw : Hw) (k p : Nat) : Bool :=
  let m := hw.mapNow
  let f := pairField m p
  let x := hw.keeper k
  !m.isEmpty && (guardCells m).all (fun c => !inField m f c ||
    (let (h, v) := planCell m c
     let t := mget 0 x.seen (cellKey h v)
     decide (t ≠ 0 ∧ hw.ticks < t - 1 + hw.tStale) && decide (mget 0 x.counts (guardKey hw.kpr.set f c.j c.i) = 0)))

/-- Conditions 1 to 5 of R384 for a pair. -/
def Hw.mayOn (hw : Hw) (p : Nat) : Bool :=
  hw.guarding && hw.kpr.latched.isEmpty && hw.fselValid && hw.fieldFree 0 p && hw.fieldFree 1 p &&
    !tb (hw.kpr.a.viol hw.kpr.set ||| hw.kpr.b.viol hw.kpr.set) (pairField hw.mapNow p) &&
    (!tb (hw.reg 0x00880000) p || tb hw.pins.edm p) && decide (bits hw.pins.readback (2 * p) 2 = 0)

/-- Condition 1 to 5 of each pair, held since when (R384). -/
def Hw.reviewCond (hw : Hw) : Hw :=
  { hw with kpr := { hw.kpr with condAt := (List.range 2).foldl (fun m p =>
      mset none m p (if hw.mayOn p then (match mget none hw.kpr.condAt p with
        | some t => some t
        | none => some hw.ticks) else none)) hw.kpr.condAt } }

/-- Each Keeper drops the pairs whose field it sees violated; a pair that goes off by it is a protective stop (R385). -/
def Hw.protect (hw : Hw) : Hw :=
  let m := hw.mapNow
  let keep := fun (x : Keeper) => maskOf ((List.range 2).filter (fun p => tb x.on p && !tb (x.viol hw.kpr.set) (pairField m p)))
  let was := hw.kpr.pairsOn
  let hw := hw.drive2 (keep hw.kpr.a) (keep hw.kpr.b)
  let dropped := (List.range 2).filter (fun p => tb was p && !tb hw.kpr.pairsOn p)
  dropped.foldl (fun h _ =>
    let v := (h.kpr.a.viol h.kpr.set) ||| (h.kpr.b.viol h.kpr.set)
    let hit := if (h.kpr.a.viol h.kpr.set) ≠ 0 then h.kpr.a.hit else h.kpr.b.hit
    { h with kpr := { h.kpr with
        trips := satAdd 0xFFFFFFFF h.kpr.trips 1, tripTime := h.clk.time
        tripCell := v * 2 ^ 28 + h.kpr.set * 2 ^ 24 + hit.1 % 64 * 256 + hit.2 % 256 } }) hw

/-- What every Keeper event ends with: protective stops, then the conditions for switching on. -/
def Hw.vote (hw : Hw) : Hw := hw.protect.reviewCond

/-- A field state change reported by Keeper A (R395). -/
def Hw.tellViol (hw : Hw) (was : Nat) : Hw :=
  if hw.kpr.a.viol hw.kpr.set ≠ was then hw.kprEvent 0xE001 0xFF else hw

/-! ### Judging a sample (R379 to R382) -/

/-- The PFLAGS that make a sample invalid. -/
def badFlags (f : Nat) : Bool := [2, 3, 4, 5, 6, 7, 8, 11, 12].any (fun i => tb f i)

/-- |ANGLE − expected| modulo 2³², as a signed difference (R379). -/
def Hw.angleOff (hw : Hw) (m : List Byte) (r : SampleRec) : Nat :=
  match hw.tnd.active with
  | some p => (sx 32 (cx 32 (r.angle - (planOrigin p.plan + Int.fdiv (planStep p.plan * (2 * r.h + mapDh m)) 2)))).natAbs
  | none => 2 ^ 31
def Hw.angleTol (hw : Hw) : Nat := max 65536 (hw.reg 0x00880014)

/-- Whether a sample is valid, for the sets that contain its cell. -/
def Hw.sampleValid (hw : Hw) (r : SampleRec) (crcOk : Bool) (sets : List Nat) : Bool :=
  crcOk && !badFlags r.flags && decide (r.nRx ≠ 0) && sets.all (fun s =>
    decide (r.bgMax ≤ mapBgLimit (hw.kpr.map s)) && decide (hw.angleOff (hw.kpr.map s) r ≤ hw.angleTol))

/-- Whether a return occupies field `f` of a cell (R380). -/
def occupies (m : List Byte) (c : GuardCell) (f : Nat) (x : Nat × Nat × Nat) : Bool :=
  let (range, cls, int) := x
  if ¬ inField m f c then false
  else if cls ≤ 1 then decide (c.near * 40 ≤ range ∧ range ≤ c.far.getD f 0 * 40)
  else if cls = 2 then decide (mapObscure m ≤ int)
  else false

/-- A count raised, set full or cleared; a cell that becomes confirmed asks for a search (R381, R382). -/
def countCell (kMax s f : Nat) (c : GuardCell) (new : Nat → Nat) (x : Keeper) : Keeper :=
  let key := guardKey s f c.j c.i
  let was := mget 0 x.counts key
  let now := min kMax (new was)
  { x with
    counts := mset 0 x.counts key now
    searches := if was < kMax ∧ now = kMax then x.searches ++ [(s, f, c.j, c.i)] else x.searches }

/-- A violated field clears once every cell of it has c = 0 (R382). -/
def clearFields (k : KprSt) (sets : List Nat) (x : Keeper) : Keeper :=
  { x with violated := sets.foldl (fun m s => (List.range 4).foldl (fun m f =>
      let mp := k.map s
      if tb m (4 * s + f) && (guardCells mp).all (fun c => !inField mp f c || decide (mget 0 x.counts (guardKey s f c.j c.i) = 0))
      then putBit m (4 * s + f) false else m) m) x.violated }

/-- More than 32 pending searches start a backlog, counted once; it clears when none is pending (R382). -/
def Hw.checkBacklog (hw : Hw) (k : Nat) : Hw :=
  let x := hw.keeper k
  if 32 < x.searches.length ∧ ¬ x.backlog then
    let hw := hw.setKeeper k { x with backlog := true }
    { hw with kpr := { hw.kpr with overload := satAdd 0xFFFFFFFF hw.kpr.overload 1 } }
  else if x.searches.isEmpty ∧ x.backlog then hw.setKeeper k { x with backlog := false }
  else hw

/-- KEEPER_SAMPLE: Keeper `k` judges its oldest record. -/
def keeperSample (k : Nat) (crcOk : Bool) (hw : Hw) : Hw :=
  let x := hw.keeper k
  match x.inbox with
  | [] => hw
  | r :: rest =>
    if ¬ hw.guarding then hw.setKeeper k { x with inbox := rest }
    else
      let was := hw.kpr.a.viol hw.kpr.set
      let sets := (loadedSets hw.kpr).filter (fun s => (cellAt (hw.kpr.map s) r.h r.v).isSome)
      let valid := hw.sampleValid r crcOk sets
      let kMax := hw.kDepth
      let x : Keeper := sets.foldl (fun x s =>
        let m := hw.kpr.map s
        match cellAt m r.h r.v with
        | none => x
        | some c => ((List.range 4).filter (fun f => inField m f c)).foldl (fun x f =>
            countCell kMax s f c (fun n => if ¬ valid ∨ r.rets.any (occupies m c f) then n + 1 else 0) x) x) { x with inbox := rest }
      let key := cellKey r.h r.v
      let x := clearFields hw.kpr sets { x with
        seen := mset 0 x.seen key (hw.ticks + 1), base := mset 0 x.base key hw.ticks, samples := (x.samples + 1) % 2 ^ 32 }
      let hw := hw.setKeeper k x
      let hw := if k = 0 then { hw with kpr := { hw.kpr with
          interf := (hw.kpr.interf + (r.rets.filter (fun y => decide (y.2.1 = 3))).length) % 2 ^ 32 } } else hw
      ((hw.checkBacklog k).tellViol was).vote

/-- The connected confirmed neighbours of a cell, at most `need` (R382): the fuel is the number found. -/
def searchGo (x : Keeper) (s f kMax need : Nat) : Nat → List (Nat × Nat) → List (Nat × Nat)
  | 0, found => found
  | n + 1, found =>
    if need ≤ found.length then found
    else
      let next := found.flatMap (fun (j, i) => [(j + 1, i), (j - 1, i), (j, i + 1), (j, i - 1)])
      match next.find? (fun (j, i) => !found.contains (j, i) && decide (j < 64 ∧ i < 256 ∧ mget 0 x.counts (guardKey s f j i) = kMax)) with
      | some e => searchGo x s f kMax need n (found ++ [e])
      | none => found

/-- CLUSTER_SEARCH: the oldest pending search of Keeper `k` completes. -/
def clusterSearch (k : Nat) (hw : Hw) : Hw :=
  let x := hw.keeper k
  match x.searches with
  | [] => hw
  | (s, f, j, i) :: rest =>
    let was := hw.kpr.a.viol hw.kpr.set
    let need := mapCluster (hw.kpr.map s) f
    let live := decide (mget 0 x.counts (guardKey s f j i) = hw.kDepth)
    let found := if live then searchGo x s f hw.kDepth need 16 [(j, i)] else []
    let x := { x with searches := rest }
    let x := if need ≤ found.length ∧ live then { x with violated := putBit x.violated (4 * s + f) true, hit := (j, i) } else x
    (((hw.setKeeper k x).checkBacklog k).tellViol was).vote

/-- KEEPER_STALE: a cell without a sample for T_STALE takes its full count, and again each further T_STALE (R381). `cell` is
65,536 × plan row + plan column. -/
def keeperStale (k cell : Nat) (hw : Hw) : Hw :=
  let x := hw.keeper k
  let h := cell % 65536
  let v := cell / 65536
  let sets := (loadedSets hw.kpr).filter (fun s => (cellAt (hw.kpr.map s) h v).isSome)
  if ¬ hw.guarding ∨ sets.isEmpty ∨ hw.ticks < mget hw.kpr.guardAt x.base cell + hw.tStale then hw
  else
    let was := hw.kpr.a.viol hw.kpr.set
    let kMax := hw.kDepth
    let x : Keeper := sets.foldl (fun x s =>
      let m := hw.kpr.map s
      match cellAt m h v with
      | none => x
      | some c => ((List.range 4).filter (fun f => inField m f c)).foldl (fun x f => countCell kMax s f c (fun _ => kMax) x) x) x
    let x := { x with base := mins (mdel x.base cell) cell hw.ticks }
    (((hw.setKeeper k x).checkBacklog k).tellViol was).vote

/-! ### The Keepers' own tests (R374, R376) -/

/-- KEEPER_CLOCK_CHECK: every 100 µs; `ppm` is the ratio of A's clock to B's in millionths. -/
def keeperClockCheck (k : Nat) (ppm : Int) (hw : Hw) : Hw :=
  let x := hw.keeper k
  if hw.ticks < x.clockAt then hw
  else
    let bad := decide (ppm < 1000000 ∨ 1600000 < ppm)
    let hw := hw.setKeeper k { x with clockAt := hw.ticks + 80000, clockBad := bad }
    if bad then (hw.kprFault k 9 0).vote else hw

/-- KEEPER_SELFTEST: a pass every 10 ms. -/
def keeperSelftest (k : Nat) (ok : Bool) (hw : Hw) : Hw :=
  let x := hw.keeper k
  if hw.ticks < x.selfAt then hw
  else
    let hw := hw.setKeeper k { x with selfAt := hw.ticks + 8000000, selfBad := !ok }
    if ok then hw else (hw.kprFault k 10 0).vote

/-- KEEPER_DISAGREE: commands that have differed for more than 1 ms. -/
def keeperDisagree (hw : Hw) : Hw :=
  match hw.kpr.disagree with
  | some t => if t + 800000 < hw.ticks then (hw.kprFault 0 2 0).vote else hw
  | none => hw

/-! ### Field select (R383) -/

/-- The levels of the two field-select channels, of the two EDM inputs. -/
def Hw.fselLevels (hw : Hw) (a b : Nat) : Hw := { hw with pins := { hw.pins with fselA := a % 8, fselB := b % 8 } }
def Hw.edmLevels (hw : Hw) (a b : Bool) : Hw := { hw with pins := { hw.pins with edm := b2n a + 2 * b2n b } }

/-- FSEL_CHANGE: the levels of the two channels. A valid value counts from when it came, invalid inputs from when they became so. -/
def fselChange (a b : Nat) (hw : Hw) : Hw :=
  let same := decide (hw.pins.fselA = a % 8 ∧ hw.pins.fselB = b % 8)
  let was := hw.fselValid
  let hw := hw.fselLevels a b
  let hw := if same ∨ (¬ was ∧ ¬ hw.fselValid) then hw else { hw with kpr := { hw.kpr with fselAt := hw.ticks } }
  hw.vote

/-- FSEL_DEBOUNCE: a valid value held for FSEL_DEB selects its set. -/
def fselDebounce (hw : Hw) : Hw :=
  if ¬ hw.fselValid ∨ hw.ticks < hw.kpr.fselAt + hw.fselDeb then hw
  else
    let s := hw.pins.fselA
    let hw := if s = hw.kpr.set then hw else
      ({ hw with kpr := { hw.kpr with set := s } }).kprEvent 0xE004 0xFF
    let hw := if hw.kpr.loaded s then hw else hw.kprFault 0 7 s
    hw.vote

/-- FSEL_INVALID_TIMEOUT: invalid for more than 10 ms. -/
def fselInvalidTimeout (hw : Hw) : Hw :=
  if hw.fselValid ∨ hw.ticks ≤ hw.kpr.fselAt + 8000000 then hw
  else (hw.kprFault 0 6 hw.pins.fselA).vote

/-! ### Restart (R384, R389, R393) -/

/-- RESTART_PRESS: a debounced press. -/
def restartPress (hw : Hw) : Hw :=
  { hw with pins := { hw.pins with restart := true }, kpr := { hw.kpr with pressAt := some hw.ticks, pressDead := false } }

/-- Pairs switched on by both Keepers. -/
def Hw.switchOn (hw : Hw) (ps : List Nat) : Hw :=
  let hw := { hw with kpr := { hw.kpr with needRestart := ps.foldl (fun m p => putBit m p false) hw.kpr.needRestart } }
  hw.drive2 (hw.kpr.a.on ||| maskOf ps) (hw.kpr.b.on ||| maskOf ps)

/-- RESTART_RELEASE: a debounced release; `skewUs` is how far apart the Keepers see it. A press of 0.1 to 5 s is a restart, accepted
for the pairs that are off and whose conditions hold. -/
def restartRelease (skewUs : Nat) (hw : Hw) : Hw :=
  let open' := hw.on.restartSeenOpen
  let press := hw.kpr.pressAt
  let dead := hw.kpr.pressDead
  let hw := { hw with
    pins := { hw.pins with restart := false }
    on := { hw.on with restartSeenOpen := true }
    kpr := { hw.kpr with pressAt := none, pressDead := false, stuck := false } }
  match press with
  | none => hw
  | some t =>
    if dead ∨ hw.ticks < t + 80000000 ∨ t + 4000000000 < hw.ticks ∨ ¬ hw.guarding then hw
    else
      let ps := (List.range 2).filter (fun p => !tb hw.kpr.pairsOn p && hw.mayOn p)
      if open' ∧ skewUs ≤ 10000 ∧ ¬ ps.isEmpty then
        let hw := { hw with kpr := { hw.kpr with restarts := satAdd 0xFFFF hw.kpr.restarts 1 } }
        ((hw.kprEvent 0xE003 1).switchOn ps).vote
      else
        let hw := { hw with kpr := { hw.kpr with refused := satAdd 0xFFFF hw.kpr.refused 1 } }
        hw.kprEvent 0xE003 0

/-- RESTART_STUCK: held for 5 s; the later release does nothing. -/
def restartStuck (hw : Hw) : Hw :=
  match hw.kpr.pressAt with
  | some t =>
    if hw.kpr.pressDead ∨ hw.ticks ≤ t + 4000000000 then hw
    else ({ hw with kpr := { hw.kpr with pressDead := true, stuck := true } }).raise (fid (srcKpr 0) 1 20) (le 2 0)
  | none => hw

/-- AUTO_RESTART: in AUTO mode, conditions 1 to 5 held for T_AUTO, unless a restart is required whatever the mode. -/
def autoRestart (p : Nat) (hw : Hw) : Hw :=
  match mget none hw.kpr.condAt p with
  | some t =>
    if p < 2 ∧ tb (hw.reg 0x00880000) (4 + p) ∧ ¬ tb hw.kpr.needRestart p ∧ ¬ tb hw.kpr.pairsOn p ∧ t + hw.tAuto ≤ hw.ticks ∧ hw.mayOn p then
      (hw.switchOn [p]).vote
    else hw
  | none => hw

/-! ### EDM, readback, test pulses (R386 to R388) -/

/-- Whether a pair's EDM input disagrees with the pair state beyond T_EDM. -/
def Hw.edmBad (hw : Hw) (p : Nat) : Bool :=
  tb (hw.reg 0x00880000) p && decide (mget 0 hw.kpr.pairAt p + hw.tEdm < hw.ticks) && (tb hw.pins.edm p == tb hw.kpr.pairsOn p)
def Hw.edmJudge (hw : Hw) (p : Nat) : Hw := if hw.edmBad p then (hw.kprFault 0 5 p).vote else hw

/-- EDM_CHECK of a pair. -/
def edmCheck (p : Nat) (hw : Hw) : Hw := if p < 2 then hw.edmJudge p else hw

/-- EDM_INPUT_CHANGE. -/
def edmInputChange (a b : Bool) (hw : Hw) : Hw :=
  let hw := hw.edmLevels a b
  ((hw.edmJudge 0).edmJudge 1).vote

/-- Whether line `l` is in its test pulse, or within RB_DELAY of its end: the pulse stands at the start of the line's quarter of
TP_PERIOD (R387). -/
def Hw.inPulse (hw : Hw) (l : Nat) : Bool :=
  let t := (hw.ticks - hw.kpr.pulse0) % max 1 hw.tpPeriod
  let start := l * hw.tpPeriod / 4
  hw.guarding && tb hw.kpr.lines l && decide (start ≤ t ∧ t < start + hw.tpWidth + hw.rbDelay)

/-- Whether a readback line has disagreed with its line for longer than RB_DELAY; one that is low is judged outside its test pulse
only (R386). -/
def Hw.rbBad (hw : Hw) (l : Nat) : Bool :=
  (tb hw.pins.readback l != tb hw.kpr.lines l) && !hw.inPulse l &&
    decide (max (mget 0 hw.kpr.lineAt l) (mget 0 hw.kpr.rbAt l) + hw.rbDelay < hw.ticks)

/-- READBACK_CHECK of a line. -/
def readbackCheck (l : Nat) (hw : Hw) : Hw := if l < 4 ∧ hw.rbBad l then (hw.kprFault (l % 2) 3 l).vote else hw

/-- SAFE_READBACK_CHANGE: the levels of the four readback lines. -/
def safeReadbackChange (lines : Nat) (hw : Hw) : Hw :=
  let new := lines % 16
  let changed := (List.range 4).filter (fun l => tb new l != tb hw.pins.readback l)
  let hw := { hw with
    pins := { hw.pins with readback := new }
    kpr := { hw.kpr with rbAt := changed.foldl (fun m l => mset 0 m l hw.ticks) hw.kpr.rbAt } }
  hw.vote

/-- TEST_PULSE of a line in its slot, a quarter TP_PERIOD each in the order 0A, 0B, 1A, 1B, while the line is on. -/
def testPulse (l : Nat) (lowFollows highFollows : Bool) (hw : Hw) : Hw :=
  let slot := 4 * (hw.ticks - hw.kpr.pulse0) / max 1 hw.tpPeriod
  if ¬ hw.guarding ∨ 4 ≤ l ∨ slot % 4 ≠ l ∨ slot < hw.kpr.pulseSlot ∨ ¬ tb hw.kpr.lines l then hw
  else
    let ok := lowFollows && highFollows
    let hw := { hw with kpr := { hw.kpr with pulseSlot := slot + 1, pulseBad := putBit hw.kpr.pulseBad l (!ok) } }
    if ok then hw else (hw.kprFault (l % 2) 4 l).vote

/-! ### Analog plausibility inputs (R390) -/

/-- The entries of KPR_TIDE_SEL that name an input. -/
def Hw.tideNames (hw : Hw) (i : Nat) : List Nat :=
  (List.range 4).filter (fun n => let w := hw.reg (0x00880020 + 8 * n); tb w 31 && decide (bits w 0 5 = i))

/-- An entry of KPR_TIDE_SEL judged on a sample (value v div 2¹⁶, OVR or CLAMP). -/
def Hw.tideOut (hw : Hw) (n : Nat) (v : Int) (flagged : Bool) : Bool :=
  let w := hw.reg (0x00880024 + 8 * n)
  flagged || decide (v < sx 16 w ∨ sx 16 (w / 65536) < v)

/-- A delivered sample of an input, checked by both Keepers of an AG7680-IS (R308, R390). -/
def Hw.kprTide (hw : Hw) (i : Nat) (v : Int) (flagged : Bool) : Hw :=
  let names := if hw.isIS then hw.tideNames i else []
  let bad := names.filter (fun n => hw.tideOut n v flagged)
  let hw := { hw with kpr := { hw.kpr with
    tideAt := if names.isEmpty then hw.kpr.tideAt else mset 0 hw.kpr.tideAt i hw.ticks
    tideBad := names.foldl (fun m n => putBit m n (bad.contains n)) hw.kpr.tideBad } }
  if bad.isEmpty then hw else (hw.kprFault 0 8 i).vote

/-- A failed impedance check of an input that KPR_TIDE_SEL names (R315, R390). -/
def Hw.kprImpedance (hw : Hw) (i : Nat) : Hw :=
  if ¬ hw.isIS ∨ (hw.tideNames i).isEmpty then hw else (hw.kprFault 0 8 i).vote

/-- Whether a named input has had no sample for 10 ms. -/
def Hw.tideSilent (hw : Hw) (i : Nat) : Bool :=
  !(hw.tideNames i).isEmpty && decide (max hw.kpr.guardAt (mget 0 hw.kpr.tideAt i) + 8000000 ≤ hw.ticks)

/-- KPR_TIDE_TIMEOUT: a named input without a sample for 10 ms. -/
def kprTideTimeout (i : Nat) (hw : Hw) : Hw := if hw.tideSilent i then (hw.kprFault 0 8 i).vote else hw

/-! ### GUARD (R60, R391) -/

/-- Whether every cell of every loaded set is a point origin of its row with DH equal to its HDIV, in a row of VSUB 1 (0x0706). -/
def Hw.cellsFit (hw : Hw) (plan : List Byte) : Bool :=
  (loadedSets hw.kpr).all (fun s => let m := hw.kpr.map s; (guardCells m).all (fun c =>
    let (h, v) := planCell m c
    decide (h < planH plan ∧ v < planV plan) && isOrigin plan v h && decide (govHdiv plan (governor plan h v) = mapDh m) && decide (rowVsub plan v = 1)))

/-- T_STALE against the frame period (0x0707): T_STALE ≥ 1.25 × 1,000 / FRAME_RATE s. -/
def Hw.staleFits (hw : Hw) (plan : List Byte) : Bool := decide (1250000000 ≤ 100 * bits (hw.reg 0x00880010) 0 16 * planRate plan)

/-- The rows of the guard maps, as tracks to pin (R210). -/
def Hw.guardRows (hw : Hw) : List Nat :=
  (loadedSets hw.kpr).foldl (fun l s => let m := hw.kpr.map s; (guardCells m).foldl (fun l c =>
    let k := 4 * (mapV0 m + c.j)
    if l.contains k then l else l ++ [k]) l) []

/-- What GUARD entry does in the Keepers: evaluation starts afresh, the outputs stay off and need a restart, the frozen CRC stands,
and a closed RESTART must first open (R60, R384, R389). -/
def Hw.guardStart (hw : Hw) (frozen : Nat) : Hw :=
  let fresh := fun (x : Keeper) => { x with inbox := [], counts := [], seen := [], base := [], violated := 0, searches := [], backlog := false, on := 0 }
  { hw with
    on := { hw.on with restartSeenOpen := hw.on.restartSeenOpen && !hw.pins.restart }
    kpr := { hw.kpr with
      a := fresh hw.kpr.a, b := fresh hw.kpr.b, arm := none, needRestart := 3, condAt := [], disagree := none, frozen := frozen
      set := if hw.fselValid then hw.pins.fselA else hw.kpr.set
      guardAt := hw.ticks, pulse0 := hw.ticks, pulseSlot := 0, pulseBad := 0, fselAt := hw.ticks, tideBad := 0, tideAt := []
      pairAt := [(0, hw.ticks), (1, hw.ticks)] } }

/-- GUARD_LEAVE in the Keepers: the outputs go off; a latched SAFE fault is carried out (R60, R65). -/
def Hw.guardEnd (hw : Hw) : Hw :=
  let hw := hw.drive2 0 0
  { hw with kpr := { hw.kpr with carried := hw.kpr.carried || !hw.kpr.latched.isEmpty, frozen := 0, condAt := [], disagree := none } }

/-! ### SAFE_ACK (R392) -/

/-- Whether something a pinned cell needs is lost until the pins change: a STOP fault in its path, a retired tile or channel, a
dead macropixel (R64, R143, R170, R123). -/
def Hw.pinnedLost (hw : Hw) : Bool :=
  hw.evt.table.any (fun x => x.raised && decide (x.id.cls = 3) && hw.inPinnedPath x.id.src none) ||
  (match hw.tnd.active with
   | some p => p.tracks.any (fun e => e.2.pinned &&
       ((mget {} hw.tiles (e.1 / 16)).retired || (mget {} (mget {} hw.tiles (e.1 / 16)).chans (e.1 % 16)).retired || hw.spd.dead.contains e.1))
   | none => false)

/-- Whether the cause of a KPR fault is still present. -/
def Hw.kprCause (hw : Hw) (f : FaultId) : Bool :=
  let k := if f.src = srcKpr 1 then 1 else 0
  match f.code % 1024 with
  | 1 => hw.pinnedLost
  | 2 => hw.kpr.disagree.isSome
  | 3 => (List.range 4).any (fun l => tb hw.pins.readback l != tb hw.kpr.lines l)
  | 4 => false
  | 5 => hw.edmBad 0 || hw.edmBad 1
  | 6 => !hw.fselValid
  | 7 => hw.fselValid && !hw.kpr.loaded hw.pins.fselA
  | 8 => decide (hw.kpr.tideBad ≠ 0) || (List.range 32).any (fun i => hw.tideSilent i || (!(hw.tideNames i).isEmpty && tb hw.tid.impFail i))
  | 9 => (hw.keeper k).clockBad
  | 10 => (hw.keeper k).selfBad
  | 20 => hw.kpr.stuck
  | _ => false

/-- The latched SAFE fault that a CODE names, the oldest (R392). -/
def Hw.latchedBy (hw : Hw) (code : Nat) : Option FaultId := hw.kpr.latched.find? (fun f => decide (f.code = code))

/-- The end of a SAFE_ACK: the precondition code that fails, or the fault cleared. A SAFE fault raised while it ran is a cause
still present (R393). -/
def Hw.safeAckEnd (hw : Hw) (code : Nat) (okA okB : Bool) : Hw × Option Nat :=
  let hw := { hw with kpr := { hw.kpr with a := { hw.kpr.a with selfBad := !okA }, b := { hw.kpr.b with selfBad := !okB } } }
  match hw.latchedBy code with
  | none => (hw, none)
  | some f =>
    if hw.kpr.safeSince ∨ (f.code % 1024 ≠ 10 ∧ hw.kprCause f) then (hw, some 0x0702)
    else if ¬ okA ∨ ¬ okB then (hw, some 0x0703)
    else if hw.pins.readback ≠ 0 then (hw, some 0x0704)
    else
      let left := hw.kpr.latched.filter (fun x => decide (x ≠ f))
      let hw := { hw with kpr := { hw.kpr with latched := left, needRestart := if left.isEmpty then 3 else hw.kpr.needRestart } }
      ((hw.clearFault f).vote, none)

/-! ### Status (R395, R396) -/

/-- STATE of Table 18.7. -/
def Hw.kprState (hw : Hw) : Nat := if ¬ hw.guarding then 0 else if hw.kpr.latched.isEmpty then 1 else 2
def Hw.oldestSafe (hw : Hw) : Nat := (hw.kpr.latched.head?.map (·.code)).getD 0

/-- A Keeper state record (Table 18.7). -/
def Hw.keeperRecord (hw : Hw) (k : Nat) : List Byte :=
  let x := hw.keeper k
  le 1 hw.kprState ++ le 1 hw.kpr.set ++ le 1 (x.viol hw.kpr.set) ++
    le 1 (b2n hw.pins.restart + 2 * (hw.pins.edm % 4) + 8 * b2n hw.fselValid) ++ le 4 x.samples ++ le 2 hw.oldestSafe ++ le 2 0 ++
    le 4 hw.guardCrc
def Hw.keeperStatus (hw : Hw) : List Byte :=
  hw.keeperRecord 0 ++ hw.keeperRecord 1 ++ le 1 hw.kpr.lines ++ le 1 (hw.pins.readback % 16)

/-- SAFETY_CONFIG. -/
def Hw.safetyConfig (hw : Hw) : List Byte := le 4 hw.kpr.frozen ++ le 1 hw.kDepth ++ le 1 hw.kpr.set

/-- GUARD_MAP_LOAD's effect: the set stored in both Keepers, its counts afresh (R377). -/
def Hw.storeMap (hw : Hw) (s : Nat) (m : List Byte) : Hw :=
  let drop := fun (x : Keeper) => { x with
    counts := x.counts.filter (fun e => decide (e.1 / 65536 ≠ s)), violated := x.violated - bits x.violated (4 * s) 4 * 2 ^ (4 * s)
    searches := x.searches.filter (fun e => decide (e.1 ≠ s)) }
  { hw with kpr := { hw.kpr with
      sets := if clearsSet m then mdel hw.kpr.sets s else mset [] hw.kpr.sets s m
      a := drop hw.kpr.a, b := drop hw.kpr.b } }

/-- The computed registers of KPR, by offset (Table 18.8). -/
def Hw.kprView (hw : Hw) (off : Nat) : Nat :=
  let k := hw.kpr
  match off with
  | 0x40 =>
    hw.kpr.set % 8 * 2 ^ 29 + b2n hw.fselValid * 2 ^ 28 + k.a.viol k.set % 16 * 2 ^ 24 + k.lines % 16 * 2 ^ 20 + hw.pins.readback % 16 * 2 ^ 16 +
      b2n hw.on.restartSeenOpen * 1024 + b2n k.stuck * 512 + b2n (!k.latched.isEmpty) * 256 + k.pairsOn % 4
  | 0x44 => hw.guardCrc
  | 0x48 => k.frozen
  | 0x4C => ((match hw.tnd.active with | some p => (p.tracks.filter (fun e => e.2.pinned)).length | none => 0)) * 65536 + k.cellsBut 8
  | 0x70 => k.trips
  | 0x74 => k.refused * 65536 + k.restarts
  | 0x78 => k.interf
  | 0x7C => k.overload
  | 0x80 => k.tripTime.toNat % 2 ^ 32
  | 0x84 => k.tripLatch.1
  | 0x88 => k.tripLatch.2
  | _ => if 0x50 ≤ off ∧ off ≤ 0x6C then k.setCrc ((off - 0x50) / 4) else 0

/-- A read of KPR_LAST_TRIP_LO latches HI and CELL. -/
def Hw.latchTrip (hw : Hw) : Hw := { hw with kpr := { hw.kpr with tripLatch := (hw.kpr.tripTime.toNat / 2 ^ 32, hw.kpr.tripCell) } }

/-- Whether a value of a KPR parameter word is out of its range (R387, R390, R396). -/
def Hw.badKpr (hw : Hw) (off v : Nat) : Bool :=
  match off with
  | 0x04 =>
    let rb := bits v 24 8
    let w := bits v 16 8
    let p := bits v 0 16
    decide (rb < 10 ∨ 100 < rb ∨ w < 50 ∨ 200 < w ∨ p < 10 ∨ 10000 < p ∨ w < rb + 10)
  | 0x08 => decide (bits v 0 16 < 10 ∨ 1000 < bits v 0 16)
  | 0x0C => decide (bits v 24 8 < 5 ∨ 50 < bits v 24 8 ∨ bits v 0 16 < 10 ∨ 6000 < bits v 0 16)
  | 0x10 => decide (bits v 0 16 < 100)
  | _ =>
    if 0x20 ≤ off ∧ off < 0x40 ∧ off % 8 = 0 then
      tb v 31 && hw.oddOfPair (bits v 0 5)
    else false

end Sys2Proof.Machine
end

