-- ==== Sys2Proof/Machine/Lantern.lean ====
section
/-! DEFINITION. Lantern (R99 to R109): the ledger of drive quanta per bank, angular cell and window, the grant, the caps and
limits, the cross-check, the fractions the always-on island keeps. -/

namespace Sys2Proof.Machine

/-- Index of bank and window, and of a cell of them. -/
def bw (b w : Nat) : Nat := 3 * b + w
def cellIx (b w c : Nat) : Nat := 4096 * bw b w + c

/-- The bring-up caps and windows while the caps are not locked (R104), in LU and µs. -/
def bringUpCap : Nat → Nat
  | 0 => 64
  | 1 => 1024
  | _ => 16384
def bringUpWindow : Nat → Nat
  | 0 => 10000
  | 1 => 1000000
  | _ => 100000000

/-- LNT_CAP and LNT_WINDOW (R104, Table 4.11); both read 0 before S02 loads the fuses (R498). -/
def LntSt.cap (l : LntSt) (b w : Nat) : Nat :=
  if l.caps.isEmpty then 0 else if l.capsValid then l.caps.getD (bw b w) 0 else bringUpCap w
def LntSt.window (l : LntSt) (w : Nat) : Nat :=
  if l.windows.isEmpty then 0 else if l.capsValid then l.windows.getD w 0 else bringUpWindow w

/-- LNT_LIMIT: what was written, at most the cap; the cap after a reset. -/
def LntSt.limit (l : LntSt) (b w : Nat) : Nat :=
  match l.limits.find? (fun e => decide (e.1 = bw b w)) with
  | some e => min e.2 (l.cap b w)
  | none => l.cap b w

/-- The energy a cell has used in window `w`, in sixteenths of a DQ (R100): the open bucket and the 8 closed ones, each a
multiple of cap/65,536 LU, which is cap/16 DQ. -/
def LntSt.used16 (l : LntSt) (b w c : Nat) : Nat :=
  let x := mget {} l.cells (cellIx b w c)
  16 * x.cur + l.cap b w * (x.buckets.foldl (· + ·) 0 + (mget [] l.common (bw b w)).foldl (· + ·) 0)

/-- The energy reserved in a cell by granted shots that have not fired (R101), in DQ. -/
def reservedIn (inFlight : List Shot) (c : Nat) : Nat :=
  inFlight.foldl (fun s x => if x.cells.contains c then s + x.dq else s) 0

/-- The grant rule of R101 for one window and one cell: used + reserved + dq / 4,096 ≤ limit. -/
def LntSt.fits (l : LntSt) (inFlight : List Shot) (b dq w c : Nat) : Bool :=
  decide (l.used16 b w c + 16 * (reservedIn inFlight c + dq) ≤ 65536 * l.limit b w)

/-- Whether Lantern suppresses every shot of a bank: caps not locked outside SERVICE (R104), F.LNT.003 (R105), a dead ledger
memory, Lantern not started. -/
def Hw.suppresses (hw : Hw) (b : Nat) : Bool :=
  !hw.lnt.running || hw.lnt.dead || tb hw.lnt.blocked b || (!hw.lnt.capsValid && decide (hw.dev.mode ≠ .service))

/-- Lantern grants a shot of energy `dq` only if it fits in every window and every cell it lights (R101). -/
def Hw.grants (hw : Hw) (b dq : Nat) (cells : List Nat) : Bool :=
  !hw.suppresses b &&
    (List.range 3).all (fun w => cells.all (fun c => hw.lnt.fits (mget {} hw.bcn.banks b).inFlight b dq w c))

/-- The highest used fraction of any cell of a bank and window as a u16, rounded up (R107). -/
def LntSt.fraction (l : LntSt) (b w : Nat) : Nat :=
  let cap := l.cap b w
  let ofCell := fun (c : Nat) => ceilDiv (l.used16 b w c) (max 1 cap)
  let listed := l.cells.filter (fun e => decide (e.1 / 4096 = bw b w))
  min 65535 (listed.foldl (fun m e => max m (ofCell (e.1 % 4096))) (ofCell 0))

/-- A shot's energy booked in every cell it lights, in the open bucket of every window (R101). -/
def LntSt.book (l : LntSt) (s : Shot) : LntSt :=
  { l with cells := (List.range 3).foldl (fun m w =>
      s.cells.foldl (fun m c => mupd {} m (cellIx s.bank w c) (fun x => { x with cur := x.cur + s.dq })) m) l.cells }

/-- Lantern with a new ledger: every fraction that has risen goes to the always-on island (R107). -/
def Hw.withLedger (hw : Hw) (l : LntSt) : Hw :=
  let on := (List.range 12).foldl (fun m i =>
    let f := l.fraction (i / 3) (i % 3)
    if hw.lnt.fraction (i / 3) (i % 3) < f then mset 0 m i f else m) hw.on.fraction
  { hw with lnt := l, on := { hw.on with fraction := on } }

/-- Booking at the fire instant (R101). The shot is the one that the next monitor sample measures (R105). -/
def Hw.bookShot (hw : Hw) (s : Shot) : Hw :=
  hw.withLedger { hw.lnt.book s with lastCur := mset 0 hw.lnt.lastCur s.bank s.cur }

/-- One cell's bucket closed: rounded up to a multiple of cap/65,536, the oldest dropped (R100). -/
def closeCell (cap : Nat) (x : Cell) : Cell :=
  let b := ((ceilDiv (16 * x.cur) (max 1 cap)) :: x.buckets).take 8
  { cur := 0, buckets := if b.all (fun n => decide (n = 0)) then [] else b }

/-- LNT_BUCKET_CLOSE: a bucket of window `w` closes T/8 after the last; every cell's window slides (R100). -/
def bucketClose (w : Nat) (hw : Hw) : Hw :=
  let l := hw.lnt
  if l.running ∧ w < 3 ∧ mget 0 l.bucketAt w + 100 * l.window w ≤ hw.ticks then
    let cells := (l.cells.map (fun e =>
      if (e.1 / 4096) % 3 = w then (e.1, closeCell (l.cap (e.1 / 4096 / 3) w) e.2) else e)).filter
        (fun e => decide (e.2 ≠ {}))
    let common := (List.range 4).foldl (fun m b =>
      mupd [] m (bw b w) (fun x => if x.isEmpty then [] else
        let y := (0 :: x).take 8
        if y.all (fun n => decide (n = 0)) then [] else y)) l.common
    { hw with lnt := { l with cells := cells, common := common, bucketAt := mset 0 l.bucketAt w hw.ticks } }
  else hw

/-- Every cell's newest completed bucket set so that the bank and window hold `code` there (R103, R107): what each cell had
of its own there is replaced by one common bucket. -/
def LntSt.fill (l : LntSt) (b w code : Nat) : LntSt :=
  let cells := (l.cells.map (fun e =>
    if e.1 / 4096 = bw b w then
      (e.1, { e.2 with buckets := match e.2.buckets with
        | _ :: r => if r.all (fun n => decide (n = 0)) then [] else 0 :: r
        | [] => [] })
    else e)).filter (fun e => decide (e.2 ≠ {}))
  let common := mupd [] l.common (bw b w) (fun x =>
    match x with
    | _ :: r => if code = 0 ∧ r.all (fun n => decide (n = 0)) then [] else code :: r
    | [] => if code = 0 then [] else [code])
  { l with cells := cells, common := common }

/-- The grid registers changed (R103): every cell's newest completed bucket takes the largest used value of the bank and
window, rounded up to the bucket's unit. -/
def remapLedger (hw : Hw) : Hw :=
  hw.withLedger <| (List.range 12).foldl (fun l i =>
      let b := i / 3
      let w := i % 3
      let listed := l.cells.filter (fun e => decide (e.1 / 4096 = i))
      let top := listed.foldl (fun m e => max m (l.used16 b w (e.1 % 4096))) (l.cap b w * (mget [] l.common i).foldl (· + ·) 0)
      if top = 0 then l else l.fill b w (ceilDiv top (max 1 (l.cap b w)))) hw.lnt

/-- Lantern started at S05 (R104, R107): after any start but a power-up each cell's newest bucket is loaded with the kept
fraction plus 16 LU; F.LNT.001 is raised while the caps are not locked. -/
def lanternStart (hw : Hw) : Hw :=
  let l := { hw.lnt with running := true, bucketAt := (List.range 3).foldl (fun m w => mset 0 m w hw.ticks) [] }
  let l := if hw.dev.startCause = 0 then l
    else (List.range 12).foldl (fun l i =>
      l.fill (i / 3) (i % 3) (mget 0 hw.on.fraction i + ceilDiv (16 * 65536) (max 1 (l.cap (i / 3) (i % 3))))) l
  hw.withLedger l

/-- F.LNT.001 raised on leaving SERVICE or at S05 while the caps are not locked; cleared on entry to SERVICE (R104). -/
def capsFault (hw : Hw) : Hw :=
  if hw.lnt.running ∧ ¬ hw.lnt.capsValid then
    if hw.dev.mode = .service then hw.clearFault (fid srcLnt 3 1)
    else hw.raise (fid srcLnt 3 1) []
  else hw

/-- A cell coordinate from an angle (R102): floor(64 × (θ − origin) / span), clamped; a span of 0 gives cell 0. An angle that a whole
turn brings inside the span is inside it (log entry 151). -/
def angleCell (theta origin : Int) (span : Nat) : Nat :=
  if span = 0 then 0
  else
    let d : Int := (theta - origin) % (2 ^ 32 : Nat)
    if d < span then (64 * d.toNat) / span
    else (clampI 0 63 (Int.fdiv (64 * (theta - origin)) span)).toNat

/-- The angle of an axis extrapolated to a tick from its latest prediction (R102, R297), in AU; 0 for an axis that has published none
(log entry 152). -/
def Hw.angleAt (hw : Hw) (axis tick : Nat) : Int :=
  match mget none hw.preds axis with
  | some (a, r, t) => sx 32 (cx 32 (Int.fdiv (a * 65536 + r * ((tick : Int) - t)) 65536))
  | none => 0

/-- The cells a shot lights (R102): each as 64 × row + column; a reserved source acts freely as one of the two (log entry 9). -/
def Hw.cellsOf (hw : Hw) (row cols fireTick : Nat) : List Nat :=
  let g := hw.reg 0x00028090
  let hs := sx 32 (hw.reg 0x00028094)
  let vs := sx 32 (hw.reg 0x0002809C)
  let source := fun site v => if v < 2 then v else Config.reservedMode (site + v) % 2
  let r := if source 400 (bits g 8 2) = 1 then angleCell (hw.angleAt (bits g 10 2) fireTick) vs (hw.reg 0x000280A0) else row
  let cs := if source 404 (bits g 4 2) = 1 then (setBits 16 cols).map (fun c => 4 * c)
    else [angleCell (hw.angleAt (bits g 6 2) fireTick) hs (hw.reg 0x00028098)]
  cs.map (fun c => 64 * r + c)

/-- Whether Tide's own flags make the input that LNT_XCHK_IN names for a bank invalid: its last sample was clamped, or its last impedance
check failed (R105). -/
def Hw.monitorBad (hw : Hw) (b : Nat) : Bool :=
  let i := bits (hw.reg 0x000280A8) (8 * b) 5
  (match (mget {} hw.tid.inputs i).sample with | some s => s.clamp | none => false) || tb hw.tid.impFail i

/-- LNT_XCHK_SAMPLE: a monitor sample of a bank compared with XGAIN × CUR of the shot sampled (R105). A sample with a clamp flag or a
failed impedance check makes the input invalid. -/
def xchkSample (b : Nat) (sample : Int) (quality : Nat) (hw : Hw) : Hw :=
  if ¬ hw.lnt.running ∨ 4 ≤ b ∨ hw.ticks < mget 0 hw.lnt.xchkAt b then hw
  else
    let x := hw.reg 0x000280A4
    let l := { hw.lnt with xchkAt := mset 0 hw.lnt.xchkAt b (hw.ticks + 800 * bits x 8 16) }
    if quality ≠ 0 ∨ hw.monitorBad b then
      let hw := { hw with lnt := { l with invalid := putBit l.invalid b true } }
      if hw.isRaised (fid srcLnt 2 4) then hw else hw.raise (fid srcLnt 2 4) (le 1 b)
    else
      let expected : Int := (hw.reg (0x000280B0 + 4 * b) * mget 0 l.lastCur b : Nat)
      let above := decide (expected * (256 + bits x 24 8) < sample * 65536 * 256)
      let n : Nat := if above then mget 0 l.above b + 1 else 0
      let hw := { hw with lnt := { l with invalid := putBit l.invalid b false, above := mset 0 l.above b (min 3 n) } }
      if n = 3 ∧ ¬ tb hw.lnt.blocked b then
        let hw := { hw with lnt := { hw.lnt with blocked := putBit hw.lnt.blocked b true } }
        hw.raise (fid srcLnt 3 3) (le 1 b)
      else hw

/-- A limit stored, at most the cap (R104). -/
def storeLimit (i v : Nat) (hw : Hw) : Hw :=
  let b := i / 3
  let w := i % 3
  { hw with lnt := { hw.lnt with limits :=
      (hw.lnt.limits.filter (fun e => decide (e.1 ≠ i))) |> fun m => mins m i (min v (hw.lnt.cap b w)) } }

/-- The value LANTERN_LEDGER returns for one cell (R108). -/
def LntSt.ledgerWord (l : LntSt) (b w c : Nat) : Nat :=
  if l.limit b w = 0 then 0xFFFF else min 65535 (l.used16 b w c / l.limit b w)

end Sys2Proof.Machine
end

