-- ==== Sys2Proof/Machine/Tiles.lean ====
section
/-! DEFINITION. The tiles (chapters 06 and 07): accepting stops, entering them in the histograms, the candidate tracker, pairing shot
edges with descriptors, zoom windows, close, the peak finder's queue, retirement. -/

namespace Sys2Proof.Machine

/-- The channel serves a pinned cell (R143, R170). -/
def Hw.pinnedChan (hw : Hw) (k : Nat) : Bool :=
  match hw.trackOf k with
  | some t => t.pinned
  | none => false

/-- A loss in GUARD of something a pinned cell needs (R143, R170, R211). -/
def Hw.lossOfPinned (hw : Hw) (pinned : Bool) : Hw :=
  if pinned && decide (hw.dev.mode = .guard) then hw.safe001 else hw

/-! ### Accepting stops (R144) -/

/-- Why an event is refused. -/
inductive Refuse where
  | budget
  | spacing
  | pool
  deriving DecidableEq, Repr

/-- The three rules of R144 in their order, on pre-stamps of 125 ps. -/
def refuse (c : Chan) (pre : Nat) : Option Refuse :=
  if 8 ≤ c.budget then some .budget
  else if c.stops.any (fun s => decide (pre < s + 20)) then some .spacing
  else if 4 ≤ (c.stops.filter (fun s => decide (pre < s + 416 ∧ s ≤ pre))).length then some .pool
  else none

/-- A refusal charged to the histogram of the bank's most recent assigned shot (R159). -/
def chargeRefusal (c : Chan) (r : Refuse) : Chan :=
  match c.lastBuf with
  | some i =>
    let h := c.buf i
    if h.state = .accum then
      c.setBuf i (match r with
        | .budget => { h with refBudget := h.refBudget + 1 }
        | .spacing => { h with refSpacing := h.refSpacing + 1 }
        | .pool => { h with refPool := h.refPool + 1 })
    else c
  | none => c

/-- The lowest vernier of a channel that converts nothing. -/
def freeVernier (c : Chan) : Nat :=
  match (List.range 4).find? (fun v => decide (mget none c.busy v = none)) with
  | some v => v
  | none => 3

/-- An accepted stop: it starts a free vernier (R144). -/
def startStop (c : Chan) (pre count : Nat) : Chan :=
  { c with
    stops := (pre :: c.stops).take 8
    budget := c.budget + 1
    busy := mset none c.busy (freeVernier c) (some (pre, min 63 count, decide (c.budget = 7))) }

/-! ### Entries (R154 to R156, R161 to R163) -/

/-- The candidate nearest `x` within 2 bins, the lower bin on a tie: its slot and itself (R161). -/
def nearCand (cs : List (Option Cand)) (x : Nat) : Option (Nat × Cand) :=
  ([0, -1, 1, -2, 2] : List Int).findSome? (fun d =>
    (List.range 4).findSome? (fun i =>
      match cs[i]? with
      | some (some c) => if (c.bin : Int) = x + d then some (i, c) else none
      | _ => none))

/-- Frees, of two candidates within 2 bins of each other, the one R161 names. -/
def freeClose (cs : List (Option Cand)) (i : Nat) (c : Cand) : List (Option Cand) :=
  match (List.range 4).findSome? (fun j =>
      match cs[j]? with
      | some (some d) => if j ≠ i ∧ d.bin ≤ c.bin + 2 ∧ c.bin ≤ d.bin + 2 then some (j, d) else none
      | _ => none) with
  | some (j, d) =>
    if ¬ c.locked ∧ ¬ d.locked then
      if c.score < d.score ∨ (c.score = d.score ∧ d.bin < c.bin) then cs.set i none else cs.set j none
    else if ¬ c.locked then cs.set i none
    else if ¬ d.locked then cs.set j none
    else cs
  | none => cs

/-- A candidate taken into a slot; after the zoom-in point it is locked at once and gets a LATE window if its bin is in
range (R162). -/
def newCand (h : Hist) (x s now : Nat) : Cand :=
  if h.zoomed ∧ h.track.zlo ≤ x ∧ x ≤ h.track.zhi then
    { bin := x, score := s, locked := true, window := some (80 * (x : Int) - 88), placed := now, late := true }
  else { bin := x, score := s }

/-- The unlocked candidate with the lowest score, then the highest bin. -/
def weakest (cs : List (Option Cand)) : Option (Nat × Cand) :=
  (List.range 4).foldl (fun best i =>
    match cs[i]? with
    | some (some c) =>
      if c.locked then best
      else match best with
        | none => some (i, c)
        | some (_, b) => if c.score < b.score ∨ (c.score = b.score ∧ b.bin < c.bin) then some (i, c) else best
    | _ => best) none

/-- One pass of the tracker for bin `x` (R161). -/
def trackBin (trkMin now : Nat) (h : Hist) (x : Nat) : Hist :=
  let at' := fun (i : Int) => if i < 0 ∨ 2047 < i then 0 else mget 0 h.coarse i.toNat
  let s := at' ((x : Int) - 1) + at' x + at' (x + 1)
  match nearCand h.cands x with
  | some (i, c) =>
    let c := if ¬ c.locked ∧ (c.score < s ∨ (s = c.score ∧ x < c.bin)) then { c with bin := x } else c
    let c := if c.bin = x then { c with score := s } else c
    { h with cands := freeClose (h.cands.set i (some c)) i c }
  | none =>
    if s < trkMin then h
    else match (List.range 4).find? (fun i => decide (h.cands[i]? = some none)) with
      | some i => { h with cands := h.cands.set i (some (newCand h x s now)), cWins := mset (0, 0) h.cWins i (0, 0) }
      | none =>
        match weakest h.cands with
        | some (i, w) =>
          if w.score < s then
            { h with cands := h.cands.set i (some (newCand h x s now)), cWins := mset (0, 0) h.cWins i (0, 0) }
          else h
        | none => h

/-- One fine increment of window `z` for an entry at `t` of a shot fired at `fire` (R155, R156). -/
def enterFine (t fire c : Nat) (h : Hist) (z : Nat) : Hist :=
  match h.cands[z]? with
  | some (some cd) =>
    match cd.window with
    | some w =>
      if w ≤ t ∧ (t : Int) < w + 256 ∧ cd.placed < fire then
        let j := 128 * z + ((t : Int) - w).toNat / 2
        let old := mget 0 h.fine j
        let cw := mget (0, 0) h.cWins z
        { h with
          fine := mset 0 h.fine j (min 0xFFFF (old + 1))
          zoomSat := h.zoomSat || decide (old = 0xFFFF)
          cWins := mset (0, 0) h.cWins z (cw.1 + c, cw.2 + 1) }
      else h
    | none => h
  | _ => h

/-- One entry at `t` fine steps against a shot fired at `fire` (R155, R156, R161). -/
def enter (trkMin now t fire c : Nat) (h : Hist) : Hist :=
  let b := t / 80
  let old := mget 0 h.coarse b
  let cb := mget (0, 0) h.cBins b
  let h := { h with
    coarse := mset 0 h.coarse b (min 0xFFFF (old + 1))
    binSat := h.binSat || decide (old = 0xFFFF)
    cBins := mset (0, 0) h.cBins b (cb.1 + c, cb.2 + 1) }
  let h := (List.range 4).foldl (enterFine t fire c) h
  let h := if 1 ≤ b then trackBin trkMin now h (b - 1) else h
  let h := trackBin trkMin now h b
  if b < 2047 then trackBin trkMin now h (b + 1) else h

/-- The buffers of a channel that a fire's shot was assigned to, while they accumulate (R154). -/
def bufsOfShot (c : Chan) (f : Fire) : List Nat :=
  (List.range 2).filter (fun i =>
    let h := c.buf i
    decide (h.state = .accum ∧ h.bank = f.bank) && h.shots.any (fun s => decide (s.1 = f.num)))

/-- SKEW as s_int and s_frac (R145). -/
def skewInt (code : Nat) : Int := Int.fdiv (sx 24 code) 64
def skewFrac (code : Nat) : Nat := (Int.fmod (sx 24 code) 64).toNat

/-- A stop stamped at `stamp` entered against the DEPTH most recent fire instants of the channel's bank (R154), its
exhaustion noted when it was the shot's 8th (R175). -/
def enterStop (trkMin now depth : Nat) (sInt : Int) (fires : List Fire) (stamp count : Nat) (eighth : Bool)
    (c : Chan) : Chan :=
  let recent := fires.filter (fun f => decide (f.time < stamp))
  let inRange := fun (f : Fire) =>
    let t := (stamp : Int) - f.time - sInt
    decide (0 ≤ t ∧ t < 163840)
  let kept := recent.take depth
  let c := if eighth then
      match kept with
      | f :: _ =>
        let t := ((stamp : Int) - f.time - sInt).toNat
        if inRange f then
          (bufsOfShot c f).foldl (fun c i => c.setBuf i { c.buf i with exhaust := mupd 0 (c.buf i).exhaust (t / 10240) (· + 1) }) c
        else c
      | [] => c
    else c
  let hits := kept.flatMap (fun f => if inRange f then (bufsOfShot c f).map (fun i => (i, f)) else [])
  let c' := hits.foldl (fun c (e : Nat × Fire) =>
    c.setBuf e.1 (enter trkMin now ((stamp : Int) - e.2.time - sInt).toNat e.2.time count (c.buf e.1))) c
  let c' := if hits.isEmpty then
      match c'.lastBuf with
      | some i => if (c'.buf i).state = .accum then c'.setBuf i { c'.buf i with outside := (c'.buf i).outside + 1 } else c'
      | none => c'
    else c'
  match (recent.drop depth).head? with
  | some f =>
    if inRange f then
      match (kept.findSome? (fun f => (bufsOfShot c' f).head?)).or c'.lastBuf with
      | some i => if (c'.buf i).state = .accum then c'.setBuf i { c'.buf i with clipped := true } else c'
      | none => c'
    else c'
  | none => c'

/-! ### Shot edges (R140 to R142) -/

/-- The stamp of a conversion (R143): reference edge `e`, count `n`, gain code `g` in Q1.15; in fine steps. -/
def stampOf (site e n g : Nat) : Nat :=
  (80 * (e : Int) - roundNear site ((n * g : Nat) / 32768 : Rat)).toNat

/-- Gain code of vernier `v` of channel position `p`, and of fire vernier `v` of a tile (Table 7.9). -/
def Hw.gainOf (hw : Hw) (tile p v : Nat) : Nat :=
  bits (mget 0 hw.vgain (34 * tile + 2 * p + v / 2)) (16 * (v % 2)) 16
def Hw.fireGain (hw : Hw) (tile v : Nat) : Nat := hw.gainOf tile 16 v

/-- A bank's fire instant opens a new budget on the channels that accumulate the bank's shots (R144 rule 1). -/
def newBudget (hw : Hw) (n : Nat) (banks : List Nat) (t : Tile) : Tile :=
  (List.range 16).foldl (fun t p =>
    match hw.trackOf (16 * n + p) with
    | some tr => if banks.contains tr.bank then t.setChan p { t.chan p with budget := 0 } else t
    | none => t) t

/-- A shot edge arrives at a tile: it pairs with the oldest descriptor not marked missing (R140), is checked against the
tick announced (R142), and its stamp becomes the fire instant of every shot listed. -/
def shotEdge (n v e cnt : Nat) (hw : Hw) : Hw :=
  let hw := settleTile n hw
  match hw.descs.drop (hw.tile n).taken with
  | d :: _ =>
    let stamp := stampOf 601 e cnt (hw.fireGain n v)
    let announced : Int := (d.fireAt : Int) + ((hw.clk.time.toNat : Int) - hw.ticks) + Config.treeDelay n
    let off : Int := (stamp / 80 : Nat) - announced
    let hw := hw.setTile n { hw.tile n with taken := (hw.tile n).taken + 1 }
    if off < -2 ∨ 2 < off then
      let hw := d.shots.foldl (fun h s => offerAll n s (.miss false hw.fineNow) h) hw
      settleTile n ((hw.stick (tileReg n 0x14) 1).raise (fid (srcTile n) 3 11) (le 2 n))
    else
      let fires := d.shots.map (fun s => ({ bank := s.bank, time := stamp, num := s.num, epoch := s.epoch } : Fire))
      let t := newBudget hw n (d.shots.map (·.bank)) (hw.tile n)
      let hw := hw.setTile n { t with fires := (fires ++ t.fires).take 40 }
      settleTile n (d.shots.foldl (fun h s => offerAll n s (.fired stamp) h) hw)
  | [] => hw

/-! ### Gate events and conversions -/

/-- A gate event judged by R144 on channel `k` (its pre-stamp in 125 ps steps, its coincidence count). -/
def acceptEvent (k pre count : Nat) (hw : Hw) : Hw :=
  let n := k / 16
  let hw := settleTile n hw
  let t := hw.tile n
  let c := t.chan (k % 16)
  if c.retired then hw
  else match refuse c pre with
    | none => hw.setTile n (t.setChan (k % 16) (startStop c pre count))
    | some r => (hw.setTile n (t.setChan (k % 16) (chargeRefusal c r))).stick (chanReg k 4) 1

/-- The track a channel serves under the placement of an epoch. -/
def Hw.trackAt (hw : Hw) (k epoch : Nat) : Option Track := (hw.placementOf epoch).bind (fun p => p.track k)

/-- A vernier conversion ends (R143): a stamp, entered by R154 against the fires of the bank of each fire's epoch, with the DEPTH of the
most recent one (R153), or a failure, counted; more than 16 failures of one vernier in a frame retire the channel. A count above 82 is
no coincidence. An event with the calibration mark enters no histogram: CAL counts it (R363). -/
def vernierEnd (k v e : Nat) (cnt : Option Nat) (hw : Hw) : Hw :=
  let n := k / 16
  let p := k % 16
  let hw := settleTile n hw
  let t := hw.tile n
  let c := t.chan p
  match mget none c.busy v with
  | none => hw
  | some (_, count, eighth) =>
    let mark := c.marked.contains v
    let c := { c with busy := mset none c.busy v none, marked := c.marked.filter (fun x => decide (x ≠ v)) }
    match cnt with
    | some m =>
      if 1 ≤ m ∧ m ≤ 82 ∧ mark then
        let hw := hw.setTile n (t.setChan p c)
        { hw with cal := { hw.cal with events := mupd 0 hw.cal.events (4 * k + v) (· + 1) } }
      else if 1 ≤ m ∧ m ≤ 82 then
        let stamp := stampOf 602 e m (hw.gainOf n p v)
        let trk := max 1 (bits (hw.reg (tileReg n 0)) 16 8)
        let fires := t.fires.filter (fun f => decide ((hw.trackAt k f.epoch).map (·.bank) = some f.bank))
        let depth := match fires.find? (fun f => decide (f.time < stamp)) with
          | some f => ((hw.trackAt k f.epoch).map (·.depth)).getD 1
          | none => 1
        hw.setTile n (t.setChan p
          (enterStop trk hw.fineNow depth (skewInt (hw.reg (chanReg k 0))) fires stamp count eighth c))
      else failVernier k v c hw
    | none => failVernier k v c hw
where
  /-- A failed conversion of vernier `v` of channel `k`. -/
  failVernier (k v : Nat) (c : Chan) (hw : Hw) : Hw :=
    let n := k / 16
    let fails := mget 0 c.vernFail v + 1
    let c := { c with vernFail := mset 0 c.vernFail v fails }
    let hw := hw.stick (chanReg k 8) 1
    if 16 < fails ∧ ¬ c.retired then
      let pinned := hw.pinnedChan k
      let hw := hw.setTile n ((hw.tile n).setChan (k % 16) { c with retired := true })
      (hw.raise (fid (srcTile n) 2 10) (le 2 n ++ le 2 k)).lossOfPinned pinned
    else hw.setTile n ((hw.tile n).setChan (k % 16) c)

/-! ### Zoom-in, close, peak finder -/

/-- The zoom-in point of a histogram: every candidate in range is locked and receives a window (R162). -/
def placeWindows (now : Nat) (h : Hist) : Hist :=
  { h with
    zoomed := true
    cands := h.cands.map (fun o => o.map (fun c =>
      if h.track.zlo ≤ c.bin ∧ c.bin ≤ h.track.zhi ∧ c.window.isNone then
        { c with locked := true, window := some (80 * (c.bin : Int) - 88), placed := now } else c)) }

/-- ZOOM_IN: the window of shot ZOOM_AT of an accumulating histogram has closed; that instant is the placement instant. -/
def zoomIn (k : Nat) (hw : Hw) : Hw :=
  let n := k / 16
  let hw := settleTile n hw
  let t := hw.tile n
  let c := t.chan (k % 16)
  match (List.range 2).find? (fun i =>
      let h := c.buf i
      decide (h.state = .accum) && !h.zoomed &&
        (match h.zoomDue with | some w => decide (w ≤ hw.fineNow) | none => false)) with
  | some i => hw.setTile n (t.setChan (k % 16) (c.setBuf i (placeWindows ((c.buf i).zoomDue.getD hw.fineNow) (c.buf i))))
  | none => hw

/-- HISTOGRAM_CLOSE: every shot of the histogram is counted and 80 ns have passed (R159). -/
def closeHist (k : Nat) (hw : Hw) : Hw :=
  let n := k / 16
  let hw := settleTile n hw
  let t := hw.tile n
  let c := t.chan (k % 16)
  match (List.range 2).find? (fun i =>
      let h := c.buf i
      decide (h.state = .accum) && decide (h.nAcc ≤ h.assigned) && decide (h.closeDue ≤ hw.fineNow)) with
  | some i =>
    let h := { c.buf i with
      state := .queued, closeTime := BitVec.ofNat 64 (ceilDiv (c.buf i).closeDue 80), dead := hw.spd.dead.contains k }
    let c := { c.setBuf i h with
      closedIn := (hw.tnd.frame, if c.closedIn.1 = hw.tnd.frame then c.closedIn.2 + 1 else 1) }
    let t := { t.setChan (k % 16) c with closed := (t.closed + 1) % 2 ^ 32 }
    hw.setTile n { t with qmax := max t.qmax t.queue }
  | none => hw

/-- The QUEUED buffer that closed first, in channel order where several closed in one tick: channel position and buffer (R165). -/
def oldestQueued (t : Tile) : Option (Nat × Nat) :=
  (List.range 32).foldl (fun best x =>
    let h := (t.chan (x / 2)).buf (x % 2)
    if h.state = .queued then
      match best with
      | none => some (x / 2, x % 2)
      | some (p, i) =>
        let b := (t.chan p).buf i
        if h.closeTime < b.closeTime then some (x / 2, x % 2) else best
    else best) none

/-- PEAK_FIND_START: the peak finder takes the oldest QUEUED buffer for 1.875 µs (R165). -/
def peakStart (n : Nat) (hw : Hw) : Hw :=
  let hw := settleTile n hw
  let t := hw.tile n
  match t.peak, oldestQueued t with
  | none, some (p, i) =>
    let c := t.chan p
    hw.setTile n { t.setChan p (c.setBuf i { c.buf i with state := .peak }) with peak := some (p, i), peakEnd := hw.ticks + 1500 }
  | _, _ => hw

/-- A tile is retired by cause 1 BIST, 2 parity, 3 host: at once in CONFIG and BOOT, else at the next boundary (R170). -/
def retireNow (n cause : Nat) (hw : Hw) : Hw :=
  let t := hw.tile n
  if t.retired then hw
  else
    let pinned := (List.range 16).any (fun p => hw.pinnedChan (16 * n + p))
    let hw := hw.setTile n { t with retired := true, cause := cause, retireDue := 0 }
    (hw.raise (fid (srcTile n) 2 13) (le 2 n ++ le 2 cause)).lossOfPinned pinned

def retireTile (n cause : Nat) (hw : Hw) : Hw :=
  match hw.dev.mode with
  | .config | .boot => retireNow n cause hw
  | .dormant => hw
  | .scan | .guard | .service =>
    let t := hw.tile n
    if t.retired ∨ t.retireDue ≠ 0 then hw else hw.setTile n { t with retireDue := cause }

/-- PEAK_FIND_DONE: the buffer passes to DONE; a parity error discards its results, and a fifth in one frame retires the
tile (R165, R170). -/
def peakDone (n : Nat) (parityError : Bool) (hw : Hw) : Hw :=
  let hw := settleTile n hw
  let t := hw.tile n
  match t.peak with
  | some (p, i) =>
    if t.peakEnd ≤ hw.ticks then
      let c := t.chan p
      let h := { c.buf i with state := .done, parity := (c.buf i).parity || parityError }
      let t := { t.setChan p { c.setBuf i h with view := some i } with peak := none, parityErr := t.parityErr + b2n parityError }
      let hw := hw.setTile n t
      if parityError then
        let hw := hw.raise (fid (srcTile n) 1 12) (le 2 n ++ le 2 (16 * n + p))
        if 4 < t.parityErr then retireTile n 2 hw else hw
      else hw
    else hw
  | none => hw

end Sys2Proof.Machine
end

