-- ==== Sys2Proof/Machine/Beacon.lean ====
section
/-! DEFINITION. Beacon (R80 to R98): targets from the grid or a pattern program, decisions, set-up and fire instants, shot
coding, the bus drivers, the reference return and the emitter counts. -/

namespace Sys2Proof.Machine

def Hw.bank (hw : Hw) (b : Nat) : BeaconBank := mget {} hw.bcn.banks b
def Hw.setBank (hw : Hw) (b : Nat) (k : BeaconBank) : Hw := { hw with bcn := { hw.bcn with banks := mset {} hw.bcn.banks b k } }
def Hw.driver (hw : Hw) (a : Nat) : Driver := mget {} hw.bcn.drivers a
def Hw.setDriver (hw : Hw) (a : Nat) (d : Driver) : Hw :=
  { hw with bcn := { hw.bcn with drivers := mset {} hw.bcn.drivers a d } }

/-- Fields of BCN_DRV[a] and BCN_BANK[b] (Tables 4.9, 4.10). -/
def Hw.drvReg (hw : Hw) (a : Nat) : Nat := hw.reg (0x00020040 + 4 * a)
def Hw.bankReg (hw : Hw) (b : Nat) : Nat := hw.reg (0x00020020 + 4 * b)

/-- The present driver that serves a row of a bank, whether its fault excludes it or not (R81). -/
def Hw.driverOf (hw : Hw) (b row : Nat) : Option Nat :=
  (List.range 16).find? (fun a =>
    let d := hw.drvReg a
    tb d 7 && decide (bits d 0 2 = b) && decide (bits d 2 2 = row / 16))

/-- Whether the emitter (bank, row, column) is absent (R81, R86). -/
def Hw.absent (hw : Hw) (b row col : Nat) : Bool :=
  !tb (hw.bankReg b) 0 || !tb (hw.bankReg b) (16 + col) ||
    (match hw.driverOf b row with
     | some a => decide ((hw.driver a).excl ≠ 0)
     | none => true)

/-- The counts of an emitter (R97). -/
def Hw.emitter (hw : Hw) (b row col : Nat) : Emitter := mget {} hw.bcn.emitters (emIx b row col)

/-- The two status bits of an emitter (R97): 3 ABSENT, 2 OPEN, 0 UNVERIFIED, 1 GOOD. -/
def Hw.emStatus (hw : Hw) (b row col : Nat) : Nat :=
  let e := hw.emitter b row col
  if hw.absent b row col then 3 else if e.opened then 2 else if e.fired < 64 then 0 else 1

/-- The columns of a shot that fire: those not absent and, with OPEN_ACTION set, not OPEN (R81, R97). -/
def Hw.litCols (hw : Hw) (b row cols : Nat) : Nat :=
  maskOf ((setBits 16 cols).filter (fun c =>
    !hw.absent b row c && !(tb (hw.reg 0x00020000) 11 && (hw.emitter b row c).opened)))

/-! ### Shot coding (R91) -/

/-- One clock of a PRBS31 generator; the output bit enters s[0]. -/
def prbsClock (s : Nat) : Nat :=
  ((2 * s) % 2 ^ 31) + (bits s 30 1 + bits s 27 1) % 2

/-- next16: sixteen clocks, the first output as bit 15; the value and the new state. -/
def next16Go : Nat → Nat → Nat → Nat × Nat
  | 0, s, v => (v, s)
  | n + 1, s, v => let s' := prbsClock s; next16Go n s' (2 * v + s' % 2)
def next16 (s : Nat) : Nat × Nat := next16Go 16 s 0

/-- The swap of two places of a list. -/
def swapAt (l : List Nat) (i j : Nat) : List Nat := (l.set i (l.getD j 0)).set j (l.getD i 0)

/-- The shuffle of a block, i from 63 down to 1. -/
def shuffleGo : Nat → Nat → List Nat → Nat × List Nat
  | 0, s, l => (s, l)
  | i + 1, s, l =>
    let (v, s') := next16 s
    shuffleGo i s' (swapAt l (i + 1) (v % (i + 2)))

/-- The start of a bank's block (R91): a seed that waits comes in, with the identity; with CODE set the block is shuffled. With CODE clear it is
not, and no generator is clocked (log entry 153). -/
def startBlock (code : Bool) (c : Coding) : Coding :=
  let c := match c.seed with
    | some s => { c with state := s, perm := [], seed := none }
    | none => c
  if code then
    let (s, l) := shuffleGo 63 c.state (if c.perm.isEmpty then List.range 64 else c.perm)
    { c with state := s, perm := l }
  else c

/-- The next position of a bank's block and its slot, 0 with CODE clear. -/
def nextSlot (code : Bool) (c : Coding) : Nat × Coding :=
  let c := if c.pos = 0 then startBlock code c else c
  (if code then c.perm.getD c.pos c.pos else 0, { c with pos := (c.pos + 1) % 64 })

/-! ### Targets -/

/-- What the trigger is compared with (R87): the fraction num/den, in AU under ANGLE and in device ticks under TIME, and the direction of
crossing. -/
structure Aim where
  num : Int
  den : Nat
  up  : Bool
  deriving DecidableEq, Repr

/-- A target as Beacon meets it: the emitters, the pulse width, the column it serves, what the trigger must reach. -/
structure Target where
  row     : Nat
  profile : Nat
  cols    : Nat
  pw      : Nat
  column  : Nat
  aim     : Aim
  deriving DecidableEq, Repr

/-- BCN_TRIG: MODE is TIME; AXIS. -/
def Hw.trigTime (hw : Hw) : Bool := tb (hw.reg 0x00020004) 4
def Hw.trigAxis (hw : Hw) : Nat := bits (hw.reg 0x00020004) 0 2

/-- Whether the projection of the trigger, `dt` ticks from now, is at the aim or past it by less than half a turn (R87). -/
def Hw.atAim (hw : Hw) (a : Aim) (dt : Nat) : Bool :=
  if hw.trigTime then decide (a.num ≤ ((hw.clk.time.toNat + dt : Nat) : Int) * a.den)
  else
    let p := hw.angleAt hw.trigAxis (hw.ticks + bits (hw.reg 0x00020000) 20 12 + dt)
    let d := sx 32 (cx 32 (p - Int.fdiv a.num a.den))
    if a.up then decide (0 < d ∨ d = 0 ∧ Int.fmod a.num a.den = 0) else decide (d ≤ 0)

/-- Whether the axis moves in a direction, by its latest prediction. -/
def Hw.moves (hw : Hw) (up : Bool) : Bool :=
  match mget none hw.preds hw.trigAxis with
  | some (_, r, _) => if up then decide (0 < r) else decide (r < 0)
  | none => false

/-- Whether the trigger has reached an aim within the next `dt` ticks (R87): under ANGLE the axis moves in the target's direction and has
come from before it; `ahead` tells of which direction the angle has been before a target. -/
def Hw.crosses (hw : Hw) (ahead : Option Bool) (a : Aim) (dt : Nat) : Bool :=
  if hw.trigTime then hw.atAim a dt
  else (decide (ahead = some a.up) || !hw.atAim a 0) && hw.moves a.up && hw.atAim a dt

/-- The N_acc of a row's tracks in a placement, 0 for a row that is not placed (R202). -/
def Placement.rowN (p : Placement) (v : Nat) : Nat :=
  p.tracks.foldl (fun m e => if e.2.row = v then max m e.2.nAcc else m) 0

/-- The N_acc that the shot grid of a placement counts for a row: that of its tracks, or what the grid of a pinned track holds (R210). -/
def Placement.gridN (p : Placement) (v : Nat) : Nat := mget 0 p.grid v

/-- The targets of a bank at one column, in ascending (i, g) (R198). -/
def columnTargets (p : Placement) (b h : Nat) : List (Nat × Nat) :=
  let gs := groupsOf p.plan b
  let n := gs.map (fun g => shotsAt p.plan p.gridN b g h)
  (List.range (n.foldl max 0)).flatMap (fun i =>
    ((List.range gs.length).filter (fun g => decide (i < n.getD g 0))).map (fun g => (i, g)))

/-- The first grid place at or after (column, index) that holds a target. -/
def gridAt (p : Placement) (b : Nat) (pos : GridPos) : Option (Nat × Nat × Nat × Nat) :=
  (List.range (planH p.plan - pos.column)).findSome? (fun d =>
    let h := pos.column + d
    let ix := if d = 0 then pos.index else 0
    match (columnTargets p b h)[ix]? with
    | some (i, g) => some (h, ix, i, g)
    | none => none)

/-- The next target of a bank from the grid. -/
def Hw.gridTarget (hw : Hw) (b : Nat) : Option (Target × GridPos) :=
  match hw.tnd.active with
  | none => none
  | some p =>
    match gridAt p b (mget {} hw.tnd.grid b) with
    | none => none
    | some (h, ix, i, g) =>
      let gs := groupsOf p.plan b
      let key := gs.getD g (0, 0)
      let n := shotsAt p.plan p.gridN b key h
      let (a, d) := targetFrac h i g gs.length n
      let angle : Int := planOrigin p.plan * d + planStep p.plan * a
      let up := decide (0 ≤ planStep p.plan)
      let aim : Aim := if hw.trigTime then
          { num := ((hw.tnd.frameTime.toNat + targetTick p.plan h i g gs.length n : Nat) : Int), den := 1, up := up }
        else { num := angle, den := d, up := up }
      some ({ row := key.1, profile := key.2, cols := groupCols p.plan b key, pw := planPW p.plan, column := h, aim := aim },
            { column := h, index := ix + 1 })

/-- A field of a pattern step (Table 4.6). -/
def stepField (s : U64) (lo n : Nat) : Nat := bits s.toNat lo n

/-- The pattern step at which the engine stands. -/
def Hw.patternStep (hw : Hw) : Option U64 :=
  match hw.bcn.pattern.running with
  | some i => (mget [] hw.bcn.programs i)[hw.bcn.pattern.pc]?
  | none => none

/-- A RAMP added: one that already drives the same profile of the same driver gives way to it. -/
def Pattern.addRamp (p : Pattern) (r : Ramp) : Pattern :=
  { p with ramps := p.ramps.filter (fun x => decide (x.driver ≠ r.driver ∨ x.profile ≠ r.profile)) ++ [r] }

/-- The steps that need no shot and no wait, executed until one does or a pass ends (R94): NOP, PROFILE, RAMP, LOOP. A
PROFILE's write waits for the next bus gap. The fuel is the longest run two nested loops allow. -/
def patternAdvance : Nat → Hw → Hw
  | 0, hw => hw
  | f + 1, hw =>
    match hw.patternStep with
    | none => hw
    | some s =>
      let p := hw.bcn.pattern
      let go := fun (p : Pattern) (hw : Hw) => patternAdvance f { hw with bcn := { hw.bcn with pattern := p } }
      match stepField s 60 4 with
      | 0x0 => go { p with pc := p.pc + 1 } hw
      | 0x2 =>
        let w : ProfileWrite := { driver := stepField s 52 4, profile := stepField s 48 3, cur := stepField s 38 10, cols := stepField s 0 16 }
        go { p with pc := p.pc + 1 } { hw with bcn := { hw.bcn with writes := hw.bcn.writes ++ [w] } }
      | 0x3 =>
        go { p.addRamp { driver := stepField s 52 4, profile := stepField s 48 3, final := stepField s 38 10
                         every := stepField s 30 8 + 1, step := stepField s 20 10 } with pc := p.pc + 1 } hw
      | 0x5 =>
        let first := tb s.toNat 59
        let left := (if first then p.loop1 else p.loop0).getD (stepField s 48 8)
        let p := if left = 0 then { p with pc := p.pc + 1 } else { p with pc := stepField s 40 8 }
        let rest : Option Nat := if left = 0 then none else some (left - 1)
        go (if first then { p with loop1 := rest } else { p with loop0 := rest }) hw
      | 0xF =>
        let n := p.passes + 1
        if p.repeats ≠ 0 ∧ p.repeats ≤ n then
          { hw with bcn := { hw.bcn with pattern := { p with ended := true, passes := n } } }
        else go { p with pc := 0, passes := n, loop0 := none, loop1 := none } hw
      | _ => hw

/-- The most steps a program can run between two shots, waits or frames. -/
def patternFuel : Nat := 20000000

/-- What the program's SHOT or WAIT step aims at: ADV beyond the last target (R93). -/
def Hw.patternAim (hw : Hw) : Option Aim :=
  match hw.patternStep with
  | some s =>
    if (stepField s 60 4 = 1 ∨ stepField s 60 4 = 4) ∧ ¬ hw.bcn.pattern.ended then
      let adv : Int := if hw.trigTime then (stepField s 0 32 : Int) else sx 32 (stepField s 0 32)
      some { num := hw.bcn.pattern.base + adv, den := 1, up := decide (0 ≤ adv) }
    else none
  | none => none

/-- The columns that a driver's profile lights: as written last, or as a write that waits will set them. -/
def Hw.profileCols (hw : Hw) (a prof : Nat) : Nat :=
  match (hw.bcn.writes.filter (fun w => decide (w.driver = a ∧ w.profile = prof))).getLast? with
  | some w => w.cols
  | none => mget 0 (hw.driver a).cols prof

/-- The next target of a bank from the running program: its SHOT step. Its column is that of the angle it aims at; under TIME the tile
counts (R200). -/
def Hw.patternTarget (hw : Hw) (b : Nat) : Option Target :=
  match hw.patternStep, hw.patternAim with
  | some s, some aim =>
    if stepField s 60 4 = 1 ∧ stepField s 58 2 = b then
      let row := stepField s 52 6
      let prof := stepField s 49 3
      let cols := match hw.driverOf b row with
        | some a => hw.profileCols a prof
        | none => 0
      let col := match hw.tnd.active with
        | some pl => if hw.trigTime then 0 else (clampI 0 4095 (Int.fdiv (aim.num - planOrigin pl.plan) (planStep pl.plan))).toNat
        | none => 0
      some { row := row, profile := prof, cols := cols, pw := stepField s 43 6, column := col, aim := aim }
    else none
  | _, _ => none

/-- The direction of which the angle has been before a target of a bank: the program has one target, the grid one per bank. -/
def Hw.aheadOf (hw : Hw) (b : Nat) : Option Bool :=
  if hw.bcn.source = 1 then hw.bcn.pattern.ahead else (hw.bank b).ahead
def Hw.setAhead (hw : Hw) (b : Nat) (x : Option Bool) : Hw :=
  if hw.bcn.source = 1 then { hw with bcn := { hw.bcn with pattern := { hw.bcn.pattern with ahead := x } } }
  else hw.setBank b { hw.bank b with ahead := x }

/-- What a bank's next decision, or the program's next wait, aims at. -/
def Hw.nextAim (hw : Hw) (b : Nat) : Option Aim :=
  match hw.bcn.source with
  | 0 => (hw.gridTarget b).map (·.1.aim)
  | 1 => hw.patternAim
  | _ => none

/-- Whether the bank's next aim has been reached, or is within `dt` ticks. -/
def Hw.reachedIn (hw : Hw) (b dt : Nat) : Bool :=
  match hw.nextAim b with
  | some a => hw.crosses (hw.aheadOf b) a dt
  | none => false

/-- Each bank notes that the angle is before its next target (R87): Beacon looks at every prediction and at every decision. -/
def Hw.approach (hw : Hw) : Hw :=
  if hw.trigTime ∨ mget none hw.preds hw.trigAxis = none then hw
  else (List.range 4).foldl (fun hw b =>
    match hw.nextAim b with
    | some a => if hw.atAim a 0 ∨ hw.aheadOf b = some a.up then hw else hw.setAhead b (some a.up)
    | none => hw) hw

/-- A new prediction of an axis: Beacon looks at the one it follows and at the new one (R87, R297). -/
def Hw.predict (hw : Hw) (a : Nat) (p : Int × Int × Nat) : Hw :=
  let hw := hw.approach
  ({ hw with preds := mset none hw.preds a (some p) } : Hw).approach

/-- A WAIT step is over when the trigger reaches its target (R94); the engine then goes on. -/
def Hw.patternWait (hw : Hw) : Hw :=
  match hw.patternStep, hw.patternAim with
  | some s, some a =>
    if stepField s 60 4 = 4 ∧ hw.crosses hw.bcn.pattern.ahead a 0 then
      patternAdvance patternFuel { hw with bcn := { hw.bcn with pattern := { hw.bcn.pattern with pc := hw.bcn.pattern.pc + 1, base := a.num } } }
    else hw
  | _, _ => hw

/-- The engine after one shot of its SHOT step: the target advances, the ramps of a granted shot's profile count it, and after the step's
last shot the engine goes on. -/
def Hw.patternShot (hw : Hw) (t : Target) (a : Option Nat) (granted : Bool) : Hw :=
  match hw.patternStep with
  | some s =>
    let p := hw.bcn.pattern
    let n := p.done + 1
    let ramps := p.ramps.map (fun r =>
      if granted ∧ some r.driver = a ∧ r.profile = t.profile then
        if r.every ≤ r.shots + 1 then { r with shots := 0, due := true } else { r with shots := r.shots + 1 }
      else r)
    let p := { p with base := t.aim.num, ramps := ramps }
    if n ≤ stepField s 35 8 then { hw with bcn := { hw.bcn with pattern := { p with done := n } } }
    else patternAdvance patternFuel { hw with bcn := { hw.bcn with pattern := { p with done := 0, pc := p.pc + 1 } } }
  | none => hw

/-! ### Decision, set-up, fire (R87 to R89) -/

/-- Set-up started at tick `t` for a shot: its SELECT goes out when the bus is free, unless the driver holds the row and
profile; the fire instant follows the effective blanking and the coded slot, at least 200 ns after the bank's previous one.
The results are the bus end, whether a command frame delayed it, the fire tick, whether it was moved, and whether a SELECT
was sent. -/
def Hw.setUp (hw : Hw) (s : Shot) (t prev : Nat) : Nat × Bool × Nat × Bool × Bool :=
  let d := hw.driver s.driver
  let hold := tb (hw.drvReg s.driver) 6 && decide (d.held = some (s.row, s.profile))
  let blank := bits (hw.reg 0x00020008) 0 12
  let start := if hold then t else max t hw.bcn.busUntil
  let eff := if hold then blank else max blank 184
  let fire := start + eff + 16 * s.slot
  let moved := decide (fire < prev)
  (if hold then hw.bcn.busUntil else start + 144, !hold && hw.bcn.busCmd && decide (t < hw.bcn.busUntil),
   max fire prev, moved, !hold)

/-- The earliest fire tick the 200 ns rule leaves a bank, given its shots in flight. -/
def BeaconBank.earliest (k : BeaconBank) : Nat :=
  match k.inFlight.getLast? with
  | some s => s.plan + 160
  | none => match k.lastFire with
    | some t => t + 160
    | none => 0

/-- Set-up of a shot applied: the bus, the driver's held row, the late and moved counters, the shot's fire tick. -/
def Hw.startSetUp (hw : Hw) (s : Shot) (t prev : Nat) : Hw × Shot :=
  let (busEnd, late, fire, moved, sent) := hw.setUp s t prev
  let d := hw.driver s.driver
  let hw := if sent then
      hw.setDriver s.driver { d with held := some (s.row, s.profile), oldCur := mset 0 d.oldCur s.profile 0 }
    else hw
  let hw := if sent then
      { hw with bcn := { hw.bcn with busUntil := busEnd, busCmd := false, lastFrame := (16, selectWord s.driver s.row s.profile) } }
    else hw
  let hw := if late then hw.stick 0x000200E0 1 else hw
  let hw := if moved then hw.wrap (0x000200D0 + 4 * s.bank) 1 else hw
  (hw, { s with fireAt := some fire, plan := fire })

/-- A decision skipped (R81, R89, R198): counted, and marked on the descriptor path. -/
def Hw.skipShot (hw : Hw) (s : Shot) : Hw :=
  (hw.wrap (0x000200C0 + 4 * s.bank) 1).sendMissing s .skipped

/-- The drive current Lantern books: the highest of the current written last, those the driver may still apply, and those of writes that
wait (R94). -/
def Hw.shotCur (hw : Hw) (a prof : Nat) : Nat :=
  let d := hw.driver a
  (hw.bcn.writes.filter (fun w => decide (w.driver = a ∧ w.profile = prof))).foldl (fun m w => max m w.cur)
    (max (mget 0 d.cur prof) (mget 0 d.oldCur prof))

/-- The energy of a shot (R99): CUR × (max(PW, 1) + 1), twice that while the bank's monitor is invalid (R105). -/
def Hw.shotDq (hw : Hw) (b cur pw : Nat) : Nat :=
  cur * (max pw 1 + 1) * (if tb hw.lnt.invalid b then 2 else 1)

/-- A decision put to Lantern: granted and set up, or suppressed (R88, R101, R106). -/
def Hw.putShot (hw : Hw) (s : Shot) (a : Nat) : Hw :=
  let b := s.bank
  let k := hw.bank b
  let (slot, coding) := nextSlot (tb (hw.reg 0x00020000) 8) k.coding
  let cur := hw.shotCur a s.profile
  let s := { s with slot := slot, driver := a, cur := cur, dq := hw.shotDq b cur s.pw }
  let wait := k.inFlight.reverse.find? (fun x => decide (x.driver = a))
  let t := match wait with
    | some x => max hw.ticks x.plan
    | none => hw.ticks
  let (_, _, plan, _, _) := hw.setUp s t k.earliest
  let s := { s with plan := plan, cells := hw.cellsOf s.row s.cols plan }
  let hw := hw.setBank b { k with lastPut := some hw.ticks, coding := coding, nextNum := k.nextNum + 1 }
  if hw.grants b s.dq s.cells then
    let hw : Hw := { hw with lnt := { hw.lnt with suppressing := putBit hw.lnt.suppressing b false } }
    let (hw, s) := if wait.isSome then (hw, s) else hw.startSetUp s t k.earliest
    hw.setBank b { hw.bank b with inFlight := (hw.bank b).inFlight ++ [s] }
  else
    (({ hw with lnt := { hw.lnt with suppressing := putBit hw.lnt.suppressing b true } }).wrap (0x000280D0 + 4 * b) 1).sendMissing s .lantern

/-- The shot a target asks for, before coding and grant. -/
def Hw.protoShot (hw : Hw) (b : Nat) (t : Target) (pattern : Bool) : Shot :=
  { num := (hw.bank b).nextNum, bank := b, row := t.row, profile := t.profile, cols := hw.litCols b t.row t.cols
    pw := t.pw, slot := 0, driver := 0, dq := 0, cells := [], column := t.column, pattern := pattern
    frame := hw.tnd.frame, epoch := hw.tnd.epoch, timed := hw.trigTime }

/-- A target decided: skipped when nothing of it is present, when it would be a fifth shot in flight or comes within 1.25 µs
of the last decision put; else put to Lantern (R81, R89). -/
def Hw.decideShot (hw : Hw) (b : Nat) (t : Target) (pattern : Bool) : Hw :=
  let s := hw.protoShot b t pattern
  let k := hw.bank b
  match hw.driverOf b t.row with
  | some a =>
    let close := match k.lastPut with
      | some x => decide (hw.ticks < x + 1000)
      | none => false
    if s.cols = 0 ∨ 4 ≤ k.inFlight.length ∨ close = true then
      hw.skipShot s
    else hw.putShot s a
  | none => hw.skipShot s

/-- SHOT_DECISION: Beacon takes the next target of bank `b` once its trigger has reached it (R87). It makes none outside
SCAN, GUARD and SERVICE, while the emitters are inhibited, or with no source. -/
def shotDecision (b : Nat) (hw : Hw) : Hw :=
  let live := hw.dev.mode = .scan ∨ hw.dev.mode = .guard ∨ hw.dev.mode = .service
  if ¬ live ∨ hw.bcn.inhibited ∨ 4 ≤ b then hw
  else match hw.bcn.source with
    | 0 =>
      match hw.gridTarget b with
      | some (t, pos) =>
        if hw.crosses (hw.aheadOf b) t.aim 0 then
          ({ hw with tnd := { hw.tnd with grid := mset {} hw.tnd.grid b pos } }).decideShot b t false
        else hw.approach
      | none => hw
    | 1 =>
      let hw := hw.patternWait
      match hw.patternTarget b with
      | some t =>
        if hw.crosses hw.bcn.pattern.ahead t.aim 0 then
          let h := hw.decideShot b t true
          h.patternShot t (hw.driverOf b t.row) (decide ((hw.bank b).inFlight.length < (h.bank b).inFlight.length))
        else hw.approach
      | none => hw.approach
    | _ => hw

/-- The descriptor of a shot that fires at tick `t`: one descriptor lists every bank that fires on a tick (R140). -/
def Hw.sendFired (hw : Hw) (s : Shot) (t : Nat) : Hw :=
  if hw.descs.any (fun d => decide (d.missing = none ∧ d.fireAt = t)) then
    { hw with descs := hw.descs.map (fun d => if d.missing = none ∧ d.fireAt = t then { d with shots := d.shots ++ [s] } else d) }
  else { hw with descs := hw.descs ++ [{ shots := [s], fireAt := t, sent := hw.ticks }] }

/-- A shot that a fire has freed its driver for starts its set-up at that fire instant, 200 ns at least behind the bank's shot before it; the
bank's later shots keep their distance (R88). -/
def Hw.freeDriver (hw : Hw) (b driver t : Nat) : Hw :=
  let go := (hw.bank b).inFlight.foldl (fun (r : Hw × List Shot × Nat × Bool) s =>
    let (hw, out, prev, found) := r
    if found = false ∧ s.driver = driver then
      if s.fireAt.isNone then
        let (hw, s) := hw.startSetUp s t prev
        (hw, out ++ [s], s.plan + 160, true)
      else (hw, out ++ [s], s.plan + 160, true)
    else
      let moved := s.fireAt.isSome && decide (s.plan < prev)
      let p := max s.plan prev
      let hw := if moved then hw.wrap (0x000200D0 + 4 * b) 1 else hw
      (hw, out ++ [{ s with plan := p, fireAt := s.fireAt.map (fun _ => p) }], p + 160, found)) (hw, [], t + 160, false)
  go.1.setBank b { go.1.bank b with inFlight := go.2.1 }

/-- SHOT_FIRE: at its fire instant the bank's oldest shot fires (R88): the FIRE pulse, the descriptor and edge, Lantern's booking, the
reference window, and the set-up of the shot that waited for its driver. -/
def shotFire (b : Nat) (hw : Hw) : Hw :=
  match (hw.bank b).inFlight with
  | s :: rest =>
    match s.fireAt with
    | some t =>
      if t ≤ hw.ticks then
        let hw := (((hw.sendFired s t).pulse s t).bookShot s).wrap (0x000200A0 + 4 * b) 1
        let hw := if tb (hw.drvReg s.driver) 6 then hw else hw.setDriver s.driver { hw.driver s.driver with held := none }
        let k := hw.bank b
        (hw.setBank b { k with inFlight := rest, lastFire := some t, refOpen := k.refOpen ++ [s] }).freeDriver b s.driver t
      else hw
    | none => hw
  | [] => hw

/-! ### Shot gaps (R363) -/

/-- The tick at which the window of a bank's latest shot closes (R154). -/
def Hw.windowEnd (hw : Hw) (b : Nat) : Nat := match (hw.bank b).lastFire with | some t => t + 2048 | none => 0

/-- The earliest fire instant of a bank's shots in flight. -/
def Hw.nextFire (hw : Hw) (b : Nat) : Option Nat :=
  (hw.bank b).inFlight.foldl (fun m s => match m, s.fireAt with
    | some x, some t => some (min x t)
    | none, t => t
    | m, none => m) none

/-- Whether a bank is in a shot gap that CAL may still use: no window is open, the next fire instant lies at least 400 ns behind the last
window's end and more than 80 ns ahead; without a shot in flight, Beacon's projection shows no decision within 400 ns (R363). -/
def Hw.inGap (hw : Hw) (b : Nat) : Bool :=
  decide (hw.windowEnd b ≤ hw.ticks) &&
    (match hw.nextFire b with
     | some t => decide (hw.windowEnd b + 320 ≤ t ∧ hw.ticks + 64 < t)
     | none => (hw.bank b).inFlight.isEmpty && (hw.bcn.inhibited || !hw.reachedIn b 320))

/-- Whether a quantity that injects events measures now: VERNIER or SKEW (Table 17.1). -/
def Hw.injecting (hw : Hw) : Bool := hw.cal.queue.head?.any (fun q => decide (q ≤ 1))

/-- Whether CAL has switched a channel's vernier input from its gate to the injector (R363). -/
def Hw.onInjector (hw : Hw) (k : Nat) : Bool :=
  hw.injecting && (match hw.trackOf k with
    | some t => hw.inGap t.bank
    | none => true)

/-- An injected event on a channel: SPACING and POOL hold for it as for a stop, the budget counts stops of the scene (R144, R363; log entry 184).
It carries the calibration mark. -/
def Hw.injectEvent (hw : Hw) (k : Nat) : Hw :=
  let n := k / 16
  let c := (hw.tile n).chan (k % 16)
  let pre := 10 * hw.clk.time.toNat
  if c.retired then hw
  else match refuse { c with budget := 0 } pre with
    | some _ => hw.stick (chanReg k 4) 1
    | none =>
      let v := freeVernier c
      hw.setTile n ((hw.tile n).setChan (k % 16) { c with
        stops := (pre :: c.stops).take 8, busy := mset none c.busy v (some (pre, 0, false)), marked := v :: c.marked })

/-- One tick of injection: which of the channels on the injector get an event in it is free (log entry 184). -/
def Hw.inject (hw : Hw) : Hw :=
  if ¬ hw.injecting then hw
  else
    let (n, hw) := hw.draw
    (List.range 768).foldl (fun (h : Hw) k => if tb n k && h.onInjector k then h.injectEvent k else h) hw

/-! ### Drivers (R81, R83, R86, R94) -/

/-- Whether Beacon may start a command frame of `n` ticks: the bus is free, and its projection of the trigger shows no shot decision
within the frame (R85). -/
def Hw.busGap (hw : Hw) (n : Nat) : Bool :=
  decide (hw.bcn.busUntil ≤ hw.ticks) &&
    (hw.bcn.inhibited || (List.range 4).all (fun b => !hw.reachedIn b n))

/-- MAP_SEND: what a driver is due goes to it in a bus gap, the FAULT_CLEAR of R86 before MAP (R81, R85). -/
def mapSend (a : Nat) (hw : Hw) : Hw :=
  let d := hw.driver a
  if ¬ hw.busGap 384 then hw
  else if d.clearDue then (hw.setDriver a { d with clearDue := false }).busCommand (faultClearWord a) 400
  else if d.mapDue then (hw.setDriver a { d with mapDue := false }).busCommand (mapWord a (tb (hw.drvReg a) 6)) 400
  else hw

/-- PROFILE_WRITE: the driver has the new current and columns; until its next SELECT of the profile it may still apply the old current
(R84, R94). -/
def Hw.writeProfile (hw : Hw) (w : ProfileWrite) : Hw :=
  let d := hw.driver w.driver
  (hw.setDriver w.driver { d with
    oldCur := mset 0 d.oldCur w.profile (max (mget 0 d.oldCur w.profile) (mget 0 d.cur w.profile))
    cur := mset 0 d.cur w.profile w.cur, cols := mset 0 d.cols w.profile w.cols }).busCommand
      (profileWord w.driver w.profile w.cur w.cols) 400

/-- A current moved by a ramp's step towards its end. -/
def Ramp.next (r : Ramp) (c : Nat) : Nat := if c < r.final then min r.final (c + r.step) else max r.final (c - r.step)

/-- RAMP_UPDATE: in a bus gap the oldest PROFILE_WRITE that waits goes out; with none, the first due ramp moves its profile's current by its
step towards its end, where the ramp is over (R85, R94). -/
def rampUpdate (hw : Hw) : Hw :=
  if ¬ hw.busGap 384 then hw
  else
    match hw.bcn.writes with
    | w :: rest => ({ hw with bcn := { hw.bcn with writes := rest } } : Hw).writeProfile w
    | [] =>
      match hw.bcn.pattern.ramps.find? (·.due) with
      | none => hw
      | some r =>
        let d := hw.driver r.driver
        let c := r.next (mget 0 d.cur r.profile)
        let hw := hw.writeProfile { driver := r.driver, profile := r.profile, cur := c, cols := mget 0 d.cols r.profile }
        let rest := hw.bcn.pattern.ramps.filter (fun x => decide (x ≠ r))
        let back := hw.bcn.pattern.ramps.map (fun x => if x = r then { x with due := false } else x)
        { hw with bcn := { hw.bcn with pattern := { hw.bcn.pattern with ramps := if c = r.final then rest else back } } }

/-- The fault of each bit of a driver's FAULTS (Table 4.4), and whether it excludes the driver. -/
def driverFault : Nat → FaultId × Bool
  | 0 => (fid srcBcn 1 12, false)
  | 1 => (fid srcBcn 2 21, true)
  | 2 => (fid srcBcn 2 22, true)
  | 3 => (fid srcBcn 3 23, false)
  | 4 => (fid srcBcn 2 24, true)
  | 5 => (fid srcBcn 1 25, false)
  | _ => (fid srcBcn 3 26, false)

/-- BCN_POLL.PERIOD as it acts, 10 to 10,000 µs, in ticks. -/
def Hw.pollTicks (hw : Hw) : Nat := 800 * min 10000 (max 10 (bits (hw.reg 0x0002008C) 0 14))

/-- The fault that an exclusion bit stands for (R86): bits of FAULTS, bit 7 for silence. -/
def exclFault (i : Nat) : FaultId := if i = 7 then fid srcBcn 2 27 else (driverFault i).1

/-- DRIVER_POLL: STATUS_READ of a present driver in a bus gap, once per period (R85, R86). A missing or corrupt reply counts; the third
running excludes the driver. -/
def driverPoll (a : Nat) (reply : Option DriverReply) (hw : Hw) : Hw :=
  if 16 ≤ a ∨ ¬ tb (hw.drvReg a) 7 ∨ hw.ticks < mget 0 hw.bcn.pollDue a ∨ ¬ hw.busGap 736 then hw
  else
    let hw := ({ hw with bcn := { hw.bcn with pollDue := mset 0 hw.bcn.pollDue a (hw.ticks + hw.pollTicks) } }).busCommand (statusWord a) 736
    let d := hw.driver a
    match reply with
    | none =>
      let n := d.silent + 1
      let hw := hw.setDriver a { d with silent := min 3 n, excl := if 3 ≤ n then d.excl ||| 128 else d.excl }
      if n = 3 then hw.raise (fid srcBcn 2 27) (le 1 a) else hw
    | some r =>
      let f := r.faults.toNat
      let hit := (List.range 7).filter (fun i => tb f i)
      let hw := hw.setDriver a { d with
        silent := 0, status := r.status.toNat, faults := f
        excl := d.excl ||| maskOf (hit.filter (fun i => (driverFault i).2)) }
      hit.foldl (fun hw i => if hw.isRaised (driverFault i).1 then hw else hw.raise (driverFault i).1 (le 1 a)) hw

/-- After a FAULT_CLEAR: a driver is excluded while a fault of its own that excludes it stays raised; one whose last such fault has been
cleared waits for the bus FAULT_CLEAR and MAP (R86). -/
def Hw.driverCleared (hw : Hw) : Hw :=
  (List.range 16).foldl (fun hw a =>
    let d := hw.driver a
    let left := maskOf ((setBits 8 d.excl).filter (fun i => hw.isRaised (exclFault i)))
    if d.excl ≠ 0 ∧ left = 0 then hw.setDriver a { d with excl := 0, clearDue := true, mapDue := true }
    else hw.setDriver a { d with excl := left }) hw

/-! ### Reference returns (R96 to R98, R128) -/

/-- Whether an emitter lights a pinned cell. -/
def Hw.lightsPinned (hw : Hw) (b row col : Nat) : Bool :=
  match hw.tnd.active with
  | some p => p.tracks.any (fun e => e.2.pinned && decide (e.2.bank = b ∧ e.2.erow = row ∧ rowEcol p.plan e.2.row = col))
  | none => false

/-- One emitter's counts at the close of the reference window of a shot that fired it; `cells` are the lamp-room cells that
fired. -/
def refOne (b row cells : Nat) (hw : Hw) (c : Nat) : Hw :=
  let g := hw.refGroup c
  let e := hw.emitter b row c
  let put := fun (hw : Hw) (e : Emitter) => { hw with bcn := { hw.bcn with emitters := mset {} hw.bcn.emitters (emIx b row c) e } }
  if tb hw.spd.lampUnfit g then put hw { e with fired := 0, misses := 0 }
  else
    let seen := hw.refK ≤ popCount 4 (cells / 2 ^ (4 * g))
    let m := if seen then 0 else min 64 (e.misses + 1)
    let opens := decide (m = 64) && !e.opened
    let hw := put hw { fired := min 64 (e.fired + 1), misses := m, opened := e.opened || opens }
    if opens then (hw.raise (fid srcBcn 2 10) (le 1 b ++ le 2 (16 * row + c))).lossOfPinned (hw.lightsPinned b row c) else hw

/-- REF_WINDOW_CLOSE: the reference window of the bank's oldest fired shot closes (R96, R97). -/
def refWindowClose (b cells : Nat) (hw : Hw) : Hw :=
  let k := hw.bank b
  match k.refOpen with
  | s :: rest =>
    let r := hw.reg 0x00020080
    if s.plan + bits r 0 8 + bits r 8 8 ≤ hw.ticks then
      (setBits 16 s.cols).foldl (refOne b s.row cells) (hw.setBank b { k with refOpen := rest })
    else hw
  | [] => hw

/-- FAULT_CLEAR on F.BCN.010: every OPEN emitter returns to UNVERIFIED (R97). -/
def Hw.emittersAfresh (hw : Hw) : Hw :=
  { hw with bcn := { hw.bcn with emitters := mmap {} (fun e => if e.opened then {} else e) hw.bcn.emitters } }

/-! ### Pattern programs (R93) -/

/-- Whether the fields of a step are in range (Table 4.6) in a program of `n` steps; bits that no field of its kind holds must be 0 (log
entry 159). -/
def stepOk (n : Nat) (s : U64) : Bool :=
  match stepField s 60 4 with
  | 0x0 => decide (stepField s 0 60 = 0)
  | 0x1 => decide (stepField s 32 3 = 0)
  | 0x2 => decide (stepField s 56 4 = 0 ∧ stepField s 51 1 = 0 ∧ stepField s 16 22 = 0)
  | 0x3 => decide (stepField s 56 4 = 0 ∧ stepField s 51 1 = 0 ∧ stepField s 0 20 = 0 ∧ 1 ≤ stepField s 20 10)
  | 0x4 => decide (stepField s 32 28 = 0)
  | 0x5 => decide (stepField s 56 3 = 0 ∧ stepField s 0 40 = 0 ∧ stepField s 40 8 < n)
  | 0x6 => decide (stepField s 0 60 = 0)
  | 0xF => decide (stepField s 0 60 = 0)
  | _ => false

/-- The first offending step of a program: a bad step, or the program's end where it has no END step. -/
def badStep (steps : List U64) : Option Nat :=
  match (List.range steps.length).find? (fun i => !stepOk steps.length (steps.getD i 0)) with
  | some i => some i
  | none => if steps.any (fun s => decide (stepField s 60 4 = 0xF)) then none else some (steps.length - 1)

end Sys2Proof.Machine
end

