-- ==== Sys2Proof/Machine/Spad.lean ====
section
/-! DEFINITION. The SPAD tier (chapter 05): bias regions and their trim, the hot-pixel mask, the macropixel table and its
swap, the gate, the ambient counters, the tables behind SPD_TAB_WIN. -/

namespace Sys2Proof.Machine

def Hw.region (hw : Hw) (r : Nat) : Region := mget {} hw.spd.regions r
def Hw.setRegion (hw : Hw) (r : Nat) (x : Region) : Hw :=
  { hw with spd := { hw.spd with regions := mset {} hw.spd.regions r x } }

/-- The bias region of a microcell (R110). -/
def regionOf (x y : Nat) : Nat := 48 * (y / 32) + x / 32

/-- SPD_HV_WIN and SPD_BIAS as they act: clamped to the ranges of Tables 5.6 and 5.7. -/
def Hw.hvLow (hw : Hw) : Nat := min 32000 (max 18000 (bits (hw.reg 0x0003000C) 0 16))
def Hw.hvHigh (hw : Hw) : Nat := min 32000 (max 18000 (bits (hw.reg 0x0003000C) 16 16))
def Hw.vexTarget (hw : Hw) : Nat := 10 * min 450 (max 150 (bits (hw.reg 0x00030004) 16 9))
def Hw.hvInWindow (hw : Hw) (mv : Nat) : Bool := decide (hw.hvLow ≤ mv ∧ mv ≤ hw.hvHigh)

/-- The SPAD bias is in its window (Table 3.4, code 0x0003). -/
def Hw.biasOk (hw : Hw) : Bool := hw.spd.biasOn && hw.hvInWindow hw.spd.hvMeas

/-- The on-die sensor of a region (R114). -/
def sensorOf (r : Nat) : Nat := if r = 1152 then 7 else 4 * ((r / 48) / 12) + (r % 48) / 12

/-- What the trim computation finds for a region (R114): code, state, excess bias in units of 20 mV. `hold` is the code held
by TRIM_FREEZE (R116); a supply outside its window holds the region OFF (R118). -/
def Hw.trimOf (hw : Hw) (r : Nat) (hold : Option Nat) (held : Bool) : Nat × Nat × Nat :=
  let w := mget 0 hw.spd.breakdown r
  let tj : Rat := ((mget (0 : Int) hw.temps (sensorOf r) : Int) : Rat) / 64
  let vbd : Rat := (bits w 0 16 : Rat) + (bits w 16 8 : Rat) / 10 * (tj - 25)
  let hv : Rat := hw.spd.hvMeas
  let target : Rat := hw.vexTarget
  let code : Nat := match hold with
    | some c => c
    | none => (clampI 0 256 (roundNear 501 ((hv - vbd - target) / (125 / 8)))).toNat
  let vex : Rat := hv - vbd - (code : Rat) * (125 / 8)
  let d := vex - target
  let state :=
    if ¬ (hw.region r).enable ∨ held ∨ vex < 1500 ∨ 4500 < vex then 3
    else if -(125 / 8) ≤ d ∧ d ≤ 125 / 8 then 0
    else if vex < target then 1
    else 2
  (code, state, (clampI 0 255 (roundNear 502 (vex / 20))).toNat)

/-- The microcells of a macropixel. -/
def cellsOfShape (shape x0 y0 : Nat) : List (Nat × Nat) :=
  (List.range (shapeW shape)).flatMap (fun dx => (List.range (shapeH shape)).map (fun dy => (x0 + dx, y0 + dy)))

/-- Whether the active mask masks a microcell. -/
def Hw.masked (hw : Hw) (x y : Nat) : Bool := tb (mget 0 hw.spd.maskActive (48 * y + x / 32)) (x % 32)

/-- The live count of a track's macropixel (R112, R123). -/
def Hw.nLive (hw : Hw) (t : Track) : Nat :=
  if ¬ hw.spd.biasOn ∨ (hw.region (regionOf t.x0 t.y0)).state = 3 then 0
  else ((cellsOfShape t.shape t.x0 t.y0).filter (fun c => !hw.masked c.1 c.2)).length

/-- The channels of the placement in force whose macropixel is DEAD (R123). -/
def Hw.deadChans (hw : Hw) : List Nat :=
  match hw.tnd.active with
  | some p => (p.tracks.filter (fun e => decide (hw.nLive e.2 < e.2.k))).map (·.1)
  | none => []

/-- n_live recomputed: a pinned macropixel that becomes DEAD in GUARD raises F.KPR.001 (R123). -/
def Hw.recount (hw : Hw) : Hw :=
  let now := hw.deadChans
  let new := now.filter (fun k => !hw.spd.dead.contains k)
  let hw := { hw with spd := { hw.spd with dead := now } }
  hw.lossOfPinned (new.any (fun k => hw.pinnedChan k))

/-- Whether TRIM_FREEZE holds the trim codes: it acts only in SERVICE (R116). -/
def Hw.trimFrozen (hw : Hw) : Bool := tb (hw.reg 0x00030000) 8 && decide (hw.dev.mode = .service)

/-- Whether every region is held OFF: the bias is off, or VSPAD_HV has not been in its window for 1 ms (R118). -/
def Hw.regionsHeld (hw : Hw) : Bool :=
  !hw.spd.biasOn || (match hw.spd.hvInSince with
    | some t => decide (hw.ticks < t + 800000)
    | none => true)

/-- A region's computed code and state come into force (R114); where TRIM_FREEZE holds its present code, excess bias and state follow from
that one (R116). A region that goes OFF other than by its enable bit raises F.SPD.003 (R117); the time it has been on in this frame is kept
for LIVE (R126). -/
def Hw.applyRegion (hw : Hw) (r : Nat) : Hw :=
  let x := hw.region r
  let x := if hw.trimFrozen ∧ x.nextTrim ≠ x.trim then
      let (c, s, v) := hw.trimOf r (some x.trim) hw.regionsHeld
      { x with nextTrim := c, nextState := s, nextVex := v } else x
  if ¬ x.due then hw
  else
    let wasOff := x.state = 3
    let isOff := x.nextState = 3
    let tilted := fun s => decide (s = 1 ∨ s = 2)
    let y := { x with
      state := x.nextState, vex := x.nextVex, trim := x.nextTrim, due := false
      offSince := if tilted x.nextState then (if tilted x.state then x.offSince else some hw.ticks) else none
      onSince := if isOff then none else if wasOff then some hw.ticks else x.onSince
      onTicks := if isOff ∧ ¬ wasOff then x.onTicks + (hw.ticks - x.onSince.getD hw.ticks) else x.onTicks }
    let hw := hw.setRegion r y
    if isOff ∧ ¬ wasOff ∧ x.enable ∧ hw.spd.hvInSince.isSome then hw.raise (fid srcSpd 2 3) (le 2 r) else hw

def Hw.applyRegions (hw : Hw) : Hw := ((List.range 1153).foldl (fun h r => h.applyRegion r) hw).recount

/-- TRIM_PERIOD in ms as it acts, clamped to 10 to 10,000 (Table 5.7). -/
def Hw.trimPeriod (hw : Hw) : Nat := min 10000 (max 10 (bits (hw.reg 0x00030004) 0 16))

/-- TRIM_RECOMPUTE: firmware recomputes every region once per TRIM_PERIOD (R114, R116, R118); in force at once in CONFIG, else at the next
boundary. -/
def trimRecompute (hw : Hw) : Hw :=
  if (match hw.spd.trimAt with | some t => decide (hw.ticks < t + 800000 * hw.trimPeriod) | none => false) then hw
  else
    let frozen := hw.trimFrozen
    let held := hw.regionsHeld
    let hw : Hw := { hw with spd := { hw.spd with trimAt := some hw.ticks } }
    let hw := (List.range 1153).foldl (fun (h : Hw) r =>
      let x := h.region r
      let (c, s, v) := h.trimOf r (if frozen then some x.trim else none) held
      h.setRegion r { x with nextTrim := c, nextState := s, nextVex := v, due := true }) hw
    match hw.dev.mode with
    | .scan | .guard | .service => hw
    | _ => hw.applyRegions

/-- SPD_HV_MEAS held against SPD_HV_WIN, at a new measurement and at a new window: outside it every region goes OFF, F.SPD.002 is raised
and SPAD_HV_EN falls (R118, R470). -/
def Hw.hvCheck (hw : Hw) : Hw :=
  if hw.hvInWindow hw.spd.hvMeas then
    { hw with spd := { hw.spd with hvInSince := some (hw.spd.hvInSince.getD hw.ticks) } }
  else
    let hw := { hw with spd := { hw.spd with hvInSince := none } }
    if ¬ hw.spd.biasOn then hw
    else
      let hw := (List.range 1153).foldl (fun (h : Hw) r =>
        let x := h.region r
        h.setRegion r { x with nextState := 3, due := true }) hw
      let hw := { hw.applyRegions with dev := { hw.dev with hvEnable := false } }
      if hw.isRaised (fid srcSpd 3 2) then hw else hw.raise (fid srcSpd 3 2) []

/-- HV_MEAS_UPDATE: the mean of VSPAD_HV over the last 1 ms, every 100 µs (Table 5.6). -/
def hvMeasUpdate (mv : Nat) (hw : Hw) : Hw :=
  if (match hw.spd.hvAt with | some t => decide (hw.ticks < t + 80000) | none => false) then hw
  else ({ hw with spd := { hw.spd with hvMeas := min 65535 mv, hvAt := some hw.ticks } } : Hw).hvCheck

/-- REGION_OFFTARGET_TIMEOUT: a region LOW or HIGH for more than 1 s raises F.SPD.004 (R117). -/
def regionOffTarget (r : Nat) (hw : Hw) : Hw :=
  match (hw.region r).offSince with
  | some t => if t + 800000000 < hw.ticks ∧ r < 1153 then hw.raise (fid srcSpd 1 4) (le 2 r) else hw
  | none => hw

/-- The shadow mask copied into the active mask (R119). -/
def Hw.commitMask (hw : Hw) : Hw :=
  { hw with spd := { hw.spd with maskActive := hw.spd.maskShadow, maskPending := false } }

/-- MASK_COMMIT: at once in CONFIG, at the next boundary in SCAN and SERVICE, refused in GUARD (R119). -/
def maskCommit (hw : Hw) : Hw :=
  match hw.dev.mode with
  | .config => hw.commitMask.recount
  | .scan | .service => { hw with spd := { hw.spd with maskPending := true } }
  | .guard => { hw with ack := 0x0A, ackData := le 4 0x00030000 }
  | _ => hw

/-- MASK_SAVE: the active mask written to the Pantry (R120). -/
def maskSave (hw : Hw) : Hw := { hw with pantry := { hw.pantry with mask := hw.spd.maskActive } }

/-- MASK_PARITY_ERROR: a word reloaded from the saved mask, F.SPD.012 (R120). -/
def maskParity (w : Nat) (hw : Hw) : Hw :=
  if 36864 ≤ w then hw
  else
    let hw := { hw with spd := { hw.spd with maskActive := mset 0 hw.spd.maskActive w (mget 0 hw.pantry.mask w) } }
    (hw.raise (fid srcSpd 1 12) (le 2 w)).recount

/-! ### The macropixel table (R121 to R123) -/

/-- A macropixel aligned by R121 and inside the array. -/
def aligned (t : Track) : Bool :=
  decide (t.x0 % shapeW t.shape = 0) && decide (t.y0 % shapeH t.shape = 0) &&
    decide (t.x0 + shapeW t.shape ≤ 1536) && decide (t.y0 + shapeH t.shape ≤ 768)

/-- Two macropixels share no microcell. -/
def apart (a b : Track) : Bool :=
  decide (a.x0 + shapeW a.shape ≤ b.x0 ∨ b.x0 + shapeW b.shape ≤ a.x0 ∨
    a.y0 + shapeH a.shape ≤ b.y0 ∨ b.y0 + shapeH b.shape ≤ a.y0)

/-- The check of the shadow table at a swap (R122): the first channel whose entry is misaligned or shares a microcell with an entry before
it. -/
def Placement.badChan (p : Placement) : Option Nat :=
  (p.tracks.find? (fun e => !aligned e.2 || p.tracks.any (fun f => decide (f.1 < e.1) && !apart f.2 e.2))).map (·.1)

/-- The macropixel word of a track (Table 5.10). -/
def mpWord (t : Track) : Nat :=
  2 ^ 31 + t.shape * 2 ^ 28 + (t.k - 1) * 2 ^ 25 + t.w * 2 ^ 21 + t.x0 * 2 ^ 10 + t.y0

/-! ### Gate events and ambient counters (R124 to R126) -/

/-- Adds to a counter that saturates at 0xFFFF_FFFF with a flag. -/
def addSat (c n : Nat) : Nat × Bool := (min 0xFFFFFFFF (c + n), decide (0xFFFFFFFF < c + n))

/-- Whether microcell `cell` of a channel's macropixel is armed (R112): the bias is on, the region is not OFF, the mask leaves it. -/
def Hw.armed (hw : Hw) (t : Track) (cell : Nat) : Bool :=
  hw.spd.biasOn && decide (cell < shapeW t.shape * shapeH t.shape) && decide ((hw.region (regionOf t.x0 t.y0)).state ≠ 3) &&
    !hw.masked (t.x0 + cell % shapeW t.shape) (t.y0 + cell / shapeW t.shape)

/-- The span w of a gate in ps. -/
def Track.span (t : Track) : Nat := 500 * (t.w + 1)

/-- Whether two fires `d` ps apart lie within a span of `w`; within 20 ps of it either judgement is open (R124). -/
def withinSpan (w d : Nat) (either : Bool) : Bool := if d + 20 < w then true else if w + 20 < d then false else either

/-- The earlier fires of a gate that lie within the span before an instant. A judgement that is open is a free bit of `free`. -/
def Gate.within (g : Gate) (w time free : Nat) : List (Nat × Nat) :=
  (g.recent.zipIdx.filter (fun e => withinSpan w (time - e.1.2) (tb free e.2))).map (·.1)

/-- Whether a judgement of R124 is open at an instant. -/
def Gate.openAt (g : Gate) (w time : Nat) : Bool :=
  g.recent.any (fun e => withinSpan w (time - e.2) true != withinSpan w (time - e.2) false)

/-- A fire at the gate: with k of 1 it passes; with more it passes when k distinct cells have fired within the span, once until fewer than k
fires lie within it (R124). -/
def Gate.fire (g : Gate) (k w cell time free : Nat) : Gate × Bool :=
  let old := g.within w time free
  let shut := g.shut && decide (k ≤ old.length)
  let now := (cell, time) :: old
  let pass := decide (k ≤ 1) || (!shut && decide (k ≤ (now.map (·.1)).eraseDups.length))
  ({ recent := now, shut := pass || shut }, pass)

/-- The coincidence count c of an event (R125): the distinct cells that fired from w before it, the gate's, to w after it. -/
def Gate.count (g : Gate) (after : List Nat) : Nat := min 63 ((g.recent.map (·.1) ++ after).eraseDups.length)

/-- RAW and PASS of a channel counted (R126). -/
def Hw.countFire (hw : Hw) (k : Nat) (pass : Bool) : Hw :=
  let a := mget {} hw.spd.ambient k
  let (raw, rs) := addSat a.raw 1
  let (ps, pf) := addSat a.pass (b2n pass)
  { hw with spd := { hw.spd with
      ambient := mset {} hw.spd.ambient k { a with raw := raw, rawSat := a.rawSat || rs, pass := ps, passSat := a.passSat || pf } } }

/-- GATE_EVENT: microcell `cell` of channel `k`'s macropixel, counted along its rows from the anchor, fires at `time` ps of the channel's own
time; `after` are the cells of the macropixel that fire within w after it, `pre` the pre-stamp an event gets. An armed fire counts in RAW;
one that completes a coincidence passes, counts in PASS and is judged as a stop (R124 to R126). A DEAD macropixel's gate never passes (R123),
and in the blank of a swap fires are counted and lost (R122). In a shot gap that CAL uses, the vernier input is switched away from the gate (R363). -/
def gateEvent (k pre cell time : Nat) (after : List Nat) (hw : Hw) : Hw :=
  match hw.trackOf k with
  | some t =>
    if ¬ hw.armed t cell then hw
    else if hw.ticks < hw.spd.blankEnd then hw.countFire k false
    else
      let g := mget {} hw.spd.gates k
      let (free, hw) := if g.openAt t.span time then hw.draw else (0, hw)
      let (g, pass) := g.fire t.k t.span cell time free
      let hw : Hw := { hw with spd := { hw.spd with gates := mset {} hw.spd.gates k g } }
      let pass := pass && decide (t.k ≤ hw.nLive t)
      let hw := hw.countFire k pass
      if pass && !hw.onInjector k then acceptEvent k pre (g.count (after.filter (fun c => hw.armed t c))) hw else hw
  | none => hw

/-- The time a region has been on in the frame running, in ticks. -/
def Hw.regionOn (hw : Hw) (r : Nat) : Nat :=
  let x := hw.region r
  x.onTicks + (match x.onSince with | some t => hw.ticks - t | none => 0)

/-- The ambient table latched and restarted (R126). -/
def Hw.latchAmbient (hw : Hw) : Hw :=
  let regions := mmap {} (fun x => { x with onTicks := 0, onSince := x.onSince.map (fun _ => hw.ticks) }) hw.spd.regions
  match hw.tnd.active with
  | some p =>
    let latched := p.tracks.foldl (fun m e =>
      let a := mget {} hw.spd.ambient e.1
      mset {} m e.1 { a with
        live := hw.regionOn (regionOf e.2.x0 e.2.y0) / 800, nLive := hw.nLive e.2
        dead := hw.spd.dead.contains e.1 }) []
    { hw with spd := { hw.spd with latched := latched, ambient := [], ambFrame := hw.tnd.frame, ambEpoch := p.epoch, regions := regions } }
  | none => { hw with spd := { hw.spd with ambient := [], latched := [], ambEpoch := hw.tnd.epoch, regions := regions } }

/-! ### The table window (R131, Table 5.8) -/

/-- A word of a table behind SPD_TAB_WIN. -/
def Hw.spdTab (hw : Hw) (table i : Nat) : Nat :=
  match table with
  | 0 => if i < 36864 then mget 0 hw.spd.maskShadow i else 0
  | 1 => if i < 36864 then mget 0 hw.spd.maskActive i else 0
  | 2 =>
    if i < 1153 then
      let x := hw.region i
      b2n x.enable * 2 ^ 31 + x.dtClass * 2 ^ 29 + x.state * 2 ^ 24 + x.vex * 2 ^ 16 + x.trim
    else 0
  | 3 => if i < 1153 then mget 0 hw.spd.breakdown i else 0
  | 4 => match hw.trackOf i with
    | some t => mpWord t
    | none => 0
  | 5 => match hw.tnd.shadow with
    | some p => if p.tracks.any (fun e => decide (e.1 = i)) then mpWord (mget {} p.tracks i) else 0
    | none => 0
  | 6 =>
    if i < 3072 then
      let a := mget {} hw.spd.latched (i / 4)
      match i % 4 with
      | 0 => a.raw
      | 1 => a.pass
      | 2 => a.live
      | _ => (hw.spd.ambFrame % 256) * 2 ^ 24 + hw.spd.ambEpoch % 256 * 2 ^ 16 + b2n a.passSat * 2 ^ 9 + b2n a.rawSat * 2 ^ 8 +
          b2n a.dead * 2 ^ 7 + a.nLive % 128
    else 0
  | _ => 0

/-- SPD_TAB_WIN_WRITE: word BASE + i of the selected table written; MASK_SHADOW and the REGION fields are locked in GUARD,
RO fields and words past the end discard (R131). -/
def spdTabWrite (i v : Nat) (hw : Hw) : Hw :=
  let sel := hw.reg 0x00030030
  let ix := bits sel 0 16 + i
  let guard := decide (hw.dev.mode = .guard)
  let locked := { hw with ack := 0x0A, ackData := le 4 (0x00030400 + 4 * i) }
  match bits sel 16 4 with
  | 0 =>
    if guard then locked
    else if ix < 36864 then { hw with spd := { hw.spd with maskShadow := mset 0 hw.spd.maskShadow ix (v % 2 ^ 32) } }
    else hw
  | 2 =>
    if guard then locked
    else if ix < 1153 then
      let x := hw.region ix
      let y := { x with enable := tb v 31, dtClass := bits v 29 2 }
      match hw.dev.mode with
      | .scan | .service => hw.setRegion ix y
      | _ => hw.setRegion ix { y with dtForce := y.dtClass }
    else hw
  | _ => hw

/-- The dead time in force of a region, in units of 0.5 ns, clamped to 4.0 to 40.0 ns (R111). -/
def Hw.deadTime (hw : Hw) (r : Nat) : Nat :=
  min 80 (max 8 (bits hw.spd.dtInForce (8 * (hw.region r).dtForce) 7))

/-- Dead-time classes and class values come into force at a boundary (R111). -/
def Hw.applyDeadTimes (hw : Hw) : Hw :=
  { hw with spd := { hw.spd with
      dtInForce := hw.reg 0x00030018
      regions := mmap {} (fun x => { x with dtForce := x.dtClass }) hw.spd.regions } }

/-- SPD_HV_REC: the range of VSPAD_HV within which every enabled region reaches VEX_TARGET at a code of 0 to 256 over −40 to
+125 °C (R117), in mV: [31:16] HIGH, [15:0] LOW. -/
def Hw.computeHvRec (hw : Hw) : Nat :=
  let rs := (List.range 1153).filter (fun r => (hw.region r).enable)
  let vbd := fun (r : Nat) (t : Int) =>
    let w := mget 0 hw.spd.breakdown r
    (bits w 0 16 : Rat) + (bits w 16 8 : Rat) / 10 * (t - 25)
  let low := rs.foldl (fun m r => max m (vbd r 125 + hw.vexTarget)) 0
  let high := rs.foldl (fun m r => min m (vbd r (-40) + hw.vexTarget + 4000)) 65535
  (clampI 0 65535 high.floor).toNat * 65536 + (clampI 0 65535 low.ceil).toNat

end Sys2Proof.Machine
end

