-- ==== Sys2Proof/Machine/Tender.lean ====
section
/-! DEFINITION. Tender (chapter 09): the verdict on a plan, allocation of tracks, the words of a placement, routes,
adaptation, the cut, and what the plan commands change. -/

namespace Sys2Proof.Machine

/-! ### Lane budgets and loads (R229, R230) -/

/-- Whether lanes 0 to 3 run the Ethernet personality (Table 11.11). -/
def Hw.isEth (hw : Hw) : Bool := tb hw.lnk.cfg 12

/-- Whether this device is a secondary of a cascade. -/
def Hw.isSecondary (hw : Hw) : Bool := decide (hw.cas.index ≠ 0)

/-- Whether the profile lets a lane come up: of a secondary lane 4 alone, of the lanes of a primary 0 to 6 as LNK_CFG enables them (R267, R269). -/
def Hw.laneOn (hw : Hw) (l : Nat) : Bool := if hw.isSecondary then decide (l = 4) else decide (l < 7) && tb hw.lnk.cfg l

/-- A lane, and whether it is up: ACTIVE or IDLE, or in lock for an Ethernet port (R58). -/
def Hw.lane (hw : Hw) (l : Nat) : Lane := mget {} hw.lnk.lanes l
def Hw.laneUp (hw : Hw) (l : Nat) : Bool :=
  if hw.isEth ∧ l < 4 then (hw.lane l).lock else decide ((hw.lane l).state = .active ∨ (hw.lane l).state = .idle)

/-- The payload budget of a lane mode in bits per second (Table 10.9). -/
def budgetOf : Nat → Nat
  | 0 => 2800000000
  | 1 => 9200000000
  | 2 => 47800000000
  | 4 => 9000000000
  | 5 => 22700000000
  | _ => 0

/-- The size of a point record (R218, Table 10.3), and the payload limit P (R216). -/
def recSize (nret : Nat) (colour : Bool) : Nat := 4 * ceilDiv (14 + 9 * nret + (if colour then 4 else 0)) 4
def Hw.payloadMax (hw : Hw) : Nat := if hw.isEth then 1440 else 4096

/-- STREAM_CONFIG's returns per point, 1 to 3, and whether records carry colour (Table 10.13). -/
def Hw.nReturns (hw : Hw) : Nat := max 1 (bits (hw.reg 0x00600000) 12 2)
def Hw.hasColour (hw : Hw) : Bool := decide (bits (hw.reg 0x00600000) 0 2 ≠ 0)

/-- The planned load of a substream in bits per second, from its points per second (R230). -/
def Hw.pointLoad (hw : Hw) (pps : Rat) : Rat :=
  let r := recSize hw.nReturns hw.hasColour
  pps * 8 * ((r : Rat) + 32 / (hw.payloadMax / r : Nat))

/-! ### The counts of a plan -/

/-- The rows a device serves: the plan with its BANK fields as this device's banks; rows of other devices name no bank of it
(R273). -/
def ownPlan (index : Nat) (p : List Byte) : List Byte :=
  if index = 0 then p
  else (List.range (planV p)).foldl (fun q v => q.set (320 + 8 * v) (BitVec.ofNat 8 (rowBank p v + 256 - 4 * index))) p

/-- Points per frame of a row: its origins, once per strip (R194). -/
def rowPoints (p : List Byte) (v : Nat) : Nat :=
  ((List.range (planH p)).filter (fun h => isOrigin p v h)).length * rowVsub p v

/-- Points per frame of the rows of a bank that `rowN` places, and of the whole plan. -/
def bankPoints (p : List Byte) (rowN : Nat → Nat) (b : Nat) : Nat :=
  ((List.range (planV p)).filter (fun v => decide (rowBank p v = b ∧ 0 < rowN v))).foldl (fun n v => n + rowPoints p v) 0
def planPoints (p : List Byte) : Nat := (List.range (planV p)).foldl (fun n v => n + rowPoints p v) 0

/-- The planned points per second of a substream (4 × device + bank) under a placement: of this device's banks with the rows it places, of
another device's as its rows stand in the plan (R199, R230, R273). -/
def Placement.rowM (p : Placement) (v : Nat) : Nat := if rowBank p.plan v < 4 then p.rowN v else rowNAcc p.plan v
def Placement.subPps (p : Placement) (b : Nat) : Rat := ((bankPoints p.plan p.rowM b * planRate p.plan : Nat) : Rat) / 1000

/-- Shots per frame of a bank (R198). -/
def bankShots (p : List Byte) (rowN : Nat → Nat) (b : Nat) : Nat :=
  (List.range (planH p)).foldl (fun n h => (groupsOf p b).foldl (fun n g => n + shotsAt p rowN b g h) n) 0

/-- The tracks of a plan in the order of R197: descending priority, then ascending row, then strip. -/
def trackOrder (p : List Byte) : List (Nat × Nat) :=
  (List.range 16).flatMap (fun d =>
    ((List.range (planV p)).filter (fun v => decide (rowPrio p v = 15 - d ∧ rowBank p v < 4))).flatMap (fun v =>
      (List.range (rowVsub p v)).map (fun s => (v, s))))

/-- The key of a track: row and strip. -/
def trackKey (t : Nat × Nat) : Nat := 4 * t.1 + t.2

/-! ### Allocation (R197, R202) -/

/-- Whether tile `n` takes new tracks: in service and not about to retire; and whether channel `k` is in service. -/
def Hw.tileServes (hw : Hw) (n : Nat) : Bool := !(hw.tile n).retired && decide ((hw.tile n).retireDue = 0)
def Hw.chanServes (hw : Hw) (k : Nat) : Bool := hw.tileServes (k / 16) && !((hw.tile (k / 16)).chan (k % 16)).retired

/-- The channels placed so far, each with its track, and the load of each tile in points per frame × mHz. -/
structure Alloc where
  chans : List (Nat × (Nat × Nat)) := []
  loads : SMap Nat := []
  deriving DecidableEq, Repr

def Alloc.put (a : Alloc) (k : Nat) (t : Nat × Nat) (load : Nat) : Alloc :=
  { chans := mins a.chans k t, loads := mset 0 a.loads (k / 16) (mget 0 a.loads (k / 16) + load) }

/-- The lowest free channel of tile `n`. -/
def Alloc.freeChan (hw : Hw) (a : Alloc) (n : Nat) : Option Nat :=
  ((List.range 16).map (fun p => 16 * n + p)).find? (fun k => hw.chanServes k && !a.chans.any (fun e => decide (e.1 = k)))

/-- The tile of lowest load with a free channel, the lower number on a tie. -/
def Alloc.bestTile (hw : Hw) (a : Alloc) : Option Nat :=
  ((List.range 48).filter (fun n => (a.freeChan hw n).isSome)).foldl (fun best n =>
    match best with
    | none => some n
    | some m => if mget 0 a.loads n < mget 0 a.loads m then some n else some m) none

/-- Tracks placed in order until one finds no place; the rest is left out (R202). -/
def allocGo (hw : Hw) (load : Nat → Nat) : List (Nat × Nat) → Alloc → Alloc × List (Nat × Nat)
  | [], a => (a, [])
  | t :: r, a =>
    match a.bestTile hw with
    | some n =>
      match a.freeChan hw n with
      | some k =>
        if mget 0 a.loads n + load t.1 ≤ 533333000 then allocGo hw load r (a.put k t (load t.1)) else (a, t :: r)
      | none => (a, t :: r)
    | none => (a, t :: r)

/-- The allocation of a plan: pinned tracks first, those already pinned on their channels, then the rest (R197, R210). The
second result is what was left out. -/
def Hw.allocate (hw : Hw) (p : List Byte) : Alloc × List (Nat × Nat) :=
  let load := fun v => (rowPoints p v / max 1 (rowVsub p v)) * planRate p
  let order := trackOrder p
  let pinned := order.filter (fun t => hw.tnd.pinned.contains (trackKey t))
  let held : List (Nat × Nat) := match hw.tnd.active with
    | some a => (a.tracks.filter (fun e => e.2.pinned)).map (fun e => (trackKey (e.2.row, e.2.strip), e.1))
    | none => []
  let fixed := pinned.filter (fun t => held.any (fun e => decide (e.1 = trackKey t)))
  let a := fixed.foldl (fun a t =>
    match held.find? (fun e => decide (e.1 = trackKey t)) with
    | some (_, k) => a.put k t (load t.1)
    | none => a) {}
  let fresh := pinned.filter (fun t => !held.any (fun e => decide (e.1 = trackKey t)))
  let (a, out) := allocGo hw load fresh a
  let (a, out') := allocGo hw load (order.filter (fun t => !hw.tnd.pinned.contains (trackKey t))) a
  (a, out ++ out')

/-! ### Routes (R199) -/

/-- The lane of each of `n` substreams (4 × device + bank): highest planned points first, the least loaded lane of the mask that is up, lower lane on a
tie. With no such lane every substream keeps lane 0. -/
def Hw.routesOf (hw : Hw) (n : Nat) (lanes : List Nat) (pps : Nat → Rat) : List (Nat × Nat) × List (Nat × Rat) :=
  let order := (List.range n).foldl (fun l b =>
    let (hi, lo) := (l.filter (fun x => decide (pps b ≤ pps x)), l.filter (fun x => decide (pps x < pps b)))
    hi ++ [b] ++ lo) []
  order.foldl (fun (r, ls) b =>
    let best := ls.foldl (fun (m : Option (Nat × Rat)) e =>
      match m with
      | none => some e
      | some x => if e.2 < x.2 then some e else some x) none
    match best with
    | some (l, _) => (mins r b l, ls.map (fun e => if e.1 = l then (e.1, e.2 + hw.pointLoad (pps b)) else e))
    | none => (mins r b 0, ls)) ([], lanes.map (fun l => (l, 0)))

/-- The lanes of POINT_LANES that are up. -/
def Hw.pointLanesUp (hw : Hw) (p : List Byte) : List Nat :=
  (setBits 4 (planPointLanes p)).filter (fun l => hw.laneUp l)

/-- TND_ROUTE (Table 9.9). -/
def routeWord (r : List (Nat × Nat)) (exp : Nat) : Nat :=
  (r.filter (fun e => decide (e.1 < 4))).foldl (fun w e => w + e.2 % 4 * 4 ^ e.1) 0 + exp * 256

/-! ### The verdict (R201) -/

/-- HDIV and VSUB, a shape nibble pair (Tables 9.1 and 9.2). -/
def resOk (x : Nat) : Bool := decide ((x % 16 = 1 ∨ x % 16 = 2 ∨ x % 16 = 4) ∧ (x / 16 = 1 ∨ x / 16 = 2 ∨ x / 16 = 4))
def shapeOk (x : Nat) : Bool := decide (x % 16 ≤ 7 ∧ x / 16 ≤ 7)

/-- The field checks of a region entry that stands at `o` (Table 9.2). -/
def roiChecks (p : List Byte) (o : Nat) : List (Nat × Bool) :=
  let f := fun off n => field p off n
  [(o + 2, decide (f o 2 ≤ f (o + 2) 2)), (o + 6, decide (f (o + 4) 2 ≤ f (o + 6) 2)),
   (o + 8, decide (1 ≤ f (o + 8) 2 ∧ f (o + 8) 2 ≤ 1024)), (o + 10, decide (f (o + 10) 1 ≤ 15)),
   (o + 11, resOk (f (o + 11) 1)), (o + 12, decide (f (o + 12) 1 = 0xFF) || shapeOk (f (o + 12) 1)),
   (o + 13, decide (f (o + 13) 1 ≤ 1)), (o + 14, decide (f (o + 14) 2 = 0))]

/-- The field checks of verdict FORMAT, each with the offset of its field. -/
def formatChecks (devices : Nat) (p : List Byte) : List (Nat × Bool) :=
  let f := fun off n => field p off n
  let side := fun x => decide (x = 8 ∨ x = 16 ∨ x = 32)
  let n := f 1 1
  let header : List (Nat × Bool) := [
    (0, decide (f 0 1 = 1)), (1, decide (n ≤ 16)), (2, decide (1 ≤ f 2 2 ∧ f 2 2 ≤ 1024)),
    (4, decide (1 ≤ f 4 2 ∧ f 4 2 ≤ 4096)), (6, decide (f 6 1 ≤ 3)), (7, decide (1 ≤ f 7 1 ∧ f 7 1 ≤ 3)),
    (12, decide (f 12 4 ≠ 0)), (16, decide (1000 ≤ f 16 4 ∧ f 16 4 ≤ 100000)),
    (20, decide (1 ≤ f 20 2 ∧ f 20 2 ≤ 1024)), (22, resOk (f 22 1)), (23, decide (f 23 1 = 0)),
    (24, side (f 24 1)), (25, side (f 25 1)), (26, shapeOk (f 26 1)),
    (27, decide (1 ≤ f 27 1 % 16 ∧ f 27 1 % 16 ≤ 8 ∧ 1 ≤ f 27 1 / 16 ∧ f 27 1 / 16 ≤ 8)),
    (28, decide (f 28 1 ≤ 15)), (29, decide (1 ≤ f 29 1 ∧ f 29 1 ≤ 4)), (30, decide (f 30 1 ≤ 9)),
    (31, decide (f 31 1 ≤ 1)), (34, decide (f 34 2 ≤ 3837)), (36, decide (f 36 1 ≤ 15)), (37, decide (f 37 1 ≤ 15)),
    (38, decide (f 38 1 ≤ 63))]
  let rest := (List.range 25).map (fun i => (39 + i, decide (f (39 + i) 1 = 0)))
  let rois := (List.range n).flatMap (fun i => roiChecks p (64 + 16 * i))
  let rows := (List.range (f 2 2)).flatMap (fun v =>
    let o := 64 + 16 * n + 8 * v
    [(o, decide (f o 1 < 4 * devices)), (o + 1, decide (f (o + 1) 1 ≤ 63)), (o + 2, decide (f (o + 2) 1 ≤ 15)),
     (o + 3, decide (f (o + 3) 1 ≤ 7))])
  header ++ rest ++ rois ++ rows

/-- The footprint of row `v` misaligned, outside the array or overlapping that of an earlier row of its device. -/
def badFootprint (p : List Byte) (v : Nat) : Option Nat :=
  let o := 64 + 16 * planNRoi p + 8 * v
  let at' := fun u => (field p (64 + 16 * planNRoi p + 8 * u) 1 / 4, field p (64 + 16 * planNRoi p + 8 * u + 4) 2,
    field p (64 + 16 * planNRoi p + 8 * u + 6) 2)
  let (d, x, y) := at' v
  if x % planIW p ≠ 0 ∨ 1536 < x + planIW p then some (o + 4)
  else if y % planIH p ≠ 0 ∨ 768 < y + planIH p then some (o + 6)
  else if (List.range v).any (fun u => let (e, a, b) := at' u
    decide (e = d ∧ a < x + planIW p ∧ x < a + planIW p ∧ b < y + planIH p ∧ y < b + planIH p)) then some (o + 4)
  else none

/-- The number of devices of the cascade (R273), and of the substreams that this device routes (R199): those of every device on the primary,
its own four on a secondary. -/
def Hw.devices (hw : Hw) : Nat :=
  (List.range 4).foldl (fun d i => if i = 0 ∨ ((mget {} hw.cas.secs i).admitted ∧ ¬ (mget {} hw.cas.secs i).absent) then max d (i + 1) else d) 1
def Hw.subCount (hw : Hw) : Nat := if hw.isSecondary then 4 else 4 * hw.devices

/-- The planned point load of a lane: that of every substream, a secondary's too, that the routes given bring to it (R230). -/
def Hw.routedLoad (hw : Hw) (p : Placement) (routes : SMap Nat) (l : Nat) : Rat :=
  ((List.range hw.subCount).filter (fun b => decide (mget 0 routes b = l))).foldl (fun s b => s + hw.pointLoad (p.subPps b)) 0

/-- The point load that a secondary forwards over its cascade lane (R228, R278). -/
def Hw.forwardedLoad (hw : Hw) (p : Placement) (i : Nat) : Rat :=
  (List.range 4).foldl (fun s b => s + hw.pointLoad (p.subPps (4 * i + b))) 0

/-- Whether the length of a stored plan matches its N_ROI and V_COUNT (R192). -/
def planSized (p : List Byte) : Bool := decide (64 ≤ p.length ∧ p.length = 64 + 16 * planNRoi p + 8 * planV p)

/-- The verdict on a stored plan, the offset of the offending field and the planned points per second with every track placed (R201); those
of a plan of the wrong length are free (log entry 154). -/
def Hw.planVerdict (hw : Hw) (stored : List Byte) : Nat × Nat × Nat :=
  let total := 0xFFFFFFFF
  let p := ownPlan hw.cas.index (planInForce stored)
  let pps := planPoints p * planRate p / 1000
  if ¬ planSized stored then (1, total, hw.draw.1 % 2 ^ 32)
  else match (formatChecks hw.devices stored).find? (fun c => !c.2) with
    | some (o, _) => (1, o, pps)
    | none =>
      match (List.range (planV stored)).findSome? (fun v => badFootprint stored v) with
      | some o => (2, o, pps)
      | none =>
        let rowN := fun v => rowNAcc p v
        let subs := hw.subCount
        let rate := fun b => ((bankPoints p rowN b * planRate p : Nat) : Rat) / 1000
        let devRate := fun i => (List.range 4).foldl (fun n b => n + rate (4 * i + b)) (0 : Rat)
        let free := ((List.range 768).filter (fun k => hw.chanServes k)).length
        if free < (trackOrder p).length then (3, total, pps)
        else if (hw.allocate p).2 ≠ [] then (4, total, pps)
        else if (List.range subs).any (fun b => decide (800000000 < bankShots p rowN b * planRate p)) then (5, total, pps)
        else if (List.range (subs / 4)).any (fun i => decide (25600000 < devRate i)) then (6, total, pps)
        else
          let (_, loads) := hw.routesOf subs (hw.pointLanesUp p) rate
          let cap := budgetOf (bits hw.lnk.cfg 8 3)
          let casOver := (List.range (subs / 4)).any (fun i => decide (i ≠ 0 ∧
            (budgetOf (hw.lane (3 + i)).rate : Rat) < (List.range 4).foldl (fun n b => n + hw.pointLoad (rate (4 * i + b))) (0 : Rat)))
          if loads.any (fun e => decide ((cap : Rat) < e.2)) ∨ casOver then (7, total, pps)
          else if planReturns p ≠ hw.nReturns then (8, 7, pps)
          else (0, 0, pps)

/-! ### Adaptation (R205, R206) -/

/-- The binomial coefficient, by products. -/
def chooseN (n k : Nat) : Nat := (List.range k).foldl (fun c i => c * (n - i) / (i + 1)) 1

/-- bg_bin(k): daylight events per coarse bin (R205): rates per second, τ and w in seconds. -/
def bgBin (n k nAcc : Nat) (r tau w : Rat) : Rat :=
  let re := r / (1 + r * tau)
  (k : Rat) * chooseN n k * re ^ k * w ^ (k - 1) * (5 / 4000000000) * nAcc

/-- The least gate threshold that bounds daylight by AMB_TARGET, 8 if none (R205). -/
def gateFor (kMin n nAcc : Nat) (r tau w target : Rat) : Nat :=
  (((List.range 9).filter (fun k => decide (1 ≤ k ∧ kMin ≤ k ∧ k ≤ n ∧ bgBin n k nAcc r tau w ≤ target))).head?).getD 8

/-- What R205 wants for a track: +1, 0 or −1. -/
def wantOf (adapt sunRate : Nat) (st : TrackStat) : Int :=
  let r : Rat := if st.nLive * st.live = 0 then Config.openRate st.raw else (st.raw : Rat) * 1000000 / (st.nLive * st.live)
  let fill : Rat := (st.rets : Rat) / (max 1 st.hists)
  let pMean : Rat := if st.rets = 0 then Config.openRate st.hists else st.pSum / st.rets
  if (sunRate : Rat) ≤ r ∧ fill < (bits adapt 16 8 : Rat) / 256 then 1
  else if (bits adapt 8 8 : Rat) / 256 ≤ pMean ∨ r < (sunRate : Rat) / 4 then -1
  else 0

/-- The next or previous shape, within SHAPE_INIT to SHAPE_MAX and the strip; COLUMN64 never moves (R205). -/
def moveShape (p : List Byte) (v shape : Nat) (want : Int) : Nat :=
  let g := govShape p (topGovernor p v)
  let lo := g % 16
  let hi := min 6 (g / 16)
  if shape = 7 then 7
  else
    let s := (clampI (min lo 6) (max lo hi) ((shape : Int) + want)).toNat
    if shapeW s ≤ planIW p ∧ shapeH s ≤ stripH p v then s else shape

/-- The initial memory of a track (R194, R195). -/
def adaptInit (p : List Byte) (v : Nat) : Adapt :=
  { shape := fitShape (planIW p) (stripH p v) (govShape p (topGovernor p v) % 16), k := planKInit p }

/-- One run of R205 for a track. -/
def Hw.adaptTrack (hw : Hw) (p : List Byte) (t : Nat × Nat) (a : Adapt) : Adapt :=
  let v := t.1
  if planAdaptOff p ∨ govAdaptOff p (topGovernor p v) then adaptInit p v
  else
    let st := mget {} hw.tnd.stats (trackKey t)
    let reg := hw.reg 0x00580008
    let want := wantOf reg (hw.reg 0x0058000C) st
    let streak := if want = a.lastWant then a.streak + 1 else 1
    let hold := max 1 (bits reg 0 4)
    let (shape, streak) := if want ≠ 0 ∧ hold ≤ streak then (moveShape p v a.shape want, 0) else (a.shape, streak)
    let tr : Track := { shape := shape, x0 := anchorX p v shape, y0 := anchorY p v t.2 shape }
    let n := hw.nLive tr
    let r : Rat := if st.nLive * st.live = 0 then Config.openRate st.raw else (st.raw : Rat) * 1000000 / (st.nLive * st.live)
    let tau : Rat := (hw.deadTime (regionOf tr.x0 tr.y0) : Rat) / 2000000000
    let w : Rat := ((planGateW p + 1 : Nat) : Rat) / 2000000000
    { shape := shape, k := gateFor (planKMin p) n (rowNAcc p v) r tau w ((bits reg 24 8 : Rat) / 16), streak := streak, lastWant := want }

/-- The memory of every track for the placement being computed: initial at the first placement, held for pinned tracks and
while adaptation is frozen, else one run of R205. -/
def Hw.adaptAll (hw : Hw) (p : List Byte) (first : Bool) : SMap (Option Adapt) :=
  (trackOrder p).foldl (fun m t =>
    let a := match mget none hw.tnd.adapt (trackKey t) with
      | some a =>
        if first then adaptInit p t.1
        else if hw.tnd.pinned.contains (trackKey t) ∨ hw.tnd.frozen ∨ hw.tnd.faultFrozen then a
        else hw.adaptTrack p t a
      | none => adaptInit p t.1
    mset none m (trackKey t) (some a)) []

/-! ### Computing a placement (R195, R196, R203, R207, R210) -/

/-- The track of a channel, but for its DEPTH. -/
def Hw.mkTrack (hw : Hw) (p : List Byte) (adapt : SMap (Option Adapt)) (guardTile : Bool) (t : Nat × Nat) : Track :=
  let v := t.1
  let a := (mget none adapt (trackKey t)).getD (adaptInit p v)
  let pin := hw.tnd.pinned.contains (trackKey t)
  let shape := fitShape (planIW p) (stripH p v) a.shape
  let n := if guardTile then max 24 (rowNAcc p v) else rowNAcc p v
  let div := planZoomDiv p
  { bank := rowBank p v, nAcc := n
    zoomAt := if div = 9 then 0 else n / (if div = 0 then 4 else div)
    zlo := planRangeMin p * 100000 / 187370, zhi := min 2047 (ceilDiv (planRangeMax p * 100000) 187370)
    shape := shape, x0 := anchorX p v shape, y0 := anchorY p v t.2 shape, k := a.k, w := planGateW p
    row := v, strip := t.2, vsub := rowVsub p v, hdiv := max 1 (govHdiv p (topGovernor p v)), prio := rowPrio p v
    erow := rowErow p v, profile := rowProfile p v, pinned := pin }

/-- DEPTH of a bank (R196). -/
def depthOf (p : List Byte) (rowN : Nat → Nat) (b : Nat) : Nat :=
  min (planDepthMax p) (3820 * bankShots p rowN b * planRate p / 1000000000000 + 1)

/-- The CHCFG words of a track (Table 7.8). -/
def chcfg0 (t : Track) : Nat :=
  2 ^ 31 + t.bank % 4 * 2 ^ 29 + (t.depth - 1) % 4 * 2 ^ 27 + (t.nAcc - 1) % 1024 * 2 ^ 16 + t.zoomAt % 2048
def chcfg1 (t : Track) : Nat := t.zhi % 2048 * 2 ^ 16 + t.zlo % 2048

/-- The TRK byte of a track, and its 16-byte entry (Table 9.6). -/
def trkByte (t : Track) : Nat :=
  128 + 16 * b2n t.pinned + 4 * (if t.hdiv = 4 then 2 else if t.hdiv = 2 then 1 else 0) + t.strip
def trackEntry (t : Track) : List Byte :=
  le 4 (mpWord t) ++ le 4 (chcfg0 t) ++ le 4 (chcfg1 t) ++ le 2 t.row ++ le 1 (trkByte t) ++ le 1 t.prio

/-- The N_acc that the grid counts for row `v`: that of its tracks, but in a group with a pinned track what the placement in force counts
there, so that the pinned track's targets stay (R210). -/
def Hw.gridHeld (hw : Hw) (p : List Byte) (v n : Nat) : Nat :=
  match hw.tnd.active with
  | some a =>
    if a.tracks.any (fun e => e.2.pinned && decide (e.2.bank = rowBank p v ∧ e.2.erow = rowErow p v ∧ e.2.profile = rowProfile p v)) then
      mget 0 a.grid v
    else n
  | none => n

/-- The placement of a plan with an adaptation memory, before its epoch and frame. -/
def Hw.place (hw : Hw) (p0 : List Byte) (slot : Nat) (adapt : SMap (Option Adapt)) : Placement :=
  let p := ownPlan hw.cas.index p0
  let (al, out) := hw.allocate p
  let guardTiles := (al.chans.filter (fun e => hw.tnd.pinned.contains (trackKey e.2))).map (fun e => e.1 / 16)
  let tracks := al.chans.map (fun e => (e.1, hw.mkTrack p adapt (guardTiles.contains (e.1 / 16)) e.2))
  let rowN := ({ tracks := tracks } : Placement).rowN
  let held : List (Nat × Track) := match hw.tnd.active with
    | some a => a.tracks.filter (fun e => e.2.pinned)
    | none => []
  let tracks := tracks.map (fun e =>
    match held.find? (fun h => decide (h.1 = e.1 ∧ h.2.row = e.2.row ∧ h.2.strip = e.2.strip)) with
    | some h => h
    | none => (e.1, { e.2 with depth := depthOf p rowN e.2.bank }))
  let grid := (List.range (planV p)).foldl (fun m v => mset 0 m v (hw.gridHeld p v (rowN v))) []
  let (routes, _) := hw.routesOf hw.subCount (hw.pointLanesUp p)
    ({ plan := p, tracks := tracks } : Placement).subPps
  let top := (List.range 48).foldl (fun m n => max m (mget 0 al.loads n)) 0
  { slot := slot, plan := p, tracks := tracks, unplaced := out.length, route := routeWord routes (planExportLanes p), routes := routes.filter (fun e => decide (e.2 ≠ 0))
    load := (roundOpen 901 ((top : Rat) / 1000)).toNat, frozen := hw.tnd.frozen || hw.tnd.faultFrozen
    pattern := hw.bcn.source = 1 || hw.bcn.pattern.armed.isSome, pins := hw.tnd.pins, crc := crc32c p0, grid := grid }

/-- The entries of a placement's tables: the channels with theirs, the routes of every substream (Tables 9.6 and 9.9, R199). -/
def Placement.entries (p : Placement) : List (Nat × List Byte) × Nat × SMap Nat :=
  (p.tracks.map (fun e => (e.1, trackEntry e.2)), p.route, p.routes)

/-- The epoch of a computed placement: that in force if no table entry differs, else the next one (R207). -/
def Hw.withEpoch (hw : Hw) (p : Placement) (frame : Nat) : Placement :=
  match hw.tnd.active with
  | some a =>
    if a.entries = p.entries then
      { p with epoch := a.epoch, frame := a.frame }
    else { p with epoch := (a.epoch + 1) % 256, frame := frame }
  | none => { p with epoch := (hw.tnd.epoch + 1) % 256, frame := frame }

/-- The plan commands accepted so far act on the coming placement (R203): it is computed from the newest plan. -/
def Hw.computePlacement (hw : Hw) (first : Bool) : Hw × Option Placement :=
  match hw.tnd.nextPlan with
  | some p =>
    let adapt := hw.adaptAll (ownPlan hw.cas.index p) first
    let frame := if hw.tnd.firstFrame then hw.tnd.frame else (hw.tnd.frame + 1) % 2 ^ 32
    let pl := hw.withEpoch (hw.place p hw.tnd.nextSlot adapt) frame
    ({ hw with tnd := { hw.tnd with adapt := adapt, adaptOld := hw.tnd.adapt } }, some pl)
  | none => (hw, none)

/-- The epoch that a plan accepted now brings (R201, R207): that of the placement it gives, after the one being computed (log entry 70). -/
def Hw.planEpoch (hw : Hw) (plan : List Byte) (slot : Nat) : Nat :=
  let base := (hw.tnd.computing.or hw.tnd.shadow).or hw.tnd.active
  let hw : Hw := { hw with tnd := { hw.tnd with active := base, nextPlan := some plan, nextSlot := slot } }
  match (hw.computePlacement (decide (base = none))).2 with
  | some p => p.epoch
  | none => hw.tnd.epoch

/-- The frame period in ticks of the plan in force: whole ticks and what is carried into the next frame (R198). -/
def Hw.framePeriod (hw : Hw) : Nat × Nat :=
  match hw.tnd.active with
  | some p =>
    let r := max 1 (planRate p.plan)
    ((800000000000 + hw.tnd.frameRem) / r, (800000000000 + hw.tnd.frameRem) % r)
  | none => (0, 0)

/-- Whether frames run: in SCAN, GUARD and SERVICE, where Tender places (Table 3.2), once a plan is activated. -/
def Hw.framesRun (hw : Hw) : Bool :=
  decide (hw.dev.mode = .scan ∨ hw.dev.mode = .guard ∨ hw.dev.mode = .service) && hw.tnd.nextPlan.isSome

/-- The FRAME frame a primary queues for its secondaries before a boundary: the coming frame number and the low half of the
boundary's device-time tick (R274, Table 12.2). -/
def Hw.announceFrame (hw : Hw) : Hw :=
  if hw.cas.found ∧ hw.cas.index = 0 then
    let n := if hw.tnd.firstFrame then hw.tnd.frame else (hw.tnd.frame + 1) % 2 ^ 32
    let t := hw.clk.time.toNat + (hw.tnd.frameTick + hw.framePeriod.1 - hw.ticks)
    hw.casQueue 3 (n * 2 ^ 44 + t % 2 ^ 32 * 2 ^ 12)
  else hw

/-- PLACEMENT_CUT: 2 ms before the coming boundary Tender starts computing (R203). In a pattern program, whose boundaries lie
at its FRAME steps, it starts at any time of the frame. -/
def placementCut (hw : Hw) : Hw :=
  let due := hw.tnd.frameTick + hw.framePeriod.1 ≤ hw.ticks + 1600000 ∨ hw.bcn.source = 1
  if hw.framesRun ∧ hw.tnd.frameOn ∧ ¬ hw.tnd.cutDone ∧ due then
    let (hw, p) := hw.computePlacement false
    let hw := hw.announceFrame
    { hw with
      tnd := { hw.tnd with cutDone := true, computing := p }
      lnk := { hw.lnk with restored := false } }
  else hw

/-- PLACEMENT_READY: the computation ends; the tables go to the blocks with their epoch (R203, R207). Tracks left out raise
F.TND.001 (R202). -/
def placementReady (us : Nat) (hw : Hw) : Hw :=
  match hw.tnd.computing with
  | some p =>
    let hw := { hw with tnd := { hw.tnd with shadow := some p, computing := none, planTime := us % 65536 } }
    let was := match hw.tnd.active with | some a => a.unplaced | none => 0
    if p.unplaced ≠ 0 ∧ p.unplaced ≠ was then hw.raise (fid srcTnd 2 1) (le 2 p.unplaced)
    else hw
  | none => hw

/-- The first placement after an entry to SCAN or GUARD (R203): initial shapes, ready at once. -/
def Hw.startFrames (hw : Hw) : Hw :=
  let (hw, p) := hw.computePlacement (decide (hw.tnd.active = none))
  let hw := { hw with tnd := { hw.tnd with computing := p, frameOn := false, cutDone := true } }
  placementReady hw.tnd.planTime hw

/-! ### The placement tables as they are read (R212, Tables 7.8, 9.5, 9.6) -/

/-- The 12,304 bytes of PLACEMENT_READ. -/
def placementBytes (p : Placement) : List Byte :=
  le 1 p.epoch ++ le 1 p.slot ++ le 2 (b2n p.frozen + 2 * b2n p.pattern + 4 * b2n p.pins) ++ le 4 p.frame ++ le 4 p.crc ++
    le 2 p.tracks.length ++ le 2 p.unplaced ++
    (List.range 768).flatMap (fun k =>
      match p.tracks.find? (fun e => decide (e.1 = k)) with
      | some (_, t) => trackEntry t
      | none => List.replicate 16 0)

end Sys2Proof.Machine
end

