-- ==== Sys2Proof/Machine/Bell.lean ====
section
/-! DEFINITION. Bell (chapter 19): frames from the state of both Keepers, the two that may wait, and confirmations. -/

namespace Sys2Proof.Machine

/-- CHECK of a frame's bytes 0 to 59: polynomial 0xF4AC_FB13, reflected (R398). -/
def bellCheck (l : List Byte) : Nat := crcRefl 0xC8DF352F l

/-- PERIOD in ticks and T_EXPECT in µs. -/
def Hw.belPeriod (hw : Hw) : Nat := 800000 * bits (hw.reg 0x00890000) 8 8
def Hw.belExpect (hw : Hw) : Nat := bits (hw.reg 0x00890008) 0 20

/-- The line commands of one Keeper. -/
def Keeper.lines (x : Keeper) : Nat := 3 * b2n (tb x.on 0) + 12 * b2n (tb x.on 1)

/-- SFLAGS as one Keeper holds them (Table 19.1). -/
def Hw.sflags (hw : Hw) (k : Nat) : Nat :=
  let x := hw.keeper k
  let wait := fun p => !tb x.on p && (tb hw.kpr.needRestart p || !tb (hw.reg 0x00880000) (4 + p))
  x.on % 4 + 4 * b2n (wait 0) + 8 * b2n (wait 1) + 16 * b2n hw.fselValid + 32 * b2n (!hw.kpr.latched.isEmpty) + 64 * b2n hw.kpr.stuck

/-- What a Keeper shows and Keeper B compares: KSTATE, SET, VIOL, LINES[3:0], SFLAGS, FAULT, GUARD_CRC (R399). -/
def Hw.belShow (hw : Hw) (k : Nat) : List Nat :=
  [hw.kprState, hw.kpr.set, (hw.keeper k).viol hw.kpr.set, (hw.keeper k).lines, hw.sflags k, hw.oldestSafe, hw.guardCrc]

/-- Whether Keeper B vouches for A's frame (R399). -/
def Hw.belAgree (hw : Hw) : Bool :=
  let a := hw.belShow 0
  let b := hw.belShow 1
  if hw.kpr.latched.isEmpty then decide (a = b)
  else decide (a.getD 0 0 = b.getD 0 0 ∧ a.getD 3 0 = b.getD 3 0 ∧ tb (a.getD 4 0) 5 = tb (b.getD 4 0) 5)

/-- The 64 bytes of a frame (Table 19.1). -/
def Hw.bellBytes (hw : Hw) (kind : Nat) : List Byte :=
  let a := hw.belShow 0
  let body := le 4 (hw.reg 0x00890004) ++ le 4 hw.bel.seq ++ le 8 hw.clk.time.toNat ++ le 4 hw.belExpect ++ le 1 kind ++ le 1 hw.cas.index ++
    le 1 (a.getD 0 0) ++ le 1 (a.getD 1 0) ++ le 1 (a.getD 2 0) ++ le 1 (a.getD 3 0 + 16 * (hw.pins.readback % 16)) ++ le 1 (a.getD 4 0) ++ le 1 0 ++
    le 2 (a.getD 5 0) ++ le 2 0 ++ le 4 (a.getD 6 0) ++ le 4 hw.kpr.frozen ++ le 4 hw.kpr.trips ++ le 8 hw.kpr.tripTime.toNat ++
    le 4 hw.kpr.tripCell ++ le 4 0
  body ++ le 4 (bellCheck body)

/-- A frame queued; a third replaces the older of the two waiting (R402). -/
def Hw.bellQueue (hw : Hw) (f : List Byte) : Hw :=
  if hw.bel.waiting.length < 2 then { hw with bel := { hw.bel with waiting := hw.bel.waiting ++ [f] } }
  else
    let told := match hw.bel.supAt with | some t => decide (hw.ticks < t + 800000000) | none => false
    let hw := { hw with bel := { hw.bel with
      waiting := hw.bel.waiting.drop 1 ++ [f], superseded := satAdd 0xFFFFFFFF hw.bel.superseded 1
      supAt := if told then hw.bel.supAt else some hw.ticks } }
    if told then hw else hw.raise (fid srcBel 0 3) []

/-- A frame built and checked, or withheld by Keeper B: then it is built again 250 µs later (R399, R401). -/
def Hw.bellBuild (hw : Hw) (kind : Nat) : Hw :=
  if hw.belAgree then
    let f := hw.bellBytes kind
    let hw := { hw with bel := { hw.bel with
      seq := (hw.bel.seq + 1) % 2 ^ 32, builtAt := hw.ticks, shown := (hw.belShow 0).take 5
      built := (hw.bel.seq, hw.ticks) :: hw.bel.built, rebuildAt := none, heldSince := none } }
    hw.bellQueue f
  else
    let since := hw.bel.heldSince.getD hw.ticks
    let hw := { hw with bel := { hw.bel with
      withheld := satAdd 0xFFFFFFFF hw.bel.withheld 1, rebuildAt := some (hw.ticks + 200000), heldSince := some since } }
    if since + hw.belPeriod < hw.ticks ∧ ¬ hw.isRaised (fid srcBel 1 4) then hw.raise (fid srcBel 1 4) [] else hw

/-- START at GUARD_ENTER; a connection of 0 leaves Bell silent (R400, R401). -/
def Hw.bellStart (hw : Hw) : Hw :=
  if hw.reg 0x00890004 = 0 then hw
  else
    let t := hw.clk.time.toNat % 2 ^ 32
    ({ hw with bel := { hw.bel with
      running := true, seq := if t = 0 then 1 else t, connected := false, sLast := none, rebuildAt := none, heldSince := none, built := [] } }).bellBuild 2

/-- END at GUARD_LEAVE, then Bell stops (R401). -/
def Hw.bellEnd (hw : Hw) : Hw :=
  if hw.bel.running then
    let hw := hw.bellBuild 3
    { hw with bel := { hw.bel with running := false, rebuildAt := none } }
  else hw

/-- The kind of the next frame: START until the first was built, then STATE. -/
def Hw.bellKind (hw : Hw) : Nat := if hw.bel.built.isEmpty then 2 else 1

/-- BELL_FRAME_BUILD: on PERIOD, on a change of what the frame shows but not sooner than 250 µs after the last, or 250 µs after a
withheld one. -/
def bellFrameBuild (hw : Hw) : Hw :=
  if ¬ hw.bel.running then hw
  else match hw.bel.rebuildAt with
    | some t => if t ≤ hw.ticks then hw.bellBuild hw.bellKind else hw
    | none =>
      if hw.bel.builtAt + hw.belPeriod ≤ hw.ticks ∨ (hw.bel.shown ≠ (hw.belShow 0).take 5 ∧ hw.bel.builtAt + 200000 ≤ hw.ticks) then
        hw.bellBuild 1
      else hw

/-- Whether a CONFIRM frame passes the tests of Table 19.2 (R405, R397). After T_EXPECT without one the SEQ tests are left out, and TIME is
tested against the last one accepted since START (R403). -/
def Hw.confirmOk (hw : Hw) (f : List Byte) : Bool :=
  let seq := field f 4 4
  let gap := (seq + 2 ^ 32 - hw.bel.sLast.getD 0) % 2 ^ 32
  decide (field f 0 4 = hw.reg 0x00890004 ∧ field f 16 4 = hw.belExpect ∧ field f 20 1 = 0x10) &&
    (bytesAt f 21 3 ++ bytesAt f 28 32).all (fun b => decide (b = 0)) &&
    (match hw.bel.sLast with
     | some _ => decide (gap ≠ 0 ∧ gap < 2 ^ 31 ∧ gap ≤ 40 ∧ hw.bel.timeLast < field f 8 8)
     | none => !hw.bel.connected || decide (hw.bel.timeLast < field f 8 8))

/-- CONFIRM_RECEIVE, over Vymon Link only. -/
def confirmReceive (f : List Byte) (hw : Hw) : Hw :=
  if ¬ hw.bel.running ∨ hw.isEth ∨ f.length ≠ 64 then hw
  else if field f 60 4 ≠ bellCheck (f.take 60) then
    let fails := (hw.ticks :: hw.bel.fails).filter (fun t => decide (hw.ticks < t + 800000000))
    let hw := { hw with bel := { hw.bel with checkFail := satAdd 0xFFFFFFFF hw.bel.checkFail 1, fails := fails } }
    if fails.length = 17 then hw.raise (fid srcBel 1 2) [] else hw
  else if ¬ hw.confirmOk f then hw
  else
    let rtt := match hw.bel.built.find? (fun e => decide (e.1 = field f 24 4)) with
      | some e => (roundOpen 1901 (((hw.ticks - e.2 : Nat) : Rat) / 800)).toNat
      | none => 0
    { hw with bel := { hw.bel with
      received := (hw.bel.received + 1) % 2 ^ 32, connected := true, sLast := some (field f 4 4), timeLast := field f 8 8
      confirmAt := hw.ticks, rttMax := min 0xFFFFFF (max hw.bel.rttMax rtt) } }

/-- BELL_CONFIRM_TIMEOUT: each T_EXPECT without another CONFIRM; the next may then pass without the SEQ tests (R403, R405). -/
def bellConfirmTimeout (hw : Hw) : Hw :=
  if hw.bel.running ∧ hw.bel.connected ∧ hw.bel.confirmAt + 800 * hw.belExpect ≤ hw.ticks then
    let hw := { hw with bel := { hw.bel with
      late := satAdd 0xFFFFFFFF hw.bel.late 1, sLast := none, confirmAt := hw.bel.confirmAt + 800 * max 1 hw.belExpect } }
    hw.raise (fid srcBel 1 1) []
  else hw

/-- The first offending parameter of BELL_CONFIG, as an offset into its parameters (R400). -/
def Hw.bellBad (hw : Hw) (tExpect transport : Nat) : Option Nat :=
  if tExpect < 1000 ∨ 1000000 < tExpect ∨ tExpect < 2000 * bits (hw.reg 0x00890000) 8 8 then some 4
  else if 1 < transport ∨ transport ≠ b2n hw.isEth then some 8
  else none

/-- BELL_STATUS. -/
def Hw.bellStatus (hw : Hw) : List Byte := le 4 hw.bel.sent ++ le 4 hw.bel.received ++ le 4 hw.bel.checkFail ++ le 4 hw.bel.late

/-- The computed registers of BEL, by offset (Table 19.5). -/
def Hw.belView (hw : Hw) (off : Nat) : Nat :=
  match off with
  | 0x14 => hw.bel.waiting.length % 4 * 2 ^ 24 + b2n hw.bel.running * 256 + 2 * b2n hw.bel.connected + bits (hw.reg 0x00890000) 0 1
  | 0x18 => hw.bel.seq
  | 0x1C => hw.bel.sent
  | 0x20 => hw.bel.received
  | 0x24 => hw.bel.checkFail
  | 0x28 => hw.bel.late
  | 0x2C => hw.bel.superseded
  | 0x30 => hw.bel.withheld
  | 0x34 => hw.bel.rttMax
  | _ => 0

/-- Whether a value of a BEL register is out of its range (R410). -/
def badBel (off v : Nat) : Bool :=
  match off with
  | 0x00 => decide (bits v 8 8 = 0 ∨ 100 < bits v 8 8)
  | 0x08 => decide (bits v 0 20 < 1000 ∨ 1000000 < bits v 0 20)
  | _ => false

end Sys2Proof.Machine
end

