-- ==== Sys2Proof/Machine/Series.lean ====
section
/-! DEFINITION. The natural logarithm of R178 and R182 and the Poisson mean of R182, summed far below the last place that any result
keeps (log entries 3 and 4). -/

namespace Sys2Proof.Machine

/-- Σ t^(2i+1) / (2i+1) over 24 terms: artanh of `t`, for |t| ≤ 1/3 to within 10⁻²⁴. -/
def artanhSum (t : Rat) : Rat := (List.range 24).foldl (fun s i => s + t ^ (2 * i + 1) / ((2 * i + 1 : Nat) : Rat)) 0

/-- The natural logarithm of a positive number: its power of two, and the rest by artanh. -/
def lnRat (x : Rat) : Rat :=
  let e : Int := (Nat.log2 x.num.natAbs : Int) - Nat.log2 x.den
  let m : Rat := if 0 ≤ e then x / 2 ^ e.toNat else x * 2 ^ (-e).toNat
  e * (2 * artanhSum (1 / 3)) + 2 * artanhSum ((m - 1) / (m + 1))

/-- δ of GAUSS3 (R178) for three positive net counts, clamped to ±0.5; the quotient 0 / 0 of equal ratios is open. -/
def gaussAt (a b c : Rat) : Rat :=
  let d : Rat := if b * b = a * c then Config.gaussOpen b else (lnRat c - lnRat a) / (2 * (2 * lnRat b - lnRat a - lnRat c))
  max (-1 / 2) (min (1 / 2) d)

/-- Σ xⁱ / i! over i below `n`. -/
def expSum (n : Nat) (x : Rat) : Rat :=
  ((List.range n).foldl (fun (e : Rat × Rat) i => (e.1 + e.2, e.2 * x / ((i + 1 : Nat) : Rat))) (0, 1)).1

/-- Whether a Poisson count of mean `x`, up to 16, is `k` or more with probability at least `p`. -/
def poissonAtLeast (k : Nat) (p x : Rat) : Bool := let all := expSum 96 x; decide (p * all ≤ all - expSum k x)

/-- The mean at which a Poisson count is `k` or more with probability `p` ≤ 0.95, by halving 0 to 16. -/
def poissonMean (k : Nat) (p : Rat) : Rat :=
  ((List.range 44).foldl (fun (e : Rat × Rat) _ =>
    let m := (e.1 + e.2) / 2
    if poissonAtLeast k p m then (e.1, m) else (m, e.2)) (0, 16)).1

/-- The net fraction at point `j` of the 256 of a table of R182: from 0 to 0.95, its place between them open. -/
def lambdaPoint (k j : Nat) : Rat :=
  let sum := fun (n : Nat) => (((List.range n).foldl (fun s i => s + Config.lambdaGap k i + 1) 0 : Nat) : Rat)
  95 / 100 * sum j / sum 255

/-- λ by the table of 256 points for threshold `k`, interpolated linearly (R182). -/
def lambdaTable (k : Nat) (p : Rat) : Rat :=
  let j := ((List.range 255).filter (fun j => decide (lambdaPoint k j ≤ p))).length - 1
  let x := lambdaPoint k j
  let y := lambdaPoint k (j + 1)
  let a := poissonMean k x
  a + (poissonMean k y - a) * (p - x) / (y - x)

end Sys2Proof.Machine
end

