-- ==== Sys2Proof/Machine/Detect.lean ====
section
/-! DEFINITION. From a closed histogram to its passing returns (chapter 08): pile-up correction, background, threshold,
return time, walk, intensity, reflectivity, class, confidence. All arithmetic is exact (log entry 8). -/

namespace Sys2Proof.Machine

/-- What the arithmetic of a histogram reads beside it: the DET registers in force by offset, the active tables, the
channel's skew fraction, its gate threshold and live count, and the ambient rate terms of the previous frame. -/
structure DetEnv where
  force  : SMap Nat
  tables : SMap Nat
  sFrac  : Nat
  k      : Nat
  w      : Nat
  shape  : Nat
  nLive  : Nat
  rEff   : Rat
  deriving DecidableEq, Repr

/-- A DET register in force (R174), and a word of an active table (Table 8.7: 0 walk, 1 KREF, 2 overlap). -/
def DetEnv.reg (e : DetEnv) (off : Nat) : Nat := mget (regReset (0x00500000 + off)) e.force off
def DetEnv.tab (e : DetEnv) (t i : Nat) : Nat := mget 0 e.tables (1024 * t + i)

/-- A raw coarse bin and a raw fine bin; outside 0 to 2,047 counts 0. -/
def Hist.bin (h : Hist) (i : Int) : Nat := if i < 0 ∨ 2047 < i then 0 else mget 0 h.coarse i.toNat
def Hist.fineBin (h : Hist) (z j : Nat) : Nat := mget 0 h.fine (128 * z + j)

/-- Exhausted shots at bin `i` (R175). -/
def exhausted (h : Hist) (i : Nat) : Rat :=
  ((List.range (i / 128)).foldl (fun s n => s + mget 0 h.exhaust n) 0 : Nat) + (mget 0 h.exhaust (i / 128) * (i % 128) : Nat) / 128

/-- The pile-up gain g(i) (R175). -/
def gainAt (e : DetEnv) (h : Hist) (i : Nat) : Rat :=
  let gMax : Rat := (bits (e.reg 0x1C) 0 8 : Rat) / 16
  let live : Rat := h.nRx - exhausted h i - h.bin ((i : Int) - 1) - h.bin ((i : Int) - 2)
  if live ≤ 0 then gMax else min gMax (h.nRx / live)

/-- The corrected coarse bin hc[i] and fine bin fc[z][j] (R175). -/
def hcAt (e : DetEnv) (h : Hist) (i : Int) : Rat :=
  if i < 0 ∨ 2047 < i then 0 else (h.bin i : Rat) * gainAt e h i.toNat
def fcAt (e : DetEnv) (h : Hist) (z j : Nat) (w : Int) (nz : Nat) : Rat :=
  let t := w + 2 * (j : Int) + 1
  if t < 0 ∨ 163839 < t ∨ nz = 0 then 0 else (h.fineBin z j : Rat) * gainAt e h (t.toNat / 80) * h.nRx / nz

/-- Insertion of a number in ascending order, and the sort it gives. -/
def insertRat (x : Rat) : List Rat → List Rat
  | [] => [x]
  | y :: r => if x ≤ y then x :: y :: r else y :: insertRat x r
def sortRat (l : List Rat) : List Rat := l.foldr insertRat []

/-- The VALID candidates of a histogram with their slots. -/
def candsOf (h : Hist) : List (Nat × Cand) :=
  (List.range 4).filterMap (fun i => match h.cands[i]? with | some (some c) => some (i, c) | _ => none)

/-- The trimmed mean of a coarse segment (R176). -/
def bgSeg (e : DetEnv) (h : Hist) (s : Nat) : Rat :=
  let excl := bits (e.reg 0x08) 0 4
  let trim := bits (e.reg 0x08) 8 5
  let bins := ((List.range 128).map (fun j => 128 * s + j)).filter (fun b =>
    (candsOf h).all (fun c => decide (b + excl < c.2.bin ∨ c.2.bin + excl < b)))
  let l := sortRat (bins.map (fun (b : Nat) => hcAt e h b))
  let m := (l.drop trim).take (l.length - 2 * trim)
  if m.length = 0 then 0 else m.foldl (· + ·) 0 / m.length

/-- bg(b), interpolated between segment centres (R176); outside 0 to 2,047 counts 0. -/
def bgAt (e : DetEnv) (h : Hist) (b : Int) : Rat :=
  if b < 0 ∨ 2047 < b then 0
  else
    let x := b.toNat
    if 2 * x ≤ 127 then bgSeg e h 0
    else
      let s := (2 * x - 127) / 256
      if 15 ≤ s then bgSeg e h 15
      else
        let f : Rat := ((2 * x - 127 - 256 * s : Nat) : Rat) / 256
        bgSeg e h s * (1 - f) + bgSeg e h (s + 1) * f

/-- The three-bin background B3 (R176) and the three-bin sum S3 (R177). -/
def b3 (e : DetEnv) (h : Hist) (b : Nat) : Rat := bgAt e h ((b : Int) - 1) + bgAt e h b + bgAt e h (b + 1)
def s3 (e : DetEnv) (h : Hist) (b : Nat) : Rat := hcAt e h ((b : Int) - 1) + hcAt e h b + hcAt e h (b + 1)

/-- The threshold test (R177). -/
def passes (e : DetEnv) (h : Hist) (b : Nat) : Bool :=
  let k : Rat := (bits (e.reg 0x04) 0 8 : Rat) / 16
  let root : Rat := (sqrt256 801 (b3 e h b) : Rat) / 256
  decide (b3 e h b + k * root ≤ s3 e h b) && decide ((bits (e.reg 0x04) 8 8 : Rat) ≤ s3 e h b - b3 e h b)

/-- The net counts n_j of a window (R178). -/
def windowNet (e : DetEnv) (h : Hist) (z : Nat) (w : Int) (nz b : Nat) : List Rat :=
  (List.range 128).map (fun j => max 0 (fcAt e h z j w nz - bgAt e h b / 40))

/-- The index of the largest entry, the lowest on a tie. -/
def argMax (l : List Rat) : Nat :=
  ((List.range l.length).foldl (fun best j => if l.getD best 0 < l.getD j 0 then j else best) 0)

/-- The centroid over the indices `lo` to `hi` of a list (R178). -/
def centroid (l : List Rat) (lo hi : Nat) : Rat :=
  let js := ((List.range l.length).filter (fun j => decide (lo ≤ j ∧ j ≤ hi)))
  let sum : Rat := js.foldl (fun s (j : Nat) => s + l.getD j 0) 0
  js.foldl (fun s (j : Nat) => s + (j : Rat) * l.getD j 0) 0 / sum

/-- The fractional index ĵ of a window (R178). -/
def fracIndex (e : DetEnv) (l : List Rat) : Rat :=
  let m := argMax l
  let hw := bits (e.reg 0x0C) 0 6
  let a := l.getD (m - 1) 0
  let b := l.getD m 0
  let c := l.getD (m + 1) 0
  if tb (e.reg 0x00) 0 ∧ 1 ≤ m ∧ m ≤ 126 ∧ 0 < a ∧ 0 < b ∧ 0 < c then (m : Rat) + gaussAt a b c
  else centroid l (m - hw) (min 127 (m + hw))

/-- The net coarse count q_i (R179). -/
def qAt (e : DetEnv) (h : Hist) (i : Int) : Rat :=
  if i < 0 ∨ 2047 < i then 0 else max 0 (hcAt e h i - bgAt e h i)

/-- The fractional bin î of a candidate without a window (R179). -/
def coarseIndex (e : DetEnv) (h : Hist) (b : Nat) : Rat :=
  let l := [qAt e h ((b : Int) - 1), qAt e h b, qAt e h (b + 1)]
  let a := l.getD 0 0
  let m := l.getD 1 0
  let c := l.getD 2 0
  if ¬ tb (e.reg 0x00) 4 ∧ 0 < a ∧ 0 < m ∧ 0 < c then (b : Rat) + gaussAt a m c
  else if a + m + c = 0 then b
  else (b : Rat) - 1 + centroid l 0 2

/-- C_SUM and C_N of a candidate (R172). -/
def coinc (h : Hist) (z : Nat) (c : Cand) : Nat × Nat :=
  match c.window with
  | some _ => mget (0, 0) h.cWins z
  | none =>
    ([-1, 0, 1] : List Int).foldl (fun s d =>
      let i := (c.bin : Int) + d
      let x := if i < 0 then (0, 0) else mget (0, 0) h.cBins i.toNat
      (s.1 + x.1, s.2 + x.2)) (0, 0)

/-- The walk correction WALK[k][round(C_SUM / C_N)] (R180). -/
def walkOf (e : DetEnv) (cs cn : Nat) : Int :=
  let i := if cn = 0 then e.k else (roundNear 802 ((cs : Rat) / cn)).toNat
  sx 16 (e.tab 0 (64 * (e.k - 1) + min 63 i))

/-- The range code of a time in 1/64 fine step (R164, R180). -/
def rangeCode (t64 : Int) : Nat :=
  (clampI 0 16777215 (roundNear 803 ((t64 : Rat) * 93685143 / 640000000))).toNat

/-- Signal photons per shot λ (R182). -/
def photonRate (e : DetEnv) (p : Rat) (cs cn : Nat) : Rat :=
  if p ≤ 95 / 100 then lambdaTable e.k p
  else
    let w : Rat := (e.w + 1 : Nat)
    let cNet : Rat := (cs : Rat) / cn - e.nLive * e.rEff * w / 1000
    let left : Rat := 1 - cNet / ((e.nLive + 1 : Nat) : Rat)
    max (lambdaTable e.k (95 / 100)) (if cn = 0 ∨ left ≤ 0 then Config.lambdaOpen e.nLive cNet else -(e.nLive : Rat) * lnRat left)

/-- The overlap factor O(r) (R183). -/
def overlap (e : DetEnv) (range : Nat) : Rat :=
  let near := bits (e.tab 2 0) 0 24
  if near ≤ range then 1
  else
    let x : Rat := (range * 31 : Nat) / (near : Rat)
    let i := x.floor.toNat
    let f := x - i
    let o := fun j => ((bits (e.tab 2 (1 + min 31 j)) 0 16 : Nat) : Rat) / 32768
    o i * (1 - f) + o (i + 1) * f

/-- REFL and REFL_SAT of a SOLID or SOFT return (R183). -/
def reflOf (e : DetEnv) (h : Hist) (range intensity : Nat) : Nat :=
  let r : Rat := (range : Rat) / 4000
  let kref : Rat := (e.tab 1 (8 * h.bank + e.shape) : Rat) / 16777216
  let d : Rat := h.dqSum * kref * overlap e range * e.nLive
  if d = 0 then Config.reflOpen intensity % 256
  else (clampI 0 255 (roundNear 804 (2 * (intensity * r * r * shapeN e.shape / d)))).toNat

/-- The class of a passing return (R184). -/
def classOf (e : DetEnv) (h : Hist) (b range : Nat) (net : Rat) (win : Option (List Rat)) : Nat :=
  let soft := e.reg 0x10
  let ratio : Rat := (bits (e.reg 0x14) 0 8 : Rat) / 256
  let tail := ((List.range 5).foldl (fun s i => s + qAt e h ((b + 2 + i : Nat) : Int)) 0 : Rat)
  if range < bits (e.reg 0x18) 0 24 then 2
  else match win with
    | some l =>
      let f := l.foldl (· + ·) 0
      let j := fracIndex e l
      let var := ((List.range 128).foldl (fun s (i : Nat) => s + ((i : Rat) - j) * ((i : Rat) - j) * l.getD i 0) 0) / f
      let ref : Rat := (bits (e.tab 1 (32 + h.bank)) 0 16 : Rat) / 256
      let wk : Rat := (bits soft 16 8 : Rat) / 64
      let tk : Rat := (bits soft 8 8 : Rat) / 64
      if ratio ≠ 0 ∧ (f < ratio * net ∨ net / ratio < f) then 3
      else if wk * ref * (wk * ref) < 4 * var ∨ tk * net < tail then 1
      else 0
    | none =>
      let fk : Rat := (bits soft 0 8 : Rat) / 64
      if fk * qAt e h b ≤ min (qAt e h ((b : Int) - 1)) (qAt e h (b + 1)) then 1 else 0

/-- A passing candidate measured and classified (Table 8.1), or none when it fails R177. -/
def judge (e : DetEnv) (h : Hist) (z : Nat) (c : Cand) : Option Return :=
  let b := c.bin
  if ¬ passes e h b then none
  else
    let net := s3 e h b - b3 e h b
    let (cs, cn) := coinc h z c
    let win := match c.window with
      | some w => let l := windowNet e h z w c.nZoom b; if l.all (fun x => decide (x = 0)) then none else some (w, l)
      | none => none
    let t : Rat := match win with
      | some (w, l) => (w : Rat) + 2 * fracIndex e l + 1
      | none => 80 * coarseIndex e h b + 40
    let t64 : Int := roundNear 805 (64 * t) - e.sFrac - walkOf e cs cn
    let range := rangeCode t64
    let p := net / h.nRx
    let lam := photonRate e p cs cn
    let inten := (clampI 0 0xFFFF (roundNear 806 (lam * h.nRx))).toNat
    let intSat := inten = 0xFFFF ∨ (cn ≠ 0 ∧ (e.nLive : Rat) - 1 ≤ (cs : Rat) / cn)
    let cls := classOf e h b range net (win.map (·.2))
    let refl := if cls ≤ 1 then reflOf e h range inten else 0
    let sat := ([-1, 0, 1] : List Int).any (fun d => decide (h.bin ((b : Int) + d) = 0xFFFF)) ||
      (c.window.isSome && (List.range 128).any (fun j => decide (h.fineBin z j = 0xFFFF)))
    let pile := decide ((bits (e.reg 0x1C) 8 8 : Rat) / 16 < gainAt e h b) || decide (h.nRx < 16 * h.refPool)
    let coarse := win.isNone
    let z2 := isqrt (256 * net * net / max 1 (s3 e h b)).floor.toNat
    let c0 := min 255 z2
    let halve := fun (x : Nat) (f : Bool) => if f then x / 2 else x
    let conf := if cls = 3 then 0 else halve (halve (halve c0 pile) coarse) sat
    some {
      range := range, intensity := inten, refl := refl, conf := conf, cls := cls, net := net
      flags := 64 * b2n (decide (cls ≤ 1 ∧ refl = 255)) + 32 * b2n (decide intSat) +
        16 * b2n (decide (b = 0 ∨ b = 2047)) + 8 * b2n sat + 4 * b2n c.late + 2 * b2n coarse + b2n pile }

/-- The passing returns of a histogram; none when it has no fired shot or its results were discarded (R182). -/
def passing (e : DetEnv) (h : Hist) : List Return :=
  if h.nRx = 0 ∨ h.parity then [] else (candsOf h).filterMap (fun c => judge e h c.1 c.2)

/-- Insertion of a return by a strict order. -/
def insertRet (lt : Return → Return → Bool) (x : Return) : List Return → List Return
  | [] => [x]
  | y :: r => if lt y x then y :: insertRet lt x r else x :: y :: r
def sortRet (lt : Return → Return → Bool) (l : List Return) : List Return := l.foldr (insertRet lt) []

/-- Nearest first; and strongest first, the nearer on a tie (R185). -/
def nearer (a b : Return) : Bool := decide (a.range < b.range)
def stronger (a b : Return) : Bool :=
  decide (b.intensity < a.intensity ∨ (a.intensity = b.intensity ∧ a.range < b.range))

/-- The classes DET_CTL.DROP keeps from OUT (Table 8.6). -/
def dropped (ctl : Nat) (r : Return) : Bool :=
  (r.cls = 2 && tb ctl 16) || (r.cls = 3 && tb ctl 17) || (r.cls = 1 && tb ctl 18)

/-- The returns DET reports, nearest first (R185). SELECT 3 is reserved: which method acts is free (log entry 9). -/
def selectReturns (ctl n : Nat) (l : List Return) : List Return :=
  let l := l.filter (fun r => !dropped ctl r)
  match (if bits ctl 8 2 = 3 then Config.reservedMode 851 % 3 else bits ctl 8 2) with
  | 0 => (sortRet nearer l).take n
  | 2 =>
    match (sortRet nearer l).reverse with
    | far :: rest => sortRet nearer (far :: (sortRet stronger rest).take (n - 1))
    | [] => []
  | _ => sortRet nearer ((sortRet stronger l).take n)

end Sys2Proof.Machine
end

