-- ==== Sys2Proof/Machine/Glaze.lean ====
section
/-! DEFINITION. Glaze (chapter 16): frames and lines of a camera port, the pipeline, statistics, colour maps, CCI writes, the
lookup of a point's colour. -/

namespace Sys2Proof.Machine

/-- A port, its replacement, and its registers (Table 16.6). -/
def Hw.port (hw : Hw) (p : Nat) : GlzPort := mget {} hw.glz p
def Hw.setPort (hw : Hw) (p : Nat) (x : GlzPort) : Hw := { hw with glz := mset {} hw.glz p x }
def glzReg (p off : Nat) : Nat := 0x00700000 + 0x1000 * p + off
def Hw.glzP (hw : Hw) (p off : Nat) : Nat := hw.reg (glzReg p off)

/-- The bits per pixel of a format, and the frame period in ticks (R341, R343). -/
def bppOf (f : Nat) : Nat := 8 + 2 * f
def GlzPort.period (x : GlzPort) : Nat := 800000000000 / max 1 x.rate

/-! ### The pipeline (R345, R346) -/

/-- What the stages read: the port's registers and the received lines. -/
structure Pipe where
  width  : Nat
  height : Nat
  shift  : Nat
  black  : List Nat
  dpc    : Nat
  cfa    : Nat
  wb     : List Nat
  ccm    : List Int
  gain   : Nat
  fmt    : Nat
  box    : Nat
  mapW   : Nat
  mapH   : Nat
  lines  : List (List Nat)
  mesh   : List Nat
  deriving DecidableEq, Repr

/-- Saturation of 14-bit values. -/
def sat14 (x : Int) : Int := clampI 0 16383 x

/-- Stage 1 at (x, y): aligned to 14 bits, black level subtracted. -/
def Pipe.stage1 (q : Pipe) (x y : Nat) : Int :=
  sat14 (((q.lines.getD y []).getD x 0 * 2 ^ q.shift : Nat) - (q.black.getD (2 * (y % 2) + x % 2) 0 : Int))

/-- Whether (x, y) lies in the received image. -/
def Pipe.inside (q : Pipe) (x y : Int) : Bool :=
  decide (0 ≤ x ∧ x < q.width ∧ 0 ≤ y ∧ y < q.lines.length)

/-- The colour of a filter position: 0 R, 1 G, 2 B (Table 16.7); MONO is 3. -/
def Pipe.colourAt (q : Pipe) (x y : Nat) : Nat :=
  let at' := 2 * (y % 2) + x % 2
  match q.cfa with
  | 0 => [0, 1, 1, 2].getD at' 1
  | 1 => [1, 0, 2, 1].getD at' 1
  | 2 => [1, 2, 0, 1].getD at' 1
  | 3 => [2, 1, 1, 0].getD at' 1
  | _ => 3

/-- Insertion into an ascending list. -/
def insertInt (x : Int) : List Int → List Int
  | [] => [x]
  | y :: r => if x ≤ y then x :: y :: r else y :: insertInt x r

/-- The median of the 4 nearest neighbours of the same colour: the mean of the middle two. -/
def Pipe.median (q : Pipe) (x y : Nat) : Int :=
  let offs : List (Int × Int) := match q.colourAt x y with
    | 1 => [(-1, -1), (1, -1), (-1, 1), (1, 1)]
    | 3 => [(-1, 0), (1, 0), (0, -1), (0, 1)]
    | _ => [(-2, 0), (2, 0), (0, -2), (0, 2)]
  let ns := ((offs.map (fun o => ((x : Int) + o.1, (y : Int) + o.2))).filter (fun p => q.inside p.1 p.2)).map
    (fun p => q.stage1 p.1.toNat p.2.toNat)
  if ns.length = 4 then
    let l := ns.foldr insertInt []
    roundOpen 1601 (((l.getD 1 0 + l.getD 2 0 : Int) : Rat) / 2)
  else Config.borderMedian ns

/-- Stage 2 at (x, y): a pixel that differs from the median by more than DPC_THR is replaced by it. -/
def Pipe.stage2 (q : Pipe) (x y : Nat) : Int :=
  let v := q.stage1 x y
  if q.dpc = 0 then v
  else
    let m := q.median x y
    if (q.dpc : Int) < (v - m).natAbs then sat14 m else v

/-- Stage 3 at (x, y): R, G and B; MONO passes the value as luma. -/
def Pipe.stage3 (q : Pipe) (x y : Nat) : Int × Int × Int :=
  let v := q.stage2 x y
  let own := q.colourAt x y
  if own = 3 then (v, v, v)
  else
    let win := ([-2, -1, 0, 1, 2] : List Int).flatMap (fun dy => ([-2, -1, 0, 1, 2] : List Int).map (fun dx =>
      if q.inside (x + dx) (y + dy) then q.stage2 (x + dx).toNat (y + dy).toNat else -1))
    let c := fun k => if k = own then v else sat14 (Config.demosaic k (4 * q.cfa + 2 * (y % 2) + x % 2) win)
    (c 0, c 1, c 2)

/-- Stages 4 and 5 at (x, y): white balance and colour matrix, in Q4.12. -/
def Pipe.stage5 (q : Pipe) (x y : Nat) : Int × Int × Int :=
  let (r, g, b) := q.stage3 x y
  let w := fun (v : Int) (i : Nat) => sat14 (roundOpen 1602 ((v * (q.wb.getD i 0 : Int) : Int) / 4096 : Rat))
  let (r, g, b) := (w r 0, w g 1, w b 2)
  let m := fun (i : Nat) => sat14 (roundOpen 1603
    ((q.ccm.getD (3 * i) 0 * r + q.ccm.getD (3 * i + 1) 0 * g + q.ccm.getD (3 * i + 2) 0 * b : Int) / 4096 : Rat))
  (m 0, m 1, m 2)

/-- The source position of texel (i, j), in pixels: bilinear between the mesh's nodes (R345). -/
def Pipe.source (q : Pipe) (i j : Nat) : Rat × Rat :=
  let u : Rat := if q.mapW ≤ 1 then 0 else (31 * i : Nat) / ((q.mapW - 1 : Nat) : Rat)
  let v : Rat := if q.mapH ≤ 1 then 0 else (23 * j : Nat) / ((q.mapH - 1 : Nat) : Rat)
  let a := min 30 u.floor.toNat
  let b := min 22 v.floor.toNat
  let fu := u - a
  let fv := v - b
  let node := fun (n m : Nat) => let w := q.mesh.getD (32 * m + n) 0
    (((bits w 0 16 : Nat) : Rat) / 16, ((bits w 16 16 : Nat) : Rat) / 16)
  let mix := fun (s : Rat × Rat → Rat) =>
    (s (node a b) * (1 - fu) + s (node (a + 1) b) * fu) * (1 - fv) + (s (node a (b + 1)) * (1 - fu) + s (node (a + 1) (b + 1)) * fu) * fv
  (mix (·.1), mix (·.2))

/-- The texel format (R346). -/
def Pipe.texel (q : Pipe) (r g b : Int) : Nat :=
  if q.fmt = 1 then (((r + 2 * g + b) / 4).toNat * 4) % 65536
  else
    let c := fun (v : Int) => min 255 (v.toNat / 2 ^ (6 - min 6 q.gain))
    c r / 8 * 2048 + c g / 4 * 32 + c b / 8

/-- Stages 6 and 7: the texel (i, j), black where its source lies outside the image. -/
def Pipe.texelAt (q : Pipe) (i j : Nat) : Nat :=
  let (x, y) := q.source i j
  if (q.width : Rat) ≤ x ∨ (q.height : Rat) ≤ y ∨ x < 0 ∨ y < 0 then 0
  else
    let half : Rat := ((q.box : Rat) - 1) / 2
    let x0 := roundOpen 1604 (x - half)
    let y0 := roundOpen 1605 (y - half)
    let ps := (List.range q.box).flatMap (fun dy => (List.range q.box).filterMap (fun dx =>
      let a := x0 + dx
      let b := y0 + dy
      if q.inside a b then some (q.stage5 a.toNat b.toNat) else none))
    if ps.isEmpty then 0
    else
      let mean := fun (s : Int × Int × Int → Int) => roundOpen 1606 (((ps.foldl (fun t p => t + s p) 0 : Int) : Rat) / ps.length)
      q.texel (mean (·.1)) (mean (·.2.1)) (mean (·.2.2))

/-- The pipeline of a port as its registers stand. -/
def Hw.pipe (hw : Hw) (p : Nat) : Pipe :=
  let x := hw.port p
  let ctl := hw.glzP p 0x100C
  let b0 := hw.reg (glzReg p 0x1014)
  let b1 := hw.reg (glzReg p 0x1018)
  let w0 := hw.reg (glzReg p 0x1020)
  { width := x.width, height := x.height, shift := 14 - bppOf x.format
    black := [bits b0 0 16, bits b0 16 16, bits b1 0 16, bits b1 16 16]
    dpc := bits (hw.reg (glzReg p 0x101C)) 0 14, cfa := bits ctl 8 3
    wb := [bits w0 0 16, bits w0 16 16, bits (hw.reg (glzReg p 0x1024)) 0 16]
    ccm := (List.range 9).map (fun i => sx 16 (bits (hw.reg (glzReg p (0x1028 + 4 * (i / 2)))) (16 * (i % 2)) 16))
    gain := bits ctl 20 3, fmt := bits ctl 4 1, box := 2 ^ bits ctl 12 2
    mapW := bits (hw.reg (glzReg p 0x1010)) 0 11, mapH := bits (hw.reg (glzReg p 0x1010)) 16 11
    lines := x.lines.map (·.2), mesh := x.mesh }

/-- The colour map of the frame received (R350). -/
def Hw.buildMap (hw : Hw) (p : Nat) : ColourMap :=
  let x := hw.port p
  let q := hw.pipe p
  let rows := (List.range q.mapH).map (fun j =>
    let y := (roundOpen 1607 (q.source (q.mapW / 2) j).2).toNat
    let stamp := (x.lines.getD (min y (x.lines.length - 1)) (0, [])).1
    (((stamp.toNat : Int) - 800 * x.expOfs, (List.range q.mapW).map (fun i => q.texelAt i j)) : Int × List Nat))
  { w := q.mapW, h := q.mapH, frame := x.frame, rows := rows }

/-- The statistics of the lines received (R347). -/
def Hw.buildStats (hw : Hw) (p : Nat) : CamStats :=
  let x := hw.port p
  let q := hw.pipe p
  let px := (List.range q.lines.length).flatMap (fun y => (List.range q.width).map (fun i => (i, y, q.stage3 i y)))
  let luma := fun (c : Int × Int × Int) => ((c.1 + 2 * c.2.1 + c.2.2) / 4).toNat
  let hist := px.foldl (fun (m : SMap Nat) e => mupd 0 m (luma e.2.2 / 64) (· + 1)) []
  let zone := px.foldl (fun (m : SMap (Nat × Nat × Nat)) e =>
    mupd (0, 0, 0) m (16 * (12 * e.2.1 / max 1 q.height) + 16 * e.1 / max 1 q.width) (fun z =>
      (z.1 + e.2.2.1.toNat, z.2.1 + e.2.2.2.1.toNat, z.2.2 + e.2.2.2.2.toNat))) []
  { frame := x.frame, settings := x.setNow
    hist := (List.range 256).map (fun i => mget 0 hist i), zones := (List.range 192).map (fun i => mget (0, 0, 0) zone i) }

/-! ### Frames (R343, R344, R350) -/

/-- A frame ends: judged by its lines, statistics published, the maps swapped or discarded. -/
def endFrame (p : Nat) (hw : Hw) : Hw :=
  let x := hw.port p
  if ¬ x.inFrame then hw
  else
    let short := decide (x.received < x.height)
    let long := decide (x.height < x.received)
    let stats := hw.buildStats p
    let front := if short then none else some (hw.buildMap p)
    let hw := hw.setPort p { x with inFrame := false, lines := [], received := 0, front := front, back := false, stats := stats
                                    lateBlank := false }
    if short ∨ long then
      let hw := hw.setReg (glzReg p 0x1068) x.frame
      let hw := hw.stick (glzReg p (if short then 0x1060 else 0x1064)) 1
      hw.event (srcGlz p) 0xE001 (le 4 x.frame ++ le 2 x.received ++ le 1 (if short then 1 else 2))
    else hw

/-- The settings and exposure offsets whose frame has come; of several settings in force the highest number counts, modulo its wrap (R348). -/
def GlzPort.takeSettings (x : GlzPort) : GlzPort :=
  let due := x.pendingSet.filter (fun e => decide (e.2.1 ≤ x.frame))
  let x := { x with pendingSet := x.pendingSet.filter (fun e => decide (x.frame < e.2.1)) }
  due.foldl (fun x e => { x with
    setNow := if (e.1 + 65536 - x.setNow) % 65536 < 32768 then e.1 else x.setNow, expOfs := e.2.2.getD x.expOfs }) x

/-- CSI_FRAME_START: an FS packet ends a frame still in progress and starts the next (R343). -/
def csiFrameStart (p : Nat) (hw : Hw) : Hw :=
  let x := hw.port p
  if 2 ≤ p ∨ ¬ x.en ∨ x.state = .offline then hw
  else
    let hw := endFrame p hw
    let x := hw.port p
    let x := { x with frame := (x.frame + 1) % 2 ^ 32, sof := hw.clk.time, sofTick := hw.ticks, quietAt := hw.ticks, inFrame := true
                      lines := [], received := 0, back := true, state := .streaming }
    let x := x.takeSettings
    hw.setPort p (if x.queue.isEmpty then { x with expOfs := x.staged.getD x.expOfs, staged := none } else x)

/-- CSI_LINE: a line of the configured length with a correct CRC is received; another is discarded and counted (R342). -/
def csiLine (p : Nat) (pixels : List Nat) (crcOk : Bool) (hw : Hw) : Hw :=
  let x := hw.port p
  if 2 ≤ p ∨ ¬ x.inFrame then hw
  else if crcOk ∧ pixels.length = x.width then
    hw.setPort p { x with
      received := x.received + 1
      lines := if x.received < x.height then x.lines ++ [(hw.clk.time, pixels.map (· % 2 ^ bppOf x.format))] else x.lines }
  else
    let r := hw.reg (glzReg p 0x106C)
    hw.setReg (glzReg p 0x106C) (putBits r 0 16 (min 0xFFFF (bits r 0 16 + 1)))

/-- CSI_FRAME_END: the FE packet. CSI_FRAME_TIMEOUT: two configured frame periods after the FS packet. -/
def csiFrameEnd (p : Nat) (hw : Hw) : Hw := if 2 ≤ p then hw else endFrame p hw
def csiFrameTimeout (p : Nat) (hw : Hw) : Hw :=
  let x := hw.port p
  if p < 2 ∧ x.inFrame ∧ x.sofTick + 2 * x.period ≤ hw.ticks then endFrame p hw else hw

/-- CAM_NO_SIGNAL: no FS packet for 4 configured frame periods (R344). -/
def camNoSignal (p : Nat) (hw : Hw) : Hw :=
  let x := hw.port p
  if p < 2 ∧ x.en ∧ (x.state = .waiting ∨ x.state = .streaming) ∧ x.quietAt + 4 * x.period ≤ hw.ticks then
    (hw.setPort p { x with state := .noSignal }).raise (fid (srcGlz p) 1 1) []
  else hw

/-- CCI_WRITE_ISSUE: the oldest queued write goes out, at once on a port that is not streaming, else in the blanking (R348). -/
def cciWriteIssue (p : Nat) (acked late : Bool) (hw : Hw) : Hw :=
  let x := hw.port p
  match x.queue with
  | w :: rest =>
    if 2 ≤ p ∨ (x.state = .streaming ∧ x.inFrame ∧ ¬ late) then hw
    else
      let x := { x with queue := rest }
      if ¬ acked then (hw.setPort p x).raise (fid (srcGlz p) 1 3) []
      else
        let late := (late || x.lateBlank) && decide (x.state = .streaming)
        let n := (x.settings + 1) % 65536
        let f := if late ∧ x.inFrame then x.frame + 1 + w.delay else x.frame + 1 + w.delay + b2n late
        let hw := hw.setPort p { x with settings := n, pendingSet := x.pendingSet ++ [(n, f, x.staged)], staged := none, lateBlank := late }
        if late then hw.event (srcGlz p) 0xE002 (le 2 n ++ le 4 f) else hw
  | [] => hw

/-- GLZ_MAP_PARITY: the buffer (0 front, 1 back) is withdrawn until the next swap (R354). -/
def glzMapParity (p buffer : Nat) (hw : Hw) : Hw :=
  if 2 ≤ p then hw
  else
    let x := hw.port p
    (hw.setPort p (if buffer = 0 then { x with front := none } else { x with back := false })).raise (fid (srcGlz p) 2 4) []

/-- Both buffers withdrawn (R350). -/
def Hw.withdrawMaps (hw : Hw) (p : Nat) : Hw := hw.setPort p { hw.port p with front := none, back := false }

/-! ### Colouring a point (R353) -/

/-- 2 to an integer power. -/
def pow2 (e : Int) : Rat := if 0 ≤ e then (2 : Rat) ^ e.toNat else 1 / (2 : Rat) ^ (-e).toNat

/-- Rounding to IEEE 754 single precision, to nearest, ties to even. -/
def f32 (x : Rat) : Rat :=
  if x = 0 then 0
  else
    let a := |x|
    let e0 : Int := (a.num.natAbs.log2 : Int) - a.den.log2
    let e := if a < pow2 e0 then e0 - 1 else e0
    let m := a * pow2 (23 - e)
    let f := m.floor
    let d := m - f
    let r := if 1 / 2 < d ∨ (d = 1 / 2 ∧ f % 2 = 1) then f + 1 else f
    (if x < 0 then -1 else 1) * r * pow2 (e - 23)

def fadd (a b : Rat) : Rat := f32 (a + b)
def fmul (a b : Rat) : Rat := f32 (a * b)

/-- The dot product of three coefficients and a vector, left to right. -/
def fdot (a b c : Rat) (v : Rat × Rat × Rat) : Rat := fadd (fadd (fmul a v.1) (fmul b v.2.1)) (fmul c v.2.2)

/-- project(q) of a port; none when q_z is below 0.1 m. -/
def GlzPort.project (x : GlzPort) (w h : Nat) (q : Rat × Rat × Rat) : Option (Rat × Rat) :=
  let k := fun i => f32 ((x.geom.getD i 0 : Rat) / 65536)
  if q.2.2 < 1 / 10 then none
  else
    let u := f32 (fdot (k 0) (k 1) (k 2) q / q.2.2)
    let v := f32 (fdot (k 3) (k 4) (k 5) q / q.2.2)
    some (fmul u (f32 ((w : Rat) / max 1 x.width)), fmul v (f32 ((h : Rat) / max 1 x.height)))

/-- The texel and frame number that port `p` has for a point, none where it does not project into the map: range code (none when NRET is 0), angle in AU, row and strip, fire
instant of the reference shot in ticks. -/
def Hw.lookup (hw : Hw) (p : Nat) (range : Option Nat) (angle : Int) (row strip : Nat) (tPoint : Int) :
    Option (Option (Nat × Nat)) :=
  let x := hw.port p
  let code := range.getD (bits (hw.reg 0x00700008) 0 24)
  match x.front with
  | none => none
  | some m =>
    if range = none ∧ code = 0 then none
    else
      let r := f32 ((code : Rat) / 4000)
      let az := roundOpen 1608 ((sx 32 (hw.reg 0x00700000) * angle : Int) / 16777216 : Rat) + sx 32 (hw.reg 0x00700004)
      let el := sx 32 (mget 0 hw.elev (4 * row + strip))
      let ce := f32 (Config.cosAu el)
      let pl := (fmul (fmul r ce) (f32 (Config.sinAu az)), fmul (-r) (f32 (Config.sinAu el)), fmul (fmul r ce) (f32 (Config.cosAu az)))
      let e := fun i => f32 ((x.geom.getD (9 + i) 0 : Rat) / 65536)
      let pc := (fadd (fdot (e 0) (e 1) (e 2) pl) (e 3), fadd (fdot (e 4) (e 5) (e 6) pl) (e 7), fadd (fdot (e 8) (e 9) (e 10) pl) (e 11))
      match x.project m.w m.h pc with
      | none => none
      | some (_, vm) =>
        match m.rows[(clampI 0 ((m.h : Int) - 1) vm.floor).toNat]? with
        | none => none
        | some (tRow, _) =>
          let dt := f32 (((tRow - tPoint : Int) : Rat) / 800000000)
          let vel := fun i => f32 ((sx 32 (hw.reg (glzReg p (0x1044 + 4 * i))) : Rat) / 1000)
          let pc := (fadd pc.1 (-(fmul (vel 0) dt)), fadd pc.2.1 (-(fmul (vel 1) dt)), fadd pc.2.2 (-(fmul (vel 2) dt)))
          match x.project m.w m.h pc with
          | none => none
          | some (um, vm) =>
            if um < 0 ∨ (m.w : Rat) ≤ um ∨ vm < 0 ∨ (m.h : Rat) ≤ vm then none
            else if 800 * bits (hw.reg (glzReg p 0x1040)) 0 24 < (tRow - tPoint).natAbs then some none
            else
              match m.rows[vm.floor.toNat]? with
              | some (_, row) => some (some (row.getD um.floor.toNat 0, m.frame))
              | none => some none

/-- The colour block of a point (R223, Table 10.6), the lookup counted by the port that answers it. -/
def Hw.colourOf (hw : Hw) (src : Nat) (range : Option Nat) (angle : Int) (row strip : Nat) (t : Int) : Hw × List Byte :=
  let ask := fun p => hw.lookup p range angle row strip t
  let (p, a) := match src with
    | 1 => (0, (ask 0).join)
    | 2 => (1, (ask 1).join)
    | _ => match ask 0 with
      | some x => (0, x)
      | none => (1, (ask 1).join)
  match a with
  | some (tex, f) => (hw.wrap (glzReg p 0x1070) 1, le 4 (tex + p * 2 ^ 16 + 2 ^ 17 + f % 256 * 2 ^ 24))
  | none => (hw.wrap (glzReg p 0x1074) 1, le 4 (p * 2 ^ 16))

end Sys2Proof.Machine
end

