-- ==== Sys2Proof/Machine/Out.lean ====
section
/-! DEFINITION. DET's engines and OUT (chapters 08 and 10): a judged histogram becomes a point record and, for an exported
channel, an image; packets, frame packets, the export list, the DET parameters and tables at a frame boundary. -/

namespace Sys2Proof.Machine

/-! ### The header of a histogram (R169) -/

/-- A u16 count of the header: it sticks at 0xFFFF. -/
def u16s (x : Nat) : List Byte := le 2 (min 0xFFFF x)

/-- The FLAGS of Table 7.4. -/
def headerFlags (h : Hist) : Nat :=
  let full := [h.missLnt, h.missSkip, h.missStall, h.refSpacing, h.refPool, h.refBudget, h.outside].any (fun x => decide (0xFFFF < x)) ||
    (candsOf h).any (fun c => decide (0xFFFF < c.2.score ∨ 0xFFFF < c.2.nZoom))
  b2n h.binSat + 2 * b2n h.zoomSat + 4 * b2n h.truncated + 8 * b2n h.stalled + 16 * b2n (decide (h.missLnt ≠ 0)) +
    32 * b2n (decide (h.missSkip ≠ 0)) + 64 * b2n (decide (1 < h.stack)) + 128 * b2n full + 256 * b2n h.clipped +
    512 * b2n h.parity + 1024 * (h.stack - 1)

/-- One CAND of the header. -/
def candBytes : Option Cand → List Byte
  | some c => le 2 (32768 + 16384 * b2n c.window.isSome + 8192 * b2n c.late + c.bin) ++ u16s c.score ++ u16s c.nZoom
  | none => List.replicate 6 0

/-- The 64 bytes of Table 7.4. -/
def headerBytes (h : Hist) : List Byte :=
  le 8 h.closeTime.toNat ++ le 4 h.frame ++ le 1 h.epoch ++ le 1 h.bank ++ le 2 (headerFlags h) ++ le 4 h.nAcc ++ le 4 h.nRx ++
    u16s h.missLnt ++ u16s h.missSkip ++ u16s h.missStall ++ le 2 h.zoomAt ++ u16s h.refSpacing ++ u16s h.refPool ++
    u16s h.refBudget ++ u16s h.outside ++ (List.range 4).flatMap (fun i => candBytes (h.cands.getD i none))

/-- The coarse bins and the zoom windows as bytes (Table 7.3). -/
def coarseBytes (h : Hist) : List Byte := (List.range 2048).flatMap (fun i => le 2 (mget 0 h.coarse i))
def zoomBytes (h : Hist) : List Byte := (List.range 512).flatMap (fun i => le 2 (mget 0 h.fine i))

/-- The view of a channel in the histogram window (Table 7.3). -/
def viewBytes (h : Hist) : List Byte := coarseBytes h ++ zoomBytes h ++ headerBytes h ++ List.replicate 3008 0

/-! ### Frames -/

/-- Whether a histogram of frame `f` (of bank `b`, or of any bank) has still to be judged. -/
def Hw.unjudged (hw : Hw) (f : Nat) (b : Option Nat) : Bool :=
  hw.tiles.any (fun t => t.2.chans.any (fun c => c.2.bufs.any (fun e =>
    let h := e.2
    decide (h.state ≠ .idle ∧ h.frame = f) && (match b with | some x => decide (h.bank = x) | none => true))))

/-- The record of a frame changed. -/
def Hw.updFrame (hw : Hw) (f : Nat) (g : FrameRec → FrameRec) : Hw :=
  { hw with out := { hw.out with frames := hw.out.frames.map (fun r => if r.frame = f then g r else r) } }
def Hw.frameRec (hw : Hw) (f : Nat) : Option FrameRec := hw.out.frames.find? (fun r => decide (r.frame = f))

/-! ### Point packets (R217, R231, R232) -/

def Hw.sub (hw : Hw) (b : Nat) : OutSub := mget {} hw.out.subs b
def Hw.setSub (hw : Hw) (b : Nat) (s : OutSub) : Hw := { hw with out := { hw.out with subs := mset {} hw.out.subs b s } }

/-- Bytes a substream's queue holds, its open packet included. -/
def OutSub.fill (s : OutSub) : Nat :=
  s.packets.foldl (fun n p => n + 32 + p.payload.length) 0 + (if s.openCount = 0 then 0 else 32 + s.openBytes.length)

/-- The lane that carries a substream of this device: a secondary's are all on its lane 4 (R278). -/
def Hw.subLane (hw : Hw) (b : Nat) : Nat := if hw.isSecondary then 4 else mget 0 hw.out.routes b

/-- Bytes the point queue of substream `b` holds: in a cascade the queue of its lane, forwarded packets included (R278). -/
def Hw.laneFill (hw : Hw) (l : Nat) : Nat :=
  ((List.range 4).filter (fun b => decide (hw.subLane b = l))).foldl (fun n b => n + (hw.sub b).fill) 0 +
    (mget [] hw.out.fwd l).foldl (fun n e => n + e.2.bytes.length) 0
def Hw.queueFill (hw : Hw) (b : Nat) : Nat :=
  if hw.cas.found ∧ ¬ hw.isSecondary then hw.laneFill (hw.subLane b) else (hw.sub b).fill

/-- The open packet of substream `b` closed (R217). -/
def Hw.closePacket (hw : Hw) (b : Nat) (last : Bool) : Hw :=
  let s := hw.sub b
  if s.openCount = 0 then hw
  else
    let p : StreamPkt := { kind := 1, frame := s.openFrame, seq := s.seq, dev := hw.cas.index, sub := b, count := s.openCount
                           time := hw.clk.time, last := last, payload := s.openBytes }
    let hw := hw.setSub b { s with packets := s.packets ++ [p], seq := (s.seq + 1) % 2 ^ 32, openCount := 0, openBytes := [] }
    hw.updFrame s.openFrame (fun r => { r with pkts := r.pkts.set b ((r.pkts.getD b 0 + 1) % 65536) })

/-- Whether no shot of bank `b` is still to come in frame `f`: the frame has ended, or its grid has no target left for the bank, nothing
of it is in flight, and every tile has taken the descriptors of its shots (R140, R198). -/
def Hw.shotsDone (hw : Hw) (f b : Nat) : Bool :=
  match hw.frameRec f with
  | none => true
  | some r =>
    r.ended || (decide (f = hw.tnd.frame ∧ hw.bcn.source = 0) && (hw.gridTarget b).isNone && (hw.bank b).inFlight.isEmpty &&
      (List.range 48).all (fun n => (hw.descs.drop (hw.tile n).taken).all (fun d => d.shots.all (fun s => decide (s.bank ≠ b)))))

/-- Every open packet whose frame's points are all formatted on its substream is closed with LAST (R217). -/
def Hw.closePoints (hw : Hw) : Hw :=
  (List.range 4).foldl (fun hw b =>
    let s := hw.sub b
    if s.openCount ≠ 0 ∧ hw.shotsDone s.openFrame b ∧ ¬ hw.unjudged s.openFrame (some b) then hw.closePacket b true else hw) hw

/-- LAST set on the last packet of frame `f` in an export queue. -/
def markLast (f : Nat) : List (Nat × StreamPkt) → List (Nat × StreamPkt)
  | [] => []
  | e :: r =>
    if e.2.frame = f ∧ ¬ r.any (fun x => decide (x.2.frame = f)) then (e.1, { e.2 with last := true }) :: r else e :: markLast f r

/-- The last packet of a frame on SUB 4 carries LAST once no histogram of the frame is left to judge (R216). Where that packet had already
left, none carries it (log entry 166). -/
def Hw.closeExports (hw : Hw) : Hw :=
  hw.out.frames.foldl (fun (hw : Hw) r =>
    if r.ended ∧ ¬ hw.unjudged r.frame none then { hw with out := { hw.out with expQ := markLast r.frame hw.out.expQ } } else hw) hw

/-- What the end of a frame on its substreams closes. -/
def Hw.closeLast (hw : Hw) : Hw := hw.closePoints.closeExports

/-- The export skip of an overloaded substream: from more than half full until below a quarter (R232). -/
def Hw.markOverload (hw : Hw) (b : Nat) : Hw :=
  let s := hw.sub b
  let f := hw.queueFill b
  hw.setSub b { s with skipping := if 131072 < f then true else if f < 65536 then false else s.skipping }

/-- The fill of every substream of a lane looked at, when its queue has grown or drained. -/
def Hw.markLane (hw : Hw) (l : Nat) : Hw :=
  ((List.range 4).filter (fun b => decide (hw.subLane b = l))).foldl (fun h b => h.markOverload b) hw

/-- A record queued on substream `b` (R217, R232). -/
def Hw.pushRecord (hw : Hw) (b frame : Nat) (rec : List Byte) : Hw :=
  let s := hw.sub b
  let hw := if s.openCount ≠ 0 ∧ (s.openFrame ≠ frame ∨ hw.payloadMax < s.openBytes.length + rec.length) then
      hw.closePacket b (decide (s.openFrame ≠ frame)) else hw
  let s := hw.sub b
  let need := rec.length + (if s.openCount = 0 then 32 else 0)
  if 262144 < hw.queueFill b + need then
    let first := match hw.frameRec frame with | some r => !r.overflow | none => true
    let hw := hw.stick 0x0060000C 1
    let hw := hw.updFrame frame (fun r => { r with dropped := r.dropped + 1, overflow := true, flags := r.flags ||| 2 })
    if first then hw.raise (fid srcOut 1 1) [] else hw
  else
    let hw := hw.setSub b { s with
      openFrame := frame, openCount := s.openCount + 1, openBytes := s.openBytes ++ rec
      openAt := if s.openCount = 0 then hw.ticks else s.openAt }
    let hw := hw.wrap 0x00600008 1
    let hw := hw.updFrame frame (fun r => { r with sent := r.sent + 1, lanes := r.lanes ||| 2 ^ hw.subLane b })
    hw.markOverload b

/-- OUT_CTL.FLUSH in ticks (R217). -/
def Hw.flushTicks (hw : Hw) : Nat := 800 * min 1000 (max 10 (bits (hw.reg 0x00600000) 16 10))

/-- POINT_PACKET_FLUSH: FLUSH µs after its first record an open packet closes. -/
def pointPacketFlush (b : Nat) (hw : Hw) : Hw :=
  let s := hw.sub b
  if b < 4 ∧ s.openCount ≠ 0 ∧ s.openAt + hw.flushTicks ≤ hw.ticks then hw.closePacket b false else hw

/-! ### Export (R226 to R228) -/

/-- An image, its segments' payload size D and count. -/
def Hw.imageSize (hw : Hw) : Nat := if tb (hw.reg 0x00600000) 8 then 5184 else 4160
def Hw.segMax (hw : Hw) : Nat := if hw.isEth then 1424 else 4080
def Hw.segments (hw : Hw) : Nat := ceilDiv hw.imageSize hw.segMax

/-- A histogram skipped by export (R227). -/
def Hw.skipExport (hw : Hw) (frame : Nat) : Hw :=
  let first := match hw.frameRec frame with | some r => !r.skips | none => true
  let hw := (hw.stick 0x00600018 1).updFrame frame (fun r => { r with skips := true, flags := r.flags ||| 4 })
  if first then hw.raise (fid srcOut 0 2) [] else hw

/-- Bytes the export queue holds. -/
def Hw.expFill (hw : Hw) : Nat := hw.out.expQ.foldl (fun n e => n + 32 + e.2.payload.length) 0

/-- The segments of an image (Table 10.8). -/
def Hw.segmentsOf (hw : Hw) (k : Nat) (h : Hist) : List StreamPkt :=
  let full := tb (hw.reg 0x00600000) 8
  let img := headerBytes h ++ coarseBytes h ++ (if full then zoomBytes h else [])
  (List.range hw.segments).map (fun i =>
    { kind := 3, frame := h.frame, seq := (hw.out.expSeq + i) % 2 ^ 32, dev := hw.cas.index, sub := 4, count := 1, time := hw.clk.time
      payload := le 2 k ++ le 1 i ++ le 1 hw.segments ++ le 1 (b2n full) ++ [0] ++ le 2 (i * hw.segMax) ++
        le 4 (mget 0 hw.out.hseq k) ++ le 4 0 ++ (img.drop (i * hw.segMax)).take hw.segMax })

/-- The image of an exported channel's histogram is copied whole or skipped (R226, R227, R232). -/
def Hw.exportHist (hw : Hw) (k : Nat) (h : Hist) : Hw :=
  if ¬ hw.out.list.any (fun e => decide (e.1 = 768 * hw.cas.index + k) && e.2) then hw
  else match mget 0 hw.out.expLane (768 * hw.cas.index + k) with
    | 0 => hw.skipExport h.frame
    | l + 1 =>
      let overload := (List.range 4).any (fun b => decide (hw.subLane b = l) && (hw.sub b).skipping)
      let need := hw.imageSize + hw.segments * 48
      if hw.out.expPaused ∨ overload ∨ 917504 < hw.expFill + need then hw.skipExport h.frame
      else
        let segs := hw.segmentsOf k h
        let hw := hw.wrap 0x00600014 1
        { hw with out := { hw.out with
            expQ := hw.out.expQ ++ segs.map (fun s => (l, s)), expSeq := (hw.out.expSeq + hw.segments) % 2 ^ 32
            hseq := mset 0 hw.out.hseq k ((mget 0 hw.out.hseq k + 1) % 2 ^ 32) } }

/-- The load of one channel's export in bits per second under a placement (R228); of a channel of another device, whose tracks
this one does not hold, a free value (log entry 37). -/
def Hw.expLoad (hw : Hw) (p : Placement) (k : Nat) : Rat :=
  if k / 768 ≠ hw.cas.index then max 0 (Config.openRate (1200 + k))
  else match p.tracks.find? (fun e => decide (e.1 = k % 768)) with
  | some (_, t) =>
    ((rowPoints p.plan t.row / max 1 (rowVsub p.plan t.row) * planRate p.plan : Nat) : Rat) / 1000 * 8 *
      ((hw.imageSize + hw.segments * 48 : Nat) : Rat)
  | none => 0

/-- The export lanes of a placement and the spare capacity: the budget of each less its planned point load (R228 to R230). Under the key
of a secondary stands what its cascade lane has left beside the points it forwards. -/
def Hw.exportLanes (p : Placement) : List Nat := setBits 4 (planExportLanes p.plan)
def Hw.laneRate (hw : Hw) (l : Nat) : Nat := if hw.isEth ∧ l < 4 then bits hw.lnk.cfg 8 3 else (hw.lane l).rate
def Hw.spareExport (hw : Hw) (p : Placement) (i : Nat) : Rat :=
  if i = 0 then
    (Hw.exportLanes p).foldl (fun s l => s + max 0 ((budgetOf (hw.laneRate l) : Rat) - hw.routedLoad p p.routes l)) 0
  else (budgetOf (hw.lane (3 + i)).rate : Rat) - hw.forwardedLoad p i

/-- Channels taken from the start of a list while their load fits what is left in all and, for a secondary's, on its cascade lane; where one
does not fit, `stop` ends the list or passes it over (R228). -/
def fitExports (load : Nat → Rat) (stop : Bool) : List Nat → (Nat → Rat) → List (Nat × Bool)
  | [], _ => []
  | k :: r, left =>
    let i := k / 768
    if load k ≤ left 0 ∧ load k ≤ left i then
      (k, true) :: fitExports load stop r (fun j => if j = 0 ∨ j = i then left j - load k else left j)
    else if stop then (k, false) :: r.map (fun x => (x, false))
    else (k, false) :: fitExports load stop r left

/-- The lane of each channel that fits: the export lane with the least export load, the lower on a tie. -/
def Hw.assignExports (hw : Hw) (p : Placement) (ks : List Nat) : SMap Nat :=
  let start : List (Nat × Rat) × SMap Nat := ((Hw.exportLanes p).map (fun l => (l, 0)), [])
  (ks.foldl (fun (ls, m) k =>
    let best := ls.foldl (fun (b : Option (Nat × Rat)) e =>
      match b with
      | none => some e
      | some x => if e.2 < x.2 then some e else some x) none
    match best with
    | some (l, _) => (ls.map (fun e => if e.1 = l then (e.1, e.2 + hw.expLoad p k) else e), mset 0 m k (l + 1))
    | none => (ls, m)) start).2

/-- The accepted list evaluated again under the placement that comes into force (R228); a secondary exports what its primary has
accepted. -/
def Hw.reviewExports (hw : Hw) (p : Placement) : Hw :=
  if hw.isSecondary then hw
  else
  let accepted := (hw.out.list.filter (·.2)).map (·.1)
  let fit := fitExports (hw.expLoad p) false accepted (hw.spareExport p)
  { hw with out := { hw.out with expLane := hw.assignExports p ((fit.filter (·.2)).map (·.1)) } }

/-- EXPORT_SELECT: the list with what is accepted of it under a placement; the number accepted. A secondary is sent accepted channels only,
which go out on its lane 4 (R228). -/
def Hw.selectExports (hw : Hw) (p : Placement) (ks : List Nat) : Hw × Nat :=
  if hw.isSecondary then
    ({ hw with out := { hw.out with list := ks.map (fun k => (k, true)), expLane := ks.foldl (fun m k => mset 0 m k 5) [] } }, ks.length)
  else
  let fit := fitExports (hw.expLoad p) true ks (hw.spareExport p)
  let ok := (fit.filter (·.2)).map (·.1)
  ({ hw with out := { hw.out with list := fit, expLane := hw.assignExports p ok } }, ok.length)

/-! ### The point record (R218 to R223) -/

/-- PFLAGS (Table 10.5). -/
def pFlags (h : Hist) (noResult angleBad more dead : Bool) : Nat :=
  let f := headerFlags h
  bits f 0 6 + 64 * b2n h.clipped + 128 * b2n h.parity + 256 * b2n noResult + 512 * bits f 7 1 + 1024 * b2n (decide (1 < h.stack)) +
    2048 * b2n dead + 4096 * b2n angleBad + 8192 * b2n more + 16384 * b2n h.track.pinned

/-- A return block (Table 10.4). -/
def returnBlock (r : Return) : List Byte :=
  le 3 r.range ++ le 2 r.intensity ++ le 1 r.refl ++ le 1 r.conf ++ le 2 (r.cls + 4 * r.flags)

/-- The fired shot whose instant and angle a point carries: the middle one of those received (R219, R221). -/
def midShot (h : Hist) : Nat := ceilDiv h.nRx 2 - 1

/-- The angle of an axis at a tick as a device's points carry it: measured, on a secondary from the primary's prediction (R221, R274). -/
def Hw.axisAngle (hw : Hw) (a t : Nat) : Option Int :=
  if hw.isSecondary then (mget none hw.preds a).map (fun _ => hw.angleAt a t) else hw.measuredAngle a t

/-- The angle measured for a point: that of its plan's H_AXIS at the reference shot; none makes it ANGLE_INVALID (R221). -/
def Hw.pointAngle (hw : Hw) (h : Hist) : Option Int :=
  if h.nRx = 0 then none
  else match h.firedAt[midShot h]?, hw.placementOf h.epoch with
    | some (t, timed), some p => if timed then none else hw.axisAngle (planAxis p.plan) t
    | _, _ => none

/-- The first target angle of a column of a bank (R198); how it is rounded is open (log entry 2). -/
def Placement.firstAngle (p : Placement) (b h : Nat) : Int :=
  match (columnTargets p b h).head? with
  | some (i, g) =>
    let gs := groupsOf p.plan b
    let (a, d) := targetFrac h i g gs.length (shotsAt p.plan p.gridN b (gs.getD g (0, 0)) h)
    roundOpen 1010 (((planOrigin p.plan * d + planStep p.plan * a : Int) : Rat) / d)
  | none => planOrigin p.plan + planStep p.plan * h

/-- ANGLE of a point, as s32 (R221). -/
def Hw.angleField (hw : Hw) (h : Hist) : Int :=
  au ((hw.pointAngle h).getD (match hw.placementOf h.epoch with
    | some p => p.firstAngle h.bank h.column
    | none => 0))

/-- The PFLAGS of a judged histogram (Table 10.5). -/
def Hw.pointFlags (hw : Hw) (h : Hist) (noResult more : Bool) : Nat := pFlags h noResult (hw.pointAngle h).isNone more h.dead

/-- The point of a judged histogram: formatted and queued, or withheld when it is empty and SKIP_EMPTY is set (R218 to R223). -/
def Hw.formatPoint (hw : Hw) (h : Hist) (rets : List Return) (noResult more : Bool) : Hw :=
  let fireT : Option Nat := if h.nRx = 0 then none else (h.shots[midShot h]?).map (fun s => s.2 / 80)
  let t : Int := match fireT with
    | some x => x
    | none => h.closeTime.toNat
  let start : Int := match hw.frameRec h.frame with
    | some r => r.start.toNat
    | none => hw.tnd.frameTime.toNat
  let tofs := (clampI 0 0xFFFFFF (Int.fdiv (t - start) 80)).toNat
  let angle := hw.angleField h
  let flags := hw.pointFlags h noResult more
  if rets.isEmpty ∧ flags = 0 ∧ tb (hw.reg 0x00600000) 4 then
    (hw.wrap 0x00600010 1).updFrame h.frame (fun r => { r with empty := r.empty + 1 })
  else
    let (hw, colour) := if hw.hasColour then
        hw.colourOf (bits (hw.reg 0x00600000) 0 2) (rets.head?.map (·.range)) angle h.track.row h.track.strip t
      else (hw, [])
    let id := h.column % 4096 + h.track.row % 1024 * 2 ^ 12 + h.track.strip % 4 * 2 ^ 22 + rets.length % 4 * 2 ^ 24 + hw.cas.index * 2 ^ 26
    hw.pushRecord h.bank h.frame
      (pad4 (le 4 id ++ le 3 tofs ++ le 1 h.epoch ++ leInt 4 angle ++ le 2 flags ++ rets.flatMap returnBlock ++ colour))

/-! ### The handover to the Keepers (R375) -/

/-- BG_MAX: the largest segment background up to the segment that holds the cell's largest FAR, in Q8.8. -/
def Hw.bgMax (hw : Hw) (e : DetEnv) (h : Hist) : Nat :=
  let far := 40 * hw.farMax h.column h.track.row
  let last := ((List.range 15).filter (fun s => decide (rangeCode (327680 * (s + 1 : Nat)) ≤ far))).length
  let top := (List.range (last + 1)).foldl (fun (m : Rat) s => max m (bgSeg e h s)) 0
  (clampI 0 0xFFFF (roundOpen 1001 (256 * top))).toNat

/-- Every histogram of a pinned track gives a sample record to each Keeper; they evaluate in GUARD only (R375, Table 3.2). -/
def Hw.toKeepers (hw : Hw) (e : DetEnv) (h : Hist) (l : List Return) (noResult more : Bool) : Hw :=
  if ¬ h.track.pinned ∨ hw.dev.mode ≠ .guard then hw
  else
    let r : SampleRec := { h := h.column, v := h.track.row, time := h.closeTime, flags := hw.pointFlags h noResult more, nRx := h.nRx
                           angle := hw.angleField h
                           rets := l.map (fun x => (x.range, x.cls, x.intensity)), bgMax := hw.bgMax e h }
    { hw with kpr := { hw.kpr with
        a := { hw.kpr.a with inbox := hw.kpr.a.inbox ++ [r] }
        b := { hw.kpr.b with inbox := hw.kpr.b.inbox ++ [r] } } }

/-! ### DET_DONE (R173, R182, R185, R188) -/

/-- The parameters and the tables that judge a histogram by its close time: those in force when it closed (R174). -/
def Hw.detParams (hw : Hw) (h : Hist) : SMap Nat × SMap Nat :=
  match hw.det.past.find? (fun e => decide (h.closeTime.toNat ≤ e.1)) with
  | some e => e.2
  | none => (hw.det.force, hw.det.active)

/-- What DET reads beside a histogram of channel `k`. -/
def Hw.detEnv (hw : Hw) (k : Nat) (h : Hist) : DetEnv :=
  let a := mget {} hw.spd.latched k
  let tau := hw.deadTime (regionOf h.track.x0 h.track.y0)
  let r : Rat := if a.nLive * a.live = 0 then Config.openRate a.raw else (a.raw : Rat) / (a.nLive * a.live)
  { force := (hw.detParams h).1, tables := (hw.detParams h).2, sFrac := skewFrac (hw.reg (chanReg k 0)), k := h.track.k, w := h.track.w
    shape := h.track.shape, nLive := hw.nLive h.track, rEff := r / (1 + r * tau / 2000) }

/-- The DONE buffer that closed first among the tiles of bank `b`, in tile order on a tie: tile, channel position, buffer
(R173). -/
def Hw.oldestDone (hw : Hw) (b : Nat) : Option (Nat × Nat × Nat) :=
  (List.range 384).foldl (fun best x =>
    let n := 12 * b + x / 32
    let h := ((hw.tile n).chan (x % 32 / 2)).buf (x % 2)
    if h.state ≠ .done then best
    else match best with
      | none => some (n, x % 32 / 2, x % 2)
      | some (m, p, i) =>
        let g := ((hw.tile m).chan p).buf i
        if h.closeTime < g.closeTime then some (n, x % 32 / 2, x % 2) else best) none

/-- A count of DET that sticks (R188). -/
def addCounts (l : List Nat) (a : List Nat) : List Nat :=
  (List.range 6).map (fun i => satAdd 0xFFFFFFFF (l.getD i 0) (a.getD i 0))

/-- The weather score (R188). -/
def weather (c : List Nat) : Nat := min 255 (255 * (c.getD 2 0 + c.getD 3 0) / max 1 (c.getD 0 0))

/-- The statistics of frames whose last histogram DET has processed are latched (R188). -/
def Hw.latchStats (hw : Hw) : Hw :=
  hw.out.frames.foldl (fun hw r =>
    if r.ended ∧ ¬ r.latched ∧ ¬ hw.unjudged r.frame none then
      let hw := hw.updFrame r.frame (fun r => { r with latched := true, weather := weather r.det })
      { hw with det := { hw.det with latched := r.det, frame := r.frame, weather := weather r.det } }
    else hw) hw

/-- The adaptation statistics of a track with one more histogram (R204). -/
def statHist (h : Hist) (l : List Return) (s : TrackStat) : TrackStat :=
  let hard := sortRet stronger (l.filter (fun r => decide (r.cls ≤ 1)))
  match hard with
  | r :: _ => { s with hists := s.hists + 1, rets := s.rets + 1, pSum := s.pSum + r.net / max 1 h.nRx }
  | [] => { s with hists := s.hists + 1 }

/-- DET_DONE: the engine of bank `b` judges its oldest histogram. -/
def detDone (b : Nat) (memErr : Bool) (hw : Hw) : Hw :=
  if 4 ≤ b then hw
  else match hw.oldestDone b with
    | none => hw
    | some (n, p, i) =>
      let k := 16 * n + p
      let t := hw.tile n
      let c := t.chan p
      let h := c.buf i
      let ctl := mget (regReset 0x00500000) (hw.detParams h).1 0
      let noResult := memErr || h.parity || decide (h.nRx = 0)
      let env := hw.detEnv k h
      let l := if memErr then [] else passing env h
      let rets := selectReturns ctl hw.nReturns l
      let more := decide (rets.length < (l.filter (fun r => !dropped ctl r)).length)
      let cnt := fun (f : Return → Bool) => (l.filter f).length
      let counts := [l.length, cnt (fun r => r.cls = 0), cnt (fun r => r.cls = 1), cnt (fun r => r.cls = 2), cnt (fun r => r.cls = 3),
        cnt (dropped ctl)]
      let h := { h with judged := true, returns := l }
      let key := 4 * h.track.row + h.track.strip
      let tnd := if h.frame = hw.tnd.frame then { hw.tnd with statsNow := mupd {} hw.tnd.statsNow key (statHist h l) }
        else if h.frame + 1 = hw.tnd.frame then { hw.tnd with stats := mupd {} hw.tnd.stats key (statHist h l) } else hw.tnd
      let hw := { hw with tnd := tnd }
      let hw := hw.setTile n (t.setChan p (c.setBuf i { h with state := .idle }))
      let hw := hw.updFrame h.frame (fun r => { r with det := addCounts r.det counts })
      let hw := if memErr then (hw.raise (fid srcDet 1 2) (le 2 k)).lossOfPinned h.track.pinned else hw
      let hw := hw.toKeepers env h l noResult more
      let hw := hw.exportHist k h
      let hw := hw.formatPoint h rets noResult more
      (hw.closeLast).latchStats

/-! ### Frame packets (R225) -/

/-- The 64 bytes of Table 10.7. -/
def Hw.frameHeader (hw : Hw) (r : FrameRec) : List Byte :=
  le 4 r.frame ++ le 8 r.start.toNat ++ le 8 r.finish.toNat ++ le 1 r.epoch ++ le 1 r.weather ++ le 2 r.flags ++ le 4 r.planCrc ++
    le 4 r.sent ++ le 4 r.dropped ++ le 4 r.empty ++ le 2 r.unplaced ++ le 1 hw.cas.index ++ [0] ++ r.pkts.flatMap (le 2) ++
    le 4 (r.det.getD 0 0) ++ le 4 (r.det.getD 2 0) ++ le 4 (r.det.getD 3 0)

/-- FRAME_PACKET_SEND: a frame whose statistics are latched and whose points are queued gives its packet to every lane that
carried a point substream in the frame, also one to which a substream has moved with points of the frame still queued (R225, R258). -/
def framePacketSend (hw : Hw) : Hw :=
  let hw := (hw.closeLast).latchStats
  match hw.out.frames.find? (fun r => r.ended && r.latched) with
  | some r =>
    let waiting := (List.range 4).filter (fun b => (hw.sub b).packets.any (fun p => decide (p.frame = r.frame)))
    let lanes := setBits 8 (waiting.foldl (fun m b => m ||| 2 ^ hw.subLane b) r.lanes)
    let pkts : List (Nat × StreamPkt) := lanes.map (fun l =>
      (l, { kind := 2, frame := r.frame, seq := mget 0 hw.out.frameSeq l, dev := hw.cas.index, sub := 0xF0 + l, count := 1
            time := hw.clk.time, last := true, payload := hw.frameHeader r }))
    { hw with out := { hw.out with
        frames := hw.out.frames.filter (fun x => decide (x.frame ≠ r.frame))
        frameQ := hw.out.frameQ ++ pkts
        frameSeq := lanes.foldl (fun m l => mset 0 m l ((mget 0 m l + 1) % 2 ^ 32)) hw.out.frameSeq } }
  | none => hw

/-- The bytes of a stream packet (Table 10.1). -/
def StreamPkt.bytes (p : StreamPkt) : List Byte :=
  let head := le 1 0x5D ++ le 1 0xA5 ++ le 1 1 ++ le 1 p.kind ++ le 4 p.frame ++ le 4 p.seq ++ le 1 p.dev ++ le 1 p.sub ++ le 2 p.count ++
    le 8 p.time.toNat ++ le 2 p.payload.length ++ le 1 (b2n p.last) ++ [0]
  head ++ le 4 (crc32c (head ++ p.payload)) ++ p.payload

/-! ### DET at a frame boundary (R174, R190) -/

/-- The registers of DET that act from the next boundary on (R174). -/
def detRegs : List Nat := [0x00, 0x04, 0x08, 0x0C, 0x10, 0x14, 0x18, 0x1C]

/-- The first shadow table with a value out of its limits (F.DET.001). -/
def badTable (sh : SMap Nat) : Option Nat :=
  let w := fun t i => mget 0 sh (1024 * t + i)
  if (List.range 512).any (fun i => decide (512 < (sx 16 (w 0 i)).natAbs)) then some 0
  else if (List.range 32).any (fun i => decide (w 1 i = 0)) ∨ (List.range 4).any (fun b => decide (bits (w 1 (32 + b)) 0 16 = 0)) then some 2
  else if (List.range 32).any (fun i => decide (bits (w 2 (i + 1)) 0 16 < 32 ∨ 32768 < bits (w 2 (i + 1)) 0 16)) then some 4
  else none

/-- The parameters in force become those written, and a due TAB_COMMIT takes place; those in force until now still judge what closed before
(R174). -/
def Hw.detBoundary (hw : Hw) : Hw :=
  let force := detRegs.foldl (fun m o => mset (regReset (0x00500000 + o)) m o (hw.reg (0x00500000 + o))) []
  let old := (hw.clk.time.toNat, hw.det.force, hw.det.active)
  let hw := { hw with det := { hw.det with force := force, past := (hw.det.past ++ [old]).drop (hw.det.past.length - 3) } }
  if hw.det.pending then
    match badTable hw.det.shadow with
    | some t => ({ hw with det := { hw.det with pending := false } }).raise (fid srcDet 1 1) (le 2 t)
    | none => { hw with det := { hw.det with pending := false, active := hw.det.shadow } }
  else hw

/-- DET_TAB_COMMIT: due at the next boundary; LOCKED in GUARD (R174, R186). -/
def detTabCommit (hw : Hw) : Hw :=
  if hw.dev.mode = .guard then { hw with ack := 0x0A, ackData := le 4 0x00500000 }
  else { hw with ack := 0, ackData := [], det := { hw.det with pending := true } }

end Sys2Proof.Machine
end

