-- ==== Sys2Proof/Machine/Time.lean ====
section
/-! DEFINITION. CLK and DMK (chapter 06): device time and its setting, PPS discipline, crystal and PLL loss, Daymark's
stampers, interval engine and frequency engines. -/

namespace Sys2Proof.Machine

/-- A nonnegative square root rounded to an integer in a way the spec does not state (log entry 2). -/
def sqrtOpen (site : Nat) (x : Rat) : Nat :=
  let r := isqrt x.floor.toNat
  if (r : Rat) * r = x then r else if Config.roundUp site x.num then r + 1 else r

/-! ### Setting device time (R137) -/

/-- The count replaced, with CLK event 0xE001 carrying the old and the new count; the frame in progress is marked TIME_STEPPED
(Table 10.7). Boundaries of the old count no longer tell which parameters judge a histogram (R174). -/
def Hw.setTime (hw : Hw) (t : U64) : Hw :=
  let old := hw.clk.time
  let hw := { hw with
    clk := { hw.clk with time := t, setArmed := none }
    det := { hw.det with past := [] }
    out := { hw.out with frames := hw.out.frames.map (fun (r : FrameRec) => if r.ended then r else { r with flags := r.flags ||| 256 }) } }
  hw.event srcClk 0xE001 (le 8 old.toNat ++ le 8 t.toNat)

/-- CLK_TIME_SET: a write of CLK_TIME_SET_HI (R137). -/
def clkTimeSet (hi : Word) (hw : Hw) : Hw :=
  if hw.dev.mode ≠ .config then { hw with ack := 0x03, ackData := le 1 hw.dev.mode.code }
  else if hw.dev.sched.isSome then { hw with ack := 0x02, ackData := [] }
  else
    let t : U64 := BitVec.ofNat 64 (hi.toNat * 2 ^ 32 + hw.clk.setLo)
    let hw := { hw with ack := 0, ackData := [] }
    if tb (hw.reg 0x00040000) 8 then { hw with clk := { hw.clk with setArmed := some t } } else hw.setTime t

/-- LATCHING_READ of CLK_TIME_LO: the upper half latched (R136). -/
def Hw.latchTime (hw : Hw) : Hw := { hw with clk := { hw.clk with latchHi := hw.clk.time.toNat / 2 ^ 32 } }

/-! ### PPS (R138, R139) -/

/-- CLK_AGE.AGE clamped to ±2,000,000 (R133). -/
def Hw.age (hw : Hw) : Int := clampI (-2000000) 2000000 (sx 23 (hw.reg 0x00040008))

/-- An ageing code as CLK_AGE holds it: 23 bits, clamped (R133). -/
def ageCode (x : Int) : Nat := cx 23 (clampI (-2000000) 2000000 x)

/-- The offset the reference PLL applies (R133). -/
def Hw.refOffset (hw : Hw) : Int := clampI (-2000000) 2000000 (hw.age + hw.clk.term)

/-- err of R139 for a stamp (t, f). -/
def ppsErr (t f : Nat) : Int :=
  let e : Int := ((t % 800000000) * 80 + f : Nat)
  if 32000000000 ≤ e then e - 64000000000 else e

/-- One update of integ and of PPS_TERM by the loop of R139. -/
def Hw.discipline (hw : Hw) (err : Int) : Hw :=
  let cfg := hw.reg 0x00040030
  let lim := hw.reg 0x00040034
  let kp : Int := bits cfg 16 16
  let ki : Int := bits cfg 0 16
  let limit := (2000000 - hw.age.natAbs : Int) * 65536
  let slew : Int := min 200000 (bits lim 14 18)
  let integ := clampI (-limit) limit (hw.clk.integ + ki * err)
  let term := clampI (-slew) slew (roundOpen 610 (((integ + kp * err : Int) : Rat) / 65536))
  { hw with clk := { hw.clk with integ := integ, term := term } }

/-- How many updates in a row have been within LOCK_THRESH, after one with `err`: with 8 the loop is locked (R139). -/
def Hw.lockRun (hw : Hw) (err : Int) (run : Nat) : Nat := if err.natAbs ≤ bits (hw.reg 0x00040034) 0 14 then min 8 (run + 1) else 0

/-- PPS_MODE as it acts; the reserved value is a free one of the others (log entry 9). -/
def Hw.ppsMode (hw : Hw) : Nat :=
  let m := bits (hw.reg 0x00040000) 0 2
  if m = 3 then Config.reservedMode 611 % 3 else m

/-- The loop on an accepted edge by PPS_MODE: DISCIPLINE steers, MEASURE keeps PPS_TERM at 0 unless PTP steers it (R139, R235). -/
def Hw.ppsLoop (hw : Hw) (err : Int) : Hw :=
  if hw.ppsMode = 2 then
    let run := hw.lockRun err hw.clk.lockRun
    let hw := hw.discipline err
    { hw with clk := { hw.clk with lockRun := run, locked := decide (run = 8) } }
  else if hw.out.ptp = 2 then hw
  else { hw with clk := { hw.clk with term := 0 } }

/-- PPS_EDGE on PPS_IN: ignored in OFF and on the edge not selected; a start, a rejection or an accepted edge (R138). -/
def ppsEdge (rising : Bool) (fine : Nat) (hw : Hw) : Hw :=
  let ctl := hw.reg 0x00040000
  let mode := hw.ppsMode
  if mode = 0 ∨ rising = tb ctl 4 then hw
  else match hw.clk.ppsRef with
    | none => { hw with clk := { hw.clk with ppsRef := some hw.ticks } }
    | some r =>
      let d := hw.ticks - r
      if 799200000 ≤ d ∧ d ≤ 800800000 then
        let t := hw.clk.time
        let err := ppsErr t.toNat (fine % 80)
        let hw := { hw with clk := { hw.clk with
          ppsRef := some hw.ticks, ppsMissAt := hw.ticks + 1200000000, ppsQuiet := false, present := true
          ppsStamp := t, ppsFine := fine % 80, ppsErr := err } }
        let hw := hw.ppsLoop err
        match hw.clk.setArmed with
        | some s => hw.setTime s
        | none => hw
      else
        let times := (hw.ticks :: hw.clk.rejTimes).filter (fun x => decide (hw.ticks < x + 48000000000))
        let hw := { hw with clk := { hw.clk with
          ppsRef := none, rejected := satAdd 0xFFFF hw.clk.rejected 1, rejTimes := times } }
        if times.length = 4 then hw.raise (fid srcClk 1 4) [] else hw

/-- PPS_TIMEOUT: no accepted edge for 1.5 s, counted from S06, from the last one and from the write that takes PPS_MODE out of OFF; then
once a second the MISSING count rises. F.CLK.003 is raised once for each absence. In OFF, where PPS_IN is ignored, PPS_PRESENT still falls
(log entry 163; R138, R139). -/
def ppsTimeout (hw : Hw) : Hw :=
  if hw.ticks < hw.clk.ppsMissAt ∨ (hw.ppsMode = 0 ∧ ¬ hw.clk.present) then hw
  else
    let quiet := hw.clk.ppsQuiet
    let hw := { hw with clk := { hw.clk with
      present := false, locked := false, lockRun := 0, missing := satAdd 0xFFFF hw.clk.missing 1, ppsQuiet := true
      ppsMissAt := hw.ticks + 800000000 } }
    if quiet then hw else hw.raise (fid srcClk 1 3) []

/-- CRYSTAL_STOP and REF_PLL_UNLOCK (R66, R134): device time is not valid until the next reset. -/
def crystalStop (hw : Hw) : Hw :=
  if hw.clk.xtalOk then
    ({ hw with clk := { hw.clk with xtalOk := false, timeValid := false } }).raise (fid srcClk 3 1) []
  else hw
def refUnlock (hw : Hw) : Hw :=
  if hw.clk.refLock then
    ({ hw with clk := { hw.clk with refLock := false, timeValid := false } }).raise (fid srcClk 3 2) []
  else hw

/-! ### Daymark (R146 to R149) -/

def Hw.dmkIn (hw : Hw) (i : Nat) : DmkIn := mget {} hw.dmk.ins i
def Hw.freqOf (hw : Hw) (i : Nat) : DmkFreq := mget {} hw.dmk.freq i
def Hw.setFreq (hw : Hw) (i : Nat) (f : DmkFreq) : Hw := { hw with dmk := { hw.dmk with freq := mset {} hw.dmk.freq i f } }

/-- The sources DMK_FINE_SEL gives the stampers. -/
def Hw.startSel (hw : Hw) : Nat := bits (hw.reg 0x00048004) 0 3
def Hw.stopSel (hw : Hw) : Nat := bits (hw.reg 0x00048004) 4 3

/-- The fine field of an edge of source `s`, absent where no stamper takes it; the stampers that take it are busy for 200 ns,
and a busy one counts the miss (R147). -/
def Hw.fineStamp (hw : Hw) (s fine : Nat) : Option Nat × Hw :=
  let d := hw.dmk
  let (a, d) := if hw.startSel = s then
      if d.startBusy ≤ hw.ticks then (some fine, { d with startBusy := hw.ticks + 160 })
      else (none, { d with startMissed := satAdd 0xFFFF d.startMissed 1 })
    else (none, d)
  let (b, d) := if hw.stopSel = s then
      if d.stopBusy ≤ hw.ticks then (some fine, { d with stopBusy := hw.ticks + 160 })
      else (none, { d with stopMissed := satAdd 0xFFFF d.stopMissed 1 })
    else (none, d)
  (a.or b, { hw with dmk := d })

/-- The timeout of DMK_IV_CTL in ticks, from 1 ms. -/
def Hw.ivTimeoutTicks (hw : Hw) : Nat := 800000 * max 1 (bits (hw.reg 0x00048008) 16 16)

/-- An edge of source `s` at `t` (1/320 tick) offered to the interval engine (R148). -/
def Hw.intervalEdge (hw : Hw) (s t : Nat) : Hw :=
  let d := hw.dmk
  if ¬ d.armed then hw
  else match d.ivStart with
    | none => if hw.startSel = s then { hw with dmk := { d with ivStart := some t } } else hw
    | some a =>
      if hw.stopSel = s then
        let again := tb (hw.reg 0x00048008) 1
        { hw with dmk := { d with
          ivValue := (t - a) % 2 ^ 40, ivValid := true, ivStart := none, armed := again
          ivCount := if again then (d.ivCount + 1) % 4096 else d.ivCount, ivDue := hw.ticks + hw.ivTimeoutTicks } }
      else hw

/-- DMK_IV_ARM: an interval measurement starts. -/
def ivArm (hw : Hw) : Hw :=
  { hw with dmk := { hw.dmk with
    armed := true, ivStart := none, ivValid := false, ivTimeout := false, ivDue := hw.ticks + hw.ivTimeoutTicks } }

/-- DMK_IV_TIMEOUT: no STOP edge within the timeout. -/
def ivTimeout (hw : Hw) : Hw :=
  if hw.dmk.armed ∧ hw.dmk.ivDue ≤ hw.ticks then
    { hw with dmk := { hw.dmk with armed := false, ivStart := none, ivTimeout := true } }
  else hw

/-- DMK_FREQ_CTL[i] fields as they act (Table 6.7). -/
def Hw.prescale (hw : Hw) (i : Nat) : Nat := bits (hw.reg (0x00048020 + 4 * i)) 16 16 + 1
def Hw.gateTicks (hw : Hw) (i : Nat) : Nat := 800000 * min 10000 (max 1 (bits (hw.reg (0x00048020 + 4 * i)) 2 14))

/-- A gate started or restarted; the last result stands until the gate ends (R149). -/
def Hw.startGate (hw : Hw) (i : Nat) : Hw :=
  let f := hw.freqOf i
  hw.setFreq i { f with
    running := true, gateEnd := hw.ticks + hw.gateTicks i, edges := 0, n := 0, t0 := 0, t0c := 0, st := 0, snt := 0, stt := 0
    stc := 0, sntc := 0, sttc := 0, anyCoarse := false }

/-- One edge of input `i` at tick `t` with its fine field, in the gate of its frequency engine: one in every PRESCALE is
stamped. -/
def Hw.freqEdge (hw : Hw) (i t : Nat) (fine : Option Nat) : Hw :=
  let f := hw.freqOf i
  if ¬ f.running ∨ f.gateEnd ≤ t ∨ 65536 ≤ f.n then hw
  else
    let g := { f with edges := f.edges + 1 }
    if f.edges % hw.prescale i ≠ 0 then hw.setFreq i g
    else
      let x := 320 * t + fine.getD 0
      let y := 320 * t
      let (t0, t0c) := if f.n = 0 then (x, y) else (f.t0, f.t0c)
      hw.setFreq i { g with
        n := f.n + 1, t0 := t0, t0c := t0c
        st := f.st + (x - t0), snt := f.snt + f.n * (x - t0), stt := f.stt + (x - t0) * (x - t0)
        stc := f.stc + (y - t0c), sntc := f.sntc + f.n * (y - t0c), sttc := f.sttc + (y - t0c) * (y - t0c)
        anyCoarse := f.anyCoarse || fine.isNone }

/-- Whether an edge of input `i` is one its configuration selects, and whether it is stamped: not within 20 ns of the last stamp
(R146). -/
def Hw.dmkTakes (hw : Hw) (i : Nat) (rising : Bool) : Bool :=
  let cfg := bits (hw.reg 0x00048000) (8 * i) 3
  let sel := if cfg % 4 = 3 then Config.reservedMode 620 % 3 else cfg % 4
  tb cfg 2 && !(decide (sel = 0) && !rising) && !(decide (sel = 1) && rising)
def Hw.dmkStamps (hw : Hw) (i : Nat) (rising : Bool) : Bool :=
  let x := hw.dmkIn i
  decide (i < 4) && hw.dmkTakes i rising && !(x.stamped && decide (hw.ticks < x.tick + 16))

/-- DMK_EDGE on input `i`: stamped, merged under the 20 ns rule, or ignored; sources 4 (PPS_IN) and 5 (the shot-edge tree)
reach only the fine stampers and the interval engine (R146, R147). -/
def dmkEdge (i : Nat) (rising : Bool) (fine : Nat) (hw : Hw) : Hw :=
  if 4 ≤ i then
    let (f, hw) := hw.fineStamp i (fine % 320)
    if i ≤ 5 then hw.intervalEdge i (320 * hw.ticks + f.getD 0) else hw
  else if ¬ hw.dmkTakes i rising then hw
  else if ¬ hw.dmkStamps i rising then
    let x := hw.dmkIn i
    { hw with dmk := { hw.dmk with ins := mset {} hw.dmk.ins i { x with merged := satAdd 0xFFFFFFFF x.merged 1 } } }
  else
    let (f, hw) := hw.fineStamp i (fine % 320)
    let y := { hw.dmkIn i with stamped := true, tick := hw.ticks, time := hw.clk.time, fine := f.getD 0, coarse := f.isNone }
    let hw := { hw with dmk := { hw.dmk with ins := mset {} hw.dmk.ins i y } }
    (hw.intervalEdge i (320 * hw.ticks + f.getD 0)).freqEdge i hw.ticks f

/-- The least-squares fit of a gate's sums (R149): PERIOD in Q32.32 ticks per edge and RESID in 1/320 tick. -/
def fitGate (n st snt stt prescale : Nat) : Nat × Nat :=
  let nr : Rat := n
  let sn : Rat := (n * (n - 1) / 2 : Nat)
  let snn : Rat := ((n - 1) * n * (2 * n - 1) / 6 : Nat)
  let slope : Rat := (nr * snt - sn * st) / (nr * snn - sn * sn)
  let ss : Rat := stt - (st : Rat) * st / nr - slope * (snt - sn * st / nr)
  ((roundOpen 621 (slope / (320 * (prescale : Rat)) * 4294967296)).toNat, sqrtOpen 622 (ss / nr))

/-- DMK_FREQ_GATE_END: the gate ends at its time or at its 65,536th stamp, and its period is fitted, from the coarse stamps where a stamp
is coarse or the input is selected to no fine stamper (R149). -/
def freqGateEnd (i : Nat) (hw : Hw) : Hw :=
  let f := hw.freqOf i
  if ¬ f.running ∨ (hw.ticks < f.gateEnd ∧ f.n < 65536) then hw
  else
    let few := decide (f.n < 3)
    let coarse := f.anyCoarse || !decide (hw.startSel = i ∨ hw.stopSel = i)
    let (p, r) :=
      if few then (0, 0)
      else if coarse then fitGate f.n f.stc f.sntc f.sttc (hw.prescale i)
      else fitGate f.n f.st f.snt f.stt (hw.prescale i)
    let flags := b2n (!few) * 2 ^ 31 + b2n (decide (65536 ≤ f.n)) * 2 ^ 30 + b2n few * 2 ^ 29 + b2n coarse * 2 ^ 28 + f.n
    let hw := hw.setFreq i { f with running := false, period := p, flags := flags, resid := r }
    if tb (hw.reg (0x00048020 + 4 * i)) 1 then hw.startGate i else hw

end Sys2Proof.Machine
end

