-- ==== Sys2Proof/Machine/Frame.lean ====
section
/-! DEFINITION. The frame boundary (R122, R174, R198, R203, R207): what the frame that ends leaves, the swap, and what every
block takes over at it. -/

namespace Sys2Proof.Machine

/-- Targets of a frame that were not decided by its end are skipped (R198). The fuel is the number of targets. -/
def skipTargets : Nat → Nat → Hw → Hw
  | 0, _, hw => hw
  | f + 1, b, hw =>
    match hw.gridTarget b with
    | some (t, pos) =>
      let s := hw.protoShot b t false
      skipTargets f b (({ hw with tnd := { hw.tnd with grid := mset {} hw.tnd.grid b pos } }).skipShot s)
    | none => hw

/-- The undecided targets of every bank skipped. -/
def Hw.skipRest (hw : Hw) : Hw :=
  match hw.tnd.active with
  | some p =>
    if hw.bcn.source = 0 then (List.range 4).foldl (fun h b => skipTargets (bankShots p.plan p.gridN b) b h) hw else hw
  | none => hw

/-- The complete statistics of the frame that ends: DET's with the ambient table just latched (R204). -/
def Hw.frameStats (hw : Hw) : SMap TrackStat :=
  match hw.tnd.active with
  | some p => p.tracks.foldl (fun m e =>
      let a := mget {} hw.spd.latched e.1
      mupd {} m (4 * e.2.row + e.2.strip) (fun s => { s with raw := a.raw, live := a.live, nLive := a.nLive })) hw.tnd.statsNow
  | none => hw.tnd.statsNow

/-- What SPD applies at a boundary, in the order of R122: a pending mask commit, then trims, states and dead times. No commit is made in
GUARD (R119). -/
def Hw.spdBoundary (hw : Hw) : Hw :=
  let hw := if hw.spd.maskPending ∧ hw.dev.mode ≠ .guard then hw.commitMask else hw
  hw.applyRegions.applyDeadTimes

/-- A placement in force: its tables, its routes, its export (R122, R199, R207, R228). Tender keeps those of 16 epochs (R212). -/
def Hw.adopt (hw : Hw) (p : Placement) (slot : Nat) : Hw :=
  let tnd := { hw.tnd with
    active := some p, epoch := p.epoch, plan := some p.plan, slot := slot
    history := (p :: hw.tnd.history.filter (fun x => decide (x.epoch ≠ p.epoch))).take 16 }
  let hw := { hw with tnd := tnd }
  let hw := { hw with out := { hw.out with routes := p.routes } }
  (hw.reviewExports p).recount

/-- The blank of a swap (R122): 16 ticks in which no gate passes an event; the gates start afresh behind it. -/
def Hw.blank (hw : Hw) : Hw := { hw with spd := { hw.spd with blankEnd := hw.ticks + 16, gates := [] } }

/-- The swap of R122 and R209: a changed table is checked first; refused, the epoch in force stays and adaptation freezes. SPD applies what
is due only where the check passes, so that behind a refusal the mask commit, trims, states and dead times stay due (log entry 157). -/
def Hw.swap (hw : Hw) : Hw :=
  match hw.tnd.shadow with
  | some p =>
    let same := match hw.tnd.active with | some a => decide (a.epoch = p.epoch) | none => false
    if same then hw.spdBoundary.adopt p p.slot
    else match p.badChan with
    | none => hw.spdBoundary.blank.adopt p p.slot
    | some k =>
      let hw := hw.raise (fid srcSpd 2 20) (le 2 k)
      let hw := hw.raise (fid srcTnd 2 3) []
      { hw with tnd := { hw.tnd with faultFrozen := true, adapt := hw.tnd.adaptOld } }
  | none =>
    let hw := hw.spdBoundary
    if hw.tnd.computing.isSome then hw.raise (fid srcTnd 1 2) [] else hw

/-- The shot source at a boundary (R92, R94): a program that has ended or is to stop gives way to the grid, an armed one starts in SCAN,
and one that stands at a FRAME step goes on. In GUARD the source stays; in SERVICE it is the grid (log entry 24). -/
def Hw.sourceBoundary (hw : Hw) : Hw :=
  let p := hw.bcn.pattern
  let timeMode := tb (hw.reg 0x00020004) 4
  let origin : Int := if timeMode then hw.clk.time.toNat else hw.angleAt (bits (hw.reg 0x00020004) 0 2) hw.ticks
  let hw := if p.running.isSome ∧ (p.stopDue ∨ p.ended) ∧ hw.dev.mode ≠ .guard then
      { hw with bcn := { hw.bcn with source := 0, pattern := { p with running := none, stopDue := false, ended := false, ramps := [] } } } else hw
  let p := hw.bcn.pattern
  match hw.dev.mode, p.armed with
  | .scan, some (i, n) =>
    patternAdvance patternFuel { hw with bcn := { hw.bcn with source := 1, pattern := { p with
      running := some i, armed := none, repeats := n, stopDue := false, passes := 0, pc := 0, done := 0, loop0 := none, loop1 := none, ramps := []
      base := origin, ended := false, ahead := none } } }
  | _, _ =>
    if p.running.isSome then
      match hw.patternStep with
      | some s => if stepField s 60 4 = 6 then
          patternAdvance patternFuel { hw with bcn := { hw.bcn with pattern := { p with pc := p.pc + 1 } } } else hw
      | none => hw
    else { hw with bcn := { hw.bcn with source := if hw.tnd.active.isSome then 0 else 2 } }

/-- Retirements due at a boundary, and the counts that start afresh each frame (R143, R170). -/
def Hw.tileBoundary (hw : Hw) : Hw :=
  let hw := (List.range 48).foldl (fun (h : Hw) n =>
    let c := (h.tile n).retireDue
    if c = 0 then h else retireNow n c h) hw
  { hw with tiles := mmap {} (fun t => { t with parityErr := 0, chans := mmap {} (fun c => { c with vernFail := [] }) t.chans }) hw.tiles }

/-- Whether the boundary is due: the first one at once, then one frame period after the last, at a program's FRAME step, on a
secondary at the tick announced (R198, R200, R274). A program that is over, and one that is to stop and has no FRAME step, end the frame at
once (log entry 149). -/
def Hw.boundaryDue (hw : Hw) : Bool :=
  if hw.isSecondary then
    match hw.cas.nextFrame with
    | some (_, t) => decide ((hw.clk.time.toNat + 2 ^ 31 - t) % 2 ^ 32 ≥ 2 ^ 31)
    | none => false
  else if ¬ hw.tnd.frameOn then true
  else if hw.bcn.source = 1 then
    let p := hw.bcn.pattern
    let atFrame := match hw.patternStep with
      | some s => decide (stepField s 60 4 = 6)
      | none => false
    let noFrame := !(mget [] hw.bcn.programs (p.running.getD 0)).any (fun s => decide (stepField s 60 4 = 6))
    atFrame || (decide (hw.dev.mode ≠ .guard) && (p.ended || p.stopDue && noFrame))
  else decide (hw.tnd.frameTick + hw.framePeriod.1 ≤ hw.ticks)

/-- Whether a lane of 0 to 3 is lost (R258). -/
def Hw.anyLost (hw : Hw) : Bool := (List.range 4).any (fun l => (hw.lane l).lost)

/-- The lanes that carry a point substream in a frame: those of the banks that the placement gives points (R225; log entry 167). -/
def Hw.frameLanes (hw : Hw) : Nat :=
  match hw.tnd.active with
  | some p => maskOf (((List.range 4).filter (fun b => decide (0 < bankPoints p.plan p.rowN b))).map hw.subLane)
  | none => 0

/-- The frame that starts (R198): its number, its first boundary, its record. -/
def Hw.startFrame (hw : Hw) : Hw :=
  let n := match hw.isSecondary, hw.cas.nextFrame with
    | true, some (f, _) => f
    | _, _ => if hw.tnd.firstFrame then hw.tnd.frame else (hw.tnd.frame + 1) % 2 ^ 32
  let (per, rem) := hw.framePeriod
  let tick := if hw.tnd.frameOn ∧ ¬ hw.isSecondary ∧ hw.bcn.source ≠ 1 then hw.tnd.frameTick + per else hw.ticks
  let rem := if hw.tnd.frameOn then rem else 0
  let rec' : FrameRec := { frame := n, start := hw.clk.time, epoch := hw.tnd.epoch
                           planCrc := match hw.tnd.active with | some p => p.crc | none => 0
                           unplaced := match hw.tnd.active with | some p => p.unplaced | none => 0
                           lanes := hw.frameLanes }
  { hw with
    tnd := { hw.tnd with
      frame := n, firstFrame := false, frameTick := tick, frameRem := rem, frameTime := hw.clk.time, frameOn := true, cutDone := false
      shadow := none, computing := none, grid := [], statsNow := [] }
    out := { hw.out with frames := hw.out.frames ++ [rec'], fwdFault := false, expPaused := hw.out.expPaused && (hw.anyLost || hw.lnk.restored) }
    lnk := { hw.lnk with lostFrame := hw.anyLost }
    cas := { hw.cas with nextFrame := none } }

/-- FRAME_BOUNDARY. In CONFIG it releases the pins of a GUARD that has ended (R60, R210). -/
def frameBoundary (hw : Hw) : Hw :=
  if ¬ hw.framesRun then
    if hw.dev.mode = .config ∧ hw.tnd.unpinDue then
      { hw with tnd := { hw.tnd with pinned := [], pins := false, unpinDue := false } }
    else hw
  else if ¬ hw.boundaryDue then hw
  else
    let hw := if hw.tnd.frameOn then
        let hw := (hw.skipRest).latchAmbient
        let hw := { hw with tnd := { hw.tnd with stats := hw.frameStats } }
        hw.endFrames false
      else hw.latchAmbient
    let hw := hw.swap
    let hw := hw.tileBoundary.detBoundary
    let hw := hw.sourceBoundary
    let hw := hw.startFrame
    ({ hw with bcn := { hw.bcn with banks := mmap {} (fun k => { k with ahead := none }) hw.bcn.banks } } : Hw).approach.closeLast.latchStats

end Sys2Proof.Machine
end

