-- ==== Sys2Proof/Machine/Pedestal.lean ====
section
/-! DEFINITION. Pedestal (chapter 13): axis configuration, loops, the tick, missed deadlines, states and faults, predictions,
outputs. -/

namespace Sys2Proof.Machine

/-! ### The configuration of an axis (Table 13.2) -/

def Axis.f1 (x : Axis) (off : Nat) : Nat := field x.cfg off 1
def Axis.in1 (x : Axis) : Nat := x.f1 0
def Axis.in2 (x : Axis) : Nat := x.f1 1
def Axis.edge (x : Axis) : Nat := x.f1 2
def Axis.idx (x : Axis) : Nat := x.f1 3
def Axis.outKind (x : Axis) : Nat := x.f1 4
def Axis.div (x : Axis) : Nat := max 1 (x.f1 5)
def Axis.missLimit (x : Axis) : Nat := x.f1 6
def Axis.ovrLimit (x : Axis) : Nat := x.f1 7
def Axis.gain (x : Axis) : Int := sfield x.cfg 8 4
def Axis.ofs (x : Axis) : Int := sfield x.cfg 12 4
def Axis.ept (x : Axis) : Nat := max 1 (field x.cfg 16 2)
def Axis.feTime (x : Axis) : Nat := field x.cfg 18 2
def Axis.feLimit (x : Axis) (outer : Bool) : Nat := 65536 * field x.cfg (if outer then 22 else 20) 2
def Axis.eshift (x : Axis) (outer : Bool) : Nat := if outer then x.f1 24 / 16 else x.f1 24 % 16
def Axis.triangle (x : Axis) : Bool := decide (x.f1 25 = 1)
def Axis.startTo (x : Axis) : Nat := 800000 * field x.cfg 26 2

/-- A register of axis `a` (Table 13.7), and the registers that act from the next tick start on, in this order: TGT_A, TGT_B, TGT_C,
CLAMP_IN, CLAMP_OUT, DRIVE, PWM, SWAP, FWIN, PRED_LIMIT. -/
def axReg (a off : Nat) : Nat := 0x00780000 + 0x100 * a + off
def Hw.axLatch (hw : Hw) (a : Nat) : List Nat :=
  [0x228, 0x22C, 0x230, 0x234, 0x238, 0x23C, 0x240, 0x244, 0x248, 0x274].map (fun o => hw.reg (axReg a o))
def Axis.reg (x : Axis) (i : Nat) : Nat := x.lat.getD i 0
def Axis.tgt (x : Axis) (i : Nat) : Int := sx 32 (x.reg i)

/-- Whether an axis moves: STARTING or RUN. -/
def Axis.live (x : Axis) : Bool := decide (x.state = .starting ∨ x.state = .run)

/-- The outputs an axis claims (R286): a DAC is numbered as its axis, a PWM pair as 4 + its axis. -/
def claims (a out : Nat) : List Nat :=
  match out with
  | 0 => [a]
  | 1 => [a, a ^^^ 1]
  | _ => [4 + a]

/-- The offset, within the block, of the first field of AXIS_CONFIG that lies outside its range, is a needed input of 0xFF, an
odd input of a differential pair, or a claimed output (R286, R302). -/
def Hw.badAxisField (hw : Hw) (a kind : Nat) (p : List Byte) : Option Nat :=
  let f := fun off n => field p off n
  let inBad := fun off (need : Bool) => decide (31 < f off 1 ∧ f off 1 ≠ 0xFF) || (need && decide (f off 1 = 0xFF)) ||
    (decide (f off 1 ≤ 31) && hw.oddOfPair (f off 1))
  let dmBad := fun off (need : Bool) => decide (3 < f off 1 ∧ f off 1 ≠ 0xFF) || (need && decide (f off 1 = 0xFF))
  let out := f 4 1
  let taken := (List.range 4).any (fun b => decide (b ≠ a ∧ (hw.axis b).kind ≠ 0) &&
    (claims b (hw.axis b).outKind).any (fun c => (claims a out).contains c))
  let checks : List (Nat × Bool) :=
    [ (0, inBad 0 (decide (kind = 1 ∨ kind = 2))), (1, inBad 1 false), (2, dmBad 2 (decide (kind = 1 ∨ kind = 3))),
      (3, dmBad 3 (decide (kind = 3))), (4, decide (3 < out) || taken), (5, decide (f 5 1 = 0 ∨ 64 < f 5 1)), (6, decide (f 6 1 = 0)),
      (7, decide (f 7 1 = 0 ∨ 16 < f 7 1)), (16, decide (f 16 2 = 0 ∧ kind = 3)), (18, decide (f 18 2 = 0)),
      (25, decide ((if kind = 2 then 1 else 0) < f 25 1)), (26, decide (f 26 2 = 0 ∨ 30000 < f 26 2)), (31, decide (f 31 1 ≠ 0)) ]
  if kind = 0 then none else (checks.find? (fun c => c.2)).map (·.1)

/-! ### The tick budget (R290) -/

/-- T_worst in ns, with each axis's state and section counts as `st` and `secs` give them. -/
def Hw.tWorstOf (hw : Hw) (st : Nat → AxisState) (secs : Nat → Nat) : Nat :=
  let on := (List.range 4).filter (fun a => decide (st a ≠ .off))
  let inj := on.foldl (fun n a =>
    if (hw.axis a).kind = 2 ∧ st a ≠ .safe then n + 1 + b2n (decide ((hw.axis a).in2 ≠ 0xFF)) else n) 0
  let busy := if hw.scanMask ≠ 0 ∨ hw.trigSrc ≠ 0 then 1000 else 0
  busy + ceilDiv inj 2 * (hw.tDis * 5 / 4 + 1000) + on.foldl (fun n a => n + 100 + 10 * secs a) 0
def Axis.sections (x : Axis) : Nat := x.inner.coefs.length + x.outer.coefs.length
def Hw.tWorst (hw : Hw) : Nat := hw.tWorstOf (fun a => (hw.axis a).state) (fun a => (hw.axis a).sections)
def fitsTick (t period : Nat) : Bool := decide (4 * t + 1000 ≤ 5 * period)

/-- Whether the budget holds in the state `hw`; nothing to hold while every axis is OFF. -/
def Hw.budgetOk (hw : Hw) : Bool :=
  (List.range 4).all (fun a => decide ((hw.axis a).state = .off)) || fitsTick hw.tWorst hw.period

/-! ### Outputs (R299, Table 13.3) -/

/-- The code a DAC stands at now. -/
def Hw.dacNow (hw : Hw) (n : Nat) : Nat :=
  let d : Dac := mget {} hw.pds.dacs n
  let moved := (hw.ticks - d.since) * d.slew / 800
  if d.slew = 0 then d.goal
  else if d.start < d.goal then min d.goal (d.start + moved)
  else max d.goal (d.start - moved)
def Hw.setDac (hw : Hw) (n code slew : Nat) : Hw :=
  { hw with pds := { hw.pds with dacs := mset {} hw.pds.dacs n { start := hw.dacNow n, goal := code, since := hw.ticks, slew := slew } } }

/-- DAC_MID + round(u × DAC_SPAN / 2³¹), clamped. -/
def dacCode (drive : Nat) (u : Int) : Nat :=
  (clampI 0 65535 ((bits drive 0 16 : Int) + roundNear 1304 (((u * (bits drive 16 16 : Nat) : Int) : Rat) / 2147483648))).toNat

/-- Both DACs of a code under DAC or DAC_DIFF. -/
def Hw.driveDac (hw : Hw) (a : Nat) (x : Axis) (code slew : Nat) : Hw :=
  let hw := hw.setDac a code slew
  if x.outKind = 1 then
    let mid : Int := bits (x.reg 5) 0 16
    hw.setDac (a ^^^ 1) (clampI 0 65535 (mid - (code - mid))).toNat slew
  else hw

/-- The outputs of a loop output `u` (R299): a DAC code, or the high time of lines A and B per carrier on
the grid of 156.25 ps (log entry 180). A RESONANT axis on a
DAC is written by RESONANT_DAC_UPDATE. -/
def Hw.drive (hw : Hw) (a : Nat) (u : Int) : Hw :=
  let x := hw.axis a
  let per : Int := bits (x.reg 6) 0 24
  let high := fun (v : Int) => (roundOpen 1305 (((8 * v * per : Int) : Rat) / 2147483648)).toNat
  let pos := max 0 u
  let hw := match x.kind, x.outKind with
    | 1, 0 => hw
    | 1, 1 => hw
    | 1, _ => hw.setAxis a { x with pwmA := high pos, pwmB := high pos }
    | _, 0 => hw.driveDac a x (dacCode (x.reg 5) u) 0
    | _, 1 => hw.driveDac a x (dacCode (x.reg 5) u) 0
    | _, 2 => hw.setAxis a { x with pwmA := high pos, pwmB := 8 * per.toNat - high pos }
    | _, _ => hw.setAxis a { x with pwmA := high pos, pwmB := high (max 0 (-u)) }
  hw.setAxis a { hw.axis a with uForce := u }

/-- The outputs of a state that stops the loops: the safe output, or those of reset under OFF (R68, Table 13.3). -/
def Hw.stopOutputs (hw : Hw) (a : Nat) (s : AxisState) : Hw :=
  let x := hw.axis a
  let hw := hw.setAxis a { x with pwmA := 0, pwmB := 0, uForce := 0 }
  if 2 ≤ x.outKind then hw
  else
    let (code, slew) := if s = .off then (0, 0) else (field x.cfg 28 2, x.f1 30)
    let hw := hw.setDac a code slew
    if x.outKind = 1 then hw.setDac (a ^^^ 1) code slew else hw

/-! ### States (R292) -/

def LoopSt.zero (l : LoopSt) : LoopSt :=
  { l with hist := l.coefs.map (fun _ => (0, 0, 0, 0)), out := 0, sat := false, feRun := 0, settle := 0 }

/-- A swap of sections (R296): with histories kept and extended, or from zero; PDS event 0xE002, and F.PDS.006 when forced. -/
def LoopSt.swapIn (l : LoopSt) (new : List (List Int)) (keep : Bool) : LoopSt :=
  let kept := l.hist.take new.length
  let tail := match kept.getLast? with
    | some (_, _, y1, y2) => (y1, y2, y1, y2)
    | none => (0, 0, 0, 0)
  let all := kept ++ List.replicate (new.length - kept.length) tail
  let h := match all.getLast? with
    | some (x1, x2, _, _) => all.dropLast ++ [(x1, x2, l.out, l.out)]
    | none => all
  { l with coefs := new, hist := if keep then h else new.map (fun _ => (0, 0, 0, 0)), pending := none, flagged := false, waited := 0 }

def Axis.loop (x : Axis) (outer : Bool) : LoopSt := if outer then x.outer else x.inner
def Axis.setLoop (x : Axis) (outer : Bool) (l : LoopSt) : Axis := if outer then { x with outer := l } else { x with inner := l }

def Hw.swapLoop (hw : Hw) (a : Nat) (outer forced keep : Bool) : Hw :=
  let x := hw.axis a
  let l := x.loop outer
  match l.pending with
  | none => hw
  | some new =>
    let hw := hw.setAxis a (x.setLoop outer (l.swapIn new keep))
    let hw := hw.event srcPds 0xE002 (le 1 a ++ le 1 (b2n outer) ++ le 1 (b2n forced) ++ le 2 (min 0xFFFF l.waited))
    if forced then hw.raise (fid srcPds 1 6) (le 1 a) else hw

/-- A change of state, with PDS event 0xE001 (R292); cause 0 command, 1 fault, 2 settled, 3 mode change. -/
def Hw.axisTo (hw : Hw) (a : Nat) (s : AxisState) (cause : Nat) : Hw :=
  let x := hw.axis a
  if x.state = s then hw
  else
    let old := x.state.code
    let wasLive := x.live
    let hw := match s with
      | .starting =>
        hw.setAxis a { x with
          state := s, inner := x.inner.zero, outer := x.outer.zero, idxSeen := 0, sinceIdx := 0, startAt := hw.ticks, missRun := 0
          ovrRun := 0, setPoint := 0, nextSet := none, result := none, done := true, got := none, got2 := none, faultNum := 0
          lat := hw.axLatch a, fBase := none, term := 0, nco := 0, phi := 0, phiAt := hw.ticks, traj := sx 32 (hw.reg (axReg a 0x228)) * 65536
          trajUp := true, predNow := none, thetaAt := none, omega := 0, nE := 0, tEnc := none, past := (({ at' := hw.ticks, live := false } : AxisPast) :: x.past).take 4096 }
      | .run => hw.setAxis a { x with state := s, inner := { x.inner with feRun := 0 }, outer := { x.outer with feRun := 0 } }
      | _ =>
        let hw := (hw.swapLoop a false false false).swapLoop a true false false
        let x := hw.axis a
        let y := { x with
          state := s, inner := x.inner.zero, outer := x.outer.zero, setPoint := 0, nextSet := none, result := none, done := true
          got := none, got2 := none, predNow := none
          past := if wasLive then (({ at' := hw.ticks, live := false } : AxisPast) :: x.past).take 4096 else x.past }
        let hw : Hw := hw.setAxis a y
        let hw : Hw := { hw with preds := mset none hw.preds a none }
        hw.stopOutputs a s
    hw.event srcPds 0xE001 (le 1 a ++ le 1 old ++ le 1 s.code ++ le 1 cause)

/-- An axis fails: FAULT, its safe output, the fault (R291 to R294). -/
def Hw.axisFault (hw : Hw) (a num cls : Nat) : Hw :=
  let x := hw.axis a
  let hw := hw.setAxis a { x with faultNum := num, sticky := if num = 3 then x.sticky ||| 0x40 else x.sticky }
  (hw.axisTo a .fault 1).raise (fid srcPds cls num) (le 1 a)

/-! ### Loop arithmetic (R287, R288) -/

/-- Saturated to ±(2³¹ − 1), and an exact Q1.31 × Q4.28 sum rounded with halves away from zero. -/
def sat31 (x : Int) : Int := clampI (-2147483647) 2147483647 x
def roundAway (x : Int) (n : Nat) : Int :=
  let q : Int := ((x.natAbs + 2 ^ (n - 1)) / 2 ^ n : Nat)
  if x < 0 then -q else q

/-- One section: its output and its new history. -/
def section2 (c : List Int) (h : Int × Int × Int × Int) (x : Int) : Int × (Int × Int × Int × Int) :=
  let (x1, x2, y1, y2) := h
  let y := sat31 (roundAway (c.getD 0 0 * x + c.getD 1 0 * x1 + c.getD 2 0 * x2 - c.getD 3 0 * y1 - c.getD 4 0 * y2) 28)
  (y, (x, x1, y, y1))

/-- The cascade: the output of the last section and every history. -/
def cascade (cs : List (List Int)) (hs : List (Int × Int × Int × Int)) (x : Int) : Int × List (Int × Int × Int × Int) :=
  match cs, hs with
  | c :: cr, h :: hr =>
    let (y, h') := section2 c h x
    let (z, r) := cascade cr hr y
    (z, h' :: r)
  | _, _ => (x, [])

/-- The clamped output, with the clamped value as y1 of the last section. -/
def LoopSt.run (l : LoopSt) (input : Int) (clamp : Nat) : LoopSt :=
  let (y, h) := cascade l.coefs l.hist input
  let hi := sx 16 (clamp / 65536) * 65536
  let lo := sx 16 (clamp % 65536) * 65536
  let c := clampI lo hi y
  let h := match h.getLast? with
    | some (x1, x2, _, y2) => h.dropLast ++ [(x1, x2, c, y2)]
    | none => h
  { l with hist := h, out := c, sat := decide (c ≠ y), input := input }

/-- The pending swap of a loop at the start of its tick: at once unless saturated, forced after TIMEOUT loop ticks (R296). -/
def Hw.pendingSwap (hw : Hw) (a : Nat) (outer : Bool) : Hw :=
  let x := hw.axis a
  let l := x.loop outer
  if l.pending.isNone then hw
  else if ¬ l.sat then hw.swapLoop a outer false true
  else if max 1 (bits (x.reg 7) 0 16) ≤ l.waited then hw.swapLoop a outer true true
  else hw.setAxis a (x.setLoop outer { l with waited := l.waited + 1 })

/-- A loop's tick with its formed input: swap, arithmetic, following error (R293) or settling (Table 13.3). Answers whether the axis
still runs. -/
def Hw.runLoop (hw : Hw) (a : Nat) (outer : Bool) (input : Int) : Hw × Bool :=
  let hw := hw.pendingSwap a outer
  let x := hw.axis a
  let l := (x.loop outer).run input (x.reg (if outer then 4 else 3))
  let lim := x.feLimit outer
  if x.state = .run then
    let n := if lim < input.natAbs then l.feRun + 1 else 0
    let hw := hw.setAxis a (x.setLoop outer { l with feRun := n })
    if 0 < n ∧ x.feTime ≤ n then (hw.axisFault a 2 3, false) else (hw, true)
  else
    let n := if 2 * input.natAbs ≤ lim then l.settle + 1 else 0
    (hw.setAxis a (x.setLoop outer { l with settle := n }), true)

/-- An error or a feedback shifted left by ESHIFT and saturated (R288). -/
def Axis.form (x : Axis) (outer : Bool) (e : Int) : Int := sat31 (e * 2 ^ x.eshift outer)

/-! ### Models (Table 13.1, R297) -/

/-- φ of the NCO at a tick. -/
def Axis.phiNow (x : Axis) (t : Nat) : Int := (x.phi + x.nco * (t - x.phiAt) : Nat)

/-- Where the encoder edges of a ROTOR have brought it since the index edge: n_e × 2³² / EPT. -/
def Axis.atEdge (x : Axis) : Rat := ((x.nE * 2 ^ 32 : Nat) : Rat) / ((x.ept : Nat) : Rat)

/-- θ of the model at a tick. -/
def Axis.model (x : Axis) (t : Nat) : Int :=
  match x.kind with
  | 1 => au (sinAngle 1306 x.amp (x.phiNow t - x.psi))
  | 3 =>
    let ahead : Rat := match x.thetaAt with
      | some s => (x.omega : Rat) * ((320 * t : Nat) - (s : Int) : Int) / 320 / 65536
      | none => 0
    au (x.ofs + roundOpen 1307 (x.atEdge + ahead))
  | _ =>
    match x.thetaAt with
    | some s => au (x.theta + roundOpen 1308 ((x.omega : Rat) * ((320 * t : Nat) - (s : Int) : Int) / 320 / 65536))
    | none => au x.theta

/-- ω of the model at a tick, Q16.16: for RESONANT A_m × 2π × f_NCO × cos(φ − ψ), 2π × f standing in radians per tick as the NCO word
over 2³² times 2π (355/113 for π within the open rounding of log entry 48). -/
def Axis.rate (x : Axis) (t : Nat) : Int :=
  if x.kind = 1 then
    clampI (-2147483648) 2147483647
      (roundOpen 1309 ((x.amp : Rat) * 2 * Config.piApprox * (x.nco : Rat) / 4294967296 * Config.cosAu (au (x.phiNow t - x.psi)) * 65536))
  else x.omega

/-- The prediction of an axis published for the next tick start (R297), relayed to the secondaries when CAS_CTL names it (R274). -/
def Hw.publish (hw : Hw) (a : Nat) : Hw :=
  let x := hw.axis a
  let t := hw.pds.tickAt + hw.period
  let p := (x.model t, x.rate t, t)
  let hw : Hw := (hw.setAxis a { x with predNow := some p }).predict a p
  if hw.cas.found ∧ hw.cas.index = 0 ∧ tb (hw.reg 0x00A00000) a then
    hw.casQueue 2 (a * 2 ^ 74 + cx 32 p.1 * 2 ^ 42 + cx 32 p.2.1 * 2 ^ 10)
  else hw

/-- The prediction error at a sample (R297). -/
def Hw.checkPred (hw : Hw) (a t : Nat) (theta : Int) : Hw :=
  let x := hw.axis a
  match x.predNow with
  | none => hw
  | some (p, r, tr) =>
    let e := (au (p + Int.fdiv (r * ((t : Int) - tr)) 65536 - theta)).natAbs
    let hw := hw.setAxis a { x with perrMax := max x.perrMax e }
    if x.reg 9 < e then
      let hw := hw.setAxis a { hw.axis a with sticky := (hw.axis a).sticky ||| 0x100 }
      match x.predWarn with
      | some w => if hw.ticks < w + 800000000 then hw
                  else (hw.setAxis a { hw.axis a with predWarn := some hw.ticks }).raise (fid srcPds 1 5) (le 1 a)
      | none => (hw.setAxis a { hw.axis a with predWarn := some hw.ticks }).raise (fid srcPds 1 5) (le 1 a)
    else hw

/-! ### The computation of an axis in a tick (R285, R289) -/

/-- The trajectory of a QUASI_STATIC axis: FIXED at TGT_A, TRIANGLE between TGT_A and TGT_B at TGT_C per tick (Table 13.1). -/
def Axis.target (x : Axis) : Int := if x.triangle then Int.fdiv x.traj 65536 else x.tgt 0
def Axis.advance (x : Axis) (period : Nat) : Axis :=
  if ¬ x.triangle then x
  else
    let a := x.tgt 0 * 65536
    let b := x.tgt 1 * 65536
    let d := (x.tgt 2).natAbs * period
    let goal := if x.trajUp then b else a
    let left := (goal - x.traj).natAbs
    if left ≤ d then { x with traj := goal, trajUp := !x.trajUp }
    else if x.traj < goal then { x with traj := x.traj + d } else { x with traj := x.traj - d }

/-- The frame boundary a ROTOR counts its target from (Table 13.1): that of the frame running, else the start of the axis. -/
def Hw.fbTick (hw : Hw) (x : Axis) : Nat := if hw.tnd.frameOn ∧ x.startAt ≤ hw.tnd.frameTick then hw.tnd.frameTick else x.startAt

/-- The errors of the outer and the inner loop of an axis at tick start `t`, formed as loop inputs. -/
def Hw.outerInput (hw : Hw) (x : Axis) (t : Nat) : Int :=
  x.form true (match x.kind with
    | 1 => au (x.psi - x.tgt 1)
    | 2 => au (x.target - x.theta)
    | _ => au (x.tgt 1 + roundOpen 1310 (((x.tgt 0 * ((t : Int) - hw.fbTick x) : Int) : Rat) / 65536) - x.model t))
def Axis.innerInput (x : Axis) : Int :=
  match x.kind with
  | 1 => x.form false (au (x.tgt 0 - x.amp))
  | 2 =>
    let fb := match x.in2, x.got2 with
      | 0xFF, _ => x.omega
      | _, some s => s.value
      | _, none => 0
    sat31 (x.setPoint - x.form false fb)
  | _ => x.form false (au (x.tgt 0 + x.setPoint - x.omega))

/-- Whether a STARTING axis has settled (Table 13.3). -/
def Axis.settled (x : Axis) : Bool :=
  decide (x.feTime ≤ x.inner.settle ∧ x.feTime ≤ x.outer.settle) &&
  (match x.kind with
   | 1 => x.fBase.isSome
   | 3 => decide (2 ≤ x.idxSeen)
   | _ => true)

/-- The computation of axis `a` in the present tick, its inputs being complete: the outer loop first on an outer tick, then the inner
loop, then the prediction. -/
def Hw.compute (hw : Hw) (a : Nat) : Hw :=
  let t := hw.pds.tickAt
  let isOuter := hw.pds.tickN % (hw.axis a).div = 0
  let (hw, ok) := if isOuter then hw.runLoop a true (hw.outerInput (hw.axis a) t) else (hw, true)
  if ¬ ok then hw
  else
    let (hw, ok) := hw.runLoop a false (hw.axis a).innerInput
    if ¬ ok then hw
    else
      let x := hw.axis a
      let y := { x with done := true, result := some x.inner.out, missRun := 0
                        nextSet := if isOuter then some x.outer.out else none }
      let y := y.advance hw.period
      let hw := (hw.setAxis a y).publish a
      if (hw.axis a).state = .starting ∧ (hw.axis a).settled then hw.axisTo a .run 2 else hw

/-- A miss of axis `a` (R291). -/
def Hw.axisMiss (hw : Hw) (a : Nat) : Hw :=
  let x := hw.axis a
  let y := { x with done := true, result := none, nextSet := none, got := none, got2 := none, sticky := x.sticky ||| 1
                    missTotal := satAdd 0xFFFFFFFF x.missTotal 1, missRun := min 255 (x.missRun + 1) }
  let hw := hw.setAxis a y
  if x.missLimit ≤ x.missRun + 1 then hw.axisFault a 1 3 else hw

/-- TICK_DEADLINE: 250 ns before the next tick start an axis whose results are not complete has missed (R291). -/
def tickDeadline (a : Nat) (hw : Hw) : Hw :=
  let x := hw.axis a
  if a < 4 ∧ x.live ∧ ¬ x.done ∧ hw.pds.tickAt + hw.period ≤ hw.ticks + 200 then hw.axisMiss a else hw

/-! ### The tick (R289) -/

/-- The results of the previous tick at the outputs: the drive, the inner set-point, the NCO word. -/
def Hw.applyResult (hw : Hw) (a : Nat) : Hw :=
  let x := hw.axis a
  if ¬ x.live then hw
  else
    let hw := match x.result with
      | some u => hw.drive a u
      | none => hw
    let x := hw.axis a
    match x.nextSet with
    | some v =>
      if x.kind = 1 then
        let term := Int.fdiv v 65536
        hw.setAxis a { x with result := none, nextSet := none, term := term, phi := (x.phiNow hw.ticks).toNat % 2 ^ 32, phiAt := hw.ticks
                              nco := ((x.fBase.getD 0 : Int) + term).toNat % 2 ^ 32 }
      else hw.setAxis a { x with result := none, nextSet := none, setPoint := v }
    | none => hw.setAxis a { x with result := none }

/-- No EDGE edge for four expected periods at the present speed or NCO frequency, in RUN (R294). -/
def Axis.edgeLost (x : Axis) (t : Nat) : Bool :=
  match x.tEnc with
  | none => false
  | some s =>
    let dt : Nat := 320 * t - s
    if x.kind = 3 then decide ((4 * 2 ^ 48 * 320 : Int) < dt * x.omega.natAbs * x.ept)
    else if x.kind = 1 then decide (4 * 2 ^ 32 * 320 < dt * x.nco)
    else false

/-- An entry of the history (R298). -/
def Hw.recordPast (hw : Hw) (a : Nat) : Hw :=
  let x := hw.axis a
  let e : AxisPast :=
    if x.kind = 1 then { at' := hw.ticks, res := true, a := x.phiNow hw.ticks, b := x.nco, c := x.amp, d := x.psi }
    else { at' := hw.ticks, a := x.model hw.ticks, b := x.omega }
  hw.setAxis a { x with past := (e :: x.past).take 4096 }

/-- What an axis does at a tick start after the outputs: its registers, its requests, its computation if its inputs are complete. -/
def Hw.startAxis (hw : Hw) (a : Nat) : Hw :=
  let x := hw.axis a
  let hw := hw.setAxis a { x with lat := hw.axLatch a, got := none, got2 := none, done := !x.live }
  let hw := if x.kind = 2 ∧ x.state ≠ .off ∧ x.state ≠ .safe then
      let hw := hw.injectReq x.in1
      if x.in2 ≠ 0xFF then hw.injectReq x.in2 else hw
    else hw
  if ¬ x.live then hw
  else if x.state = .run ∧ x.edgeLost hw.ticks then hw.axisFault a 3 3
  else
    let hw := if hw.pds.tickN % hw.hstep = 0 then hw.recordPast a else hw
    if x.kind = 2 then hw
    else
      let x := hw.axis a
      let amp := roundNear 1311 (((x.gain * ((mget {} hw.sft.chans x.in1 : SftChan).amp : Int) : Int) : Rat) / 16777216)
      let x := if x.kind = 1 then { x with amp := amp } else x
      let hw := hw.setAxis a x
      let hw := hw.setAxis a { x with theta := x.model hw.ticks }
      hw.compute a

/-- PEDESTAL_TICK: every PERIOD reference ticks. An axis whose last tick was neither computed nor abandoned is missed first. The tick start
triggers Tide; a free-running scan whose inputs were all skipped looks again (R309). -/
def pedestalTick (hw : Hw) : Hw :=
  if hw.ticks < hw.pds.tickAt + hw.period then hw
  else
    let hw := (List.range 4).foldl (fun h a => if (h.axis a).live ∧ ¬ (h.axis a).done then h.axisMiss a else h) hw
    let hw := { hw with pds := { hw.pds with tickAt := hw.pds.tickAt + hw.period, tickN := hw.pds.tickN + 1 } }
    let hw := (List.range 4).foldl (fun h a => h.applyResult a) hw
    let hw := (List.range 4).foldl (fun h a => h.startAxis a) hw
    hw.ptickTrigger.scanGo

/-- AXIS_START_TIMEOUT (Table 13.3). -/
def axisStartTimeout (a : Nat) (hw : Hw) : Hw :=
  let x := hw.axis a
  if a < 4 ∧ x.state = .starting ∧ x.startAt + x.startTo ≤ hw.ticks then hw.axisFault a 4 2 else hw

/-- RESONANT_DAC_UPDATE: u_amp × sin(φ) every 1 µs (R299). -/
def resonantDacUpdate (a : Nat) (hw : Hw) : Hw :=
  let x := hw.axis a
  if a < 4 ∧ x.kind = 1 ∧ x.live ∧ x.outKind ≤ 1 then
    hw.driveDac a x (dacCode (x.reg 5) (sinAngle 1312 x.uForce (x.phiNow hw.ticks))) 0
  else hw

/-! ### Samples and edges -/

/-- An injected sample reaches an axis (R291, R294): an over-range one is not used, a clamp flag is a sensor fault; one whose conversion began before
the tick came late and is discarded. -/
def Hw.axisSample (hw : Hw) (a i : Nat) (s : Sample) (v : Int) : Hw :=
  let x := hw.axis a
  if ¬ x.live ∨ x.kind ≠ 2 ∨ (x.in1 ≠ i ∧ x.in2 ≠ i) ∨ x.done ∨ s.tick < hw.pds.tickAt then hw
  else if s.clamp then hw.axisFault a 3 3
  else if s.ovr then
    let hw := hw.setAxis a { x with ovrRun := min 255 (x.ovrRun + 1) }
    if x.ovrLimit ≤ x.ovrRun + 1 then hw.axisFault a 3 3 else hw
  else
    let p : AxisSample := { value := v, at' := s.tick, settling := s.settling }
    let x := { x with ovrRun := 0, sticky := if s.settling then x.sticky ||| 0x80 else x.sticky }
    let (hw, x) := if i = x.in1 then
        let th := au (x.ofs + roundNear 1313 (((x.gain * v : Int) : Rat) / 16777216))
        let w := match x.thetaAt with
          | some s0 => if s0 < 320 * s.tick then roundOpen 1314 (((au (th - x.theta) * 65536 * 320 : Int) : Rat) / ((320 * s.tick - s0 : Nat) : Rat)) else x.omega
          | none => 0
        let hw := (hw.setAxis a x).checkPred a s.tick th
        (hw, { hw.axis a with got := some p, theta := th, thetaAt := some (320 * s.tick), omega := clampI (-2147483648) 2147483647 w })
      else (hw, x)
    let x := if i = x.in2 then { x with got2 := some p } else x
    let hw := hw.setAxis a x
    if x.got.isSome ∧ (x.in2 = 0xFF ∨ x.got2.isSome) then hw.compute a else hw

/-- A scan sample of an axis's input (R294): a clamp flag is a sensor fault; the over-range flags of a RESONANT axis, which no injected conversion
serves, are counted here (log entry 179). -/
def Hw.axisScan (hw : Hw) (a i : Nat) (s : Sample) : Hw :=
  let x := hw.axis a
  if ¬ x.live ∨ ¬ ((x.kind = 1 ∧ x.in1 = i) ∨ (x.kind = 2 ∧ (x.in1 = i ∨ x.in2 = i))) then hw
  else if s.clamp then hw.axisFault a 3 3
  else if x.kind = 2 then hw
  else
    let run := if s.ovr then min 255 (x.ovrRun + 1) else 0
    let hw := hw.setAxis a { x with ovrRun := run, sticky := if s.settling ∧ ¬ s.ovr then x.sticky ||| 0x80 else x.sticky }
    if s.ovr ∧ x.ovrLimit ≤ run then hw.axisFault a 3 3 else hw

/-- A sensor fault of the axes that name an input (R294): a failed impedance check, a broken detector. -/
def Hw.sensorLost (hw : Hw) (i : Nat) : Hw :=
  (List.range 4).foldl (fun h a =>
    let x := h.axis a
    if x.live ∧ ((x.kind = 1 ∧ x.in1 = i) ∨ (x.kind = 2 ∧ (x.in1 = i ∨ x.in2 = i))) then h.axisFault a 3 3 else h) hw

/-- A stamped edge of Daymark input `i` at `s` (1/320 tick) reaches an axis (R285, R294). -/
def Hw.axisEdge (hw : Hw) (a i s : Nat) (rising : Bool) : Hw :=
  let x := hw.axis a
  if ¬ x.live then hw
  else match x.kind with
    | 1 =>
      if x.edge = i then
        hw.setAxis a { x with tEnc := some s, psi := if ¬ rising then x.psi else au (roundOpen 1315 ((x.phi : Rat) + (x.nco : Rat) * ((s : Int) - 320 * x.phiAt : Int) / 320)) }
      else hw
    | 3 =>
      if x.edge = i then
        let w := match x.tEnc with
          | some p => if p < s then roundOpen 1316 (((2 ^ 48 * 320 : Nat) : Rat) / ((x.ept * (s - p) : Nat) : Rat)) else x.omega
          | none => x.omega
        let hw := hw.setAxis a { x with nE := x.nE + 1, tEnc := some s, thetaAt := some s, omega := clampI (-2147483648) 2147483647 w, sinceIdx := x.sinceIdx + 1 }
        let x := hw.axis a
        let hw := hw.checkPred a (s / 320) (au (x.ofs + roundOpen 1307 x.atEdge))
        if 2 * x.ept < x.sinceIdx then hw.axisFault a 3 3 else hw
      else if x.idx = i then
        let hw := hw.setAxis a { x with nE := 0, thetaAt := some s, idxSeen := x.idxSeen + 1, sinceIdx := 0 }
        hw.checkPred a (s / 320) (au x.ofs)
      else hw
    | _ => hw

/-- A frequency result of input `i` reaches the RESONANT axes that use it (R285, R295). -/
def Hw.freqResult (hw : Hw) (i : Nat) : Hw :=
  let f := hw.freqOf i
  (List.range 4).foldl (fun h a =>
    let x := h.axis a
    if x.kind ≠ 1 ∨ x.state = .off ∨ x.edge ≠ i then h
    else
      let hz : Rat := if f.period = 0 then 0 else 800000000 * 4294967296 / (f.period : Rat)
      let lo := bits (x.reg 8) 0 16
      let hi := bits (x.reg 8) 16 16
      let few := tb f.flags 29 || !tb f.flags 31
      let out := decide (lo ≠ 0 ∨ hi ≠ 0) && (decide (hz < (lo : Rat)) || decide ((hi : Rat) < hz))
      if few ∨ out then h.raise (fid srcPds 2 7) (le 1 a)
      else
        let base := (roundNear 1317 (18446744073709551616 / (f.period : Rat))).toNat
        h.setAxis a { x with fBase := some base, phi := (x.phiNow h.ticks).toNat % 2 ^ 32, phiAt := h.ticks
                             nco := ((base : Int) + x.term).toNat % 2 ^ 32 }) hw

/-- Whether Pedestal owns the frequency engine of a Daymark input, or the detector of a Sifter channel (R285, R339). -/
def Hw.ownsFreq (hw : Hw) (i : Nat) : Bool :=
  (List.range 4).any (fun a => decide ((hw.axis a).kind = 1 ∧ (hw.axis a).state ≠ .off ∧ (hw.axis a).edge = i))
def Hw.ownsDet (hw : Hw) (c : Nat) : Bool := (List.range 4).any (fun a => decide ((hw.axis a).kind = 1 ∧ (hw.axis a).in1 = c))

/-! ### Commands (R286, R292, R296) -/

/-- AXIS_CONFIG accepted: the block in force; a RESONANT axis takes its detector (R339). -/
def Hw.configAxis (hw : Hw) (a kind : Nat) (p : List Byte) : Hw :=
  let x := hw.axis a
  let hw := hw.setAxis a { x with kind := kind, cfg := p.take 32 }
  if kind = 1 then
    let r := 0x007A010C + 0x20 * field p 0 1
    hw.setReg r (hw.reg r % 2 ^ 28 + a * 2 ^ 28 + 2 * 2 ^ 30)
  else hw

/-- A start of an axis: STARTING, and its frequency engine set to GATE 100 ms, PRESCALE 1, repeating (R285). -/
def Hw.startAxisRun (hw : Hw) (a : Nat) : Hw :=
  let hw := hw.axisTo a .starting 0
  let x := hw.axis a
  if x.kind = 1 then (hw.setReg (0x00048020 + 4 * x.edge) (100 * 4 + 2)).startGate x.edge else hw

/-- AXIS_ENABLE (R292): the state after it, or the code of its refusal; 0 stands for MODE_CONFLICT. -/
def Hw.enableAxis (hw : Hw) (a st : Nat) : Hw × Option Nat :=
  let x := hw.axis a
  let inUse := decide (hw.dev.mode = .scan) && hw.axesInUse.contains a
  if st ≠ 1 ∧ inUse then (hw, some 0)
  else if x.kind = 0 then (if st = 0 then (hw, none) else (hw, some 0x0504))
  else if (st = 1 ∧ x.live) ∨ (st = 0 ∧ x.state = .off) ∨ (st = 2 ∧ x.state = .safe) then (hw, none)
  else if st = 1 then
    if x.inner.coefs.isEmpty ∨ x.outer.coefs.isEmpty then (hw, some 0x0506)
    else if ¬ fitsTick (hw.tWorstOf (fun b => if b = a then .starting else (hw.axis b).state) (fun b => (hw.axis b).sections)) hw.period then (hw, some 0x0501)
    else if x.state = .fault ∧ hw.isRaised (fid srcPds (if x.faultNum = 4 then 2 else 3) x.faultNum) then (hw, some 0x0502)
    else (hw.startAxisRun a, none)
  else if st = 2 then
    if x.live then (hw.axisTo a .safe 0, none) else (hw, some 0x0502)
  else (hw.axisTo a .off 0, none)

/-- AXIS_COEF (R296): the swap code of its reply, or that the budget would break. -/
def Hw.loadCoefs (hw : Hw) (a : Nat) (outer : Bool) (cs : List (List Int)) : Hw × Option Nat :=
  let x := hw.axis a
  let l := x.loop outer
  let more := fun b => if b = a then (x.loop (!outer)).coefs.length + cs.length else (hw.axis b).sections
  if x.state ≠ .off ∧ ¬ fitsTick (hw.tWorstOf (fun b => (hw.axis b).state) more) hw.period then (hw, none)
  else if x.live then
    let hw := hw.setAxis a (x.setLoop outer { l with pending := some cs, waited := 0, flagged := l.sat })
    (hw, some (b2n l.sat))
  else
    let hw := hw.setAxis a (x.setLoop outer { l with pending := some cs, waited := 0 })
    (hw.swapLoop a outer false false, some 0)

/-! ### Registers (Tables 13.6, 13.7) -/

def Axis.flags (x : Axis) : Nat :=
  let fe := x.state = .run ∧ (0 < x.inner.feRun ∨ 0 < x.outer.feRun)
  (x.sticky &&& 0x1C1) + 32 * b2n (x.inner.flagged || x.outer.flagged) + 16 * b2n x.outer.sat + 8 * b2n x.inner.sat + 4 * b2n (decide fe)

def Hw.pdsView (hw : Hw) (off : Nat) : Nat :=
  let mask := fun s => maskOf ((List.range 4).filter (fun a => decide ((hw.axis a).state = s)))
  if off = 0x04 then mask .fault * 256 + mask .safe * 16 + mask .run
  else if off = 0x08 then hw.hstep % 65536 * 65536 + min 0xFFFF hw.tWorst
  else if 0x80 ≤ off ∧ off < 0x120 then
    let i := (off - 0x80) / 4
    let l := (hw.axis (hw.reg 0x0078000C % 4)).loop (tb (hw.reg 0x0078000C) 4)
    cx 32 ((l.coefs.getD (i / 5) []).getD (i % 5) 0)
  else if 0x200 ≤ off then
    let x := hw.axis ((off - 0x200) / 0x100)
    match (off - 0x200) % 0x100 with
    | 0x1C => field x.cfg 28 3 + x.kind * 2 ^ 24
    | 0x20 => x.ovrRun * 65536 + x.missRun * 256 + x.state.code
    | 0x24 => x.flags
    | 0x4C => cx 32 x.theta
    | 0x50 => cx 32 (match x.predNow with | some p => p.1 | none => 0)
    | 0x54 => cx 32 (match x.predNow with | some p => p.2.1 | none => 0)
    | 0x58 => cx 32 x.inner.input
    | 0x5C => cx 32 x.outer.input
    | 0x60 => x.nco
    | 0x64 => cx 32 x.amp
    | 0x68 => cx 32 x.uForce
    | 0x6C => x.missTotal
    | 0x70 => x.perrMax
    | o => if o < 0x1C then field x.cfg o 4 else 0
  else 0

/-- PDS_PERIOD_WRITE: a write of PDS_CTL (R284). -/
def pdsPeriodWrite (v : Nat) (hw : Hw) : Hw :=
  let p := v % 2 ^ 20
  if (List.range 4).any (fun a => decide ((hw.axis a).state ≠ .off)) then { hw with ack := 0x02, ackData := [] }
  else if p < 3200 ∨ 800000 < p then { hw with ack := 0x05, ackData := [] }
  else
    let hw : Hw := hw.setReg 0x00780000 p
    { hw with ack := 0, ackData := [], pds := { hw.pds with tickAt := hw.ticks } }

end Sys2Proof.Machine
end

