-- ==== Sys2Proof/Machine/Sifter.lean ====
section
/-! DEFINITION. Sifter (chapter 15): slots, half-band stages and FIR, fades, the single-frequency detector, output FIFOs, and the
checks of SIFTER_SET. -/

namespace Sys2Proof.Machine

def Hw.sftc (hw : Hw) (c : Nat) : SftChan := mget {} hw.sft.chans c
def Hw.setSftc (hw : Hw) (c : Nat) (x : SftChan) : Hw := { hw with sft := { hw.sft with chans := mset {} hw.sft.chans c x } }
def sftReg (c off : Nat) : Nat := 0x007A0000 + 0x20 * c + off

/-! ### The chain (R328, R330, R331) -/

/-- A sum of products rounded from `n` fraction bits with halves away from zero and saturated, and whether it saturated. -/
def dot (taps line : List Int) : Int := (taps.zip line).foldl (fun s e => s + e.1 * e.2) 0
def roundSat (x : Int) (n : Nat) : Int × Bool :=
  let y := roundAway x n
  (sat31 y, decide (sat31 y ≠ y))

/-- The 19 symmetric taps of a half-band stage (log entry 47). -/
def halfTaps : List Int := (List.range 19).map (fun i => Config.halfBand (min i (18 - i)))

/-- One sample through the half-band stages: the new stages, what comes out at the end, if anything, and saturation. -/
def runStages : List (List Int × Bool) → Int → List (List Int × Bool) × Option Int × Bool
  | [], x => ([], some x, false)
  | (line, odd) :: r, x =>
    let line := (x :: line).take 19
    if odd then
      let (y, s) := roundSat (dot halfTaps line) 30
      let (r', o, s') := runStages r y
      ((line, false) :: r', o, s || s')
    else ((line, true) :: r, none, false)

/-- The output position of the FIR at its next input: none, or how many inputs to drop and the phase (R328, R331). -/
def SftChan.outputAt (x : SftChan) : Option (Nat × Nat) × Nat :=
  if x.rate = 4 then
    let a := x.frac + 16777216
    if x.ratio ≤ a then
      let r := a - x.ratio
      (some (if r = 0 then (0, 0) else (1, 32 * (16777216 - r % 16777216) / 16777216)), r)
    else (none, a)
  else if (x.firN + 1) % 2 ^ x.mlog = 0 then (some (0, 0), 0) else (none, 0)

/-- The FIR sum of a tap set over a delay line: every tap, or those of a phase under RESAMPLE. -/
def firSum (rate : Nat) (taps line : List Int) (p : Nat × Nat) : Int × Bool :=
  let t := if rate = 4 then (List.range (taps.length / 32)).map (fun j => taps.getD (32 * j + p.2) 0) else taps
  roundSat (dot t (line.drop p.1)) 30

/-- Flag bits of SFT_POP_META. -/
def sampleFlags (s : Sample) : Nat := b2n s.ovr * 2 ^ 24 + b2n s.clamp * 2 ^ 25 + b2n s.settling * 2 ^ 26 + b2n s.tone * 2 ^ 27

/-- An output of a channel (R327, R332, R333, R337). -/
def SftChan.emit (x : SftChan) (time : Nat) (p : Nat × Nat) (sat : Bool) : SftChan × Bool :=
  let x : SftChan := match x.staged with
    | some t => { x with old := x.taps, taps := t, staged := none, fade := 0 }
    | none => x
  let (new, s1) := firSum x.rate x.taps x.line p
  let fading := !x.old.isEmpty
  let (old, s2) := if fading then firSum x.rate x.old x.line p else (0, false)
  let n : Nat := x.fade + 1
  let v := if fading then old + roundOpen 1502 (((new - old) * n : Int) / (max 1 x.fadeLen : Nat)) else new
  let s := sat || s1 || (fading && s2)
  let flags := x.flags ||| (b2n (decide (0 < x.fill)) * 2 ^ 30) ||| (b2n s * 2 ^ 29) ||| (b2n x.stale * 2 ^ 28)
  let o : SftOut := { value := v, flags := flags, seq := x.seq, time := time % 2 ^ 32 }
  let x := { x with
    seq := (x.seq + 1) % 65536, made := (x.made + 1) % 65536, flags := 0, fill := x.fill - 1
    fade := if fading then n else 0, old := if fading ∧ x.fadeLen ≤ n then [] else x.old }
  if x.fifo.length < 16 then ({ x with fifo := x.fifo ++ [o] }, s) else ({ x with dropped := satAdd 0xFFFF x.dropped 1 }, s)

/-- One input through a channel's chain; a saturation between two outputs is flagged on the later one. -/
def SftChan.step (x : SftChan) (time : Nat) : SftChan × Bool :=
  let (st, o, s) := runStages x.stages x.held
  let x := { x with stages := st }
  match o with
  | none => ({ x with flags := x.flags ||| (b2n s * 2 ^ 29) }, s)
  | some y =>
    let (out, frac) := x.outputAt
    let x := { x with line := (y :: x.line).take 256, firN := x.firN + 1, frac := frac }
    match out with
    | some p => x.emit time p s
    | none => ({ x with flags := x.flags ||| (b2n s * 2 ^ 29) }, s)

/-! ### The single-frequency detector (R335, R336) -/

/-- The amplitude and phase of a finished window. -/
def SfdBin.result (b : SfdBin) (site : Nat) : Nat × Int :=
  let n : Rat := (max 1 b.n : Nat)
  (min 0xFFFFFFFF (sqrtOpen site (4 * (b.si * b.si + b.sq * b.sq) / (n * n))), Config.phaseAu b.si b.sq)

/-- One input into a bin whose phase then advances by `word`. -/
def SfdBin.add (b : SfdBin) (v : Rat) (phase word : Nat) : SfdBin :=
  { b with
    si := b.si + v * Config.cosAu (au phase), sq := b.sq + v * Config.sinAu (au phase), n := b.n + 1
    phase := (phase + word) % 2 ^ 32, periods := b.periods + (phase + word) / 2 ^ 32 }

/-- The word of the TRACK bin, absent while it is stopped. -/
def Hw.trackWord (hw : Hw) (c : Nat) : Option Nat :=
  let d := hw.reg (sftReg c 0x10C)
  let src := bits d 30 2
  let src := if src = 3 then Config.reservedMode 1501 % 3 else src
  match src with
  | 1 => some (hw.reg (sftReg c 0x110))
  | 2 => some ((hw.axis (bits d 28 2)).nco * 1024 % 2 ^ 32)
  | _ => none

def Hw.detInt (hw : Hw) (c : Nat) : Nat := let n := bits (hw.reg (sftReg c 0x10C)) 16 6; if n = 0 then 1 else n

/-- The phase of the tone at input `n` of a burst: exact, at FREQ × 100 Hz over 781,250 Hz. -/
def toneAt (freq n : Nat) : Nat := n * freq * 100 * 4294967296 / 781250 % 2 ^ 32

/-- Both bins take the channel's input. -/
def Hw.detect (hw : Hw) (c : Nat) (x : SftChan) : SftChan :=
  let v : Rat := x.held
  let fitted : Rat := match hw.trackWord c with
    | some _ => (x.amp : Rat) * Config.cosAu (au ((x.track.phase : Int) + x.phase))
    | none => 0
  let tone := if tb hw.tid.toneMask c ∧ hw.ticks < hw.tid.toneEnd then
      { x.tone with
        si := x.tone.si + (v - fitted) * Config.cosAu (au (toneAt (bits (hw.reg 0x00790018) 0 9) x.tone.n))
        sq := x.tone.sq + (v - fitted) * Config.sinAu (au (toneAt (bits (hw.reg 0x00790018) 0 9) x.tone.n)), n := x.tone.n + 1 }
    else x.tone
  let x := { x with tone := tone }
  match hw.trackWord c with
  | none => x
  | some w =>
    let b := x.track.add v x.track.phase w
    if hw.detInt c ≤ b.periods then
      let (a, p) := b.result 1503
      { x with track := { phase := b.phase }, amp := a, phase := p }
    else { x with track := b }

/-! ### The slot (R325, R326) -/

/-- SIFTER_SLOT of channel `c`, once per frame of 1,024 ticks, from 32 × c ticks into it. -/
def sifterSlot (c : Nat) (hw : Hw) : Hw :=
  let t := hw.clk.time.toNat
  let x := hw.sftc c
  if 32 ≤ c ∨ t % 1024 < 32 * c ∨ x.frame = some (t / 1024) then hw
  else
    let i := hw.tin c
    let fresh := decide (i.count ≠ x.lastN)
    let x := { x with frame := some (t / 1024), lastN := i.count }
    let x : SftChan := match fresh, i.sample with
      | true, some s => { x with held := normal s.code s.range, flags := x.flags ||| sampleFlags s, missed := 0, stale := false }
      | _, _ => { x with missed := x.missed + 1 }
    let on := x.en && !hw.oddOfPair c
    let goesStale := on && decide (x.missed = 64)
    let x := if goesStale then { x with stale := true } else x
    let x := hw.detect c x
    let (x, sat) := if on then x.step (t - t % 1024 + 32 * c) else (x, false)
    let hw := hw.setSftc c x
    let hw := if goesStale then hw.raise (fid srcSft 1 2) (le 1 c) else hw
    if sat then
      let hw := hw.setReg 0x007A0008 (hw.reg 0x007A0008 ||| 2 ^ c)
      let recent := match x.satWarn with
        | some w => decide (hw.ticks < w + 800000000)
        | none => false
      if recent then hw else (hw.setSftc c { x with satWarn := some hw.ticks }).raise (fid srcSft 1 1) (le 1 c)
    else hw

/-- SIFTER_PARITY_ERROR: the channel is disabled until the next SIFTER_SET (R338). -/
def sifterParityError (c : Nat) (hw : Hw) : Hw :=
  if 32 ≤ c then hw
  else
    let hw := hw.setSftc c { hw.sftc c with en := false, broken := true }
    (hw.raise (fid srcSft 2 3) (le 1 c)).sensorLost c

/-- SFT_POP_VAL: the oldest entry leaves the FIFO of the selected channel; META and TIME are latched (R337). -/
def Hw.popVal (hw : Hw) : Hw × Nat :=
  let c := hw.reg 0x007A000C % 32
  let x := hw.sftc c
  match x.fifo with
  | [] => ({ hw with sft := { hw.sft with popMeta := 2 ^ 31, popTime := 0 } }, 0)
  | o :: r =>
    let hw := hw.setSftc c { x with fifo := r }
    ({ hw with sft := { hw.sft with popMeta := o.flags + r.length * 65536 + o.seq, popTime := o.time } }, cx 32 o.value)

/-- A read of SFT_CH_AMP latches the phase read with it (Table 15.5). -/
def Hw.latchPhase (hw : Hw) (c : Nat) : Hw :=
  { hw with sft := { hw.sft with phaseLatch := mset 0 hw.sft.phaseLatch c (hw.sftc c).phase } }

/-! ### SIFTER_SET (R329 to R334) -/

/-- H, MLOG and the built-in tap count of a preset (Table 15.1). -/
def preset : Nat → Nat × Nat × Nat
  | 0 => (1, 1, 32)
  | 1 => (3, 1, 64)
  | 2 => (5, 1, 128)
  | _ => (6, 3, 256)

/-- R329's budget. -/
def firFits (rate h mlog ratio taps : Nat) : Bool :=
  if rate = 4 then decide (2 * taps * 16777216 ≤ 58 * 32 * ratio) else decide (2 * taps ≤ 58 * 2 ^ h * 2 ^ mlog)

/-- The channel and filter a SIFTER_SET asks for, or the offset, within the opcode's own parameters, of what is wrong: channel 0,
mode 1, taps 2, data 4 (R326, R329 to R331). -/
def Hw.sifterAsk (hw : Hw) (channel mode taps : Nat) (data : List Byte) : Except Nat (Nat × Nat × Nat × Nat × List Int) :=
  let rate := mode % 8
  let coefs := fun (l : List Byte) (n : Nat) => (List.range n).map (fun i => sfield l (4 * i) 4)
  if 31 < channel ∨ hw.oddOfPair channel then .error 0
  else if rate = 5 ∨ rate = 6 ∨ 128 ≤ mode ∨ mode / 8 % 2 = 1 then .error 1
  else if rate = 7 then .ok (7, 0, 0, 0, [])
  else if rate = 4 then
    let h := mode / 16
    let ratio := field data 0 4
    if 6 < h then .error 1
    else if taps = 0 ∨ taps % 32 ≠ 0 ∨ 256 < taps then .error 2
    else if data.length ≠ 4 + 4 * taps ∨ ratio < 16777216 then .error 4
    else if ¬ firFits 4 h 0 ratio taps then .error 2
    else .ok (4, h, 0, ratio, coefs (data.drop 4) taps)
  else
    let (h, m, n) := preset rate
    if 256 < taps then .error 2
    else if data.length ≠ 4 * taps then .error 4
    else
      let t := if taps = 0 then (List.range n).map (fun i => Config.builtinTap rate i) else coefs data taps
      if ¬ firFits rate h m 0 t.length then .error 2 else .ok (rate, h, m, 0, t)

/-- SFT_CH_FADE as it acts: clamped when written (Table 15.5). -/
def Hw.fadeOf (hw : Hw) (c : Nat) : Nat := min 1024 (max 16 (bits (hw.reg (sftReg c 0x108)) 0 11))

/-- The filter takes effect: OFF at once, a fade where the structure stays, a restart otherwise (R332, R333). -/
def Hw.loadFilter (hw : Hw) (c : Nat) (ask : Nat × Nat × Nat × Nat × List Int) : Hw :=
  let (rate, h, mlog, ratio, taps) := ask
  let x := hw.sftc c
  if rate = 7 then hw.setSftc c { x with en := false, old := [], fade := 0, staged := none, rate := 7, taps := [], h := 0, mlog := 0, ratio := 0, broken := false }
  else if x.en ∧ x.rate = rate ∧ x.h = h ∧ x.mlog = mlog ∧ x.ratio = ratio then
    hw.setSftc c { x with staged := some taps, fadeLen := hw.fadeOf c }
  else
    let span := if rate = 4 then ceilDiv (taps.length / 32 * 16777216) (max 1 ratio) else ceilDiv taps.length (2 ^ mlog)
    hw.setSftc c { x with
      en := true, broken := false, rate := rate, h := h, mlog := mlog, ratio := ratio, taps := taps, old := [], fade := 0, staged := none
      stages := List.replicate h ([], false), line := [], firN := 0, frac := 0, fill := span, flags := 0, missed := 0, stale := false }

/-- Whether a fade of the channel runs or is staged (R334). -/
def SftChan.fading (x : SftChan) : Bool := !x.old.isEmpty || x.staged.isSome

/-- SFD_READ: amplitude and phase of the masked channels. -/
def Hw.sfdRead (hw : Hw) (mask : Nat) : List Byte :=
  (setBits 32 mask).flatMap (fun c => le 4 (hw.sftc c).amp ++ leInt 4 (hw.sftc c).phase)

/-- The SFT registers that are views. -/
def Hw.sftView (hw : Hw) (off : Nat) : Nat :=
  if off = 0x00 then maskOf ((List.range 32).filter (fun c => (hw.sftc c).fading))
  else if off = 0x04 then maskOf ((List.range 32).filter (fun c => (hw.sftc c).stale))
  else if off = 0x14 then hw.sft.popMeta
  else if off = 0x18 then hw.sft.popTime
  else if 0x100 ≤ off then
    let c := (off - 0x100) / 0x20
    let x := hw.sftc c
    match (off - 0x100) % 0x20 with
    | 0x00 => b2n (x.en && !hw.oddOfPair c) * 2 ^ 31 + x.rate * 2 ^ 28 + x.h * 2 ^ 24 + x.mlog * 2 ^ 16 + x.taps.length
    | 0x04 => x.ratio
    | 0x14 => x.amp
    | 0x18 => cx 32 (mget x.phase hw.sft.phaseLatch c)
    | 0x1C => x.made * 65536 + x.dropped
    | _ => 0
  else 0

end Sys2Proof.Machine
end

