-- ==== Sys2Proof/Machine/Motion.lean ====
section
/-! DEFINITION. Where the Motion blocks meet: samples delivered to their consumers (R307, R308), the end of an impedance burst
(R315), edges and frequency results that reach Pedestal (R285). -/

namespace Sys2Proof.Machine

/-- TIDE_CONVERSION_END: the sample enters its input, goes to Pedestal if it was injected and to the Keepers (R308); the slice takes the next input (R307,
R311). `broken` tells that the slice's converter failed its built-in check: nothing is delivered and the spare takes over (R320). Behaviour under an excessive clamp current is not defined (R305): the step then stops, see Machine/Exec. -/
def tideConversionEnd (s : Nat) (raw : Int) (ovr clamp broken : Bool) (hw : Hw) : Hw :=
  match (hw.slice s).job with
  | .convert i inj g time tick =>
    if s < 3 ∧ tick + 800 ≤ hw.ticks then
      if broken then (hw.sliceBroken s).endPass else
      let hw := hw.setSlice s { hw.slice s with job := .idle }
      let (hw, smp) := hw.takeSample s i inj g time tick raw ovr clamp
      let v := normal smp.code smp.range
      let hw := (List.range 4).foldl (fun h a => if inj then h.axisSample a i smp v else h.axisScan a i smp) hw
      let hw := hw.kprTide i (Int.fdiv v 65536) (smp.ovr || smp.clamp)
      (hw.swapSlices.assign).endPass
    else hw
  | _ => hw

/-- Whether the conversion of a slice ends now. -/
def Hw.conversionDue (hw : Hw) (s : Nat) : Bool :=
  match (hw.slice s).job with
  | .convert _ _ _ _ tick => decide (s < 3 ∧ tick + 800 ≤ hw.ticks)
  | _ => false

/-- One input at the end of a burst (R315): the amplitude of its TONE bin, the verdict, who is told. The byte that says OPEN or
SHORT has no stated code: it is free (log entry 1). -/
def Hw.judgeTone (hw : Hw) (i : Nat) : Hw :=
  let x := hw.sftc i
  let (a, p) := x.tone.result 1504
  let hw := hw.setSftc i { x with toneAmp := a, tonePhase := p, tone := {} }
  if hw.impBad i a then
    let (k, hw) := hw.draw
    let hw := { hw with tid := { hw.tid with impFail := hw.tid.impFail ||| 2 ^ i } }
    ((hw.raise (fid srcTid 1 2) (le 1 i ++ le 1 k)).sensorLost i).kprImpedance i
  else { hw with tid := { hw.tid with impFail := putBit hw.tid.impFail i false } }

/-- TONE_BURST_END. -/
def toneBurstEnd (hw : Hw) : Hw :=
  if hw.tid.toneMask = 0 ∨ hw.ticks < hw.tid.toneEnd then hw
  else
    let l := setBits 32 hw.tid.toneMask
    let hw := { hw with tid := { hw.tid with toneMask := 0 } }
    l.foldl (fun h i => h.judgeTone i) hw

/-- DMK_EDGE: stamped, and offered to Pedestal's axes if it was (R146, R285). -/
def motionEdge (i : Nat) (rising : Bool) (fine : Nat) (hw : Hw) : Hw :=
  let taken := hw.dmkStamps i rising
  let s := 320 * hw.ticks + fine % 320
  let hw := dmkEdge i rising fine hw
  let s := if (hw.dmkIn i).coarse then 320 * hw.ticks else s
  if taken then (List.range 4).foldl (fun h a => h.axisEdge a i s rising) hw else hw

/-- DMK_FREQ_GATE_END: the fit, and its result to Pedestal (R149, R285). -/
def motionGateEnd (i : Nat) (hw : Hw) : Hw :=
  let f := hw.freqOf i
  let due := decide (i < 4) && f.running && (decide (f.gateEnd ≤ hw.ticks) || decide (65536 ≤ f.n))
  let hw := freqGateEnd i hw
  if due then hw.freqResult i else hw

end Sys2Proof.Machine
end

