-- ==== Sys2Proof/Machine/Cal.lean ====
section
/-! DEFINITION. CAL and the Pantry's wear levelling (chapter 17): forms, preconditions and limits of each quantity, a run, the
temperature sets and the values in force, camera geometry. -/

namespace Sys2Proof.Machine

/-! ### The Pantry's blocks (R370, R371) -/

/-- First logical block and count of a region: 0 Logbook, 1 boot profile, 2 security, 3 global calibration, 4 factory set, 5 + s
temperature set s, 13 hot-pixel mask. -/
def regionBlocks (r : Nat) : Nat × Nat :=
  match r with
  | 0 => (0, 1)
  | 1 => (1, 1)
  | 2 => (2, 1)
  | 3 => (3, 4)
  | 4 => (7, 4)
  | 13 => (43, 38)
  | _ => (11 + 4 * (r - 5), 4)

/-- Blocks 0 to 2 are the boot record and the directory copies, 3 to 83 the first places of the logical blocks, 84 to 403 the
images, 404 to 511 spare at first (log entry 56). -/
def PantryMap.placeOf (m : PantryMap) (l : Nat) : Nat := mget (3 + l) m.place l
def PantryMap.isSpare (m : PantryMap) (b : Nat) : Bool :=
  (decide (404 ≤ b ∧ b < 512) && !m.taken.contains b || m.freed.contains b) && !m.retired.contains b
def PantryMap.spares (m : PantryMap) : List Nat := (List.range 512).filter (fun b => m.isSpare b)
def PantryMap.writesOf (m : PantryMap) (b : Nat) : Nat := mget 0 m.writes b

/-- One write of a physical block; at 90,000,000 it is retired (R371). -/
def PantryMap.hit (m : PantryMap) (b : Nat) : PantryMap :=
  let n := m.writesOf b + 1
  { m with writes := mset 0 m.writes b n, retired := if n = 90000000 then m.retired ++ [b] else m.retired }

/-- A write of a logical block: to the spare with the lowest count, the older directory copy after it. -/
def PantryMap.write (m : PantryMap) (l : Nat) : PantryMap :=
  let old := m.placeOf l
  let best := m.spares.foldl (fun (o : Option Nat) b =>
    match o with
    | none => some b
    | some x => if m.writesOf b < m.writesOf x then some b else some x) none
  match best with
  | none => m.hit old
  | some b =>
    let m := m.hit b
    let m := { m with place := mins (mdel m.place l) l b, dirSeq := m.dirSeq + 1
                      freed := (m.freed.filter (fun x => decide (x ≠ b))) ++ [old], taken := if 404 ≤ b then m.taken ++ [b] else m.taken }
    m.hit (1 + m.dirSeq % 2)

/-- Writes of every block of a region; fewer than 16 spare blocks raise F.CAL.011. -/
def Hw.pantryWrite (hw : Hw) (region : Nat) : Hw :=
  let (first, n) := regionBlocks region
  let m := (List.range n).foldl (fun m i => m.write (first + i)) hw.pantry.map
  let hw := { hw with pantry := { hw.pantry with map := m } }
  if m.spares.length < 16 ∧ ¬ hw.isRaised (fid srcCal 1 11) then hw.raise (fid srcCal 1 11) (le 2 first) else hw

/-! ### Temperatures and values in force (R364, R365, R501) -/

/-- T_die: the mean of the 8 on-die sensors, in 1/64 °C. -/
def Hw.tDie (hw : Hw) : Int :=
  roundOpen 1701 (((List.range 8).foldl (fun (s : Int) j => s + mget (0 : Int) hw.temps j) 0 : Int) / (8 : Rat))

def Hw.deltaT (hw : Hw) : Int := 4 * (bits (hw.reg 0x00800000) 24 8 : Int)

/-- The values of the factory set: those CAL_FACTORY stored, else Glodehel's (log entry 53). -/
def Hw.factorySet (hw : Hw) : CalSet :=
  match hw.pantry.factory with
  | some s => s
  | none =>
    { temp := 1600
      skew := (List.range 768).foldl (fun m k => mset 0 m k (Config.factory 0 k % 2 ^ 24)) []
      vgain := (List.range 1632).foldl (fun m k => mset 0 m k (Config.factory 1 k % 2 ^ 32)) []
      walk := (List.range 64).foldl (fun m k => mset 0 m k (Config.factory 2 k % 80)) []
      xgain := (List.range 4).foldl (fun m k => mset 0 m k (Config.factory 3 k % 2 ^ 32)) [] }
def Hw.factoryGlobals (hw : Hw) : CalGlobal :=
  match hw.pantry.factoryGlobal with
  | some g => g
  | none =>
    { breakdown := (List.range 1153).foldl (fun m k => mset 0 m k (Config.factory 4 k % 2 ^ 24)) []
      tables := (List.range 3).foldl (fun m t => (List.range 512).foldl (fun m i => mset 0 m (1024 * t + i) (Config.factory 5 (1024 * t + i) &&& detTabMask t i)) m) []
      slices := (List.range 3).map (fun s => ((List.range 4).map (fun g => (Config.factory 6 (4 * s + g) : Int)), (List.range 4).map (fun g => (Config.factory 7 (4 * s + g) : Int))))
      age := Config.factory 8 0 % 2 ^ 23 }

/-- The occupied sets, and those that take part in R365: as S08 loaded them and as runs since wrote them, or with none the factory set alone
(R501; log entry 185). -/
def Hw.setAt (hw : Hw) (s : Nat) : Option CalSet := mget none hw.pantry.sets s
def Hw.activeSets (hw : Hw) : List CalSet :=
  let l := (List.range 8).filterMap (fun s => if hw.cal.loaded.contains s then hw.setAt s else none)
  if l.isEmpty then [hw.factorySet] else l

/-- A value at T_die between the nearest sets on either side (R365). -/
def interpolate (sets : List CalSet) (t : Int) (get : CalSet → Int) : Int :=
  let below := (sets.filter (fun s => decide (s.temp ≤ t))).foldl (fun (o : Option CalSet) s =>
    match o with
    | none => some s
    | some x => if x.temp < s.temp then some s else some x) none
  let above := (sets.filter (fun s => decide (t ≤ s.temp))).foldl (fun (o : Option CalSet) s =>
    match o with
    | none => some s
    | some x => if s.temp < x.temp then some s else some x) none
  match below, above with
  | some a, some b =>
    if a.temp = b.temp then get a
    else get a + roundNear 1702 ((((get b - get a) * (t - a.temp) : Int) : Rat) / ((b.temp - a.temp : Int) : Rat))
  | some a, none => get a
  | none, some b => get b
  | none, none => 0

/-- A packed pair of vernier gains interpolated half by half (Table 7.9). -/
def gainPair (sets : List CalSet) (t : Int) (i : Nat) : Nat :=
  let half := fun (lo : Nat) => (interpolate sets t (fun s => (bits (mget 0 s.vgain i) lo 16 : Int))).toNat % 65536
  half 16 * 65536 + half 0

/-- The values in force computed for the present T_die. -/
def Hw.applySets (hw : Hw) : Hw :=
  let t := hw.tDie
  let sets := hw.activeSets
  let hw := (List.range 768).foldl (fun h k => h.setReg (chanReg k 0) (cx 24 (interpolate sets t (fun s => sx 24 (mget 0 s.skew k))))) hw
  let hw := (List.range 4).foldl (fun h b => h.setReg (0x000280B0 + 4 * b) (interpolate sets t (fun s => ((mget 0 s.xgain b : Nat) : Int))).toNat) hw
  { hw with
    vgain := (List.range 1632).foldl (fun m i => mset 0 m i (gainPair sets t i)) hw.vgain
    cal := { hw.cal with
      tForce := t, recompute := false
      walk := (List.range 64).foldl (fun m i => mset 0 m i (interpolate sets t (fun s => ((mget 0 s.walk i : Nat) : Int))).toNat) [] } }

/-- New values take effect at once in CONFIG and BOOT, at the next frame boundary in SCAN, GUARD and SERVICE (R361, R365). -/
def Hw.recomputeValues (hw : Hw) : Hw :=
  match hw.dev.mode with
  | .scan => { hw with cal := { hw.cal with recompute := true } }
  | .guard => { hw with cal := { hw.cal with recompute := true } }
  | .service => { hw with cal := { hw.cal with recompute := true } }
  | _ => hw.applySets

/-- The quantity bits that a temperature indexes: VERNIER, SKEW, EWALK, XGAIN. -/
def indexed (q : Nat) : Bool := decide (q = 0 ∨ q = 1 ∨ q = 4 ∨ q = 7)

/-! ### A quantity (R356 to R358) -/

/-- The forms of Table 17.2. -/
inductive CalForm where
  | run
  | gaps
  | passive
  | check
  deriving DecidableEq, Repr

def calForm (m : Mode) (q : Nat) : Option CalForm :=
  match m, q with
  | .config, 0 => some .run | .config, 1 => some .run | .config, 3 => some .run | .config, 5 => some .run | .config, 6 => some .passive
  | .scan, 0 => some .gaps | .scan, 1 => some .gaps | .scan, 4 => some .passive | .scan, 6 => some .passive | .scan, 7 => some .passive
  | .guard, 0 => some .check | .guard, 1 => some .check | .guard, 4 => some .check | .guard, 6 => some .check | .guard, 7 => some .check
  | .service, 6 => some .passive
  | .service, 8 => some .check
  | .service, q => if q < 8 then some .run else none
  | .config, 8 => some .check | .scan, 8 => some .check | .guard, 8 => some .check
  | _, _ => none

/-- Whether every quantity of a mask has a form in the present mode (R357). -/
def Hw.calAllowed (hw : Hw) (mask : Nat) : Bool := (setBits 9 mask).all (fun q => (calForm hw.dev.mode q).isSome)

/-- The code of the first precondition of Table 17.3 that fails; 0x0602 comes with the observation (log entry 55). -/
def Hw.calPre (hw : Hw) (q : Nat) : Option Nat :=
  let quiet := if hw.dev.mode = .service then
      (List.range 4).all (fun b => match (hw.bank b).lastFire with | some t => decide (t + 8000000 ≤ hw.ticks) | none => true)
    else hw.bcn.inhibited
  let hv : Bool := match hw.spd.hvInSince with | some t => decide (t + 800000000 ≤ hw.ticks) | none => false
  let fit := (List.range 4).any (fun b => tb (hw.bankReg b) 0) && (List.range 16).any (fun g => !tb hw.spd.lampUnfit g)
  match q with
  | 2 => if ¬ quiet then some 0x0601 else if ¬ hv then some 0x0603 else none
  | 3 => if ¬ quiet then some 0x0601 else if ¬ hv then some 0x0603 else none
  | 6 => if hw.clk.present ∨ hw.out.ptpSeen then none else some 0x0604
  | 4 => if fit then none else some 0x0605
  | 1 => if hw.dev.mode = .config ∨ fit then none else some 0x0605
  | 7 => if (List.range 4).all (fun b => !tb (hw.bankReg b) 0 || !tb hw.lnt.invalid b) then none else some 0x0606
  | 8 => if (hw.port 0).geom.isEmpty ∧ (hw.port 1).geom.isEmpty then some 0x0607 else none
  | _ => none

/-- The check code of camera values (R352): K then E in Q16.16, the image at full sensor resolution. -/
def cameraCheck (w h : Nat) (g : List Int) : Nat :=
  let k := fun i => g.getD i 0
  let one : Int := 65536
  let foc := fun x => decide (one ≤ x) && decide (x ≤ 65535 * one)
  let e := fun i j => ((g.getD (9 + 4 * i + j) 0 : Int) : Rat) / 65536
  let rrt := fun i j => e i 0 * e j 0 + e i 1 * e j 1 + e i 2 * e j 2
  let det := e 0 0 * (e 1 1 * e 2 2 - e 1 2 * e 2 1) - e 0 1 * (e 1 0 * e 2 2 - e 1 2 * e 2 0) + e 0 2 * (e 1 0 * e 2 1 - e 1 1 * e 2 0)
  let off := (List.range 3).any (fun i => (List.range 3).any (fun j =>
    let d := rrt i j - (if i = j then 1 else 0)
    decide (1 / 256 < d) || decide (d < -(1 / 256))))
  let tBad := (List.range 3).any (fun i => decide (100 < e i 3) || decide (e i 3 < -100))
  if ¬ foc (k 0) ∨ ¬ foc (k 4) ∨ k 2 < 0 ∨ one * w ≤ k 2 ∨ k 5 < 0 ∨ one * h ≤ k 5 ∨ k 6 ≠ 0 ∨ k 7 ≠ 0 ∨ k 8 ≠ one then 1
  else if off ∨ det < 0 then 2
  else if tBad then 3
  else 0

/-- Whether the values measured for a quantity are plausible (Table 17.1): the offending index if not. -/
def Hw.calBad (hw : Hw) (q : Nat) (d : List Int) : Option Nat :=
  let at' := fun i => d.getD i 0
  match q with
  | 0 => ((List.range 1632).find? (fun i =>
      [0, 16].any (fun lo =>
        let g : Int := bits (at' i).toNat lo 16
        decide (15625 * g < 15250 * 32768) || decide (16000 * 32768 < 15625 * g)))).map (fun i => 16 * (i / 34) + i % 34 / 2)
  | 1 =>
    let lamp := if hw.dev.mode = .config then hw.cal.lamp else at' 768
    (List.range 768).find? (fun k => decide (4096 < (at' k + lamp + sx 24 (hw.reg 0x00800038) - sx 24 (hw.reg (chanReg k 0))).natAbs))
  | 2 =>
    let v := fun r => (bits (at' r).toNat 0 16 : Int)
    let all := (List.range 1153).map v
    let lo := all.foldl min (v 0)
    let hi := all.foldl max (v 0)
    match (List.range 1153).find? (fun r => decide (v r < 19500 ∨ 22500 < v r ∨ bits (at' r).toNat 16 8 < 140 ∨ 160 < bits (at' r).toNat 16 8)) with
    | some r => some r
    | none => if 700 < hi - lo then some 0 else none
  | 3 =>
    let masked := (List.range 36864).foldl (fun n w => n + popCount 32 (mget 0 hw.spd.maskShadow w)) 0
    if 11796 < masked + d.length then some 0 else none
  | 4 =>
    let ws := (List.range 64).map (fun i => if at' i < 0 then ((mget 0 hw.cal.walk i : Nat) : Int) else at' i)
    if 79 < ws.foldl max (ws.headD 0) - ws.foldl min (ws.headD 0) then some 0 else none
  | 5 => (List.range 3).find? (fun s => !calPasses ((d.drop (8 * s)).take 4) ((d.drop (8 * s + 4)).take 4))
  | 6 => if 2000000 < (at' 0).natAbs ∨ 40000 < (at' 0 - hw.age).natAbs then some 0 else none
  | 7 => (List.range 4).find? (fun b =>
      let c : Int := hw.reg (0x000280B0 + 4 * b)
      decide (c < 4 * ((at' b - c).natAbs : Int)))
  | _ => ([0, 1] : List Nat).find? (fun p => !(hw.port p).geom.isEmpty && decide (cameraCheck (hw.port p).width (hw.port p).height (hw.port p).geom ≠ 0))

/-- The timeout of a quantity in ms (Table 17.1); GUARD takes SCAN's (log entry 186). -/
def calTimeout (m : Mode) (q : Nat) : Nat :=
  let scan := decide (m = .scan ∨ m = .guard)
  match q with
  | 0 => if scan then 2000 else 50
  | 1 => if scan then 2000 else 50
  | 2 => 2000
  | 3 => 500
  | 4 => 10000
  | 5 => 50
  | 6 => 2000000
  | 7 => 10000
  | _ => 1
def Hw.calLate (hw : Hw) (q : Nat) : Bool := decide (hw.cal.qAt + 800000 * calTimeout hw.dev.mode q < hw.ticks)

/-- Whether a quantity that measures in shot gaps has its events on every placed channel: 16,384 per vernier, or 1,024 injections (R363,
Table 17.1). -/
def Hw.gapsDone (hw : Hw) (q : Nat) : Bool :=
  if 2 ≤ q ∨ (hw.dev.mode ≠ .scan ∧ hw.dev.mode ≠ .guard) then true
  else match hw.tnd.active with
    | none => true
    | some p => p.tracks.all (fun e =>
        let n := fun v => mget 0 hw.cal.events (4 * e.1 + v)
        if q = 0 then (List.range 4).all (fun v => decide (16384 ≤ n v)) else decide (1024 ≤ n 0 + n 1 + n 2 + n 3))

/-- The result and code of a quantity from its observation (R358, R361, R362, Table 17.4); none while it still measures: an observation of code
3, or events missing, before its timeout. -/
def Hw.calJudge (hw : Hw) (q : Nat) (obs : StepObs) : Option (Nat × Nat) :=
  match hw.calPre q with
  | some c => some (2, c)
  | none =>
    if obs.code = 0x0602 ∧ (q = 2 ∨ q = 3) then some (2, 0x0602)
    else if hw.calLate q then some (3, 0)
    else if 64 < (hw.tDie - hw.cal.tQ).natAbs then some (5, 0)
    else if obs.code = 3 ∨ ¬ hw.gapsDone q then none
    else if q = 4 ∧ (obs.data.filter (fun x => decide (0 ≤ x))).length < 4 then some (3, 0)
    else
      let check := decide (calForm hw.dev.mode q = some .check)
      match hw.calBad q obs.data with
      | none => some (if check ∧ q ≠ 8 then 7 else 1, 0)
      | some i => some (if check then 8 else 4, i)

/-! ### A run (R361, R362) -/

/-- Faults of a quantity's end. -/
def Hw.calTell (hw : Hw) (q r : Nat) : Hw :=
  if r = 8 then (if hw.dev.mode = .guard then hw.raise (fid srcCal 1 2) (le 2 q) else hw)
  else if r = 1 ∨ r = 7 then hw
  else hw.raise (fid srcCal 1 1) (le 2 q)

/-- SPD_CTL.TRIM_FREEZE as CAL sets or clears it for BREAKDOWN, outside the lock of host writes (R357). -/
def Hw.trimHold (hw : Hw) (on : Bool) : Hw := hw.setReg 0x00030000 (putBit (hw.reg 0x00030000) 8 on)

/-- The next quantity of the queue begins: TIDE suspends scan passes while it measures (R321), BREAKDOWN holds the trims (R357). -/
def Hw.calNext (hw : Hw) : Hw :=
  let q := hw.cal.queue.head?
  let hw : Hw := { hw with
    cal := { hw.cal with tQ := hw.tDie, qAt := hw.ticks, events := [] }
    tid := { hw.tid with fgCal := decide (q = some 5) } }
  if q = some 2 then hw.trimHold true else hw

/-- A run begins: its quantities in bit order. -/
def Hw.calBegin (hw : Hw) (mask : Nat) : Hw :=
  ({ hw with cal := { hw.cal with queue := setBits 9 mask, outcome := [], staged := [], tRun := hw.tDie, running := mask % 512 } } : Hw).calNext

/-- What one step of a run does: the next quantity in order ends, unless it still measures. -/
def Hw.calStep (hw : Hw) (obs : StepObs) : Hw :=
  match hw.cal.queue with
  | [] => hw
  | q :: rest =>
    match hw.calJudge q obs with
    | none => hw
    | some (r, c) =>
    let hw := hw.calTell q r
    let hw := if q = 2 then hw.trimHold false else hw
    let hw := { hw with cal := { hw.cal with
      queue := rest, running := putBit hw.cal.running q false
      outcome := hw.cal.outcome ++ [(q, r, c)], staged := if r = 1 then hw.cal.staged ++ [(q, obs.data)] else hw.cal.staged
      result := mset (0, 0, 0) hw.cal.result q (r, c, hw.clk.time) } }
    let hw := hw.calNext
    if q = 5 then hw.scanGo else hw

/-- The run is aborted: what has not ended is ABORTED, nothing commits (Table 17.4). -/
def Hw.calAbort (hw : Hw) : Hw :=
  let hw := if hw.cal.queue.head? = some 2 then hw.trimHold false else hw
  let hw := (hw.cal.queue).foldl (fun h q => (h.calTell q 6)) hw
  let left := hw.cal.queue ++ (hw.cal.staged.map (·.1))
  { hw with
    cal := { hw.cal with
      queue := [], staged := [], running := 0
      outcome := hw.cal.outcome.map (fun e => if hw.cal.staged.any (fun s => decide (s.1 = e.1)) then (e.1, 6, 0) else e) ++ hw.cal.queue.map (fun q => (q, 6, 0))
      result := left.foldl (fun m q => mset (0, 0, 0) m q (6, 0, hw.clk.time)) hw.cal.result }
    tid := { hw.tid with fgCal := false } }

/-- The set a run writes to (R364). -/
def Hw.setSlot (hw : Hw) (t : Int) : Nat :=
  let occ := (List.range 8).filterMap (fun s => (hw.setAt s).map (fun x => (s, (x.temp - t).natAbs)))
  let near := occ.foldl (fun (o : Option (Nat × Nat)) e =>
    match o with
    | none => some e
    | some x => if e.2 < x.2 then some e else some x) none
  match near with
  | none => 0
  | some (s, d) =>
    if 2 * (d : Int) ≤ hw.deltaT then s
    else match (List.range 8).find? (fun s => (hw.setAt s).isNone) with
      | some f => f
      | none => s

/-- The set of the values in force. -/
def Hw.forceSet (hw : Hw) : CalSet :=
  { temp := hw.cal.tRun, time := hw.clk.time
    skew := (List.range 768).foldl (fun m k => mset 0 m k (hw.reg (chanReg k 0) % 2 ^ 24)) []
    vgain := hw.vgain, walk := hw.cal.walk
    xgain := (List.range 4).foldl (fun m b => mset 0 m b (hw.reg (0x000280B0 + 4 * b))) [] }

/-- A temperature-indexed quantity's measured values put into a set. -/
def Hw.putQuantity (hw : Hw) (s : CalSet) (q : Nat) (d : List Int) : CalSet :=
  let at' := fun i => d.getD i 0
  match q with
  | 0 => { s with vgain := (List.range 1632).foldl (fun m i => mset 0 m i ((at' i).toNat % 2 ^ 32)) [] }
  | 1 =>
    let lamp := if hw.dev.mode = .config then hw.cal.lamp else at' 768
    { s with skew := (List.range 768).foldl (fun m k => mset 0 m k (cx 24 (at' k + lamp + sx 24 (hw.reg 0x00800038)))) [] }
  | 4 => { s with walk := (List.range 64).foldl (fun m i => if at' i < 0 then m else mset 0 m i (at' i).toNat) s.walk }
  | _ => { s with xgain := (List.range 4).foldl (fun m b => mset 0 m b ((at' b).toNat % 2 ^ 32)) [] }

/-- The global values in force (log entry 54). -/
def Hw.globalsNow (hw : Hw) : CalGlobal :=
  { breakdown := hw.spd.breakdown, tables := hw.det.active, slices := hw.tid.slices.map (fun s => (s.off, s.gc))
    age := hw.reg 0x00040008, zero := hw.reg 0x00800038, lamp := hw.cal.lamp
    geom := (List.range 2).foldl (fun m p => mset [] m p (hw.port p).geom) [] }
def Hw.storeGlobals (hw : Hw) (g : CalGlobal) : Hw :=
  ({ hw with pantry := { hw.pantry with global := some g } } : Hw).pantryWrite 3

/-- A global quantity's commit: BREAKDOWN, DARK, TIDE, AGE. -/
def Hw.putGlobal (hw : Hw) (q : Nat) (d : List Int) : Hw :=
  match q with
  | 2 => { hw with spd := { hw.spd with breakdown := (List.range 1153).foldl (fun m r => mset 0 m r ((d.getD r 0).toNat % 2 ^ 24)) [] } }
  | 3 =>
    let sh := d.foldl (fun m x =>
      let c := x.toNat
      let w := 48 * (c / 1536) + c % 1536 / 32
      mset 0 m w (mget 0 m w ||| 2 ^ (c % 32))) hw.spd.maskShadow
    maskCommit { hw with spd := { hw.spd with maskShadow := sh } }
  | 5 => { hw with tid := { hw.tid with slices := (List.range 3).map (fun s =>
      { hw.slice s with off := (d.drop (8 * s)).take 4, gc := (d.drop (8 * s + 4)).take 4, calAt := hw.ticks }) } }
  | 6 => hw.setReg 0x00040008 (ageCode (d.getD 0 0))
  | _ => hw

/-- Global values a run has measured take effect (R361). -/
def Hw.putGlobals (hw : Hw) (l : List (Nat × List Int)) : Hw := l.foldl (fun (h : Hw) e => h.putGlobal e.1 e.2) hw

/-- What CAL holds for a frame boundary, which an entry to CONFIG also brings into force. -/
def Hw.calBoundary (hw : Hw) : Hw :=
  let hw : Hw := ({ hw with cal := { hw.cal with held := [] } } : Hw).putGlobals hw.cal.held
  if hw.cal.recompute then hw.applySets else hw

/-- FRAME_BOUNDARY as a whole: the boundary, and what CAL holds for it. -/
def boundaryAll (hw : Hw) : Hw :=
  let due := hw.framesRun && hw.boundaryDue
  let hw := frameBoundary hw
  if due then hw.calBoundary else hw

/-- The commit of a run in its final step: to the Pantry at once, in force at once in CONFIG and at the next boundary in SCAN and SERVICE (R361,
R364). -/
def Hw.calCommit (hw : Hw) : Hw :=
  let st := hw.cal.staged
  let ix := st.filter (fun e => indexed e.1)
  let gl := st.filter (fun e => !indexed e.1 && decide (e.1 ≠ 3))
  let hw : Hw := hw.putGlobals (st.filter (fun e => decide (e.1 = 3)))
  let lamp := match ix.find? (fun e => decide (e.1 = 1)) with
    | some e => if hw.dev.mode = .config then hw.cal.lamp else e.2.getD 768 0
    | none => hw.cal.lamp
  let hw : Hw := { hw with cal := { hw.cal with lamp := lamp } }
  let later := hw.dev.mode = .scan ∨ hw.dev.mode = .service
  let hw := if gl.any (fun e => decide (e.1 ≠ 8)) ∨ ix.any (fun e => decide (e.1 = 1)) then
      let g := (hw.putGlobals gl).globalsNow
      let hw : Hw := if later then { hw with cal := { hw.cal with held := hw.cal.held ++ gl } } else hw.putGlobals gl
      hw.storeGlobals g
    else hw
  let hw : Hw := if ix.isEmpty then hw
    else
      let slot := hw.setSlot hw.cal.tRun
      let s := ix.foldl (fun s e => hw.putQuantity s e.1 e.2) hw.forceSet
      let s := { s with mask := maskOf (ix.map (·.1)) }
      let hw : Hw := { hw with
        pantry := { hw.pantry with sets := mset none hw.pantry.sets slot (some s) }
        cal := { hw.cal with
          loaded := if hw.cal.loaded.contains slot then hw.cal.loaded else hw.cal.loaded ++ [slot]
          tLast := ix.foldl (fun m e => mset none m e.1 (some hw.cal.tRun)) hw.cal.tLast
          due := ix.foldl (fun d e => putBit d e.1 false) hw.cal.due, dueTold := ix.foldl (fun d e => putBit d e.1 false) hw.cal.dueTold } }
      (hw.pantryWrite (5 + slot)).recomputeValues
  { hw with cal := { hw.cal with staged := [], running := 0 }, tid := { hw.tid with fgCal := false } }

/-- The status, its code and the result bytes of a finished run (R362). -/
def calStatus (out : List (Nat × Nat × Nat)) : Nat × Nat × List Byte :=
  let bytes := out.flatMap (fun e => le 1 e.1 ++ le 1 e.2.1 ++ le 2 e.2.2)
  match out.find? (fun e => decide (e.2.1 ≠ 1 ∧ e.2.1 ≠ 7 ∧ e.2.1 ≠ 8)) with
  | none => (0, 0, bytes)
  | some (_, 2, c) => (6, c, bytes)
  | some (_, 3, _) => (7, 0, bytes)
  | some (_, 4, _) => (6, 0x06F0, bytes)
  | some (_, 5, _) => (6, 0x06F1, bytes)
  | some _ => (2, 0, bytes)

/-- Whether every quantity that ran was committed, so that count C of S08 returns to 0 (R362). -/
def calClean (out : List (Nat × Nat × Nat)) : Bool := out.all (fun e => decide (e.2.1 = 1))

/-! ### Due quantities (R365, R366) -/

/-- The temperatures are read: in CONFIG what waited for a boundary takes effect. T_die has moved: values in force are recomputed after 0.25 °C, indexed quantities become due after ΔT; F.CAL.005 once for a
quantity that the mode does not allow. -/
def Hw.calTemps (hw : Hw) : Hw :=
  let t := hw.tDie
  let hw := if hw.dev.mode = .config then hw.calBoundary else hw
  let hw := if 16 ≤ (t - hw.cal.tForce).natAbs ∧ hw.dev.mode ≠ .boot then hw.recomputeValues else hw
  if ¬ tb (hw.reg 0x00800000) 16 then hw
  else [0, 1, 4, 7].foldl (fun h q =>
    match mget none h.cal.tLast q with
    | none => h
    | some tq =>
      if h.deltaT < ((t - tq).natAbs : Int) then
        let h := { h with cal := { h.cal with due := putBit h.cal.due q true } }
        let may : Bool := match calForm h.dev.mode q with
          | some .check => false
          | some _ => true
          | none => false
        if may || tb h.cal.dueTold q then h
        else ({ h with cal := { h.cal with dueTold := putBit h.cal.dueTold q true } } : Hw).raise (fid srcCal 0 5) (le 2 q)
      else h) hw

/-- The due quantities that the mode lets run now. -/
def Hw.calDueNow (hw : Hw) : Nat :=
  maskOf ((setBits 9 hw.cal.due).filter (fun q => match calForm hw.dev.mode q with
    | some .check => false
    | some _ => true
    | none => false))

/-- CAL_BOOT_MASK_WRITE: refused for a quantity without a CONFIG form other than Check (R367). -/
def calBootMaskWrite (v : Nat) (hw : Hw) : Hw :=
  if (setBits 9 v).any (fun q => match calForm .config q with
      | some .check => true
      | some _ => false
      | none => true) then { hw with ack := 0x05, ackData := [] }
  else
    let hw : Hw := hw.setReg 0x00800030 (v % 512)
    { hw with ack := 0, ackData := [] }

/-! ### S08, CAL_FACTORY, CAL_CAMERA, CAL_SET_READ (R352, R368, R369, R501) -/

/-- The global values loaded into the blocks; AGE within its clamp (R133). -/
def Hw.loadGlobals (hw : Hw) (g : CalGlobal) (cams : Bool) : Hw :=
  let hw := (hw.setReg 0x00040008 (ageCode (sx 23 (g.age % 2 ^ 23)))).setReg 0x00800038 (g.zero % 2 ^ 24)
  { hw with
    cal := { hw.cal with lamp := g.lamp }
    spd := { hw.spd with breakdown := g.breakdown }
    det := { hw.det with shadow := g.tables, active := g.tables }
    tid := { hw.tid with slices := (List.range 3).map (fun s => match g.slices[s]? with
      | some (o, c) => { hw.slice s with off := o, gc := c }
      | none => hw.slice s) }
    glz := if cams then (List.range 2).foldl (fun m p => mupd {} m p (fun (x : GlzPort) => { x with geom := mget [] g.geom p })) hw.glz else hw.glz }

/-- S08 by its main path, dropping the sets listed, or by the factory set alone; `globalsOk` tells whether the Pantry's global
values pass their check. -/
def Hw.loadCal (hw : Hw) (main globalsOk : Bool) (dropped : List Nat) : Hw :=
  let hw := if main then dropped.foldl (fun h s =>
      if (h.setAt s).isSome then ({ h with pantry := { h.pantry with sets := mset none h.pantry.sets s none } } : Hw).raise (fid srcCal 1 3) (le 2 s) else h) hw
    else hw
  let hw := { hw with cal := { hw.cal with
    factoryOnly := !main, loaded := if main then (List.range 8).filter (fun s => (hw.setAt s).isSome) else [] } }
  let hw := match hw.pantry.global, globalsOk with
    | some g, true => hw.loadGlobals g true
    | _, _ => hw.loadGlobals { hw.factoryGlobals with zero := 0, lamp := 0 } false
  hw.applySets

/-- CAL_FACTORY: the factory set becomes the set nearest 25 °C with the global values; answers whether a set is occupied. -/
def Hw.calFactory (hw : Hw) : Option Hw :=
  let occ := (List.range 8).filterMap hw.setAt
  match occ.foldl (fun (o : Option CalSet) s =>
    match o with
    | none => some s
    | some x => if (s.temp - 1600).natAbs < (x.temp - 1600).natAbs then some s else some x) none with
  | none => none
  | some s => some (({ hw with pantry := { hw.pantry with factory := some s, factoryGlobal := some hw.globalsNow } } : Hw).pantryWrite 4)

/-- CAL_CAMERA: the check code, and the values in force and stored when they pass. -/
def Hw.calCamera (hw : Hw) (p : Nat) (g : List Int) : Hw × Nat :=
  let x := hw.port p
  let c := cameraCheck x.width x.height g
  if c = 0 then
    let hw := hw.setPort p { x with geom := g }
    (hw.storeGlobals hw.globalsNow, 0)
  else (hw, c)

/-- The bytes of a set (Table 17.5). -/
def CalSet.bytes (s : CalSet) : List Byte :=
  let body := (List.range 768).flatMap (fun k => le 4 (mget 0 s.skew k)) ++ (List.range 1632).flatMap (fun i => le 4 (mget 0 s.vgain i)) ++
    (List.range 64).flatMap (fun i => le 1 (mget 0 s.walk i)) ++ (List.range 4).flatMap (fun b => le 4 (mget 0 s.xgain b)) ++ List.replicate 2608 0
  leInt 2 s.temp ++ le 2 s.mask ++ le 8 s.time.toNat ++ le 4 (crc32c body) ++ body

/-- The CAL registers that are views (Table 17.8). -/
def Hw.calView (hw : Hw) (off : Nat) : Nat :=
  if off = 0x04 then hw.cal.due * 65536 + hw.cal.running
  else if off = 0x08 then cx 16 hw.cal.tForce * 65536 + cx 16 hw.tDie
  else if off = 0x0C then b2n hw.cal.factoryOnly * 256 + maskOf ((List.range 8).filter (fun s => (hw.setAt s).isSome))
  else if 0x10 ≤ off ∧ off < 0x30 then
    match hw.setAt ((off - 0x10) / 4) with
    | some s => 2 ^ 31 + cx 16 s.temp
    | none => 0
  else if 0x40 ≤ off ∧ off < 0x64 then
    let (r, c, _) := mget (0, 0, (0 : U64)) hw.cal.result ((off - 0x40) / 4)
    r * 2 ^ 24 + c
  else if off = 0x80 then hw.pantry.map.writes.foldl (fun m e => max m e.2) 0
  else if off = 0x84 then min 0xFFFF hw.cal.corrected * 65536 + hw.pantry.map.spares.length
  else if 0x100 ≤ off ∧ off < 0x140 then
    let i := (off - 0x100) / 4
    (List.range 4).foldl (fun w j => w + mget 0 hw.cal.walk (4 * i + j) % 256 * 256 ^ j) 0
  else 0

/-- CAL_STATUS: the device time and result of each quantity. -/
def Hw.calStatusBytes (hw : Hw) : List Byte :=
  (List.range 9).flatMap (fun q => let (r, _, t) := mget (0, 0, (0 : U64)) hw.cal.result q; le 8 t.toNat ++ le 1 r)

end Sys2Proof.Machine
end

