-- ==== Sys2Proof/Machine/Packet.lean ====
section
/-! DEFINITION. The bytes of what the lanes and the command transports carry (R29, R30, Table 2.2): packets of the command transport, and
what a link packet or datagram holds. -/

namespace Sys2Proof.Machine

/-- A packet as it is sent: the header and the padded payload, and the CRC over both (R29, R30). -/
def packetBytes (opcode tag source role seq flags status subaddr : Nat) (payload : List Byte) : List Byte :=
  let body := le 1 0x5C ++ le 1 0xA5 ++ le 1 0x01 ++ le 1 opcode ++ le 2 tag ++ le 1 source ++ le 1 role ++ le 2 payload.length ++ le 2 seq ++
    le 1 flags ++ le 1 status ++ le 1 subaddr ++ le 1 0 ++ pad4 payload
  body ++ le 4 (crc32c body)

def Packet.bytes (p : Packet) : List Byte :=
  packetBytes p.opcode p.tag p.source p.role p.seq (if p.reply then 1 else 2) p.status p.subaddr p.payload

/-- A packet of the cascade: a stream packet or Bell frame unchanged, else the host's command packet for a secondary (R37, R278). -/
def casPacketBytes (p : CasPacket) : List Byte :=
  if 1 ≤ p.kind ∧ p.kind ≤ 4 then p.bytes
  else packetBytes p.opcode.toNat p.tag.toNat 0 p.role.toNat p.seq.toNat 0 p.status.toNat p.subaddr.toNat p.bytes

/-- The bytes that a link packet or datagram carries, and its LENGTH (R244). -/
def LpBody.bytes : LpBody → List Byte
  | .command p => p.bytes
  | .stream p => p.bytes
  | .bell f => f
  | .cas p => casPacketBytes p
  | .discovery b => b
def LpBody.size (b : LpBody) : Nat := b.bytes.length

/-- The points that a packet carries, and the frame they belong to. -/
def LpBody.points : LpBody → Nat × Nat
  | .stream p => if p.kind = 1 then (p.frame, p.count) else (p.frame, 0)
  | .cas p => if p.kind = 1 then (field p.bytes 4 4, field p.bytes 14 2) else (0, 0)
  | _ => (0, 0)

/-- Whether a packet is the first segment of an exported image, and the image's frame (Table 10.8). -/
def LpBody.image : LpBody → Option Nat
  | .stream p => if p.kind = 3 ∧ field p.payload 2 1 = 0 then some p.frame else none
  | .cas p => if p.kind = 3 ∧ field p.bytes 34 1 = 0 then some (field p.bytes 4 4) else none
  | _ => none

end Sys2Proof.Machine
end

