-- ==== Sys2Proof/Machine/Wire.lean ====
section
/-! DEFINITION. The Vymon Link line format (R239 to R245): blocks and their CRC-16, link packets as blocks, the scrambler, codewords with
their Reed-Solomon parity, symbols at code 2. -/

namespace Sys2Proof.Machine

/-! ### Control blocks (R243, Table 11.2) -/

/-- The CRC-16 of R243 over the low `n` bits of `x`. -/
def crc16 (n x : Nat) : Nat := crcMsb 16 0x1021 x n 0xFFFF

/-- A control block's payload: bits [127:16] and their CRC-16. -/
def ctlPayload (head : Nat) : Nat := head % 2 ^ 112 * 2 ^ 16 + crc16 112 (head % 2 ^ 112)
def ctlOk (payload : Nat) : Bool := decide (crc16 112 (payload / 2 ^ 16 % 2 ^ 112) = payload % 2 ^ 16)

/-- A LINK block's fields: the LSEQ acknowledged, NAK, PAUSE, REQ with its ARG, the sender's superframe count. -/
structure LinkBlock where
  ack   : Nat
  nak   : Bool
  pause : Nat := 0
  req   : Nat := 0
  arg   : Nat := 0
  sfc   : Nat := 0
  deriving DecidableEq, Repr

def marker : Nat := 0x5CA54E31B7D20F96

def LinkBlock.payload (b : LinkBlock) : Nat :=
  ctlPayload (marker * 2 ^ 48 + b.ack % 4096 * 2 ^ 36 + b2n b.nak * 2 ^ 35 + b.pause % 256 * 2 ^ 24 + b.req % 16 * 2 ^ 20 + b.arg % 256 * 2 ^ 8 +
    b.sfc % 256)

/-- The LINK block that a payload carries; none where its MARKER or its CRC is wrong. -/
def linkOf (p : Nat) : Option LinkBlock :=
  if ctlOk p ∧ bits p 64 64 = marker then
    some { ack := bits p 52 12, nak := tb p 51, pause := bits p 40 8, req := bits p 36 4, arg := bits p 24 8, sfc := bits p 16 8 }
  else none

def idlePayload : Nat := ctlPayload (0x1E * 2 ^ 104)
def headPayload (vc lseq len : Nat) : Nat := ctlPayload (0x33 * 2 ^ 104 + vc % 8 * 2 ^ 101 + lseq % 4096 * 2 ^ 89 + len % 8192 * 2 ^ 76)
def tailPayload (lcrc : Nat) : Nat := ctlPayload (0x66 * 2 ^ 104 + lcrc % 2 ^ 32 * 2 ^ 72)

/-- `n` bits of PRBS13, x¹³ + x¹² + x² + x + 1, the first as the most significant; each bit is the one that enters the register, as the
generators of R91 have it (log entry 164). -/
def prbs13 : Nat → Nat → Nat → Nat
  | 0, _, v => v
  | n + 1, s, v =>
    let b := (bits s 12 1 + bits s 11 1 + bits s 1 1 + bits s 0 1) % 2
    prbs13 n (2 * s % 2 ^ 13 + b) (2 * v + b)
def trainPayload : Nat := ctlPayload (0x78 * 2 ^ 104 + prbs13 104 0x1FFF 0)

/-! ### Link packets (R244, R245) -/

/-- A block: its header bit, set for a control block, and its payload. -/
abbrev Block := Bool × Nat

/-- The bits of a block as they are sent: the header first, then payload bit 127 down to 0 (R239). -/
def blockBits (b : Block) : Nat := b2n b.1 * 2 ^ 128 + b.2 % 2 ^ 128

/-- The data blocks of a packet: 16 bytes each, the first in bits [127:120] (log entry 164), the last padded with zero bytes. -/
def dataBlocks (bytes : List Byte) : List Block :=
  (List.range (ceilDiv bytes.length 16)).map (fun i =>
    (false, (List.range 16).foldl (fun v j => 256 * v + (bytes.getD (16 * i + j) 0).toNat) 0))

/-- A link packet: HEAD, the data blocks, TAIL with the LCRC. -/
def lpBlocks (vc lseq : Nat) (bytes : List Byte) : List Block :=
  (true, headPayload vc lseq bytes.length) :: dataBlocks bytes ++ [(true, tailPayload (crc32c bytes))]

/-- The bytes of a data block's payload. -/
def blockBytes (p : Nat) : List Byte := (List.range 16).map (fun j => BitVec.ofNat 8 (bits p (8 * (15 - j)) 8))

/-- What a receiver finds in the blocks of a link packet, descrambled: whether each control block passes its CRC, and, where the blocks
form a packet, its VC and LSEQ, whether its LCRC is right and its bytes. -/
def readLp (l : List Block) : List Bool × Option (Nat × Nat × Bool × List Byte) :=
  let ok := l.map (fun b => !b.1 || ctlOk b.2)
  match l with
  | (true, h) :: r =>
    let len := bits h 92 13
    let body := r.dropLast
    match r.getLast? with
    | some (true, t) =>
      if bits h 120 8 = 0x33 ∧ bits t 120 8 = 0x66 ∧ 1 ≤ len ∧ body.length = ceilDiv len 16 ∧ body.all (fun b => !b.1) = true then
        let bytes := (body.flatMap (fun b => blockBytes b.2)).take len
        (ok, some (bits h 117 3, bits h 105 12, decide (bits t 88 32 = crc32c bytes), bytes))
      else (ok, none)
    | _ => (ok, none)
  | _ => (ok, none)

/-! ### Scrambling (R241) -/

/-- The low `n` bits of `x`, most significant first, through the self-synchronising scrambler 1 + x³⁹ + x⁵⁸; `s` holds the last 58
scrambled bits, the latest lowest, `v` what has come out. -/
def scramble : Nat → Nat → Nat → Nat → Nat × Nat
  | 0, _, s, v => (v, s)
  | n + 1, x, s, v =>
    let b := (bits x n 1 + bits s 38 1 + bits s 57 1) % 2
    scramble n x ((2 * s + b) % 2 ^ 58) (2 * v + b)

/-- The descrambler: the bits received enter the register. -/
def descramble : Nat → Nat → Nat → Nat → Nat × Nat
  | 0, _, s, v => (v, s)
  | n + 1, x, s, v =>
    let c := bits x n 1
    descramble n x ((2 * s + c) % 2 ^ 58) (2 * v + (c + bits s 38 1 + bits s 57 1) % 2)

/-- A run of scrambled blocks in the order they came, from the 58 bits before them. -/
def descrambleAll : List Block → Nat → List Block
  | [], _ => []
  | b :: r, s =>
    let (v, s) := descramble 128 b.2 s 0
    (b.1, v) :: descrambleAll r s

/-! ### Codewords (R239) -/

/-- The product of two elements of GF(2¹⁰) under x¹⁰ + x³ + 1. -/
def gfMulGo : Nat → Nat → Nat → Nat → Nat
  | 0, _, _, v => v
  | n + 1, a, b, v =>
    let a' := if tb a 9 then (2 * a % 1024) ^^^ 9 else 2 * a
    gfMulGo n a' (b / 2) (if tb b 0 then v ^^^ a else v)
def gfMul (a b : Nat) : Nat := gfMulGo 10 a b 0
def gfPow (a : Nat) : Nat → Nat
  | 0 => 1
  | n + 1 => gfMul a (gfPow a n)

/-- The 14 lower coefficients of the generator, highest first: the product of (x − αⁱ) for i = 0 to 13, whose highest is 1. -/
def rsGenerator : List Nat :=
  ((List.range 14).foldl (fun (g : List Nat) i =>
    List.zipWith (fun a b => a ^^^ gfMul (gfPow 2 i) b) (g ++ [0]) (0 :: g)) [1]).drop 1

/-- The 14 parity symbols of a message. -/
def rsParity (msg : List Nat) : List Nat :=
  msg.foldl (fun r m =>
    let f := m ^^^ r.headD 0
    List.zipWith (fun a g => a ^^^ gfMul f g) (r.drop 1 ++ [0]) rsGenerator) (List.replicate 14 0)

/-- The 272 symbols of a codeword from the 129 bits of each of its 20 blocks. -/
def codeword (blocks : List Nat) : List Nat :=
  let x := blocks.foldl (fun v b => v * 2 ^ 129 + b) 0
  let msg := (List.range 258).map (fun i => bits x (10 * (257 - i)) 10)
  msg ++ rsParity msg

/-- Whether 272 symbols form a codeword: the value at each root of the generator is 0. -/
def isCodeword (c : List Nat) : Bool :=
  (List.range 14).all (fun i => decide (c.foldl (fun v s => gfMul v (gfPow 2 i) ^^^ s) 0 = 0))

/-! ### Symbols at code 2 (R242) -/

/-- The level of a pair of bits, the first the most significant, and its relative amplitude. -/
def grayLevel : Nat → Nat
  | 0 => 0 | 1 => 1 | 3 => 2 | _ => 3
def levelUnits (g : Nat) : Int := 2 * g - 3

/-- Precoding from the last P sent, and its inverse from the last P received. -/
def precode : List Nat → Nat → List Nat
  | [], _ => []
  | g :: r, p => let q := (g + 4 - p % 4) % 4; q :: precode r q
def unprecode : List Nat → Nat → List Nat
  | [], _ => []
  | q :: r, p => (q + p) % 4 :: unprecode r q

/-- The PAM4 levels of a codeword's symbols, before precoding. -/
def pamLevels (c : List Nat) : List Nat := c.flatMap (fun s => (List.range 5).map (fun i => grayLevel (bits s (8 - 2 * i) 2)))

end Sys2Proof.Machine
end

