-- ==== Sys2Proof/Machine/Line.lean ====
section
/-! DEFINITION. What a Vymon Link lane has on its line (R239 to R244, R255, R256, R261): superframes, the fixed blocks, link packets with
IDLE blocks between them, the scrambler's register. -/

namespace Sys2Proof.Machine

def Hw.setLane (hw : Hw) (l : Nat) (x : Lane) : Hw := { hw with lnk := { hw.lnk with lanes := mset {} hw.lnk.lanes l x } }

/-! ### Superframes (R239, Table 11.1) -/

/-- Ten times the line rate of a code in Mb/s, and the ticks of `n` superframes of 21,760 bits, rounded up. -/
def lineRate10 : Nat → Nat
  | 0 => 31250
  | 1 => 103125
  | _ => 531250
def sfTicks (rate n : Nat) : Nat := ceilDiv (n * 21760 * 8000) (lineRate10 rate)

/-- N_KA: the superframes that fit in 1 ms. -/
def keepAlive (rate : Nat) : Nat := 800000 * lineRate10 rate / (21760 * 8000)

/-- The superframe and the block, since `sf0`, that a lane sends at a tick; its superframe count now, modulo 256 (Table 11.2). -/
def Lane.superframe (x : Lane) (t : Nat) : Nat := (t - x.sf0) * lineRate10 x.rate / (21760 * 8000)
def Lane.block (x : Lane) (t : Nat) : Nat := (t - x.sf0) * lineRate10 x.rate * 160 / (21760 * 8000)
def Hw.sfc (hw : Hw) (l : Nat) : Nat := (hw.lane l).superframe hw.ticks % 256

/-! ### The blocks of a lane (R239, R244, R255) -/

/-- Whether block `n` is a LINK block: block 0 of codeword 0 of a superframe. -/
def isLink (n : Nat) : Bool := decide (n % 160 = 0)

/-- Whether block `n` is a TRAIN block: block 1 of codeword 0 in every N_KA-th superframe, counted from `sf0` (log entry 164), and in every
superframe for the 1 ms that a RETRAIN asks for (R256). -/
def Lane.isTrain (x : Lane) (n : Nat) : Bool :=
  let sf := n / 160
  let at' := x.sf0 + sfTicks x.rate sf
  decide (n % 160 = 1) && (decide (sf % keepAlive x.rate = 0) || decide (x.trainBlocks ≤ at' + 800000 ∧ at' < x.trainBlocks))

/-- The blocks from `n` on, `k` of them, that are neither LINK nor TRAIN: they alone pass through the scrambler. -/
def Lane.openSlots (x : Lane) (n : Nat) : Nat → Nat
  | 0 => 0
  | k + 1 => x.openSlots n k + b2n (!(isLink (n + k) || x.isTrain (n + k)))

/-- The blocks of the packet last started. -/
def Lane.lpOf (x : Lane) : List Block :=
  match x.sent with
  | some p => lpBlocks p.vc p.seq p.body.bytes
  | none => []

/-- The `i`-th scrambled block since `lineAt`: of the packet while it lasts, then IDLE. -/
def Lane.slot (x : Lane) (i : Nat) : Block := x.lpOf.getD i (true, idlePayload)

/-- Whether the packet last started is still on the line at a tick. -/
def Lane.sending (x : Lane) (t : Nat) : Bool :=
  decide (x.openSlots x.lineAt (x.block t + 1 - x.lineAt) < x.lpOf.length)

/-- The scrambler's register after the first `n` scrambled blocks since `lineAt`. -/
def Lane.scrAfter (x : Lane) : Nat → Nat
  | 0 => x.scr
  | n + 1 => (scramble 128 (x.slot n).2 (x.scrAfter n) 0).2

/-- The line brought up to block `n`: the packet last started is over, the register has taken what was sent. -/
def Lane.lineTo (x : Lane) (n : Nat) : Lane :=
  { x with scr := x.scrAfter (x.openSlots x.lineAt (n - x.lineAt)), lineAt := n, sent := none }

/-- A packet put on the line at the next block. -/
def Lane.put (x : Lane) (p : Lp) (now : Nat) : Lane := { x.lineTo (x.block now + 1) with sent := some p }

/-- The line brought up to now, before what is a TRAIN block changes (R256). -/
def Lane.retrainFrom (x : Lane) (now : Nat) : Lane :=
  if x.sending now then x else x.lineTo (x.block now + 1)

/-- A lane that leaves training: from here it scrambles; what its scrambler's register holds is open (log entry 165). -/
def Lane.startScrambling (x : Lane) (l now : Nat) : Lane :=
  { x with lineAt := x.block now, sent := none, scr := Config.scramblerSeed l now % 2 ^ 58 }

/-! ### The block on the line now -/

/-- The pause that a primary asks of a secondary: VC 5, while a point queue that its lane feeds is more than half full (R278). -/
def Hw.pauseOut (hw : Hw) (l : Nat) : Nat :=
  if ¬ hw.isSecondary ∧ 4 ≤ l ∧ (List.range 4).any (fun b => decide (131072 < hw.laneFill (mget 0 hw.out.routes (4 * (l - 3) + b)))) then 0x20 else 0

/-- ARG of the request a lane makes: the codes offered, the code accepted, the precoding wanted of the far end (R250, R251). -/
def Lane.argOut (x : Lane) : Nat :=
  match x.reqOut with
  | 1 => (x.offered.getD (0, 0)).1
  | 2 => (x.stepTo.getD (0, 0)).1
  | 4 => b2n x.precRx
  | _ => 0

/-- The LINK block a lane sends (R245, Table 11.2). -/
def Hw.linkOut (hw : Hw) (l : Nat) : LinkBlock :=
  let x := hw.lane l
  { ack := (x.rxExpect + 4095) % 4096, nak := x.nak, pause := hw.pauseOut l, req := x.reqOut, arg := x.argOut, sfc := hw.sfc l }

/-- The 129 bits of the block that a Vymon Link lane sends now: LINK and TRAIN unscrambled at their positions, nothing else in DETECT, in TRAIN
and in the superframes that end an electrical idle, else packets and IDLE, scrambled. Nothing of R239 is on the line of a lane that is off, failed or
under test, nor after 2 superframes of IDLE (R249, R261, R262). -/
def Hw.lineBlock (hw : Hw) (l : Nat) : Option Nat :=
  let x := hw.lane l
  let n := x.block hw.ticks
  let training := decide (x.state = .detect ∨ x.state = .train) || (decide (x.state = .active) && decide (hw.ticks < x.exitAt))
  let silent := decide (x.state = .anchored ∨ x.state = .failed ∨ x.state = .test) ||
    (decide (x.state = .idle) && decide (x.since + sfTicks x.rate 2 ≤ hw.ticks))
  if silent ∨ (hw.isEth ∧ l < 4) then none
  else if isLink n then some (blockBits (true, (hw.linkOut l).payload))
  else if training ∨ x.isTrain n then some (blockBits (true, trainPayload))
  else
    let i := x.openSlots x.lineAt (n - x.lineAt)
    let b := x.slot i
    some (blockBits (b.1, (scramble 128 b.2 (x.scrAfter i) 0).1))

end Sys2Proof.Machine
end

