-- ==== Sys2Proof/Machine/Net.lean ====
section
/-! DEFINITION. The standard formats of the Ethernet personality (R8, R233, R234), most significant byte first: Ethernet frames from the
destination address to the frame check, IPv4 and UDP headers with their checksums, ARP, the ICMP echo reply. -/

namespace Sys2Proof.Machine

/-- The Internet checksum: the ones' complement of the ones' complement sum of 16-bit words, an odd last byte padded with zero. -/
def sum16 : List Byte → Nat
  | a :: b :: r => 256 * a.toNat + b.toNat + sum16 r
  | [a] => 256 * a.toNat
  | [] => 0
def foldOnes (x : Nat) : Nat := x % 65536 + x / 65536
def inetCheck (l : List Byte) : Nat := 0xFFFF - foldOnes (foldOnes (foldOnes (sum16 l)))

/-- The Ethernet frame of a payload: padded to 46 bytes, the frame check last. -/
def etherFrame (dst src type : Nat) (payload : List Byte) : List Byte :=
  let f := be 6 dst ++ be 6 src ++ be 2 type ++ payload ++ List.replicate (46 - payload.length) 0
  f ++ le 4 (crcRefl 0xEDB88320 f)

/-- An IPv4 packet without options (R233): DSCP and TTL from OUT_IP_OPT, don't fragment, the header checksum. -/
def ipPacket (opt id proto src dst : Nat) (payload : List Byte) : List Byte :=
  let head := fun c => be 1 0x45 ++ be 1 (bits opt 8 6 * 4) ++ be 2 (20 + payload.length) ++ be 2 id ++ be 2 0x4000 ++ be 1 (bits opt 0 8) ++
    be 1 proto ++ be 2 c ++ be 4 src ++ be 4 dst
  head (inetCheck (head 0)) ++ payload

/-- A UDP datagram with its checksum over the pseudo header; a checksum of 0 is sent as all ones. -/
def udpPacket (src dst sport dport : Nat) (payload : List Byte) : List Byte :=
  let n := 8 + payload.length
  let body := fun c => be 2 sport ++ be 2 dport ++ be 2 n ++ be 2 c ++ payload
  let c := inetCheck (be 4 src ++ be 4 dst ++ be 2 17 ++ be 2 n ++ body 0)
  body (if c = 0 then 0xFFFF else c)

/-- An ARP packet of Ethernet and IPv4 (RFC 826): operation 1 asks, 2 answers. -/
def arpPacket (op sha spa tha tpa : Nat) : List Byte :=
  be 2 1 ++ be 2 0x0800 ++ be 1 6 ++ be 1 4 ++ be 2 op ++ be 6 sha ++ be 4 spa ++ be 6 tha ++ be 4 tpa

/-- The ICMP echo reply to a request whose identifier, sequence and data are `rest`. -/
def echoReply (rest : List Byte) : List Byte :=
  let body := fun c => be 2 0 ++ be 2 c ++ rest
  body (inetCheck (body 0))

/-- The MAC address of an IPv4 multicast address (RFC 1112), and that of a broadcast. -/
def multicastMac (ip : Nat) : Nat := 0x01005E000000 + ip % 2 ^ 23
def broadcastMac : Nat := 2 ^ 48 - 1

end Sys2Proof.Machine
end

