-- ==== Sys2Proof/Machine/Link.lean ====
section
/-! DEFINITION. The lanes (chapter 11) and the network side of OUT (R234, R235): lane states, retry, steps, loss and degrade,
tests, ARP, ICMP, PTP. -/

namespace Sys2Proof.Machine

/-- The lane of the command channel: the lowest of 0 to 3 that is up (R26, R259); a secondary's is its lane 4 (R278). -/
def Hw.cmdLane (hw : Hw) : Option Nat := (List.range 4).find? (fun l => hw.laneUp l)
def Hw.hostLane (hw : Hw) : Option Nat := if hw.isSecondary then some 4 else hw.cmdLane

/-- A step of the lane that carries the command session ends: the session is told since when the lane was outside ACTIVE (R252). -/
def Hw.stepOver (hw : Hw) (x : Lane) : Hw :=
  match x.heldAt with
  | some t => { hw with outbox := hw.outbox ++ [.laneBack t] }
  | none => hw

/-- What a change of state makes of the time since when a step has kept the command channel's lane outside ACTIVE (R252). -/
def Hw.heldFrom (hw : Hw) (l : Nat) (s : LaneState) (x : Lane) : Option Nat :=
  match s with
  | .step => if hw.hostLane = some l then some hw.ticks else none
  | .train | .align | .detect => x.heldAt
  | _ => none

/-- A change of lane state, with LNK event 0xE001 (R249). -/
def Hw.toLane (hw : Hw) (l : Nat) (s : LaneState) (f : Lane → Lane) : Hw :=
  let x := hw.lane l
  let y := { f x with state := s, since := hw.ticks, heldAt := hw.heldFrom l s (f x) }
  let y := if s = .align then y.startScrambling l hw.ticks else y
  let hw := (hw.setLane l y).stepOver (if y.heldAt = none then x else {})
  if x.state = s then hw
  else hw.event srcLnk 0xE001 (le 1 l ++ le 1 x.state.code ++ le 1 s.code ++ le 1 y.rate)

/-- LNK fields: MARGIN_LOW, MARGIN_OK, REPLAY_LIMIT, ACK_TIMEOUT (Table 11.10), each in its range. -/
def Hw.marginLow (hw : Hw) : Nat := bits (hw.reg 0x0068000C) 16 8
def Hw.marginOk (hw : Hw) : Nat := bits (hw.reg 0x0068000C) 8 8
def Hw.replayLimit (hw : Hw) : Nat := max 1 (bits (hw.reg 0x00680010) 8 8)
def Hw.ackTimeout (hw : Hw) : Nat := max 4 (bits (hw.reg 0x00680010) 0 8)

/-- Bits of LNK_CFG in force. -/
def Hw.degrade (hw : Hw) : Bool := tb hw.lnk.cfg 24
def Hw.fecDetect (hw : Hw) : Bool := decide (bits hw.lnk.cfg 16 2 = 1)
def Hw.targetRate (hw : Hw) : Nat := bits hw.lnk.cfg 8 3

/-! ### Loss of a lane (R257, R258, R260, R279) -/

/-- The lanes of POINT_LANES and of both lists under the placement in force. -/
def Hw.pointMask (hw : Hw) : Nat := match hw.tnd.active with | some p => planPointLanes p.plan | none => 0
def Hw.streamMask (hw : Hw) : Nat := match hw.tnd.active with | some p => planPointLanes p.plan ||| planExportLanes p.plan | none => 0

/-- The load that the routes in force assign to a lane. -/
def Hw.assigned (hw : Hw) (l : Nat) : Rat :=
  match hw.tnd.active with
  | some p => hw.routedLoad p hw.out.routes l
  | none => 0

/-- Whether a lane carries points now: ACTIVE, or a port in lock. -/
def Hw.laneActive (hw : Hw) (l : Nat) : Bool :=
  if hw.isEth ∧ l < 4 then (hw.lane l).lock else decide ((hw.lane l).state = .active)

/-- The ACTIVE lane of POINT_LANES with the least assigned load, the lower on a tie. -/
def Hw.takeOver (hw : Hw) : Option Nat :=
  ((setBits 4 hw.pointMask).filter (fun l => hw.laneActive l)).foldl (fun best l =>
    match best with
    | none => some l
    | some m => if hw.assigned l < hw.assigned m then some l else some m) none

/-- Packets of a lost lane queued on another, in LSEQ order. -/
def Hw.moveLps (hw : Hw) (dst : Nat) (lps : List Lp) : Hw :=
  if lps.isEmpty then hw else let y := hw.lane dst; hw.setLane dst { y with moved := y.moved ++ lps }

/-- What waits to be sent on a lost lane goes to the one that takes its points over: forwarded points and, on Ethernet, everything (R258). -/
def Hw.moveWaiting (hw : Hw) (l t : Nat) : Hw :=
  let goes := fun (e : Nat × CasPacket) => decide (e.2.kind = 1) || (hw.isEth && decide (e.2.kind = 3))
  let q := mget [] hw.out.fwd l
  let fwd := mset [] hw.out.fwd l (q.filter (fun e => !goes e))
  let along := fun (e : Nat × StreamPkt) => if hw.isEth ∧ e.1 = l then (t, e.2) else e
  { hw with out := { hw.out with
      fwd := mset [] fwd t (mget [] fwd t ++ q.filter goes), frameQ := hw.out.frameQ.map along, expQ := hw.out.expQ.map along } }

/-- The redirection of R258: substreams, export, packets not acknowledged, those that had come from another lane among them. -/
def Hw.redirect (hw : Hw) (l : Nat) : Hw :=
  let lps := (hw.lane l).unacked ++ (hw.lane l).moved
  let hw := hw.setLane l { hw.lane l with unacked := [], resend := [], moved := [] }
  let cmd := lps.filter (fun p => decide (p.vc ≤ 1))
  let pts := lps.filter (fun p => decide (1 < p.vc))
  let hw := match hw.cmdLane with
    | some c => hw.moveLps c cmd
    | none => hw
  let hw := { hw with out := { hw.out with expPaused := true } }
  match hw.takeOver with
  | some t =>
    let subs := (List.range 16).filter (fun b => decide (mget 0 hw.out.routes b = l))
    let hw := { hw with out := { hw.out with routes := subs.foldl (fun m b => mset 0 m b t) hw.out.routes } }
    ((hw.moveWaiting l t).moveLps t pts)
  | none => hw

/-- A transport is down when no lane carries its sessions any more (R34, R259). -/
def Hw.transportCheck (hw : Hw) : Hw :=
  if hw.cmdLane.isNone then { hw with outbox := hw.outbox ++ [.transportDown (if hw.isEth then .eth else .link)] } else hw

/-- Loss of lock of lane `l` (R257), also the state of a lane under test (R262). -/
def Hw.loseLane (hw : Hw) (l : Nat) : Hw :=
  let x := hw.lane l
  let wasPoint := tb hw.pointMask l
  let wasStream := tb hw.streamMask l
  let mark := fun (y : Lane) => { y with lost := true, lostAt := hw.ticks, lostRate := max y.rate (if y.lost then y.lostRate else 0)
                                         attempts := 0, lock := false, missRun := 0, badTimes := [], stepTo := none, stepFrom := none
                                         offered := none, nak := false, keepSeq := false, heldAt := none, replays := 0, sent := none }
  let hw := if hw.isEth ∧ l < 4 then hw.setLane l (mark x) else hw.toLane l .detect mark
  if 4 ≤ l then
    if hw.isSecondary then hw
    else
      let i := l - 3
      let s := mget {} hw.cas.secs i
      let hw := { hw with cas := { hw.cas with secs := mset {} hw.cas.secs i { s with lostAt := some hw.ticks } }, lnk := { hw.lnk with lostFrame := true } }
      hw.raise (fid srcCas 1 2) (le 1 i)
  else
    let hw := if wasStream then { hw with lnk := { hw.lnk with lostFrame := true } } else hw
    let hw := if hw.degrade ∨ ¬ wasStream then
        let hw := hw.raise (fid srcLnk 2 2) (le 1 l)
        if hw.degrade then hw.redirect l else hw
      else hw
    let none' := wasPoint && decide (hw.takeOver = none)
    let hw := if (wasStream ∧ ¬ hw.degrade) ∨ none' then hw.raise (fid srcLnk 3 1) (le 1 l) else hw
    hw.transportCheck

/-- A lane that can lose lock: ACTIVE or STEP (R257). -/
def Lane.holdsLock (x : Lane) : Bool := decide (x.state = .active ∨ x.state = .step)

/-! ### Receiving (R240, R244 to R248) -/

/-- Codeword `n` of a lane is bad: counted, remembered; more than 64 within 1 ms lose lock (R240, R257). -/
def Hw.badCodeword (hw : Hw) (l n : Nat) : Hw :=
  let x := hw.lane l
  let hw := hw.stick (0x006800A0 + 4 * l) 1
  let times := (hw.ticks :: x.badTimes).filter (fun t => decide (hw.ticks < t + 800000))
  let hw := hw.setLane l { x with badTimes := times.take 65, badCws := (n :: x.badCws).take 64 }
  if 64 < times.length ∧ x.holdsLock then hw.loseLane l else hw

/-- Whether an injection of a mode acts on a lane in the superframe running: once in each, COUNT times (R263). -/
def Hw.injects (hw : Hw) (l mode : Nat) : Bool :=
  let v := hw.reg 0x00680114
  decide (hw.ticks < hw.lnk.injEnd ∧ bits v 24 3 = l ∧ bits v 16 2 = mode ∧ hw.lnk.injLast ≠ some ((hw.lane l).superframe hw.ticks))
def Hw.injected (hw : Hw) (l : Nat) : Hw := { hw with lnk := { hw.lnk with injLast := some ((hw.lane l).superframe hw.ticks) } }

/-- CODEWORD_RECEIVE: corrected, or bad (R240); an injection corrupts SYMBOLS of its symbols beside those that the line has (R263). Under
DETECT, whether more than 14 symbol errors are seen is open (log entry 22). -/
def codewordReceive (l errs : Nat) (hw : Hw) : Hw :=
  let x := hw.lane l
  if 8 ≤ l ∨ (hw.isEth ∧ l < 4) ∨ x.state = .anchored ∨ x.state = .detect ∨ x.state = .failed then hw
  else
    let inj := hw.injects l 1
    let errs := if inj then errs + max 1 (bits (hw.reg 0x00680114) 12 4) else errs
    let hw := if inj then hw.injected l else hw
    let (bad, hw) := if hw.fecDetect then
        (if 14 < errs then let (d, hw) := hw.draw; (decide (d % 2 = 1), hw) else (decide (0 < errs), hw))
      else (decide (7 < errs), hw)
    let hw := hw.setLane l { x with rxCw := x.rxCw + 1 }
    if bad then hw.badCodeword l x.rxCw
    else if hw.fecDetect ∨ errs = 0 then hw
    else hw.stick (0x00680080 + 4 * l) errs

/-- Every unacknowledged packet is resent in the original order, counted; after REPLAY_LIMIT replays without an advance the lane
has lost lock (R246). -/
def Hw.replay (hw : Hw) (l : Nat) : Hw :=
  let x := hw.lane l
  if x.unacked.isEmpty then hw
  else
    let hw := hw.stick (0x006800C0 + 4 * l) 1
    let n := x.replays + 1
    let hw := hw.setLane l { x with resend := x.unacked, replays := n, ackAt := hw.ticks }
    if hw.replayLimit ≤ n ∧ x.holdsLock then hw.loseLane l else hw

/-- ACK_SEQ covers every packet up to the one with its LSEQ. -/
def coverAck (ack : Nat) (l : List Lp) : Option (List Lp) :=
  if l.any (fun p => decide (p.seq = ack)) then some ((l.dropWhile (fun p => decide (p.seq ≠ ack))).drop 1) else none

/-- A LINK block missed at its position: the third in a row loses lock; suspended while the far end is IDLE (R257, R261). -/
def Hw.missLink (hw : Hw) (l : Nat) : Hw :=
  let x := hw.lane l
  if x.farIdle ∨ ¬ x.holdsLock then hw
  else
    let hw := hw.setLane l { x with missRun := x.missRun + 1 }
    if 3 ≤ x.missRun + 1 then hw.loseLane l else hw

/-- What a LINK block tells: acknowledgement, NAK, pauses, requests that have no row of their own (R245, R246, R248, R261). -/
def Hw.heedLink (hw : Hw) (l : Nat) (b : LinkBlock) : Hw :=
    let x := hw.lane l
    let mask := b.pause &&& 0x3C
    let at' := (setBits 8 mask).foldl (fun m v => if tb x.paused v then m else mset 0 m v hw.ticks) x.pausedAt
    let x := { x with missRun := 0, paused := mask, pausedAt := at', farIdle := decide (b.req = 6)
                      offered := if b.req = 3 then none else x.offered }
    let hw : Hw := match coverAck b.ack x.unacked with
      | some rest => hw.setLane l { x with
          unacked := rest, replays := 0, ackAt := hw.ticks, quietAt := hw.ticks
          resend := x.resend.filter (fun p => rest.any (fun q => decide (q.seq = p.seq))) }
      | none => hw.setLane l x
    if b.nak ∧ (hw.lane l).resend.isEmpty then hw.replay l else hw

/-- LINK_BLOCK_RECEIVE: a block whose CRC or MARKER fails, by an injection too, makes its codeword, the one received last, bad and is missed
(R243, R257, R263). -/
def linkBlockReceive (l p : Nat) (hw : Hw) : Hw :=
  let x := hw.lane l
  if 8 ≤ l ∨ (hw.isEth ∧ l < 4) ∨ ¬ (x.state = .active ∨ x.state = .idle ∨ x.state = .step ∨ x.state = .align) then hw
  else if hw.injects l 2 then ((hw.injected l).badCodeword l (x.rxCw - 1)).missLink l
  else match linkOf p with
    | some b => hw.heedLink l b
    | none => (hw.badCodeword l (x.rxCw - 1)).missLink l

/-- LINK_BLOCK_MISSED. -/
def linkBlockMissed (l : Nat) (hw : Hw) : Hw := if 8 ≤ l ∨ (hw.isEth ∧ l < 4) then hw else hw.missLink l

/-- ACK_TIMEOUT (R246). -/
def ackTimeoutAt (l : Nat) (hw : Hw) : Hw :=
  let x := hw.lane l
  if l < 8 ∧ x.state = .active ∧ ¬ x.unacked.isEmpty ∧ x.ackAt + sfTicks x.rate hw.ackTimeout ≤ hw.ticks then hw.replay l else hw

/-- The codewords of a received packet in which a control block fails its CRC and which were not bad before. -/
def crcFails (p : LinkPacket) (ok : List Bool) (bad : List Nat) : List Nat :=
  ((ok.zip p.words).filter (fun e => !e.1 && !bad.contains e.2)).foldl (fun l e => if l.contains e.2 then l else l ++ [e.2]) []

/-- LP_RECEIVE: the packet descrambled, then accepted in order, or discarded with NAK (R241, R243, R245). One with a block in a codeword that
has not been received is not there yet. -/
def lpReceive (l : Nat) (p : LinkPacket) (hw : Hw) : Hw :=
  let x := hw.lane l
  if 8 ≤ l ∨ (hw.isEth ∧ l < 4) ∨ ¬ (x.state = .active ∨ x.state = .idle ∨ x.state = .step) ∨ p.words.any (fun w => decide (x.rxCw ≤ w)) then hw
  else
    let (ok, lp) := readLp (descrambleAll p.blocks p.before)
    let fails := crcFails p ok x.badCws
    let whole := fails.isEmpty && p.words.all (fun w => !x.badCws.contains w)
    let good := match lp with
      | some (_, seq, lcrc, _) => lcrc && decide (seq = x.rxExpect)
      | none => false
    if whole && good then hw.setLane l { x with rxExpect := (x.rxExpect + 1) % 4096, nak := false, quietAt := hw.ticks }
    else fails.foldl (fun h w => h.badCodeword l w) (hw.setLane l { x with nak := true })

/-- Whether a VC is held: paused since a superframe before the one running (R248). -/
def Hw.vcHeld (hw : Hw) (l vc : Nat) : Bool :=
  let x := hw.lane l
  tb x.paused vc && decide (x.superframe (mget 0 x.pausedAt vc) < x.superframe hw.ticks)

/-- PAUSE_TIMEOUT: a VC paused for more than 10 ms (R248). -/
def pauseTimeout (l vc : Nat) (hw : Hw) : Hw :=
  let x := hw.lane l
  if l < 8 ∧ tb x.paused vc ∧ mget 0 x.pausedAt vc + 8000000 < hw.ticks then hw.raise (fid srcLnk 1 6) (le 1 l) else hw

/-! ### Bring-up and steps (R249 to R252, R258) -/

/-- A lane starts a bring-up attempt at a rate. -/
def Hw.startLane (hw : Hw) (l rate : Nat) : Hw :=
  hw.toLane l .detect (fun x => { x with rate := rate, sf0 := hw.ticks, lostAt := hw.ticks, missRun := 0, badTimes := [] })

/-- SUPERFRAME_LOCK. -/
def superframeLock (l : Nat) (hw : Hw) : Hw :=
  if l < 8 ∧ (hw.lane l).state = .detect then hw.toLane l .train id else hw

/-- Whether a receiver asks its far end to precode, by LNK_LANE_CTL[l].PRECODE (R242): AUTO where its first decision-feedback tap exceeds 0.3
of the main cursor; a reserved setting acts as a free one (log entry 9). -/
def Hw.wantsPrecoding (hw : Hw) (l : Nat) (tap cursor : Int) : Bool :=
  let auto := decide (3 * cursor < 10 * tap)
  match bits (hw.reg (0x00680040 + 4 * l)) 12 2 with
  | 0 => auto
  | 1 => false
  | 2 => true
  | _ => [auto, false, true].getD (Config.reservedMode 1101 % 3) auto

/-- LANE_READY: 1 ms of training and a margin of at least MARGIN_OK on both sides; bit 0 of the far ARG asks this transmitter to
precode, PRECODE decides what this receiver asks (R242, R249, R250). -/
def laneReady (l arg margin : Nat) (tap cursor : Int) (hw : Hw) : Hw :=
  let x := hw.lane l
  if l < 8 ∧ x.state = .train ∧ x.since + 800000 ≤ hw.ticks ∧ hw.marginOk ≤ margin then
    let pam := decide (x.rate = 2)
    hw.toLane l .align (fun y => { y with
      margin := min 0xFFFF margin, precTx := pam && tb arg 0, precRx := pam && hw.wantsPrecoding l tap cursor, reqOut := 4 })
  else hw

/-- ALIGN_COMPLETE: after 16 superframes the lane is ACTIVE; after a step it replays, else its sequences start afresh; a lane that
was lost is restored; a secondary sends its discovery packet (R245, R249, R252, R258, R259, R269). -/
def alignComplete (l : Nat) (hw : Hw) : Hw :=
  let x := hw.lane l
  if l < 8 ∧ x.state = .align ∧ x.since + sfTicks x.rate 16 ≤ hw.ticks then
    let climb := x.lost ∨ x.rate < x.lostRate
    let hw := hw.toLane l .active (fun y =>
      let y := { y with quietAt := hw.ticks, ackAt := hw.ticks, missRun := 0, lost := false, stepFrom := none, stepTo := none }
      let y := if y.keepSeq then { y with keepSeq := false } else
        { y with txSeq := 0, rxExpect := 0, unacked := [], resend := [], replays := 0, rxCw := 0, badCws := [] }
      if climb ∧ y.rate < x.lostRate then { y with offered := some (2 ^ (x.lostRate + 1) - 1, hw.sfc l), reqOut := 1 }
      else { y with lostRate := 0, reqOut := 0 })
    let hw := if x.keepSeq then hw.replay l else if hw.isSecondary ∧ l = 4 then { hw with cas := { hw.cas with hello := true } } else hw
    if x.lost ∧ l < 4 then
      ({ hw with lnk := { hw.lnk with restored := true } }).raise (fid srcLnk 0 7) (le 1 l)
    else if x.lost ∧ ¬ hw.isSecondary then
      let s := mget {} hw.cas.secs (l - 3)
      { hw with cas := { hw.cas with secs := mset {} hw.cas.secs (l - 3) { s with lostAt := none } } }
    else hw
  else hw

/-- BRINGUP_TIMEOUT: an attempt of S10 or S11 not ACTIVE within 300 ms; after the third the lane passes through FAILED to
ANCHORED (R249, R250, Table 3.10). -/
def bringupTimeout (l : Nat) (hw : Hw) : Hw :=
  let x := hw.lane l
  let tries := decide (x.state = .detect ∨ x.state = .train ∨ x.state = .align)
  if l < 8 ∧ tries ∧ ¬ x.lost ∧ x.stepFrom = none ∧ x.lostAt + 240000000 ≤ hw.ticks then
    if 3 ≤ x.attempts + 1 then
      (hw.toLane l .failed (fun y => { y with attempts := 0 })).toLane l .anchored id
    else hw.toLane l .detect (fun y => { y with attempts := y.attempts + 1, rate := 0, sf0 := hw.ticks, lostAt := hw.ticks })
  else hw

/-- STEP_OFFER received: accepted at S10, in CONFIG and on a retraining lane, with the next code that both masks contain; else
refused (R251). Code 2 is none of this device's codes under DETECT (R240). -/
def stepOffer (l rates sfc : Nat) (hw : Hw) : Hw :=
  let x := hw.lane l
  if 8 ≤ l ∨ x.state ≠ .active then hw
  else
    let may := hw.dev.mode = .boot ∨ hw.dev.mode = .config ∨ x.rate < x.lostRate
    let top := max hw.targetRate x.lostRate
    let fec := x.rate + 1 < 2 ∨ ¬ hw.fecDetect
    if may ∧ tb rates (x.rate + 1) ∧ x.rate + 1 ≤ min 2 top ∧ fec then
      hw.toLane l .step (fun y => { y with stepTo := some (x.rate + 1, (sfc + 16) % 256), reqOut := 2 })
    else hw.setLane l { x with reqOut := 3 }

/-- STEP_ACCEPT received for an offer of this device (R251). -/
def stepAccept (l code : Nat) (hw : Hw) : Hw :=
  let x := hw.lane l
  match x.offered with
  | some (mask, sfc) =>
    if l < 8 ∧ x.state = .active ∧ code = x.rate + 1 ∧ tb mask code then
      hw.toLane l .step (fun y => { y with offered := none, stepTo := some (code, (sfc + 16) % 256) })
    else hw
  | none => hw

/-- RATE_CHANGE: at the agreed superframe (R251). -/
def rateChange (l : Nat) (hw : Hw) : Hw :=
  let x := hw.lane l
  match x.stepTo with
  | some (c, n) =>
    if l < 8 ∧ x.state = .step ∧ (hw.sfc l + 256 - n) % 256 < 128 then
      hw.toLane l .train (fun y => { y with
        stepTo := none, stepFrom := some (y.stepFrom.getD y.rate), rate := c, keepSeq := true, stepAt := hw.ticks, sf0 := hw.ticks })
    else hw
  | none => hw

/-- STEP_TIMEOUT: not ACTIVE at the new rate within 400 ms, back to the previous rate (R251). -/
def stepTimeout (l : Nat) (hw : Hw) : Hw :=
  let x := hw.lane l
  match x.stepFrom with
  | some r =>
    if l < 8 ∧ x.state ≠ .active ∧ x.stepAt + 320000000 ≤ hw.ticks then
      hw.toLane l .detect (fun y => { y with rate := r, stepFrom := none, stepTo := none, sf0 := hw.ticks, lostAt := hw.ticks })
    else hw
  | none => hw

/-- LANE_RETRAIN_TIMEOUT: a lost lane not ACTIVE within 300 ms is brought up at code 0, again every 1 s (R258). -/
def laneRetrainTimeout (l : Nat) (hw : Hw) : Hw :=
  let x := hw.lane l
  if l < 8 ∧ x.lost ∧ ¬ (hw.isEth ∧ l < 4) ∧ x.state ≠ .active ∧ x.state ≠ .test ∧
      x.lostAt + (if x.attempts = 0 then 240000000 else 800000000) ≤ hw.ticks then
    hw.toLane l .detect (fun y => { y with rate := 0, attempts := y.attempts + 1, lostAt := hw.ticks, sf0 := hw.ticks })
  else hw

/-! ### Adaptation, idle, tests (R256, R261 to R263) -/

/-- MARGIN_LOW: RETRAIN is sent and counted; more than 16 within 60 s raise F.LNK.004 (R256). -/
def marginLowAt (l m : Nat) (hw : Hw) : Hw :=
  let x := hw.lane l
  if l < 8 ∧ x.state = .active ∧ m < hw.marginLow then
    let times := (hw.ticks :: x.retrains).filter (fun t => decide (hw.ticks < t + 48000000000))
    let hw := (hw.setLane l { x with margin := m, retrains := times.take 17, reqOut := 5 }).stick (0x006800E0 + 4 * l) 1
    if times.length = 17 then hw.raise (fid srcLnk 1 4) (le 1 l) else hw
  else hw

/-- RETRAIN received: TRAIN blocks in every superframe for 1 ms (R256). -/
def retrain (l : Nat) (hw : Hw) : Hw :=
  let x := hw.lane l
  if l < 8 ∧ x.state = .active then hw.setLane l { x.retrainFrom hw.ticks with trainBlocks := hw.ticks + 800000 } else hw

/-- A test starts: the lane is in TEST and counts as lost (R262). -/
def Hw.startTest (hw : Hw) (l code ms : Nat) : Hw :=
  let hw := hw.loseLane l
  let hw := if hw.isEth ∧ l < 4 then hw else hw.toLane l .test id
  { hw with lnk := { hw.lnk with testOn := true, testLane := l, testCode := code, testEnd := hw.ticks + 800000 * ms
                                 testBits := 0, testErrs := 0, testLock := false } }

/-- LANE_TEST_END: the duration is over; the lane retrains through DETECT. A far-end loopback reports 0 errors (R262). -/
def laneTestEnd (l n errs : Nat) (hw : Hw) : Hw :=
  if hw.lnk.testOn ∧ hw.lnk.testLane = l ∧ hw.lnk.testEnd ≤ hw.ticks then
    let far := hw.lnk.testCode / 16 = 3
    let hw := { hw with lnk := { hw.lnk with
      testOn := false, testBits := n % 2 ^ 64, testErrs := if far then 0 else errs % 2 ^ 64, testLock := !far } }
    if hw.isEth ∧ l < 4 then hw else hw.toLane l .detect (fun y => { y with lostAt := hw.ticks, attempts := 0 })
  else hw

/-- LNK_INJECT_GO: a write of LNK_INJECT, in SERVICE only; GO reads 1 for COUNT superframes (R263). -/
def lnkInject (v : Nat) (hw : Hw) : Hw :=
  if hw.dev.mode ≠ .service then { hw with ack := 0x03, ackData := le 1 hw.dev.mode.code }
  else
    let hw := (hw.setReg 0x00680114 (v &&& 0x0703F0FF))
    let hw := { hw with ack := 0, ackData := [] }
    if tb v 31 then
      { hw with lnk := { hw.lnk with injLast := none, injEnd := hw.ticks + sfTicks (hw.lane (bits v 24 3)).rate (max 1 (bits v 0 8)) } }
    else hw

/-- ETH_LOCK_LOSS and PCS_BLOCK_LOCK (R254, R257, R259). -/
def ethLockLoss (l : Nat) (hw : Hw) : Hw :=
  if l < 4 ∧ hw.isEth ∧ (hw.lane l).lock then hw.loseLane l else hw
def pcsBlockLock (l : Nat) (hw : Hw) : Hw :=
  let x := hw.lane l
  if l < 4 ∧ hw.isEth ∧ hw.laneOn l ∧ ¬ x.lock then
    let hw := hw.setLane l { x with lock := true, lost := false, rate := hw.targetRate, attempts := 0 }
    if x.lost then ({ hw with lnk := { hw.lnk with restored := true } }).raise (fid srcLnk 0 7) (le 1 l) else hw
  else hw

/-! ### ARP, ICMP, PTP (R234, R235) -/

/-- The ARP entry of an address replaced. -/
def Hw.updArp (hw : Hw) (ip : U32) (f : Arp → Arp) : Hw :=
  { hw with out := { hw.out with arp := hw.out.arp.map (fun a => if a.ip = ip then f a else a) } }
def Hw.arpOf (hw : Hw) (ip : U32) : Option Arp := hw.out.arp.find? (fun a => decide (a.ip = ip))

/-- What the network has to send on a port. -/
def Hw.sendNet (hw : Hw) (port : Nat) (n : NetOut) : Hw := { hw with out := { hw.out with ethOut := hw.out.ethOut ++ [(port, n)] } }

/-- A destination that starts to be resolved; the requests go out on the port whose datagram needs it (log entry 168). -/
def Hw.askArp (hw : Hw) (ip : U32) (port : Nat) : Hw :=
  ({ hw with out := { hw.out with arp := hw.out.arp ++ [({ ip := ip, since := hw.ticks, asked := hw.ticks, port := port } : Arp)] } } : Hw).sendNet port
    (.ask ip.toNat)

def arpRetry (ip : U32) (hw : Hw) : Hw :=
  match hw.arpOf ip with
  | some a =>
    if a.mac.isNone ∧ a.asked + 80000000 ≤ hw.ticks then (hw.updArp ip (fun a => { a with asked := hw.ticks })).sendNet a.port (.ask ip.toNat) else hw
  | none => hw
def arpReply (ip : U32) (mac : Nat) (hw : Hw) : Hw :=
  hw.updArp ip (fun a => { a with mac := some (mac % 2 ^ 48), since := hw.ticks, faulted := false })
def arpExpiry (ip : U32) (hw : Hw) : Hw :=
  match hw.arpOf ip with
  | some a =>
    if a.mac.isSome ∧ a.since + 48000000000 ≤ hw.ticks then
      { hw with out := { hw.out with arp := hw.out.arp.filter (fun x => decide (x.ip ≠ ip)) } }
    else hw
  | none => hw
def destUnresolved (ip : U32) (hw : Hw) : Hw :=
  match hw.arpOf ip with
  | some a =>
    if a.mac.isNone ∧ ¬ a.faulted ∧ a.since + 800000000 ≤ hw.ticks then
      (hw.updArp ip (fun a => { a with faulted := true })).raise (fid srcOut 1 3) []
    else hw
  | none => hw

/-- The address of whoever sends an ARP request to this device is learned, as RFC 826 has it (log entry 168). -/
def Hw.learn (hw : Hw) (ip : U32) (mac : Nat) : Hw :=
  if (hw.arpOf ip).isSome then arpReply ip mac hw
  else { hw with out := { hw.out with arp := hw.out.arp ++ [{ ip := ip, mac := some (mac % 2 ^ 48), since := hw.ticks, asked := hw.ticks }] } }

/-- ARP_REQUEST for an address, from a sender's IPv4 and MAC address. -/
def arpRequest (ip sender : U32) (mac : Nat) (hw : Hw) : Hw :=
  if hw.isEth ∧ ip.toNat = hw.out.netAddr then (hw.learn sender mac).sendNet 0 (.arp sender.toNat (mac % 2 ^ 48)) else hw

/-- ICMP_ECHO: `rest` is the request behind its type, code and checksum. -/
def icmpEcho (src : U32) (rest : List Byte) (hw : Hw) : Hw :=
  if hw.isEth then hw.sendNet 0 (.echo src.toNat rest) else hw

/-! ### Ethernet frames (R233, R234) -/

/-- The MAC address of a port: the fused base address plus its number. -/
def Hw.portMac (hw : Hw) (l : Nat) : Nat := (bits (mget 0 hw.sec.fused 6) 0 16 * 2 ^ 32 + mget 0 hw.sec.fused 5 + l) % 2 ^ 48

/-- Where a datagram goes next, and the MAC address there: of a multicast group, or once it is resolved. -/
def Hw.nextHop (hw : Hw) (ip : Nat) : Nat :=
  if ip / 2 ^ 28 = 14 ∨ (ip &&& hw.out.netMask) = (hw.out.netAddr &&& hw.out.netMask) then ip else hw.out.netGate
def Hw.hopMac (hw : Hw) (ip : Nat) : Option Nat :=
  if ip / 2 ^ 28 = 14 then some (multicastMac ip) else (hw.arpOf (BitVec.ofNat 32 (hw.nextHop ip))).bind (·.mac)

/-- A frame leaves a port. -/
def Hw.emit (hw : Hw) (l dst type : Nat) (payload : List Byte) : Hw :=
  hw.setLane l { hw.lane l with frame := etherFrame dst (hw.portMac l) type payload }

/-- An IPv4 packet leaves a port, or `lost` tells what its discard counts while its destination is unresolved (R234); the identification
field is free (log entry 169). -/
def Hw.sendIp (hw : Hw) (l ip proto : Nat) (payload : List Byte) (lost : Hw → Hw) : Hw :=
  match hw.hopMac ip with
  | some mac =>
    let (id, hw) := hw.draw
    hw.emit l mac 0x0800 (ipPacket (hw.reg 0x00600028) id proto hw.out.netAddr ip payload)
  | none =>
    let hop := BitVec.ofNat 32 (hw.nextHop ip)
    lost (if (hw.arpOf hop).isNone then hw.askArp hop l else hw)

/-- A UDP datagram leaves a port, or is lost. -/
def Hw.sendUdp (hw : Hw) (l sport ip dport : Nat) (payload : List Byte) (lost : Hw → Hw) : Hw :=
  hw.sendIp l ip 17 (udpPacket hw.out.netAddr ip sport dport payload) lost

/-- What the network answers or asks of its own leaves a port. -/
def Hw.sendOwn (hw : Hw) (l : Nat) : NetOut → Hw
  | .ask ip => hw.emit l broadcastMac 0x0806 (arpPacket 1 (hw.portMac l) hw.out.netAddr 0 ip)
  | .arp ip mac => hw.emit l mac 0x0806 (arpPacket 2 (hw.portMac l) hw.out.netAddr mac ip)
  | .echo ip rest => hw.sendIp l ip 1 (echoReply rest) id

/-- PTP_MESSAGE (R235): an announcement (kind 0) shows a source; a completed delay exchange (any other kind) gives the offset of
device time from PTP time. MEASURE reports it; DISCIPLINE steps device time by whole ticks in CONFIG, where no
MODE_SET_AT is pending (R137), and steers the term of R139. -/
def ptpMessage (kind : Nat) (ofsNs : Int) (hw : Hw) : Hw :=
  if hw.out.ptp = 0 ∨ ¬ hw.isEth then hw
  else
    let hw := { hw with out := { hw.out with ptpSeen := true } }
    if kind = 0 then hw
    else
      let fine := 64 * ofsNs
      let step := Int.tdiv fine 80
      if hw.out.ptp = 2 then
        let jump := decide (hw.dev.mode = .config ∧ step ≠ 0) && hw.dev.sched.isNone
        let err : Int := if jump then fine - 80 * step else fine
        let hw : Hw := if jump then hw.setTime (BitVec.ofInt 64 ((hw.clk.time.toNat : Int) - step)) else hw
        let hw : Hw := hw.discipline err
        let run := hw.lockRun err hw.out.ptpRun
        { hw with
          out := { hw.out with
            ptpOfs := err, ptpRun := run, ptpLocked := decide (run = 8)
            ptpLost := if run = 8 then none else hw.out.ptpLost.orElse (fun _ => some hw.ticks) } }
      else { hw with out := { hw.out with ptpOfs := fine } }

/-- PTP_LOCK_LOST: no lock for 2 s with ptp 2; the term is held (R236). -/
def ptpLockLost (hw : Hw) : Hw :=
  match hw.out.ptpLost with
  | some t =>
    if hw.out.ptp = 2 ∧ t + 1600000000 ≤ hw.ticks then
      ({ hw with out := { hw.out with ptpLost := none, ptpLocked := false, ptpRun := 0 } }).raise (fid srcOut 1 4) []
    else hw
  | none =>
    if hw.out.ptp = 2 ∧ hw.out.ptpLocked then
      { hw with out := { hw.out with ptpLocked := false, ptpRun := 0, ptpLost := some hw.ticks } } else hw

end Sys2Proof.Machine
end

