-- ==== Sys2Proof/Machine/Crypto.lean ====
section
/-! DEFINITION. The standard functions that chapter 23 names: SHA-256, and the verification and key recovery of ECDSA over the
curve P-256 (R453, R454, R459). Their constants are those of the standards (log entry 35). -/

namespace Sys2Proof.Machine

/-! ### SHA-256 -/

/-- The round constants and the initial hash. -/
def shaK : List Nat :=
  ([0x428a2f98, 0x71374491, 0xb5c0fbcf, 0xe9b5dba5, 0x3956c25b, 0x59f111f1, 0x923f82a4, 0xab1c5ed5] ++
   [0xd807aa98, 0x12835b01, 0x243185be, 0x550c7dc3, 0x72be5d74, 0x80deb1fe, 0x9bdc06a7, 0xc19bf174] ++
   [0xe49b69c1, 0xefbe4786, 0x0fc19dc6, 0x240ca1cc, 0x2de92c6f, 0x4a7484aa, 0x5cb0a9dc, 0x76f988da] ++
   [0x983e5152, 0xa831c66d, 0xb00327c8, 0xbf597fc7, 0xc6e00bf3, 0xd5a79147, 0x06ca6351, 0x14292967] ++
   [0x27b70a85, 0x2e1b2138, 0x4d2c6dfc, 0x53380d13, 0x650a7354, 0x766a0abb, 0x81c2c92e, 0x92722c85] ++
   [0xa2bfe8a1, 0xa81a664b, 0xc24b8b70, 0xc76c51a3, 0xd192e819, 0xd6990624, 0xf40e3585, 0x106aa070] ++
   [0x19a4c116, 0x1e376c08, 0x2748774c, 0x34b0bcb5, 0x391c0cb3, 0x4ed8aa4a, 0x5b9cca4f, 0x682e6ff3] ++
   [0x748f82ee, 0x78a5636f, 0x84c87814, 0x8cc70208, 0x90befffa, 0xa4506ceb, 0xbef9a3f7, 0xc67178f2])
def shaInit : List Nat := [0x6a09e667, 0xbb67ae85, 0x3c6ef372, 0xa54ff53a, 0x510e527f, 0x9b05688c, 0x1f83d9ab, 0x5be0cd19]

/-- Sums and rotations of 32-bit words. -/
def add32 (a b : Nat) : Nat := (a + b) % 2 ^ 32
def rotr32 (n x : Nat) : Nat := x / 2 ^ n + x % 2 ^ n * 2 ^ (32 - n)

/-- The message schedule, extended word by word; the list holds the newest word first. -/
def shaSchedule : Nat → List Nat → List Nat
  | 0, w => w
  | n + 1, w =>
    let w15 := w.getD 14 0
    let w2 := w.getD 1 0
    let s0 := (rotr32 7 w15) ^^^ (rotr32 18 w15) ^^^ (w15 / 8)
    let s1 := (rotr32 17 w2) ^^^ (rotr32 19 w2) ^^^ (w2 / 1024)
    shaSchedule n (add32 (add32 (w.getD 15 0) s0) (add32 (w.getD 6 0) s1) :: w)

/-- One round on the eight working words. -/
def shaRound (v : List Nat) (kw : Nat) : List Nat :=
  match v with
  | [a, b, c, d, e, f, g, h] =>
    let s1 := (rotr32 6 e) ^^^ (rotr32 11 e) ^^^ (rotr32 25 e)
    let ch := (e &&& f) ^^^ ((0xFFFFFFFF - e) &&& g)
    let t1 := add32 (add32 h s1) (add32 ch kw)
    let s0 := (rotr32 2 a) ^^^ (rotr32 13 a) ^^^ (rotr32 22 a)
    let mj := (a &&& b) ^^^ (a &&& c) ^^^ (b &&& c)
    [add32 t1 (add32 s0 mj), a, b, c, add32 d t1, e, f, g]
  | _ => v

/-- The number a big-endian byte string spells. -/
def ofBe (l : List Byte) : Nat := l.foldl (fun x b => 256 * x + b.toNat) 0

/-- One block of 64 bytes. -/
def shaBlock (h : List Nat) (blk : List Byte) : List Nat :=
  let w := (List.range 16).map (fun i => ofBe ((blk.drop (4 * i)).take 4))
  let ws := (shaSchedule 48 w.reverse).reverse
  let v := (ws.zip shaK).foldl (fun v p => shaRound v (add32 p.1 p.2)) h
  (h.zip v).map (fun p => add32 p.1 p.2)

/-- The blocks of a padded message. -/
def shaBlocks : Nat → List Byte → List Nat → List Nat
  | 0, _, h => h
  | n + 1, l, h => shaBlocks n (l.drop 64) (shaBlock h (l.take 64))

/-- SHA-256 of a byte string. -/
def sha256 (m : List Byte) : List Byte :=
  let z := (119 - m.length % 64) % 64
  let l := m ++ [0x80] ++ List.replicate z 0 ++ be 8 (8 * m.length)
  (shaBlocks (l.length / 64) l shaInit).flatMap (be 4)

/-! ### ECDSA over P-256 -/

/-- The field, the group order, the coefficient b and the base point. -/
def ecP : Nat := 0xffffffff00000001000000000000000000000000ffffffffffffffffffffffff
def ecN : Nat := 0xFFFFFFFF00000000FFFFFFFFFFFFFFFFBCE6FAADA7179E84F3B9CAC2FC632551
def ecB : Nat := 0x5ac635d8aa3a93e7b3ebbd55769886bc651d06b0cc53b0f63bce3c3e27d2604b
def ecG : Nat × Nat := (0x6b17d1f2e12c4247f8bce6e563a440f277037d812deb33a0f4a13945d898c296, 0x4fe342e2fe1a7f9b8ee7eb4a7c0f9e162bce33576b315ececbb6406837bf51f5)

/-- x^e mod m over the lowest `n` bits of e. -/
def powMod : Nat → Nat → Nat → Nat → Nat → Nat
  | 0, _, _, _, r => r
  | n + 1, x, e, m, r => powMod n (x * x % m) (e / 2) m (if e % 2 = 1 then r * x % m else r)
def invMod (x m : Nat) : Nat := powMod 256 (x % m) (m - 2) m 1

/-- Points of the curve; none is the point at infinity. -/
def ecAdd (a b : Option (Nat × Nat)) : Option (Nat × Nat) :=
  match a, b with
  | none, q => q
  | q, none => q
  | some (x1, y1), some (x2, y2) =>
    if x1 = x2 ∧ (y1 + y2) % ecP = 0 then none
    else
      let s := if x1 = x2 then (3 * x1 * x1 + (ecP - 3)) * invMod (2 * y1) ecP % ecP
        else (y2 + ecP - y1) * invMod (x2 + ecP - x1) ecP % ecP
      let x := (s * s + 2 * ecP - x1 - x2) % ecP
      some (x, (s * (x1 + ecP - x) + ecP - y1) % ecP)

/-- k times a point over the lowest `n` bits of k. -/
def ecMul : Nat → Nat → Option (Nat × Nat) → Option (Nat × Nat) → Option (Nat × Nat)
  | 0, _, _, r => r
  | n + 1, k, q, r => ecMul n (k / 2) (ecAdd q q) (if k % 2 = 1 then ecAdd r q else r)

/-- Whether a point lies on the curve. -/
def ecOn (q : Nat × Nat) : Bool :=
  decide (q.1 < ecP ∧ q.2 < ecP ∧ q.2 * q.2 % ecP = (q.1 * q.1 * q.1 + (ecP - 3) * q.1 + ecB) % ecP)

/-- Whether (r, s), 64 bytes, is a signature of the hash under the key, 64 bytes x then y. -/
def ecdsaOk (key sig hash : List Byte) : Bool :=
  let q := (ofBe (key.take 32), ofBe (key.drop 32))
  let r := ofBe (sig.take 32)
  let s := ofBe (sig.drop 32)
  if r = 0 ∨ ecN ≤ r ∨ s = 0 ∨ ecN ≤ s ∨ ¬ ecOn q then false
  else
    let w := invMod s ecN
    match ecAdd (ecMul 256 (ofBe hash * w % ecN) (some ecG) none) (ecMul 256 (r * w % ecN) (some q) none) with
    | some (x, _) => decide (x % ecN = r)
    | none => false

/-- The public keys, 64 bytes each, under which (r, s) is a signature of the hash. -/
def ecdsaKeys (sig hash : List Byte) : List (List Byte) :=
  let r := ofBe (sig.take 32)
  let s := ofBe (sig.drop 32)
  if r = 0 ∨ ecN ≤ r ∨ s = 0 ∨ ecN ≤ s then []
  else
    let ri := invMod r ecN
    ([r, r + ecN].filter (fun x => decide (x < ecP))).flatMap (fun x =>
      let y := powMod 256 ((x * x * x + (ecP - 3) * x + ecB) % ecP) ((ecP + 1) / 4) ecP 1
      if ¬ ecOn (x, y) then []
      else [y, ecP - y].filterMap (fun y =>
        let u := ecMul 256 (s * ri % ecN) (some (x, y)) none
        let v := ecMul 256 ((ecN - ofBe hash * ri % ecN) % ecN) (some ecG) none
        (ecAdd u v).map (fun q => be 32 q.1 ++ be 32 q.2)))

end Sys2Proof.Machine
end

