-- ==== Sys2Proof/Machine/Sec.lean ====
section
/-! DEFINITION. SEC (chapter 23): fuses, access scopes, the service password, the authenticity of firmware images. -/

namespace Sys2Proof.Machine

/-! ### Fuses (R450, R451, Tables 23.1 to 23.3) -/

/-- A fuse word as S02 read it. -/
def Hw.fuse (hw : Hw) (w : Nat) : Nat := mget 0 hw.sec.fused w

/-- The 16 logical bits of an OR2 word. -/
def or2 (x : Nat) : Nat := maskOf ((List.range 16).filter (fun i => x.testBit (2 * i) || x.testBit (2 * i + 1)))

/-- The fuses of logical bits: both of each. -/
def or2Fuses (bits : Nat) : Nat := maskOf ((setBits 16 bits).flatMap (fun i => [2 * i, 2 * i + 1]))

def Hw.fuseLocks (hw : Hw) : Nat := or2 (hw.fuse 0)
def Hw.fuseRevoke (hw : Hw) : Nat := or2 (hw.fuse 1)
def Hw.policy (hw : Hw) : Nat := hw.fuse 86

/-- SVN of the fuses: the position of the highest set logical bit plus 1. -/
def svnOf (word : Nat → Nat) : Nat :=
  ((List.range 128).filter (fun i => (or2 (word (63 + i / 16))).testBit (i % 16))).foldl (fun m i => max m (i + 1)) 0
def Hw.fusedSvn (hw : Hw) : Nat := svnOf hw.fuse
/-- The SVN that the fuses hold now, which a trial start has raised before the next S02 reads it (R455, Table 23.5; log entry 192). -/
def Hw.svnNow (hw : Hw) : Nat := svnOf (fun w => mget 0 hw.pantry.fuses w)

/-- SERIAL's 8 bytes, and the 32 bytes of a hash that starts at a word (log entry 44). -/
def Hw.serial (hw : Hw) : List Byte := le 4 (hw.fuse 3) ++ le 4 (hw.fuse 4)
def Hw.fuseHash (hw : Hw) (w : Nat) : List Byte := (List.range 8).flatMap (fun i => le 4 (hw.fuse (w + i)))
def Hw.vkey (hw : Hw) (s : Nat) : List Byte := hw.fuseHash (7 + 8 * s)
def Hw.okey (hw : Hw) (s : Nat) : List Byte := hw.fuseHash (39 + 8 * s)

/-- PART, REV and CODE of DEV_IDENT (Table 0.2). -/
def Hw.identWord (hw : Hw) : Nat := 0x7680B000 + 16 * (hw.dev.codeRead.getD 0xF % 16)

/-- Whether a word is of kind OR2 (Table 23.1). -/
def isOr2 (w : Nat) : Bool := decide (w ≤ 1 ∨ (63 ≤ w ∧ w ≤ 70))

/-- Whether a lock bit of Table 23.2, as S02 read it, protects a word. -/
def Hw.fuseProtected (hw : Hw) (w : Nat) : Bool :=
  let l := hw.fuseLocks
  (tb l 2 && decide (71 ≤ w ∧ w ≤ 85)) || (tb l 3 && decide ((39 ≤ w ∧ w ≤ 54) ∨ w = 86)) ||
  (tb l 4 && decide (2 ≤ w ∧ w ≤ 62)) || (tb l 5 && !isOr2 w)

/-- The header of the running image, and its VERSION and KEY_SLOT; of an image the state does not hold they are free (log
entry 38). -/
def Hw.image (hw : Hw) (slot : Nat) : List Byte := mget [] hw.pantry.fw slot
def Hw.slotVersion (hw : Hw) (slot : Nat) : Nat :=
  if (hw.image slot).isEmpty then Config.fwVersion slot else field (hw.image slot) 4 4
def Hw.fwRunning (hw : Hw) : Nat := hw.slotVersion hw.sec.slot
def Hw.keySlot (hw : Hw) : Nat :=
  if (hw.image hw.sec.slot).isEmpty then Config.fwKeySlot hw.sec.slot % 4 else field (hw.image hw.sec.slot) 9 1 % 4

/-- The boot record's selected slot and TRIAL (Table 3.13, R455), and the staged VERSION (R456). -/
def Hw.fwSelected (hw : Hw) : Nat := b2n (tb hw.pantry.boot.fw 4)
def Hw.fwTrial (hw : Hw) : Bool := tb hw.pantry.boot.fw 5
def Hw.fwStaged (hw : Hw) : Nat := if hw.fwTrial then hw.slotVersion hw.fwSelected else 0

/-- Whether a REVOKE value takes the running image's key slot, or leaves no unrevoked vendor slot with a key (R452). -/
def Hw.revokeBad (hw : Hw) (r : Nat) : Bool :=
  tb r hw.keySlot || !(List.range 4).any (fun s => !tb r s && (List.range 8).any (fun i => mget 0 hw.pantry.fuses (7 + 8 * s + i) != 0))

/-- A word as it stands now with its parity bit programmed for a ONCE word (R450, R451). -/
def blow (m : SMap Nat) (w v : Nat) : SMap Nat :=
  let m := mset 0 m w (v % 2 ^ 32)
  if isOr2 w ∨ 248 ≤ w then m
  else if popCount 32 v % 2 = 1 then mset 0 m (248 + w / 32) (mget 0 m (248 + w / 32) ||| 2 ^ (w % 32)) else m

/-- A PRECONDITION_FAILED answer of a register access (Table 2.17). -/
def Hw.ackPre (hw : Hw) (code : Nat) : Hw := { hw with ack := 0x06, ackData := le 2 code }

/-- SEC_FUSE_CTL.PROG (R452): one word programmed from FUSE_ADDR and FUSE_DATA and read back. `service` tells whether a SERVICE
session asks. -/
def fuseProgram (service : Bool) (readback : Nat) (hw : Hw) : Hw :=
  if hw.dev.mode ≠ .service then { hw with ack := 0x03, ackData := le 1 hw.dev.mode.code }
  else if ¬ service then { hw with ack := 0x04, ackData := [] }
  else
    let w := hw.reg 0x00980020 % 256
    let d := hw.reg 0x00980024
    let old := mget 0 hw.pantry.fuses w
    if ¬ isOr2 w ∧ old ≠ 0 then hw.ackPre 0x0B02
    else if hw.fuseProtected w then hw.ackPre 0x0B04
    else if w = 1 ∧ hw.revokeBad (or2 old ||| d % 2 ^ 16) then hw.ackPre 0x0B03
    else
      let want := if isOr2 w then old ||| or2Fuses d else d
      let got := readback % 2 ^ 32
      let hw := { hw with pantry := { hw.pantry with fuses := mset 0 (blow hw.pantry.fuses w want) w got } }
      if got = want then { hw with ack := 0, ackData := [] }
      else (hw.raise (fid srcSec 3 3) []).ackPre 0x0B05

/-! ### Access (R457 to R461) -/

def Hw.serviceLocked (hw : Hw) : Bool := tb hw.fuseLocks 1
def Hw.debugLocked (hw : Hw) : Bool := tb hw.fuseLocks 0
def Hw.serviceOpen (hw : Hw) : Bool := !hw.serviceLocked || hw.sec.service.isSome
def Hw.debugOpen (hw : Hw) : Bool := !hw.debugLocked || hw.sec.scopeD.isSome

/-- Whether POLICY lets ADMIN be granted on a transport now (R458): bits 6:4 of POLICY, 0 acting as all. -/
def Hw.adminPort (hw : Hw) (t : Transport) : Bool :=
  let m := bits hw.policy 4 3
  let m := if m = 0 then 7 else m
  tb m (match t with | .spi => 0 | .link => 1 | .eth => 2)
def Hw.adminOpenOk (hw : Hw) : Bool := !tb hw.policy 1 || hw.serviceOpen

/-- A 32-byte nonce, or any random bytes, of free words (log entry 1). -/
def Hw.random : Nat → Hw → List Byte × Hw
  | 0, hw => ([], hw)
  | n + 1, hw =>
    let (x, hw) := hw.draw
    let (l, hw) := Hw.random n hw
    (le 4 x ++ l, hw)

/-- SEC_CHALLENGE: a new challenge replaces the standing one (R459). -/
def Hw.issueChallenge (hw : Hw) (scope : Nat) : Hw × List Byte :=
  let (nonce, hw) := Hw.random 8 hw
  ({ hw with sec := { hw.sec with challenge := some { scope := scope, nonce := nonce, since := hw.ticks } } }, nonce)

/-- CHALLENGE_EXPIRY: 60 s after it was issued (R459). -/
def challengeExpiry (hw : Hw) : Hw :=
  match hw.sec.challenge with
  | some c => if c.since + 48000000000 ≤ hw.ticks then { hw with sec := { hw.sec with challenge := none } } else hw
  | none => hw

/-- The challenge that stands: it lapses after 60 s (R459). -/
def Hw.standing (hw : Hw) : Option Challenge :=
  match hw.sec.challenge with
  | some c => if hw.ticks < c.since + 48000000000 then some c else none
  | none => none

/-- The message a response signs (R459). -/
def Hw.challengeHash (hw : Hw) (c : Challenge) : List Byte :=
  sha256 (c.nonce ++ le 1 c.scope ++ hw.serial ++ le 4 hw.identWord)

/-- What opens a scope: 1 a vendor key, 2 an owner key, none; scope bit 0 SERVICE, bit 1 DEBUG (R459; log entry 42). -/
def Hw.keyOpens (hw : Hw) (scope : Nat) (keys : List (List Byte)) : Option Nat :=
  let r := hw.fuseRevoke
  let hs := keys.map (fun k => sha256 k)
  let owner := (List.range 2).any (fun s => !tb r (4 + s) && hs.contains (hw.okey s))
  let vendor := (List.range 4).any (fun s => !tb r s && hs.contains (hw.vkey s))
  if owner ∧ (¬ tb scope 1 ∨ tb hw.policy 25) then some 2
  else if vendor ∧ tb hw.policy 24 then some 1
  else none

/-- SEC_RESPONSE: the status and code it is answered with, and what it opens; one response uses the challenge up, whatever its scope
(R459; log entry 136). -/
def Hw.respond (hw : Hw) (session scope : Nat) (sig : List Byte) : Hw × Nat × Nat :=
  match hw.standing with
  | none => (hw, 0x06, 0x0B07)
  | some c =>
    let hw := { hw with sec := { hw.sec with challenge := none } }
    if c.scope ≠ scope then (hw, 0x06, 0x0B07)
    else
      let keys := ecdsaKeys sig (hw.challengeHash c)
      match hw.keyOpens scope keys with
      | none => (hw, 0x04, 0)
      | some by' =>
        let hw := if tb scope 0 then
            { hw with sec := { hw.sec with service := some (by', session) }, pantry := { hw.pantry with password := { hw.pantry.password with fails := 0 } } }
          else hw
        let hw := if tb scope 1 then { hw with sec := { hw.sec with scopeD := some (by', session) } } else hw
        (hw, 0, 0)

/-- PW_TRIES, PW_DELAY in ticks, and whether the password is locked out (Table 23.3, R460). -/
def Hw.pwTries (hw : Hw) : Nat := let n := bits hw.policy 8 8; if n = 0 then 5 else n
def Hw.pwDelay (hw : Hw) : Nat := let n := bits hw.policy 16 8; 80000000 * (if n = 0 then 10 else n)
def Hw.pwLocked (hw : Hw) : Bool := decide (hw.pwTries ≤ hw.pantry.password.fails)
def Hw.pwHash (hw : Hw) (salt pw : List Byte) : List Byte := sha256 (salt ++ pw ++ hw.serial)

/-- SEC_PASSWORD (R460): the status, its code, and whether the reply is delayed. -/
def Hw.tryPassword (hw : Hw) (session : Nat) (pw : List Byte) : Hw × Nat × Nat × Bool :=
  let p := hw.pantry.password
  if ¬ tb hw.policy 0 ∨ ¬ p.isSet then (hw, 0x06, 0x0B08, false)
  else if hw.pwLocked then (hw, 0x04, 0, false)
  else if hw.pwHash p.salt pw = p.hash then
    ({ hw with sec := { hw.sec with service := some (3, session) }, pantry := { hw.pantry with password := { p with fails := 0 } } }, 0, 0, false)
  else
    let hw := { hw with pantry := { hw.pantry with password := { p with fails := p.fails + 1 } } }
    let hw := hw.raise (fid srcSec 1 1) []
    let hw := if hw.pwLocked then hw.raise (fid srcSec 1 2) [] else hw
    (hw, 0x04, 0, true)

/-- Whether SERVICE was opened by an owner or vendor key. -/
def Hw.openedByKey (hw : Hw) : Bool :=
  match hw.sec.service with
  | some (b, _) => decide (b = 1 ∨ b = 2)
  | none => false

/-- PASSWORD_COMMIT and PASSWORD_CLEAR: SEC_PW_CTL (R460). -/
def passwordCommit (hw : Hw) : Hw :=
  if ¬ hw.openedByKey then { hw with ack := 0x04, ackData := [] }
  else
    let (salt, hw) := Hw.random 4 hw
    let pw := (List.range 4).flatMap (fun j => le 4 (mget 0 hw.sec.pwSet j))
    { hw with
      pantry := { hw.pantry with password := { hw.pantry.password with isSet := true, salt := salt, hash := hw.pwHash salt pw } }
      ack := 0, ackData := [] }
def passwordClear (hw : Hw) : Hw :=
  if ¬ hw.openedByKey then { hw with ack := 0x04, ackData := [] }
  else { hw with pantry := { hw.pantry with password := { hw.pantry.password with isSet := false, salt := [], hash := [] } }, ack := 0, ackData := [] }

/-- The scopes that a session opened close (R461). -/
def Hw.closeScopes (hw : Hw) (session : Nat) : Hw :=
  let drop := fun (o : Option (Nat × Nat)) => match o with
    | some (b, s) => if s = session then none else some (b, s)
    | none => none
  { hw with sec := { hw.sec with service := drop hw.sec.service, scopeD := drop hw.sec.scopeD } }

/-! ### Firmware images (R453 to R456) -/

/-- Checks 1 to 3 and 6 of R454 on a header: the code of the first that fails. -/
def Hw.fwHeader (hw : Hw) (h : List Byte) : Option Nat :=
  let zero := fun off n => (bytesAt h off n).all (fun b => b == 0)
  let len := field h 12 4
  let slot := field h 9 1
  if field h 0 4 ≠ 0x7680F1A5 ∨ ¬ zero 16 16 ∨ ¬ zero 192 64 ∨ 1 < field h 10 1 then some 0x0B10
  else if 0xB0 < field h 11 1 ∨ len % 16 ≠ 0 ∨ 655104 < len then some 0x0B10
  else if 3 < slot ∨ tb hw.fuseRevoke slot ∨ sha256 (bytesAt h 64 64) ≠ hw.vkey slot then some 0x0B11
  else if field h 8 1 < hw.fusedSvn then some 0x0B14
  else none

/-- Checks 4 and 5 on a whole image. -/
def fwBody (img : List Byte) : Option Nat :=
  if ¬ ecdsaOk (bytesAt img 64 64) (bytesAt img 128 64) (sha256 (img.take 128)) then some 0x0B12
  else if img.length ≠ 256 + field img 12 4 ∨ sha256 (img.drop 256) ≠ bytesAt img 32 32 then some 0x0B13
  else none

/-- FW_UPDATE's final step: authentic, the image stands in the slot that is not running, selected with TRIAL set; F.SEC.004 else. -/
def Hw.fwCommit (hw : Hw) (img : List Byte) : Hw × Option Nat :=
  match (hw.fwHeader img).orElse (fun _ => fwBody img) with
  | some c => (hw.raise (fid srcSec 1 4) [], some c)
  | none =>
    let t := 1 - hw.sec.slot
    let boot := { hw.pantry.boot with fw := putBit (putBit hw.pantry.boot.fw 4 (decide (t = 1))) 5 true }
    ({ hw with pantry := { hw.pantry with fw := mset [] hw.pantry.fw t img, boot := boot } }, none)

/-- A trial start that reached S14 (R455): the slot runs, TRIAL is cleared, and SVN_COMMIT blows the SVN bits. -/
def Hw.fwConfirm (hw : Hw) : Hw :=
  if hw.fwTrial ∧ hw.fwSelected = hw.sec.slot then
    let hw := { hw with pantry := { hw.pantry with boot := { hw.pantry.boot with fw := putBit hw.pantry.boot.fw 5 false } } }
    let img := hw.image hw.sec.slot
    let svn := min 128 (field img 8 1)
    if tb (field img 10 1) 0 ∧ hw.fusedSvn < svn then
      let up := (List.range 8).foldl (fun m j =>
        let b := maskOf ((List.range 16).filter (fun i => decide (16 * j + i < svn)))
        mset 0 m (63 + j) (mget 0 m (63 + j) ||| or2Fuses b)) hw.pantry.fuses
      { hw with pantry := { hw.pantry with fuses := up } }
    else hw
  else hw

/-! ### Registers (Table 23.7) -/

def Hw.secStatus (hw : Hw) : Nat :=
  let opened := match hw.sec.service, hw.sec.scopeD with
    | some (b, _), _ => b
    | none, some (b, _) => b
    | none, none => 0
  let p := hw.pantry.password
  b2n hw.debugOpen * 2 ^ 31 + b2n hw.serviceOpen * 2 ^ 30 + opened % 4 * 2 ^ 28 + p.fails % 256 * 2 ^ 8 +
    b2n p.isSet * 2 ^ 7 + b2n hw.pwLocked * 2 ^ 6

/-- A SEC register that is a view. -/
def Hw.secView (hw : Hw) (off : Nat) : Nat :=
  match off with
  | 0x00 => hw.secStatus
  | 0x04 => hw.fuseLocks
  | 0x08 => hw.policy
  | 0x0C => hw.fuseRevoke
  | 0x10 => hw.svnNow
  | 0x14 => hw.fwRunning % 2 ^ 32
  | 0x18 => hw.fwStaged % 2 ^ 32
  | 0x1C => 2 * b2n hw.fwTrial + hw.sec.slot % 2
  | 0x2C =>
    let w := hw.reg 0x00980020 % 256
    if 55 ≤ w ∧ w ≤ 62 then 0 else mget 0 hw.pantry.fuses w
  | _ => 0

end Sys2Proof.Machine
end

