-- ==== Sys2Proof/Machine/Cascade.lean ====
section
/-! DEFINITION. The cascade (chapter 12): discovery, CAS_TIME frames, echo, forwarding, absence. The mode transition at the
announced tick stands in Machine/Modes.lean. -/

namespace Sys2Proof.Machine

/-! ### Frames (R243, R270, Table 12.2) -/

/-- A secondary of the primary. -/
def Hw.secd (hw : Hw) (i : Nat) : Secondary := mget {} hw.cas.secs i
def Hw.setSecd (hw : Hw) (i : Nat) (x : Secondary) : Hw := { hw with cas := { hw.cas with secs := mset {} hw.cas.secs i x } }

/-- Whether device `i` is a secondary that serves (R269, R279). -/
def Hw.serves (hw : Hw) (i : Nat) : Bool :=
  decide (1 ≤ i ∧ i ≤ 3) && (hw.secd i).admitted && !(hw.secd i).absent && !(hw.secd i).excluded

/-- A secondary's one-way delay in whole ticks (R271): how the fraction is rounded is open (log entry 2). -/
def Hw.myDelay (hw : Hw) : Int := roundOpen 1201 ((hw.cas.myDelay : Rat) / 320)

/-- CAS_TIME_SEND on a primary with secondaries: the TIME frame of every 10 µs is queued (R270; log entry 39). -/
def casTimeSend (hw : Hw) : Hw :=
  if hw.isSecondary ∨ ¬ hw.cas.found ∨ hw.ticks < hw.cas.sendAt then hw
  else ({ hw with cas := { hw.cas with sendAt := hw.ticks + 8000 } } : Hw).casQueue 1 0

/-- A valid frame of any type reaches a secondary (R271). -/
def Hw.casHeard (hw : Hw) : Hw := { hw with cas := { hw.cas with lastFrame := hw.ticks, silent := false } }

/-- CAS_TIME_FRAME: a frame that fails its CRC or has a reserved TYPE, both of which come with `crcOk` false, is discarded and counted; the first valid one after the reference locks sets the
count, every later one checks it (R270, R271; log entry 36). -/
def casTimeFrame (time : U64) (crcOk : Bool) (hw : Hw) : Hw :=
  if ¬ hw.isSecondary then hw
  else if ¬ crcOk then hw.stick 0x00A0000C 1
  else
    let hw := hw.casHeard
    let target : Int := (time.toNat : Int) + hw.myDelay
    let t : U64 := BitVec.ofInt 64 target
    if ¬ hw.cas.timeSet then
      if hw.clk.refLock ∧ hw.clk.xtalOk then
        { hw with clk := { hw.clk with time := t, timeValid := true }, cas := { hw.cas with timeSet := true, timeOk := true } }
      else hw
    else
      let diff := ((hw.clk.time.toNat : Int) - target).natAbs
      if diff ≤ 2 then { hw with cas := { hw.cas with timeOk := true } }
      else if hw.dev.mode = .config then hw.setTime t
      else
        let hw := { hw with cas := { hw.cas with timeOk := false } }
        hw.raise (fid srcCas 3 3) (le 1 hw.cas.index)

/-- CAS_ANGLE_FRAME: the primary's prediction of a relayed axis, valid AGE ticks (the low 10 bits of the operand) plus the delay
before the frame arrived (R274). -/
def casAngleFrame (axis : Nat) (angle rate : Int) (age : Nat) (hw : Hw) : Hw :=
  if ¬ hw.isSecondary then hw
  else
    let hw := hw.casHeard
    let at' : Int := (hw.ticks : Int) - (age % 1024 : Nat) - hw.myDelay
    hw.predict (axis % 4) (angle, rate, at'.toNat)

/-- CAS_FRAME_FRAME: the next frame number and the low half of its boundary tick (R274). -/
def casFrameFrame (frame : U32) (time : U64) (hw : Hw) : Hw :=
  if ¬ hw.isSecondary then hw
  else
    let hw := hw.casHeard
    { hw with cas := { hw.cas with nextFrame := some (frame.toNat, time.toNat % 2 ^ 32) } }

/-- CAS_MODE_FRAME: the announced transition (R275). -/
def casModeFrame (mode : Nat) (time : U64) (hw : Hw) : Hw :=
  if ¬ hw.isSecondary then hw
  else
    let hw := hw.casHeard
    { hw with cas := { hw.cas with modeAt := some (mode % 8, time.toNat) } }

/-- What an INHIBIT does on a device: the fault counts as its own under R64; in GUARD each device looks at its own pinned cells
(R275, R276). -/
def Hw.inhibitAsOwn (hw : Hw) (source : Nat) : Hw :=
  if source = hw.cas.index then hw
  else if hw.dev.mode = .guard then (if hw.tnd.pinned.isEmpty then hw else hw.inhibit.safe001)
  else hw.stopEffect srcCas []

/-- CAS_INHIBIT_FRAME on a secondary. -/
def casInhibitFrame (source : Nat) (hw : Hw) : Hw :=
  if ¬ hw.isSecondary then hw else hw.casHeard.inhibitAsOwn (source % 4)

/-- CAS_ECHO_FRAME: the named secondary drives one rising edge 256 ticks after the frame's last bit (R272). -/
def casEchoFrame (index : Nat) (hw : Hw) : Hw :=
  if ¬ hw.isSecondary then hw
  else
    let hw := hw.casHeard
    if index = hw.cas.index then { hw with cas := { hw.cas with edgeAt := some (hw.ticks + 256) } } else hw

/-- CAS_TIME_SILENCE: 20 µs without a valid frame (R271). -/
def casTimeSilence (hw : Hw) : Hw :=
  if hw.isSecondary ∧ hw.cas.timeSet ∧ ¬ hw.cas.silent ∧ hw.cas.lastFrame + 16000 ≤ hw.ticks then
    ({ hw with cas := { hw.cas with silent := true, timeOk := false } }).raise (fid srcCas 3 3) (le 1 hw.cas.index)
  else hw

/-! ### Discovery and echo (R269, R272, R280) -/


/-- Whether a lane's secondary is excluded, and F.CAS.001 with its index and reason (R269; log entry 40). -/
def Hw.exclude (hw : Hw) (i : Nat) : Hw :=
  let (r, hw) := hw.draw
  let hw := hw.setSecd i { hw.secd i with admitted := false, excluded := true, rejoin := false }
  hw.raise (fid srcCas 2 1) (le 1 i ++ le 1 r)

/-- DISCOVERY_PACKET on the primary: during S11 a secondary that passes every check is admitted, any other excluded; later, in
CONFIG only, one that passes waits for its echo to rejoin (R269, R280). -/
def discoveryPacket (lane index : Nat) (ident fw : U32) (hw : Hw) : Hw :=
  if hw.isSecondary ∨ lane < 4 ∨ 6 < lane then hw
  else
    let i := lane - 3
    let ok := decide (index = i ∧ ident.toNat = hw.identWord ∧ fw.toNat = hw.fwRunning)
    let s := hw.secd i
    if hw.dev.mode = .boot then
      if ok then
        let hw := hw.setSecd i { s with admitted := true, excluded := false, absent := false }
        { hw with cas := { hw.cas with found := true } }
      else hw.exclude i
    else if hw.dev.mode = .config ∧ (s.absent ∨ ¬ s.admitted) then
      if ok then hw.setSecd i { s with rejoin := true } else hw.exclude i
    else hw

/-- One delay from a round trip in 1/320 tick (R272); the half is rounded openly. -/
def echoDelay (rt : Nat) : Int := roundOpen 1202 (((rt : Rat) - 81920) / 2)

/-- ECHO_MEASURE: at S11 of a power-on start the mean of 16 echoes is the delay; later echoes give the drift; an echo missing or
outside 0 to 20 ns excludes (R272). The primary's question goes out as an ECHO frame. A start of another cause measures nothing at S11 and keeps
the delays of the start before it (log entry 176). -/
def echoMeasure (i : Nat) (rt : Option Nat) (hw : Hw) : Hw :=
  let s := hw.secd i
  if hw.isSecondary ∨ i < 1 ∨ 3 < i ∨ ¬ ((s.admitted ∧ ¬ s.absent) ∨ s.rejoin) then hw
  else
    let hw := hw.casQueue 6 (i * 2 ^ 74)
    match rt with
    | none => hw.exclude i
    | some t =>
      let d := echoDelay t
      if d < 0 ∨ 5120 < d then hw.exclude i
      else if hw.dev.mode = .boot then
        if hw.dev.startCause ≠ 0 then hw else
        let es := (d :: s.echoes).take 16
        if es.length = 16 then
          let mean := roundOpen 1203 ((es.foldl (fun a b => a + b) 0 : Int) / (16 : Rat))
          hw.setSecd i { s with echoes := [], delay := mean.toNat, drift := 0 }
        else hw.setSecd i { s with echoes := es }
      else if s.rejoin then
        if hw.dev.mode = .config then hw.setSecd i { s with rejoin := false, admitted := true, absent := false, excluded := false, lostAt := none }
        else hw
      else
        let drift := d - s.delay
        let hw := hw.setSecd i { s with drift := drift }
        if 256 < drift.natAbs then hw.raise (fid srcCas 1 6) (le 1 i) else hw

/-! ### Forwarding and absence (R278, R279) -/

/-- A forwarded packet queued whole on its lane, or dropped whole with its records counted (R278). -/
def Hw.forwardOn (hw : Hw) (i l : Nat) (p : CasPacket) (count : Nat) (room : Bool) : Hw :=
  if room then
    { hw with out := { hw.out with fwd := mset [] hw.out.fwd l (mget [] hw.out.fwd l ++ [(i, p)]) } }
  else
    let hw := hw.stick (0x00A00040 + 4 * i) count
    if hw.out.fwdFault then hw
    else ({ hw with out := { hw.out with fwdFault := true } }).raise (fid srcCas 1 5) (le 1 i)

/-- The records that an event packet carries back to back, each padded to a multiple of 4 bytes (Table 2.18). -/
def recordsGo : Nat → List Byte → List Record
  | 0, _ => []
  | n + 1, b =>
    if b.length < 16 then []
    else
      let len := field b 14 1
      let r : Record :=
        { src := field b 0 1, seq := field b 1 3, time := BitVec.ofNat 64 (field b 4 8), code := field b 12 2, payload := (b.drop 16).take len
          lost := decide (field b 15 1 % 2 = 1) }
      r :: recordsGo n (b.drop (16 + ceilDiv len 4 * 4))
def recordsOf (bytes : List Byte) : List Record := recordsGo (bytes.length / 16) bytes

/-- The STOP faults that records raise: class 3, and a state of 1 behind the count (R50, R53). -/
def stopFaults (l : List Record) : List FaultId :=
  (l.filter (fun r => decide (r.code / 0x2000 = 3) && decide (r.payload[2]? = some 1))).map (fun r => { src := r.src, code := r.code })

/-- A packet of a secondary counts as forwarded (Table 12.6). -/
def Hw.countForward (hw : Hw) (i : Nat) : Hw := hw.wrap (0x00A00030 + 4 * i) 1

/-- A STOP fault of a secondary makes the primary send INHIBIT and treat the fault as its own (R275). -/
def Hw.stopOf (hw : Hw) (i : Nat) (l : List Record) : Hw :=
  (stopFaults l).foldl (fun (hw : Hw) f => (hw.casInhibit i f true).inhibitAsOwn i) hw

/-- A stream packet of a secondary (kind 1 points, 2 frame, 3 export) or a Bell frame reaches the primary (R278). An image of a channel that
is not assigned a lane in this epoch is skipped (R228). -/
def cascadeStream (i : Nat) (p : CasPacket) (hw : Hw) : Hw :=
  let hw := hw.countForward i
  let count := field p.bytes 14 2
  let size := p.bytes.length
  if p.kind = 1 then
    let l := mget 0 hw.out.routes (4 * i + field p.bytes 13 1 % 4)
    (hw.forwardOn i l p count (decide (hw.laneFill l + size ≤ 262144))).markLane l
  else if p.kind = 3 then
    let l := mget 0 hw.out.expLane (768 * i + field p.bytes 32 2)
    if l = 0 then (if field p.bytes 34 1 = 0 then hw.skipExport (field p.bytes 4 4) else hw)
    else
    let held := hw.expFill + hw.out.fwd.foldl (fun n e => n + (e.2.filter (fun x => decide (x.2.kind = 3))).foldl (fun m x => m + x.2.bytes.length) 0) 0
    hw.forwardOn i (l - 1) p count (decide (held + size ≤ 917504))
  else hw.forwardOn i 0 p count true

/-- SECONDARY_ABSENT: its lane not ACTIVE for 1 s (R279). -/
def secondaryAbsent (i : Nat) (hw : Hw) : Hw :=
  let s := hw.secd i
  match s.lostAt with
  | some t =>
    if ¬ hw.isSecondary ∧ 1 ≤ i ∧ i ≤ 3 ∧ s.admitted ∧ ¬ s.absent ∧ t + 800000000 ≤ hw.ticks ∧ (hw.lane (3 + i)).state ≠ .active then
      (hw.setSecd i { s with absent := true }).raise (fid srcCas 2 4) (le 1 i)
    else hw
  | none => hw

/-! ### Registers (Table 12.6) -/

/-- CAS_STATUS. -/
def Hw.casStatus (hw : Hw) : Nat :=
  let valid := b2n hw.clk.timeValid
  if hw.isSecondary then
    let on := hw.cas.timeSet
    hw.cas.index * 2 ^ 30 + (2 ^ hw.cas.index + b2n on) * 2 ^ 24 + b2n (decide ((hw.lane 4).state = .active)) * 2 ^ 16 +
      b2n (hw.cas.timeSet && hw.cas.timeOk)
  else
    let ix := [1, 2, 3]
    let pres := maskOf (ix.filter (fun i => (hw.secd i).admitted))
    let excl := maskOf (ix.filter (fun i => (hw.secd i).excluded))
    let link := maskOf (ix.filter (fun i => hw.cas.found && decide ((hw.lane (3 + i)).state = .active)))
    (1 + pres) * 2 ^ 24 + excl * 2 ^ 20 + link * 2 ^ 16 + valid

end Sys2Proof.Machine
end

