-- ==== Sys2Proof/Machine/Pmc.lean ====
section
/-! DEFINITION. The performance counters, the fault table and the event log as they are read (chapter 22). -/

namespace Sys2Proof.Machine

/-- The number of event types of a source byte (Table 22.9). -/
def eventTypes : Nat → Nat
  | 0x10 => 80 | 0x40 => 16 | 0x04 => 32 | 0x05 => 16 | 0x06 => 24 | 0x41 => 16 | 0x46 => 24 | 0x47 => 16 | 0x48 => 16
  | 0x44 => 28 | 0x43 => 32 | 0x42 => 24 | 0x50 => 16 | 0x4A => 16 | 0x4C => 8 | 0x01 => 2 | 0x02 => 10 | 0x03 => 6
  | 0x07 => 4 | 0x08 => 4 | 0x49 => 4 | 0x4E => 1 | 0x51 => 2 | 0x4F => 2 | 0x4D => 1 | _ => 0

/-- Whether Table 22.9 defines an event type; 0 disables a counter (R438). -/
def eventDefined (e : Nat) : Bool := decide (e = 0 ∨ e % 256 < eventTypes (e / 256))
def eventSafety (e : Nat) : Bool := decide (e / 256 = 0x4A ∨ e / 256 = 0x4C)

def Hw.pmcEvt (hw : Hw) (i : Nat) : Nat := hw.reg (0x00900100 + 8 * i)
def Hw.pmcFlt (hw : Hw) (i : Nat) : Nat := hw.reg (0x00900104 + 8 * i)

/-- The types of BCN that are tied to a shot (Table 22.9; log entry 191). -/
def bcnShotType (n : Nat) : Bool := [0, 1, 2, 3, 4, 5, 6, 8, 14, 15, 17, 20, 22, 23, 24, 27, 28, 29, 30, 31].contains n

/-- The kinds of event type that a filter applies to (Table 22.2). -/
def hasInst (e : Nat) : Bool := [0x10, 0x43, 0x46, 0x44].contains (e / 256) || (decide (e / 256 = 0x04) && bcnShotType (e % 256))
def isAccess (e : Nat) : Bool := decide (e = 0x0206 ∨ e = 0x0207)
def isCommand (e : Nat) : Bool := decide (e / 256 = 0x02)
def isFaultType (e : Nat) : Bool := decide (e = 0x5101)

/-- Whether an event passes a counter's filters (R439). -/
def Hw.pmcPasses (hw : Hw) (i event inst addr cls master priv : Nat) : Bool :=
  let f := hw.pmcFlt i
  let a := bits f 21 3
  (!hasInst event || decide (bits f 24 8 = 0xFF ∨ bits f 24 8 = inst)) &&
  (!isAccess event || decide (a = 0) || decide (a ≤ 4 ∧ hw.reg (0x00900020 + 8 * (a - 1)) ≤ addr ∧ addr ≤ hw.reg (0x00900024 + 8 * (a - 1)))) &&
  (!isFaultType event || decide (bits f 16 5 = 0) || tb (bits f 16 5) cls) &&
  (!isCommand event || decide (bits f 8 8 = 0) || tb (bits f 8 8) master) &&
  (!isCommand event || decide (bits f 0 4 = 0) || tb (bits f 0 4) priv)

/-- A counter raised: it wraps, sets OVF and, if asked, raises PMC event 0xE001 once until OVF is cleared (R441). -/
def Hw.pmcAdd (hw : Hw) (i n : Nat) : Hw :=
  let v := mget 0 hw.pmc.cnt i + n
  let hw' := { hw with pmc := { hw.pmc with cnt := mset 0 hw.pmc.cnt i (v % 2 ^ 48) } }
  if v < 2 ^ 48 then hw'
  else
    let hw' := { hw' with pmc := { hw'.pmc with ovf := putBit hw'.pmc.ovf i true } }
    if tb (hw.pmcEvt i) 24 ∧ ¬ tb hw.pmc.told i then
      ({ hw' with pmc := { hw'.pmc with told := putBit hw'.pmc.told i true } }).event srcPmc 0xE001 (le 1 i)
    else hw'

/-- Counters count outside DORMANT and BOOT, and not under a freeze with STOP (R442, R444). -/
def Hw.pmcCounts (hw : Hw) : Bool :=
  decide (hw.dev.mode ≠ .dormant ∧ hw.dev.mode ≠ .boot) && !(hw.pmc.snap.isSome && tb (hw.reg 0x00900000) 4)

/-- PMC_INCREMENT: n qualifying events, 1 to 255, of a source. -/
def pmcIncrement (event inst addr cls master priv n : Nat) (hw : Hw) : Hw :=
  if ¬ hw.pmcCounts ∨ n = 0 ∨ 255 < n ∨ event = 0 then hw
  else (List.range 64).foldl (fun h i =>
    if bits (hw.pmcEvt i) 0 16 = event ∧ hw.pmcPasses i event inst addr cls master priv then h.pmcAdd i n else h) hw

/-- A counter pointed at an event type: it restarts from 0 with OVF 0 (R443). -/
def Hw.pmcRestart (hw : Hw) (i : Nat) : Hw :=
  { hw with pmc := { hw.pmc with cnt := mset 0 hw.pmc.cnt i 0, ovf := putBit hw.pmc.ovf i false, told := putBit hw.pmc.told i false } }
def Hw.pmcConfig (hw : Hw) (i event filters : Nat) : Hw :=
  (((hw.setReg (0x00900100 + 8 * i) (putBits (hw.pmcEvt i) 0 16 event)).setReg (0x00900104 + 8 * i) filters).pmcRestart i)

/-- PMC_EVT_WRITE: a write of PMC_EVT or PMC_FLT acts as PMC_CONFIG (R443); an event type that is not defined is BAD_PARAM. -/
def pmcEvtWrite (i : Nat) (filter : Bool) (v : Nat) (hw : Hw) : Hw :=
  if 64 ≤ i then hw
  else
    let hw := { hw with ack := 0, ackData := [] }
    if filter then (hw.setReg (0x00900104 + 8 * i) (v &&& 0xFFFFFF0F)).pmcRestart i
    else if ¬ eventDefined (v % 65536) then { hw with ack := 0x05, ackData := [] }
    else if eventSafety (v % 65536) ∧ ¬ hw.isIS then { hw with ack := 0x0B, ackData := [] }
    else (hw.setReg (0x00900100 + 8 * i) (v &&& 0x0100FFFF)).pmcRestart i

/-- PMC_CNT_WRITE: a half of a live counter (R443). -/
def pmcCntWrite (i : Nat) (high : Bool) (v : Nat) (hw : Hw) : Hw :=
  if 64 ≤ i then hw
  else
    let c := mget 0 hw.pmc.cnt i
    let n := if high then v % 65536 * 2 ^ 32 + c % 2 ^ 32 else c / 2 ^ 32 * 2 ^ 32 + v % 2 ^ 32
    { hw with ack := 0, ackData := [], pmc := { hw.pmc with cnt := mset 0 hw.pmc.cnt i n } }

/-- The freeze taken, or released (R442). -/
def Hw.pmcFreeze (hw : Hw) (on : Bool) : Hw :=
  let hw := hw.setReg 0x00900000 (putBit (hw.reg 0x00900000) 0 on)
  if ¬ on then { hw with pmc := { hw.pmc with snap := none } }
  else if hw.pmc.snap.isSome then hw
  else { hw with pmc := { hw.pmc with snap := some (hw.pmc.cnt, hw.pmc.ovf, hw.clk.time) } }

/-- What a read of a counter returns: value and OVF, of the held snapshot while one stands. -/
def Hw.pmcSeen (hw : Hw) (i : Nat) : Nat × Bool :=
  match hw.pmc.snap with
  | some (c, o, _) => (mget 0 c i, tb o i)
  | none => (mget 0 hw.pmc.cnt i, tb hw.pmc.ovf i)
def Hw.pmcRead (hw : Hw) (first n : Nat) : List Byte :=
  (List.range n).flatMap (fun k => let (v, o) := hw.pmcSeen (first + k); le 8 (v + b2n o * 2 ^ 48))

/-- The computed registers of PMC, by offset (Table 22.6). -/
def Hw.pmcView (hw : Hw) (off : Nat) : Nat :=
  match off with
  | 0x04 =>
    ((List.range 64).filter (fun i => decide (bits (hw.pmcEvt i) 0 16 ≠ 0))).length * 2 ^ 24 +
      2 * b2n (hw.pmc.snap.isSome && tb (hw.reg 0x00900000) 4) + b2n hw.pmc.snap.isSome
  | 0x08 => match hw.pmc.snap with | some (_, _, t) => t.toNat % 2 ^ 32 | none => 0
  | 0x0C => hw.pmc.snapHi
  | 0x10 => hw.pmc.ovf % 2 ^ 32
  | 0x14 => hw.pmc.ovf / 2 ^ 32
  | _ =>
    if 0x400 ≤ off ∧ off < 0x600 then
      let i := (off - 0x400) / 8
      if off % 8 = 0 then (hw.pmcSeen i).1 % 2 ^ 32 else mget 0 hw.pmc.hi i
    else hw.reg (0x00900000 + off)

/-- A read of SNAP_TIME_LO or of CNT_LO latches the other half (R442). -/
def Hw.pmcLatch (hw : Hw) (off : Nat) : Hw :=
  if off = 0x08 then
    { hw with pmc := { hw.pmc with snapHi := match hw.pmc.snap with | some (_, _, t) => t.toNat / 2 ^ 32 | none => 0 } }
  else if 0x400 ≤ off ∧ off < 0x600 ∧ off % 8 = 0 then
    let i := (off - 0x400) / 8
    let (v, o) := hw.pmcSeen i
    { hw with pmc := { hw.pmc with hi := mset 0 hw.pmc.hi i (v / 2 ^ 32 + b2n o * 65536) } }
  else hw

/-! ### EVT (R446, R447) -/

/-- Faults of a class raised now, sticking at 0xFF. -/
def EvtSt.raisedOf (e : EvtSt) (c : Nat) : Nat := min 0xFF ((e.table.filter (fun x => x.raised && decide (x.id.cls = c))).length)

/-- The words a fault table index shows; an empty one reads 0. -/
def EvtSt.faultWords (e : EvtSt) (i : Nat) : List Nat :=
  match e.table[i]? with
  | some x => [x.id.src * 2 ^ 24 + x.id.code, x.count * 2 ^ 16 + b2n x.raised, x.first.toNat % 2 ^ 32, x.first.toNat / 2 ^ 32,
      x.last.toNat % 2 ^ 32, x.last.toNat / 2 ^ 32]
  | none => [0, 0, 0, 0, 0, 0]

/-- The computed registers of EVT, by offset (Table 22.8). -/
def Hw.evtView (hw : Hw) (off : Nat) : Nat :=
  let e := hw.evt
  match off with
  | 0x04 => e.tableFull * 2 ^ 16 + e.table.length
  | 0x08 => e.raisedOf 4 * 2 ^ 24 + e.raisedOf 3 * 2 ^ 16 + e.raisedOf 2 * 2 ^ 8 + e.raisedOf 1
  | 0x0C => e.head
  | 0x10 => e.wraps
  | 0x40 => field (mget [] e.log (bits (hw.reg 0x00910014) 0 9)) 0 4
  | 0x80 => (e.faultWords (bits (hw.reg 0x00910018) 0 10)).getD 0 0
  | _ =>
    if 0x40 < off ∧ off < 0x80 then field e.logLatch (off - 0x40) 4
    else if 0x80 < off ∧ off < 0x98 then field e.fltLatch (off - 0x80) 4
    else hw.reg (0x00910000 + off)

/-- A read of word 0 of a window latches the rest. -/
def Hw.evtLatch (hw : Hw) (off : Nat) : Hw :=
  if off = 0x40 then { hw with evt := { hw.evt with logLatch := mget [] hw.evt.log (bits (hw.reg 0x00910014) 0 9) } }
  else if off = 0x80 then { hw with evt := { hw.evt with fltLatch := (hw.evt.faultWords (bits (hw.reg 0x00910018) 0 10)).flatMap (le 4) } }
  else hw

/-- FAULT_LIST from an offset, as many entries as fit the limit. -/
def EvtSt.listBytes (e : EvtSt) (from' limit : Nat) : List Byte :=
  let l := (e.table.drop from').take ((limit - 2) / 6)
  le 2 l.length ++ l.flatMap (fun x => le 1 x.id.src ++ le 2 x.id.code ++ le 2 x.count ++ le 1 (b2n x.raised))

end Sys2Proof.Machine
end

