-- ==== Sys2Proof/Machine/Slt.lean ====
section
/-! DEFINITION. Sector Lights (chapter 21): duties and periods, pattern engines, the pin test, open detection. -/

namespace Sys2Proof.Machine

def Hw.led (hw : Hw) (i : Nat) : Led := mget {} hw.slt.leds i
def Hw.setLed (hw : Hw) (i : Nat) (x : Led) : Hw := { hw with slt := { hw.slt with leds := mset {} hw.slt.leds i x } }
def Hw.sltCtl (hw : Hw) : Nat := hw.reg 0x008A0000
def Hw.matrix (hw : Hw) : Bool := tb hw.sltCtl 0
def Hw.ledReg (hw : Hw) (i : Nat) : Nat := hw.reg (0x008A0100 + 4 * i)
def Hw.sltChan (hw : Hw) (c : Nat) : Nat := hw.reg (0x008A0020 + 4 * c)

/-- Whether a channel drives, and whether an LED exists in the wiring in force and is not held off (R426, R431). -/
def Hw.chanOn (hw : Hw) (c : Nat) : Bool := tb (hw.sltChan c) 31 && !tb hw.slt.marks c
def Hw.ledShorted (hw : Hw) (i : Nat) : Bool := tb hw.slt.marks (i % 8) || (hw.matrix && tb hw.slt.marks (8 + i / 8))
def Hw.ledOn (hw : Hw) (i : Nat) : Bool := decide (i < (if hw.matrix then 32 else 8)) && tb (hw.sltChan (i % 8)) 31 && !hw.ledShorted i

/-- Slot n of a period at duty D is on (R428). -/
def slotOn (d n : Nat) : Bool := decide ((n + 1) * d / 4096 - n * d / 4096 = 1)

/-- T_S and a row window in ticks, and the active slots of a window (R428, R429). -/
def Hw.slotTicks (hw : Hw) : Nat := 100 * (bits hw.sltCtl 4 4 + 1)
def Hw.rowSlots (hw : Hw) : Nat := max 16 (bits hw.sltCtl 8 8 + 1)
def Hw.rowWindow (hw : Hw) : Nat := 1600 + hw.rowSlots * hw.slotTicks

/-- The ticks since the scan began; in matrix mode, those since the present scan of the four rows began (R429). -/
def Hw.scanT (hw : Hw) : Nat := hw.ticks - hw.slt.scanAt
def Hw.scanPos (hw : Hw) : Nat := hw.scanT % (4 * hw.rowWindow)

/-- Whether an active slot of LED `i` runs: in matrix mode, in its row's window behind the blanking. -/
def Hw.slotActive (hw : Hw) (i : Nat) : Bool :=
  !hw.matrix || decide (i / 8 * hw.rowWindow + 1600 ≤ hw.scanPos ∧ hw.scanPos < (i / 8 + 1) * hw.rowWindow)

/-- The slots of LED `i` that have ended since the scan began; they advance in the active slots of its own row only. -/
def Hw.slotsOf (hw : Hw) (i : Nat) : Nat :=
  if hw.matrix then
    hw.scanT / (4 * hw.rowWindow) * hw.rowSlots +
      min hw.rowSlots ((hw.scanPos - (i / 8 * hw.rowWindow + 1600)) / hw.slotTicks)
  else hw.scanT / hw.slotTicks

/-- The slots that a stretched run lasts: ⌈1.5 µs / T_S⌉ (R433). -/
def Hw.stretchSlots (hw : Hw) : Nat := ceilDiv 1200 hw.slotTicks

/-- Slot `n` of a period at duty `d`: `row` active slots make a window (0: direct), the period began behind `a` slots of its row, a stretched
run lasts `s` slots. No run passes the end of a window; one run in every 256 is lengthened where `stretch` is set, in matrix mode only where
it ends before its window does, and the slots added are taken from the next on-slots (R428, R429, R433). -/
def waveSlot (d s row a : Nat) (stretch : Bool) (w : LedWave) (n : Nat) : LedWave :=
  let first := decide (row ≠ 0 ∧ (a + n) % row = 0)
  let lit := slotOn d n
  let start := lit && (first || decide (n = 0) || !slotOn d (n - 1))
  let runs := if start then w.runs + 1 else w.runs
  let due := stretch && (w.due || decide (runs = 256))
  let age := if first then 0 else w.age
  let w : LedWave := { w with runs := runs % 256, due := due }
  if w.ext ≠ 0 then { w with ext := w.ext - 1, borrow := w.borrow + b2n (!lit), age := age + 1 }
  else if ¬ lit then { w with age := 0 }
  else if w.borrow ≠ 0 then { w with borrow := w.borrow - 1, age := 0 }
  else if due ∧ start ∧ (row = 0 ∨ (a + n) % row + s < row) then { w with due := false, ext := s - 1, age := age + 1 }
  else { w with age := age + 1 }

/-- The on-runs of LED `i` after the first `n` slots of its period. -/
def Hw.ledWave (hw : Hw) (i n : Nat) : LedWave :=
  let x := hw.led i
  (List.range n).foldl (waveSlot x.duty hw.stretchSlots (if hw.matrix then hw.rowSlots else 0) (4096 * x.period) (tb (hw.ledReg i) 20)) x.wave

/-- The slots that the present on-run of an LED has lasted; 0: it is dark. A pin test turns every sink off (R431). -/
def Hw.runAge (hw : Hw) (i : Nat) : Nat :=
  if hw.ledOn i ∧ hw.slotActive i ∧ ¬ hw.slt.testDue then (hw.ledWave i (hw.slotsOf i % 4096 + 1)).age else 0

/-- What stands on the pins (R426, R429): whether sink `c` is on and whether row switch `r` is. -/
def Hw.sinkOn (hw : Hw) (c : Nat) : Bool := (List.range 4).any (fun r => decide (hw.runAge (8 * r + c) ≠ 0))
def Hw.rowOn (hw : Hw) (r : Nat) : Bool :=
  hw.matrix && hw.slotActive (8 * r) && !tb hw.slt.marks (8 + r) && !hw.slt.testDue && (List.range 8).any (fun c => hw.chanOn c)

/-- The current of a sink, in 0.1 mA, while it is on: a CUR written since its on-run began waits for the next (R427). -/
def Hw.sinkTenths (hw : Hw) (c : Nat) : Nat :=
  let age := (List.range 4).foldl (fun n r => max n (hw.runAge (8 * r + c))) 0
  let into := if hw.matrix then (hw.scanPos % hw.rowWindow - 1600) % hw.slotTicks else hw.scanT % hw.slotTicks
  let (old, at') := mget (0, 0) hw.slt.curOld c
  if age ≠ 0 ∧ hw.ticks < at' + into + (age - 1) * hw.slotTicks then old else bits (hw.sltChan c) 0 8

/-- A write of SLT_CH[c]: what the sink draws until its next on-run stays (R427). -/
def Hw.holdCur (hw : Hw) (c : Nat) : Hw := { hw with slt := { hw.slt with curOld := mset (0, 0) hw.slt.curOld c (hw.sinkTenths c, hw.ticks) } }

/-- The LEDs that select an engine, in ascending index. -/
def Hw.engineLeds (hw : Hw) (e : Nat) : List Nat :=
  (List.range (if hw.matrix then 32 else 8)).filter (fun i => tb (hw.ledReg i) 26 && decide (bits (hw.ledReg i) 24 2 = e))

/-- The value of engine `e` for LED `i` at the present tick (R430). -/
def Hw.engineValue (hw : Hw) (e i : Nat) : Nat :=
  let cfg := hw.reg (0x008A0040 + 8 * e)
  let lvl := hw.reg (0x008A0044 + 8 * e)
  let lo := min (bits lvl 0 12) (bits lvl 16 12)
  let hi := max (bits lvl 0 12) (bits lvl 16 12)
  let per := 8000000 * max 1 (bits cfg 16 10)
  let t := hw.ticks - mget 0 hw.slt.engAt e
  match bits cfg 30 2 with
  | 1 =>
    let ph := t % per
    let q : Rat := if 2 * ph < per then ((2 * ph : Nat) : Rat) / per else ((2 * (per - ph) : Nat) : Rat) / per
    lo + (roundNear 2101 (((hi - lo : Nat) : Rat) * q * q)).toNat
  | 2 =>
    let l := hw.engineLeds e
    if l.getD (t / per % max 1 l.length) 32 = i then hi else lo
  | 3 => if 2 * (t % per) < per then hi else lo
  | _ => lo

/-- SLT_PERIOD: at its period boundary an LED takes its duty or its engine's value; one that is GOOD and has had no qualifying run
for 16 periods is NOT_TESTED again; a duty of 0 forgives a stretch and what it borrowed (R428, R430, R432, R435). -/
def sltPeriod (i : Nat) (hw : Hw) : Hw :=
  let x := hw.led i
  if ¬ hw.ledOn i ∨ hw.slotsOf i / 4096 ≤ x.period then hw
  else
    let r := hw.ledReg i
    let d := if tb r 26 then hw.engineValue (bits r 24 2) i else bits r 0 12
    let quiet := min 16 (x.quiet + 1)
    let w := hw.ledWave i 4096
    let w : LedWave := if d = 0 then { runs := w.runs } else w
    hw.setLed i { x with duty := d, period := hw.slotsOf i / 4096, wave := w, quiet := quiet, status := if x.status = 1 ∧ quiet = 16 then 0 else x.status }

/-- SLT_RUN_END: the test at the end of a qualifying on-run (R432). -/
def sltRunEnd (i lengthNs millivolts : Nat) (regulating : Bool) (hw : Hw) : Hw :=
  let x := hw.led i
  if ¬ hw.ledOn i ∨ lengthNs < 1500 ∨ x.duty = 0 ∨ hw.slt.testDue then hw
  else if ¬ regulating ∧ millivolts < 100 then
    let n := x.fails + 1
    if x.status ≠ 2 ∧ 4 ≤ n then
      (hw.setLed i { x with fails := 4, status := 2, quiet := 0 }).raise (fid srcSlt 1 1) (le 1 i)
    else hw.setLed i { x with fails := min 4 n, quiet := 0 }
  else
    let hw := hw.setLed i { x with fails := 0, quiet := 0, status := if x.status = 2 then 2 else 1 }
    if regulating then hw
    else
      let told := match hw.slt.warnAt with | some t => decide (hw.ticks < t + 800000000) | none => false
      let hw := { hw with slt := { hw.slt with lowHead := satAdd 0xFFFFFFFF hw.slt.lowHead 1, warnAt := if told then hw.slt.warnAt else some hw.ticks } }
      if told then hw else hw.raise (fid srcSlt 1 3) (le 1 i)

/-- SLT_PINTEST: the due pin test ends with the pins it marks (R431). -/
def sltPinTest (mask : Nat) (hw : Hw) : Hw :=
  let m := mask % 4096
  let hw := { hw with slt := { hw.slt with marks := m, testDue := false } }
  if m = 0 then hw else hw.raise (fid srcSlt 1 2) (le 1 ((setBits 12 m).headD 0))
def sltPinTestEnd (mask : Nat) (hw : Hw) : Hw := if hw.slt.testDue then sltPinTest mask hw else hw

/-- FAULT_CLEAR on F.SLT.001 returns every OPEN LED to NOT_TESTED (R432). -/
def Hw.sltCleared (hw : Hw) : Hw :=
  { hw with slt := { hw.slt with leds := mmap {} (fun x => if x.status = 2 then { x with status := 0, fails := 0 } else x) hw.slt.leds } }

/-- SLT_CTL_WRITE: a change of MATRIX while a channel is enabled is refused with BUSY; PINTEST asks for a pin test (R426, R431). Another
wiring, slot or window length begins the scan and the periods anew (log entry 123). -/
def sltCtlWrite (v : Nat) (hw : Hw) : Hw :=
  if tb v 0 ≠ hw.matrix ∧ (List.range 8).any (fun c => tb (hw.sltChan c) 31) then { hw with ack := 0x02, ackData := [] }
  else
    let stored := putBits (v % 65536) 8 8 (max 15 (bits v 8 8))
    let new := bits stored 4 12 * 16 + bits v 0 1
    let hw := if new = hw.sltCtl then hw else
      { hw with slt := { hw.slt with scanAt := hw.ticks, leds := mmap {} (fun x => { x with period := 0, wave := {} }) hw.slt.leds } }
    let hw := ({ hw with ack := 0, ackData := [] }).setReg 0x008A0000 new
    if tb v 31 then { hw with slt := { hw.slt with testDue := true } } else hw

/-- SLT_ENG_CFG_WRITE: a write of MODE starts the engine at phase 0 (R430). -/
def sltEngCfgWrite (e v : Nat) (hw : Hw) : Hw :=
  if 4 ≤ e then hw
  else
    let hw := ({ hw with ack := 0, ackData := [] }).setReg (0x008A0040 + 8 * e) (v &&& 0xC3FF0000)
    { hw with slt := { hw.slt with engAt := mset 0 hw.slt.engAt e hw.ticks } }

/-- The status of an LED; SHORTED takes precedence (R434). -/
def Hw.ledStatus (hw : Hw) (i : Nat) : Nat := if hw.ledShorted i then 3 else (hw.led i).status

/-- The computed registers of SLT, by offset. -/
def Hw.sltView (hw : Hw) (off : Nat) : Nat :=
  match off with
  | 0x04 =>
    let rows := if hw.matrix ∧ (List.range 8).any (fun c => hw.chanOn c) then 15 - bits hw.slt.marks 8 4 else 0
    b2n hw.slt.testDue * 2 ^ 31 + rows * 2 ^ 16 + maskOf ((List.range 8).filter (fun c => hw.chanOn c))
  | 0x08 => hw.slt.marks
  | 0x0C => hw.slt.lowHead
  | _ =>
    if 0x100 ≤ off ∧ off < 0x180 then hw.ledStatus ((off - 0x100) / 4) * 2 ^ 30 + hw.reg (0x008A0000 + off) % 2 ^ 30
    else hw.reg (0x008A0000 + off)

end Sys2Proof.Machine
end

