-- ==== Sys2Proof/Machine/Views.lean ====
section
/-! DEFINITION. What a read of a register returns, block by block: the computed fields of the register tables over what is
stored (R9, R10, R12, R495). A read's side effects stand in Machine/Access.lean. -/

namespace Sys2Proof.Machine

/-- DEV (Tables 0.2, 3.6 to 3.9). -/
def Hw.devView (hw : Hw) (off : Nat) : Nat :=
  match off with
  | 0x00 => hw.identWord
  | 0x04 =>
    let t := match hw.dev.target with
      | some m => 2 ^ 11 + m.code * 2 ^ 8
      | none => 7 * 2 ^ 8
    hw.dev.lastCause * 2 ^ 16 + t + hw.dev.mode.code
  | 0x08 => hw.on.resetCause
  | 0x0C =>
    hw.dev.startCause * 2 ^ 16 + b2n hw.dev.halted * 2 ^ 15 + b2n hw.dev.degraded * 2 ^ 14 + hw.dev.attempt % 16 * 2 ^ 8 + hw.dev.step
  | _ => hw.dev.bootFails

/-- Whether a unit can be promoted (R411). -/
def WchUnit.promotable (u : WchUnit) : Bool := decide (u.state = 3 ∨ u.state = 4)
/-- The units by their number, 0 A and 1 B; the standby is the one that is not active. -/
def WchSt.unit (w : WchSt) (u : Nat) : WchUnit := if u = 0 then w.a else w.b
def WchSt.standby (w : WchSt) : WchUnit := w.unit (1 - w.active)

/-- WCH (Table 20.4). -/
def Hw.wchView (hw : Hw) (off : Nat) : Nat :=
  let w := hw.wch
  match off with
  | 0x00 => b2n (decide (w.swap = some 2))
  | 0x04 =>
    w.a.state * 2 ^ 24 + w.b.state * 2 ^ 16 + w.active % 2 * 2 ^ 8 + b2n w.swap.isSome * 4 + b2n w.copy.isSome * 2 + b2n w.standby.promotable
  | 0x10 => w.epoch
  | 0x14 => min 0xFFFF w.longest * 2 ^ 16 + min 0xFFFF w.pages
  | 0x18 => (if w.journal = 0 then 0 else min 0xFFFF (Config.journalUnits w.journal)) * 2 ^ 16 + min 0xFFFF w.early
  | 0x1C => min 0xFF w.failovers * 2 ^ 24 + min 0xFF w.takebacks * 2 ^ 16 + min 0xFFFF w.rehearsals
  | 0x20 => w.a.activeAt.toNat % 2 ^ 32
  | 0x24 => w.a.activeHi
  | 0x28 => w.b.activeAt.toNat % 2 ^ 32
  | 0x2C => w.b.activeHi
  | 0x30 => min 0xFF w.b.fails * 2 ^ 8 + min 0xFF w.a.fails
  | _ => hw.reg (0x00010000 + off)

/-- BCN (Tables 4.7 and 4.8). -/
def Hw.bcnView (hw : Hw) (off : Nat) : Nat :=
  match off with
  | 0x00 => hw.reg 0x00020000 + hw.bcn.source % 4
  | 0x0C =>
    let busy := maskOf ((List.range 4).filter (fun b => !(hw.bank b).inFlight.isEmpty))
    busy * 2 ^ 16 + hw.bcn.pattern.running.getD 0 % 8 * 2 ^ 8 + hw.bcn.source % 4
  | _ =>
    if 0x10 ≤ off ∧ off < 0x20 then mget 0 hw.bcn.derived ((off - 0x10) / 4) else hw.reg (0x00020000 + off)

/-- LNT (Table 4.11). -/
def Hw.lntView (hw : Hw) (off : Nat) : Nat :=
  let l := hw.lnt
  if off < 0x30 then l.cap (off / 12) (off / 4 % 3)
  else if 0x40 ≤ off ∧ off < 0x70 then l.limit ((off - 0x40) / 12) ((off - 0x40) / 4 % 3)
  else if 0x80 ≤ off ∧ off < 0x8C then l.window ((off - 0x80) / 4)
  else if off = 0xC0 then
    l.blocked % 16 * 2 ^ 12 + (15 - l.invalid % 16) * 2 ^ 8 + l.suppressing % 16 * 2 ^ 4 + b2n l.capsValid
  else hw.reg (0x00028000 + off)

/-- SPD (Table 5.6). -/
def Hw.spdView (hw : Hw) (off : Nat) : Nat :=
  let s := hw.spd
  match off with
  | 0x00 => hw.reg 0x00030000 + b2n s.maskPending
  | 0x08 =>
    let epoch := match hw.tnd.active with | some p => p.epoch | none => 0
    s.ambFrame % 256 * 2 ^ 24 + epoch % 256 * 2 ^ 16 + b2n s.maskPending * 2 ^ 11 + b2n (hw.hvInWindow s.hvMeas) * 2 ^ 10 +
      b2n s.biasOn * 2 ^ 9 + b2n hw.trimFrozen * 2 ^ 8
  | 0x10 => min 0xFFFF s.hvMeas
  | 0x14 => s.hvRec
  | 0x1C =>
    let n := fun (c : Nat → Bool) => ((List.range 1153).filter (fun r => c (hw.region r).state)).length
    n (fun x => decide (x = 3)) * 2 ^ 16 + n (fun x => decide (x = 1 ∨ x = 2))
  | 0x20 => s.maskActive.foldl (fun n e => n + popCount 32 e.2) 0
  | 0x24 => s.lampLive % 2 ^ 32
  | 0x28 => s.lampLive / 2 ^ 32
  | 0x2C => s.lampUnfit
  | _ =>
    if 0x400 ≤ off then
      let sel := hw.reg 0x00030030
      hw.spdTab (bits sel 16 4) (bits sel 0 16 + (off - 0x400) / 4)
    else hw.reg (0x00030000 + off)

/-- CLK (Table 6.4). -/
def Hw.clkView (hw : Hw) (off : Nat) : Nat :=
  let c := hw.clk
  match off with
  | 0x04 => 16 * b2n c.timeValid + 8 * b2n c.locked + 4 * b2n c.present + 2 * b2n c.xtalOk + b2n c.refLock
  | 0x0C => cx 23 c.term
  | 0x10 => c.time.toNat % 2 ^ 32
  | 0x14 => c.latchHi
  | 0x20 => c.ppsStamp.toNat % 2 ^ 32
  | 0x24 => c.ppsStamp.toNat / 2 ^ 32
  | 0x28 => c.ppsFine
  | 0x2C => cx 32 (clampI (-2147483648) 2147483647 c.ppsErr)
  | 0x38 => c.rejected * 2 ^ 16 + c.missing
  | _ => hw.reg (0x00040000 + off)

/-- The words of DMK_FREQ_RES[i] and DMK_LAST[i] as they stand (Table 6.6). -/
def DmkFreq.words (f : DmkFreq) : List Nat := [f.period % 2 ^ 32, f.period / 2 ^ 32, f.flags, f.resid]
def DmkIn.words (d : DmkIn) : List Nat :=
  [d.time.toNat % 2 ^ 32, d.time.toNat / 2 ^ 32, b2n d.coarse * 2 ^ 31 + d.fine, 0]

/-- DMK (Table 6.6). -/
def Hw.dmkView (hw : Hw) (off : Nat) : Nat :=
  let d := hw.dmk
  match off with
  | 0x08 =>
    hw.reg 0x00048008 + d.ivCount % 4096 * 16 + 8 * b2n d.ivTimeout + 4 * b2n d.ivValid + b2n d.armed
  | 0x0C => d.ivValue % 2 ^ 32
  | 0x10 => d.ivValue / 2 ^ 32 % 256
  | 0x14 => d.stopMissed * 2 ^ 16 + d.startMissed
  | _ =>
    if 0x20 ≤ off ∧ off < 0x30 then hw.reg (0x00048000 + off) + b2n (hw.freqOf ((off - 0x20) / 4)).running
    else if 0x40 ≤ off ∧ off < 0x80 then
      let f := hw.freqOf ((off - 0x40) / 16)
      let w := off / 4 % 4
      if w = 0 then f.words.getD 0 0 else f.latch.getD w 0
    else if 0x80 ≤ off ∧ off < 0xC0 then
      let x := hw.dmkIn ((off - 0x80) / 16)
      let w := off / 4 % 4
      if w = 0 then x.words.getD 0 0 else x.latch.getD w 0
    else if 0xC0 ≤ off ∧ off < 0xD0 then (hw.dmkIn ((off - 0xC0) / 4)).merged
    else hw.reg (0x00048000 + off)

/-- The words of a tile's table, by table and index (Table 7.9). -/
def Hw.tileTab (hw : Hw) (n table i : Nat) : Nat :=
  match table with
  | 0 =>
    if 32 ≤ i then 0
    else match hw.trackOf (16 * n + i / 2) with
      | some t => if i % 2 = 0 then chcfg0 t else chcfg1 t
      | none => if i % 2 = 0 then 0 else 0x07FF0000
  | 1 => if 34 ≤ i then 0 else mget 0 hw.vgain (34 * n + i)
  | 2 =>
    if 16 ≤ i then 0
    else
      let c := (hw.tile n).chan i
      let code := fun (h : Hist) => match h.state with | .idle => 0 | .accum => 1 | .queued => 2 | .peak => 3 | .done => 4
      let fired := (List.range 2).foldl (fun m b => if (c.buf b).state = .accum then m + (c.buf b).nRx else m) 0
      min 0xFFFF fired * 2 ^ 16 + code (c.buf 1) * 2 ^ 8 + code (c.buf 0)
  | _ => 0
/-- The words of a tile's table. -/
def tileTabWords (table : Nat) : Nat :=
  match table with | 0 => 32 | 1 => 34 | 2 => 16 | _ => 0

/-- TILE[n] (Table 7.6). -/
def Hw.tileView (hw : Hw) (n off : Nat) : Nat :=
  let t := hw.tile n
  match off with
  | 0x04 =>
    let epoch := match hw.tnd.active with | some p => p.epoch | none => 0
    b2n t.retired * 2 ^ 31 + t.cause % 8 * 2 ^ 28 + epoch % 256 * 2 ^ 16 + maskOf ((List.range 16).filter (fun p => (t.chan p).retired))
  | 0x08 => t.closed
  | 0x0C => min 63 t.qmax * 2 ^ 16 + min 63 t.queue
  | 0x1C =>
    let sel := hw.reg (tileReg n 0x18)
    hw.tileTab n (bits sel 16 2) (bits sel 0 6)
  | _ => hw.reg (tileReg n off)

/-- Words of the tables behind DET_TAB_WIN (Table 8.7): tables in pairs, shadow then active. -/
def detTabWords (table : Nat) : Nat :=
  match table / 2 with | 0 => 512 | 1 => 40 | 2 => 33 | _ => 0
def Hw.detTab (hw : Hw) (table i : Nat) : Nat :=
  if detTabWords table ≤ i then 0
  else mget 0 (if table % 2 = 0 then hw.det.shadow else hw.det.active) (1024 * (table / 2) + i)

/-- DET (Table 8.5). -/
def Hw.detView (hw : Hw) (off : Nat) : Nat :=
  let d := hw.det
  if off = 0 then hw.reg 0x00500000 + b2n d.pending * 2 ^ 23
  else if off = 0x24 then
    let busy := maskOf ((List.range 4).filter (fun b => (hw.oldestDone b).isSome))
    d.frame % 256 * 2 ^ 24 + b2n d.pending * 2 ^ 8 + busy
  else if 0x30 ≤ off ∧ off < 0x48 then d.latched.getD ((off - 0x30) / 4) 0
  else if off = 0x48 then d.frame % 256 * 2 ^ 24 + d.weather
  else if 0x400 ≤ off then
    let sel := hw.reg 0x00500020
    hw.detTab (bits sel 16 3) (bits sel 0 16 + (off - 0x400) / 4)
  else hw.reg (0x00500000 + off)

/-- TND (Table 9.9). -/
def Hw.tndView (hw : Hw) (off : Nat) : Nat :=
  let t := hw.tnd
  match off with
  | 0x00 =>
    let epoch := match t.active with | some p => p.epoch | none => t.epoch
    let next := match t.shadow with | some p => p.epoch | none => epoch
    let pattern := match t.active with | some p => p.pattern | none => false
    epoch % 256 * 2 ^ 24 + next % 256 * 2 ^ 16 + t.slot % 4 * 2 ^ 8 + b2n pattern * 2 ^ 5 + b2n t.pins * 2 ^ 4 +
      b2n t.faultFrozen * 2 + b2n t.frozen
  | 0x04 => match t.active with | some p => min 0xFFFF p.unplaced * 2 ^ 16 + p.tracks.length | none => 0
  | 0x10 => match t.active with | some p => p.route | none => 0
  | 0x14 => match t.active with | some p => p.load | none => 0
  | 0x18 => min 0xFFFF t.planTime
  | _ => hw.reg (0x00580000 + off)

/-- OUT (Table 10.12). -/
def Hw.outView (hw : Hw) (off : Nat) : Nat :=
  let o := hw.out
  match off with
  | 0x04 =>
    let skip := maskOf ((List.range 4).filter (fun l => (List.range 4).any (fun b => (hw.sub b).skipping && decide (mget 0 o.routes b = l))))
    let carry := maskOf ((List.range 4).filter (fun l => (List.range 4).any (fun b =>
      decide (mget 0 o.routes b = l) && (match hw.tnd.active with | some p => p.tracks.any (fun t => decide (t.2.bank = b)) | none => false))))
    skip * 2 ^ 24 + carry * 2 ^ 16 + (o.list.filter (·.2)).length
  | 0x1C => min 255 (hw.expFill * 256 / 917504) * 2 ^ 24 + (List.range 4).foldl (fun n b => n + min 63 (hw.queueFill b * 64 / 262144) * 64 ^ b) 0
  | 0x30 => cx 64 o.ptpOfs % 2 ^ 32
  | 0x34 => mget 0 hw.latch 0x00600034
  | 0x38 => 4 * b2n o.ptpLocked + 2 * b2n o.ptpSeen + b2n (decide (o.ptp ≠ 0))
  | _ =>
    if 0x100 ≤ off then
      match o.list[(off - 0x100) / 4]? with
      | some (k, ok) => b2n ok * 2 ^ 31 + k
      | none => 0
    else hw.reg (0x00600000 + off)

/-- LNK_PROFILE as Table 11.11; a Pantry without a profile gives the settings named below it. -/
def Hw.lnkProfile (hw : Hw) : Nat := hw.pantry.lnkProfile.getD 0x0100020F

/-- LNK (Tables 11.10 and 11.11). -/
def Hw.lnkView (hw : Hw) (off : Nat) : Nat :=
  let k := hw.lnk
  match off with
  | 0x00 => k.cfg
  | 0x04 =>
    let m := fun (f : Nat → Bool) => maskOf ((List.range 8).filter f)
    let cmd := match hw.cmdLane with | some l => 8 + l | none => 0
    m (fun l => hw.laneActive l) * 2 ^ 24 + m (fun l => (hw.lane l).lost) * 2 ^ 16 + m (fun l => decide ((hw.lane l).state = .idle)) * 2 ^ 8 + cmd
  | 0x14 => hw.lnkProfile
  | 0x100 => b2n k.testOn * 2 ^ 31 + k.testLane % 8 * 2 ^ 24 + k.testCode % 256 * 2 ^ 16 + b2n k.testLock
  | 0x104 => k.testBits % 2 ^ 32
  | 0x10C => k.testErrs % 2 ^ 32
  | 0x108 => mget 0 hw.latch 0x00680108
  | 0x110 => mget 0 hw.latch 0x00680110
  | 0x114 => hw.reg 0x00680114 + b2n (decide (hw.ticks < k.injEnd)) * 2 ^ 31
  | _ =>
    if 0x60 ≤ off ∧ off < 0x80 then
      let x := hw.lane ((off - 0x60) / 4)
      min 0xFFFF x.margin * 2 ^ 16 + x.state.code * 2 ^ 8 + x.rate % 8 * 16 + 2 * b2n x.precRx + b2n x.precTx
    else hw.reg (0x00680000 + off)

/-- A word of a table behind GLZ_TAB_WIN (Table 16.8). -/
def Hw.glzTab (hw : Hw) (table i : Nat) : Nat :=
  match table with
  | 0 => if i < 4096 then mget 0 hw.elev i else 0
  | 1 => if i < 768 then (hw.port 0).mesh.getD i 0 else 0
  | 2 => if i < 768 then (hw.port 1).mesh.getD i 0 else 0
  | 3 => if i < 21 then cx 32 ((hw.port 0).geom.getD i 0) else 0
  | 4 => if i < 21 then cx 32 ((hw.port 1).geom.getD i 0) else 0
  | _ => 0

/-- GLZ (Tables 16.5 and 16.6). -/
def Hw.glzView (hw : Hw) (off : Nat) : Nat :=
  if off < 0x400 then hw.reg (0x00700000 + off)
  else if off < 0x1000 then
    let sel := hw.reg 0x00700010
    hw.glzTab (bits sel 16 3) (bits sel 0 16 + (off - 0x400) / 4)
  else
    let p := off / 0x1000 - 1
    let x := hw.port p
    match off % 0x1000 with
    | 0x00 => x.lanes % 8 * 2 ^ 24 + x.format % 4 * 2 ^ 16 + b2n x.en
    | 0x04 => x.height % 8192 * 2 ^ 16 + x.width % 8192
    | 0x08 => x.rate
    | 0x50 => x.state.code * 2 ^ 24 + b2n x.back * 2 ^ 17 + b2n x.front.isSome * 2 ^ 16 + x.setNow % 65536
    | 0x54 => x.frame % 2 ^ 32
    | 0x58 => x.sof.toNat % 2 ^ 32
    | 0x5C => mget 0 hw.latch (0x00700000 + off)
    | 0x78 => hw.reg (0x00700000 + off) + min 31 x.queue.length * 2 ^ 16
    | _ => hw.reg (0x00700000 + off)

/-- CAS (Table 12.6). -/
def Hw.casView (hw : Hw) (off : Nat) : Nat :=
  if off = 0x04 then hw.casStatus
  else if off = 0x08 then (if hw.isSecondary then min 0xFFFF hw.cas.myDelay else 0)
  else if 0x14 ≤ off ∧ off < 0x20 then min 0xFFFF (hw.secd ((off - 0x10) / 4)).delay
  else if 0x24 ≤ off ∧ off < 0x30 then cx 32 (hw.secd ((off - 0x20) / 4)).drift
  else hw.reg (0x00A00000 + off)

/-- What a read of the register at an address returns; an address that no table names reads 0. On -IX and -AX the blocks of the
absent protective function read 0 (R2). The CMD registers stand in Machine/Session.lean. -/
def Hw.peek (hw : Hw) (a : Nat) : Nat :=
  match regDesc a with
  | none => 0
  | some d =>
    let off := a % 0x10000
    let stored := hw.reg a
    if d.wo ≠ 0 ∧ d.rw = 0 ∧ d.rwl = 0 then 0
    else match a / 0x10000 with
      | 0x00 => if a < 0x1000 then hw.devView a else 0
      | 0x01 => hw.wchView off
      | 0x02 => if off < 0x8000 then hw.bcnView off else hw.lntView (off - 0x8000)
      | 0x03 => hw.spdView off
      | 0x04 => if off < 0x8000 then hw.clkView off else hw.dmkView (off - 0x8000)
      | 0x50 => hw.detView off
      | 0x58 => hw.tndView off
      | 0x60 => hw.outView off
      | 0x68 => hw.lnkView off
      | 0x70 => hw.glzView off
      | 0x78 => if off = 0 ∨ off = 0x0C ∨ d.rwl ≠ 0 then stored else hw.pdsView off
      | 0x79 => if d.rwl ≠ 0 ∨ d.rc ≠ 0 ∨ d.w1c ≠ 0 ∨ d.rw ≠ 0 then stored else hw.tidView off
      | 0x7A => if off = 0x10 then (match (hw.sftc (hw.reg 0x007A000C % 32)).fifo with | o :: _ => cx 32 o.value | [] => 0)
                else if d.rwl ≠ 0 ∨ d.w1c ≠ 0 ∨ d.rw ≠ 0 then stored else hw.sftView off
      | 0x80 => if d.rwl ≠ 0 then stored else hw.calView off
      | 0x88 => if ¬ hw.isIS then 0 else if d.rwl ≠ 0 then stored else hw.kprView off
      | 0x89 => if ¬ hw.isIS then 0 else if d.rwl ≠ 0 then stored else hw.belView off
      | 0x8A => hw.sltView off
      | 0x90 => hw.pmcView off
      | 0x91 => hw.evtView off
      | 0x98 => if d.rw ≠ 0 then stored else hw.secView off
      | 0xA0 => hw.casView off
      | b => if 0x10 ≤ b ∧ b < 0x40 then hw.tileView (b - 0x10) off else stored

end Sys2Proof.Machine
end

