-- ==== Sys2Proof/Machine/Access.lean ====
section
/-! DEFINITION. Reading and writing a register (R12, R41, R43, R495, R499): what a read clears, latches or removes; what a write
stores by the access codes, the locks of GUARD, and the writes that act. The outcome of a write stands in `ack` and `ackData`. -/

namespace Sys2Proof.Machine

/-! ### Reads -/

/-- An s64 or u64 whose LO word is read: its HI word is latched. -/
def Hw.latchAt (hw : Hw) (hi v : Nat) : Hw := { hw with latch := mset 0 hw.latch hi (v / 2 ^ 32 % 2 ^ 32) }

/-- LATCHING_READ: what a read of a LO or first word latches (R136 and the register tables). -/
def Hw.latchRead (hw : Hw) (a : Nat) : Hw :=
  let off := a % 0x10000
  match a / 0x10000 with
  | 0x01 =>
    if off = 0x20 then { hw with wch := { hw.wch with a := { hw.wch.a with activeHi := hw.wch.a.activeAt.toNat / 2 ^ 32 } } }
    else if off = 0x28 then { hw with wch := { hw.wch with b := { hw.wch.b with activeHi := hw.wch.b.activeAt.toNat / 2 ^ 32 } } }
    else hw
  | 0x04 =>
    if off = 0x10 then hw.latchTime
    else if 0x8040 ≤ off ∧ off < 0x8080 ∧ off % 16 = 0 then
      let i := (off - 0x8040) / 16
      hw.setFreq i { hw.freqOf i with latch := (hw.freqOf i).words }
    else if 0x8080 ≤ off ∧ off < 0x80C0 ∧ off % 16 = 0 then
      let i := (off - 0x8080) / 16
      { hw with dmk := { hw.dmk with ins := mset {} hw.dmk.ins i { hw.dmkIn i with latch := (hw.dmkIn i).words } } }
    else hw
  | 0x60 => if off = 0x30 then hw.latchAt 0x00600034 (cx 64 hw.out.ptpOfs) else hw
  | 0x68 =>
    if off = 0x104 then hw.latchAt 0x00680108 hw.lnk.testBits
    else if off = 0x10C then hw.latchAt 0x00680110 hw.lnk.testErrs
    else hw
  | 0x70 =>
    if 0x1000 ≤ off ∧ off % 0x1000 = 0x58 then hw.latchAt (a + 4) (hw.port (off / 0x1000 - 1)).sof.toNat else hw
  | 0x79 => if off = 0x40 then { hw with tid := { hw.tid with accLatch := hw.accWords } } else hw
  | 0x7A => if 0x100 ≤ off ∧ (off - 0x100) % 0x20 = 0x14 then hw.latchPhase ((off - 0x100) / 0x20) else hw
  | 0x88 => if off = 0x80 ∧ hw.isIS then hw.latchTrip else hw
  | 0x90 => hw.pmcLatch off
  | 0x91 => hw.evtLatch off
  | _ => hw

/-- RC_READ: a read-clear register cleared by its read (R12); where its value is structured, that is cleared. -/
def Hw.rcClear (hw : Hw) (a : Nat) : Hw :=
  match regDesc a with
  | none => hw
  | some d =>
    if d.rc = 0 then hw
    else
      let off := a % 0x10000
      match a / 0x10000 with
      | 0x78 => let n := off / 0x100 - 2; hw.setAxis n { hw.axis n with perrMax := 0 }
      | 0x89 => { hw with bel := { hw.bel with rttMax := 0 } }
      | 0x8A => { hw with slt := { hw.slt with lowHead := 0 } }
      | b =>
        if 0x10 ≤ b ∧ b < 0x40 ∧ off = 0x0C then hw.setTile (b - 0x10) { hw.tile (b - 0x10) with qmax := 0 }
        else hw.setReg a (hw.reg a &&& (0xFFFFFFFF ^^^ d.rc))

/-- TILE_TAB_DATA_READ: the selected word, then INDEX advances; past the last word it stays (R171, Table 7.9). -/
def Hw.tileTabRead (hw : Hw) (n : Nat) : Hw :=
  let sel := hw.reg (tileReg n 0x18)
  let i := bits sel 0 6
  if i < tileTabWords (bits sel 16 2) then hw.setReg (tileReg n 0x18) (putBits sel 0 6 (i + 1)) else hw

/-- SFT_POP_VAL: the oldest entry leaves the selected FIFO (R337). -/
def sftPop (hw : Hw) : Hw := hw.popVal.1

/-- A read of a register: the value, and the state its read leaves. -/
def Hw.readReg (hw : Hw) (a : Nat) : Hw × Nat :=
  let v := hw.peek a
  let b := a / 0x10000
  let hw := if a = 0x007A0010 then sftPop hw
    else if 0x10 ≤ b ∧ b < 0x40 ∧ a % 0x10000 = 0x1C then hw.tileTabRead (b - 0x10)
    else (hw.latchRead a).rcClear a
  (hw, v)

/-! ### Locks and outcomes of a write -/

def Hw.ackOk (hw : Hw) : Hw := { hw with ack := 0, ackData := [] }
def Hw.ackLocked (hw : Hw) (a : Nat) : Hw := { hw with ack := 0x0A, ackData := le 4 a }
def Hw.ackMode (hw : Hw) : Hw := { hw with ack := 0x03, ackData := le 1 hw.dev.mode.code }
def Hw.ackBusy (hw : Hw) : Hw := { hw with ack := 0x02, ackData := [] }
def Hw.ackBad (hw : Hw) : Hw := { hw with ack := 0x05, ackData := [] }

/-- Whether a write to the register at `a` is locked now (R41, R103, R499): in GUARD every RWL field, and of the tables behind windows
MASK_SHADOW and REGION, DET's and ELEV; the grid registers outside CONFIG. -/
def Hw.locked (hw : Hw) (a : Nat) : Bool :=
  let guard := decide (hw.dev.mode = .guard)
  match regDesc a with
  | none => false
  | some d =>
    let off := a % 0x10000
    match a / 0x10000 with
    | 0x02 => if 0x8090 ≤ off ∧ off ≤ 0x80A0 then decide (hw.dev.mode ≠ .config) else guard && decide (d.rwl ≠ 0)
    | 0x03 =>
      if 0x400 ≤ off then guard && decide (bits (hw.reg 0x00030030) 16 4 = 0 ∨ bits (hw.reg 0x00030030) 16 4 = 2)
      else guard && decide (d.rwl ≠ 0)
    | 0x70 =>
      if 0x400 ≤ off ∧ off < 0x1000 then guard && decide (bits (hw.reg 0x00700010) 16 3 = 0) else guard && decide (d.rwl ≠ 0)
    | _ => guard && decide (d.rwl ≠ 0)

/-! ### Writes -/

/-- A value clamped as the register's table says before it is stored. -/
def clampWrite (a v : Nat) : Nat :=
  let fld := fun lo n least most => putBits v lo n (max least (min most (bits v lo n)))
  let off := a % 0x10000
  match a with
  | 0x00020008 => fld 0 12 40 4000
  | 0x00020080 => fld 16 3 1 4
  | 0x0003000C =>
    let w := putBits v 0 16 (max 18000 (min 32000 (bits v 0 16)))
    putBits w 16 16 (max 18000 (min 32000 (bits v 16 16)))
  | 0x00030004 =>
    let w := putBits v 16 9 (max 150 (min 450 (bits v 16 9)))
    putBits w 0 16 (max 10 (min 10000 (bits v 0 16)))
  | 0x00030018 => [0, 8, 16, 24].foldl (fun w lo => putBits w lo 7 (max 8 (min 80 (bits w lo 7)))) v
  | 0x00500008 => putBits (putBits v 8 5 (min 16 (bits v 8 5))) 0 4 (max 2 (min 8 (bits v 0 4)))
  | 0x0050000C => fld 0 6 4 63
  | 0x0050001C => fld 0 8 16 255
  | 0x00040008 => putBits v 0 23 (cx 23 (clampI (-2000000) 2000000 (sx 23 v)))
  | 0x00600000 => fld 16 10 10 1000
  | 0x00010008 => fld 0 6 1 40
  | 0x0001000C => fld 0 10 1 600
  | _ =>
    if 0x00048020 ≤ a ∧ a < 0x00048030 then fld 2 14 1 10000
    else if a / 0x10000 = 0x7A ∧ 0x100 ≤ off ∧ (off - 0x100) % 0x20 = 8 then fld 0 11 16 1024
    else if 0x008A0020 ≤ a ∧ a < 0x008A0040 then fld 0 8 5 240
    else v

/-- A write by the access codes alone: RW and RWL bits stored, W1C bits cleared, all else discarded (R12). A W1S bit asks for an act: it
reads 1 from what is still to be done (Machine/Views.lean), and TILE_CTL.RETIRE stays set (log entry 147). -/
def Hw.plainWrite (hw : Hw) (a v : Nat) : Hw :=
  match regDesc a with
  | none => { hw with ack := 0x05, ackData := le 2 16 }
  | some d =>
    let m := d.rw ||| d.rwl
    let v' := clampWrite a v
    let keep := hw.reg a &&& (0xFFFFFFFF ^^^ m) &&& (0xFFFFFFFF ^^^ (v &&& d.w1c))
    (hw.setReg a ((v' &&& m) ||| keep)).ackOk

/-- BCN_CODE_SEED[b]: taken at the start of the bank's next block; a zero seed gives the derived one (R91). The register goes on reading the
word written (log entry 158). -/
def bcnSeedWrite (b v : Nat) (hw : Hw) : Hw :=
  let s := if v % 2 ^ 31 = 0 then Config.derivedSeed b % 2 ^ 31 else v % 2 ^ 31
  let k := hw.bank b
  let hw := hw.setBank b { k with coding := { k.coding with seed := some s } }
  { hw with bcn := { hw.bcn with derived := mset 0 hw.bcn.derived b (v % 2 ^ 32) } }.ackOk

/-- BCN_DRV[a]: a block that a present driver of lower address serves clears PRESENT; PRESENT 1 asks for MAP (R81). -/
def bcnDrvStore (a v : Nat) (hw : Hw) : Hw :=
  let taken := (List.range a).any (fun k => tb (hw.drvReg k) 7 && decide (bits (hw.drvReg k) 0 4 = bits v 0 4))
  let v := if taken then putBit v 7 false else v
  let hw := hw.plainWrite (0x00020040 + 4 * a) v
  hw.setDriver a { hw.driver a with mapDue := tb v 7 }

/-- BCN_BANK[b]: FIRE_MODE 3 is discarded whole with BAD_PARAM (R82). -/
def bcnBankStore (b v : Nat) (hw : Hw) : Hw :=
  if bits v 4 2 = 3 then hw.ackBad else hw.plainWrite (0x00020020 + 4 * b) v

/-- A grid register of Lantern, by its offset: a change raises every cell's newest bucket (R103). -/
def lntGridStore (off v : Nat) (hw : Hw) : Hw :=
  let a := 0x00028000 + off
  let hw' := hw.plainWrite a v
  if hw'.reg a = hw.reg a then hw' else remapLedger hw'

/-- LNT_LIMIT[i]: at most the cap (R104). -/
def lntLimitStore (i v : Nat) (hw : Hw) : Hw := (storeLimit i (v % 2 ^ 32) hw).ackOk

/-- TILE_CTL of tile `n`: STACK in SERVICE only, RETIRE (R167, R170, R171). -/
def tileCtlStore (n v : Nat) (hw : Hw) : Hw :=
  if bits v 8 6 ≠ 0 ∧ hw.dev.mode ≠ .service then hw.ackMode
  else
    let hw := hw.plainWrite (tileReg n 0) v
    if tb v 0 then ((retireTile n 3 hw).setReg (tileReg n 0) (putBit (hw.reg (tileReg n 0)) 0 true)).ackOk else hw

/-- SPD_CTL: MASK_COMMIT and MASK_SAVE beside TRIM_FREEZE (Table 5.6). -/
def spdCtlStore (v : Nat) (hw : Hw) : Hw :=
  let hw := hw.plainWrite 0x00030000 v
  let hw := if tb v 0 then maskCommit hw else hw
  (if tb v 1 then maskSave hw else hw).ackOk

/-- SPD_BIAS: VEX_TARGET written anew gives SPD_HV_REC anew (R117). -/
def spdBiasStore (v : Nat) (hw : Hw) : Hw :=
  let hw := hw.plainWrite 0x00030004 v
  { hw with spd := { hw.spd with hvRec := hw.computeHvRec } }

/-- SPD_DT: in force at the next boundary in SCAN and SERVICE, else at once (R111). -/
def spdDtStore (v : Nat) (hw : Hw) : Hw :=
  let hw := hw.plainWrite 0x00030018 v
  match hw.dev.mode with
  | .scan | .guard | .service => hw
  | _ => { hw with spd := { hw.spd with dtInForce := hw.reg 0x00030018 } }

/-- DET_CTL and its TAB_COMMIT (Table 8.6). -/
def detCtlStore (v : Nat) (hw : Hw) : Hw :=
  let hw := hw.plainWrite 0x00500000 v
  if tb v 23 then detTabCommit hw else hw

/-- A word written through DET_TAB_WIN: the shadow tables take it (R174, Table 8.7). -/
def detTabStore (i v : Nat) (hw : Hw) : Hw :=
  let sel := hw.reg 0x00500020
  let t := bits sel 16 3
  let ix := bits sel 0 16 + i
  if t % 2 = 1 ∨ detTabWords t ≤ ix then hw.ackOk
  else
    ({ hw with det := { hw.det with shadow := mset 0 hw.det.shadow (1024 * (t / 2) + ix) (v &&& detTabMask (t / 2) ix) } }).ackOk

/-- CLK_CTL: DISCIPLINE while PTP steers the reference is discarded with BAD_PARAM; MEASURE and OFF may always be written (R235,
R139). -/
def clkCtlStore (v : Nat) (hw : Hw) : Hw :=
  if bits v 0 2 = 2 ∧ hw.out.ptp = 2 then hw.ackBad
  else
    let off := decide (hw.ppsMode = 0)
    let hw := hw.plainWrite 0x00040000 v
    let hw : Hw := if off ∧ hw.ppsMode ≠ 0 then { hw with clk := { hw.clk with ppsMissAt := hw.ticks + 1200000000, ppsQuiet := false } } else hw
    if bits v 0 2 = 1 ∧ hw.out.ptp ≠ 2 then { hw with clk := { hw.clk with term := 0 } } else hw

/-- DMK_FREQ_CTL[i]: discarded while a RESONANT axis uses the input; START opens a gate (R149, R285). -/
def dmkFreqStore (i v : Nat) (hw : Hw) : Hw :=
  if hw.ownsFreq i then hw.ackOk
  else
    let hw := hw.plainWrite (0x00048020 + 4 * i) v
    if tb v 0 then hw.startGate i else hw

/-- DMK_IV_CTL: ARM (R148). -/
def dmkIvStore (v : Nat) (hw : Hw) : Hw :=
  let hw := hw.plainWrite 0x00048008 v
  if tb v 0 then ivArm hw else hw

/-- GLZ_P_MAP: a change of size withdraws both buffers (R350); a size out of range is BAD_PARAM (R355). -/
def glzMapStore (p v : Nat) (hw : Hw) : Hw :=
  let w := bits v 0 11
  let h := bits v 16 11
  if w = 0 ∨ 1280 < w ∨ h = 0 ∨ 960 < h then hw.ackBad
  else
    let old := hw.glzP p 0x1010
    let hw := hw.plainWrite (glzReg p 0x1010) v
    (if hw.glzP p 0x1010 = old then hw else hw.withdrawMaps p).ackOk

/-- GLZ_P_EXPOFS: staged (R350). -/
def glzExpofsStore (p v : Nat) (hw : Hw) : Hw :=
  let hw := hw.plainWrite (glzReg p 0x103C) v
  (hw.setPort p { hw.port p with staged := some (v % 2 ^ 24) }).ackOk

/-- Whether a value of a GLZ port register lies out of a field's range (R355, Tables 16.6 and 16.7). -/
def badGlz (off v : Nat) : Bool :=
  match off with
  | 0x0C => decide (6 < bits v 20 3 ∨ 4 < bits v 8 3)
  | 0x78 => decide (bits v 0 2 = 3)
  | _ => false

/-- Whether a value of a TID register lies out of a field's range (R324, Tables 14.5 to 14.7). -/
def badTid (off v : Nat) : Bool :=
  match off with
  | 0x00 => decide (bits v 12 8 = 0)
  | 0x18 =>
    decide (bits v 22 10 = 0 ∨ 1000 < bits v 22 10 ∨ bits v 16 6 < 4 ∨ bits v 10 6 = 0 ∨ bits v 0 9 < 10 ∨ 500 < bits v 0 9)
  | _ => if 0x100 ≤ off ∧ off < 0x180 then decide (bits v 29 2 = 3 ∨ bits v 26 2 < bits v 24 2) else false

/-- TID_TONE: a burst longer than PERIOD less 0.1 ms is discarded with BAD_PARAM (R314). -/
def tidToneStore (v : Nat) (hw : Hw) : Hw :=
  if badTid 0x18 v ∨ 800000 * bits v 22 10 < toneTicks v + 80000 then hw.ackBad else hw.plainWrite 0x00790018 v

/-- TID_PAIR: only while no axis is STARTING or RUN, else BUSY (R302). -/
def tidPairStore (v : Nat) (hw : Hw) : Hw :=
  if (List.range 4).any (fun a => (hw.axis a).live) then hw.ackBusy else hw.plainWrite 0x00790014 v

/-- A write that would raise the worst-case time of R290 beyond a running axis's tick is refused with 0x0501. -/
def Hw.withinBudget (hw hw' : Hw) : Hw := if hw'.budgetOk then hw' else hw.ackPre 0x0501

/-- A TID register. -/
def tidStore (off v : Nat) (hw : Hw) : Hw :=
  let a := 0x00790000 + off
  match off with
  | 0x08 => hw.withinBudget (hw.setScan (v % 2 ^ 32) (hw.reg 0x00790010 * 2 ^ 32 + hw.reg 0x0079000C)).ackOk
  | 0x14 => tidPairStore v hw
  | 0x18 => tidToneStore v hw
  | 0x34 => tidSnap v hw
  | 0x1C => hw.withinBudget (hw.plainWrite a v).scanGo
  | _ => if badTid off v then hw.ackBad else hw.withinBudget (hw.plainWrite a v)

/-- SFT_CH_DET of a channel: BUSY while Pedestal owns it (R339). -/
def sftDetStore (c v : Nat) (hw : Hw) : Hw :=
  if hw.ownsDet c then hw.ackBusy else hw.plainWrite (sftReg c 0x10C) v

/-- PDS: PERIOD, and the flags W1C (Tables 13.6 and 13.7). -/
def pdsStore (off v : Nat) (hw : Hw) : Hw :=
  if off = 0 then pdsPeriodWrite v hw
  else if 0x200 ≤ off ∧ off % 0x100 = 0x24 then
    let a := off / 0x100 - 2
    let x := hw.axis a
    (hw.setAxis a { x with sticky := x.sticky &&& (0xFFFFFFFF ^^^ (v &&& 0x1C1)) }).ackOk
  else hw.plainWrite (0x00780000 + off) v

/-- KPR: parameter words, written only in CONFIG (R396, log entry 57). -/
def kprStore (off v : Nat) (hw : Hw) : Hw :=
  if ¬ hw.isIS then hw.ackOk
  else if 0x40 ≤ off ∨ off = 0x18 ∨ off = 0x1C then hw.ackOk
  else if hw.dev.mode ≠ .config then hw.ackMode
  else if hw.badKpr off v then hw.ackBad
  else hw.plainWrite (0x00880000 + off) v

/-- BEL (R410). -/
def belStore (off v : Nat) (hw : Hw) : Hw :=
  if ¬ hw.isIS then hw.ackOk else if badBel off v then hw.ackBad else hw.plainWrite (0x00890000 + off) v

/-- CAL: DELTA_T 0 is refused; the boot mask by R367. -/
def calStore (off v : Nat) (hw : Hw) : Hw :=
  if off = 0 then (if bits v 24 8 = 0 then hw.ackBad else hw.plainWrite 0x00800000 v)
  else if off = 0x30 then calBootMaskWrite v hw
  else hw.plainWrite (0x00800000 + off) v

/-- REHEARSE: a planned swap requested, with the conditions of R423. -/
def rehearse (hw : Hw) : Hw :=
  if ¬ hw.wch.standby.promotable then hw.ackPre 0x0A01
  else if hw.wch.swap.isSome then hw.ackPre 0x0A02
  else ({ hw with wch := { hw.wch with swap := some 2 } }).ackOk

/-- PMC (Table 22.6). -/
def pmcStore (off v : Nat) (hw : Hw) : Hw :=
  if off = 0 then ((hw.plainWrite 0x00900000 (putBit v 0 (tb (hw.reg 0x00900000) 0))).pmcFreeze (tb v 0)).ackOk
  else if off = 0x10 ∨ off = 0x14 then
    let m := 0xFFFFFFFFFFFFFFFF ^^^ (v % 2 ^ 32 * (if off = 0x14 then 2 ^ 32 else 1))
    ({ hw with pmc := { hw.pmc with ovf := hw.pmc.ovf &&& m, told := hw.pmc.told &&& m } }).ackOk
  else if 0x100 ≤ off ∧ off < 0x300 then pmcEvtWrite ((off - 0x100) / 8) (decide (off % 8 = 4)) v hw
  else if 0x400 ≤ off ∧ off < 0x600 then pmcCntWrite ((off - 0x400) / 8) (decide (off % 8 = 4)) v hw
  else hw.plainWrite (0x00900000 + off) v

/-- SEC (Table 23.7); `service` tells whether a SERVICE session writes, the read-back of a programmed word is free. -/
def secStore (service : Bool) (off v : Nat) (hw : Hw) : Hw :=
  if off = 0x28 then (if tb v 0 then (let (n, h) := hw.draw; fuseProgram service n h) else hw.ackOk)
  else if 0x30 ≤ off ∧ off < 0x40 then
    ({ hw with sec := { hw.sec with pwSet := mset 0 hw.sec.pwSet ((off - 0x30) / 4) (v % 2 ^ 32) } }).ackOk
  else if off = 0x40 then
    (if tb v 0 then passwordCommit hw else if tb v 1 then passwordClear hw else hw.ackOk)
  else hw.plainWrite (0x00980000 + off) v

/-- A write that its register's lock lets through. -/
def Hw.storeReg (hw : Hw) (service : Bool) (a v : Nat) : Hw :=
  let off := a % 0x10000
  match a / 0x10000 with
  | 0x00 => if a = 8 then ({ hw with on := { hw.on with resetCause := hw.on.resetCause &&& (0x3F ^^^ (v &&& 0x3F)) } }).ackOk else hw.ackOk
  | 0x01 => if off = 0 then (if tb v 0 then rehearse hw else hw.ackOk) else hw.plainWrite a v
  | 0x02 =>
    if 0x10 ≤ off ∧ off < 0x20 then bcnSeedWrite ((off - 0x10) / 4) v hw
    else if 0x20 ≤ off ∧ off < 0x30 then bcnBankStore ((off - 0x20) / 4) v hw
    else if 0x40 ≤ off ∧ off < 0x80 then bcnDrvStore ((off - 0x40) / 4) v hw
    else if 0x8040 ≤ off ∧ off < 0x8070 then lntLimitStore ((off - 0x8040) / 4) v hw
    else if 0x8090 ≤ off ∧ off ≤ 0x80A0 then lntGridStore (off - 0x8000) v hw
    else hw.plainWrite a v
  | 0x03 =>
    if off = 0 then spdCtlStore v hw
    else if off = 4 then spdBiasStore v hw
    else if off = 0x0C then (hw.plainWrite a v).hvCheck.ackOk
    else if off = 0x18 then spdDtStore v hw
    else if 0x400 ≤ off then spdTabWrite ((off - 0x400) / 4) v hw.ackOk
    else hw.plainWrite a v
  | 0x04 =>
    if off = 0 then clkCtlStore v hw
    else if off = 0x18 then ({ hw with clk := { hw.clk with setLo := v % 2 ^ 32 } }).ackOk
    else if off = 0x1C then clkTimeSet (wordOf v) hw
    else if off = 0x8008 then dmkIvStore v hw
    else if 0x8020 ≤ off ∧ off < 0x8030 then dmkFreqStore ((off - 0x8020) / 4) v hw
    else hw.plainWrite a v
  | 0x50 =>
    if off = 0 then detCtlStore v hw else if 0x400 ≤ off then detTabStore ((off - 0x400) / 4) v hw else hw.plainWrite a v
  | 0x68 => if off = 0x114 then lnkInject v hw else hw.plainWrite a v
  | 0x70 =>
    if 0x400 ≤ off ∧ off < 0x1000 then
      let sel := hw.reg 0x00700010
      let i := bits sel 0 16 + (off - 0x400) / 4
      if bits sel 16 3 = 0 ∧ i < 4096 then ({ hw with elev := mset 0 hw.elev i (v % 2 ^ 32) }).ackOk else hw.ackOk
    else if 0x1000 ≤ off then
      let p := off / 0x1000 - 1
      if off % 0x1000 = 0x10 then glzMapStore p v hw
      else if off % 0x1000 = 0x3C then glzExpofsStore p v hw
      else if badGlz (off % 0x1000) v then hw.ackBad
      else hw.plainWrite a v
    else hw.plainWrite a v
  | 0x78 => pdsStore off v hw
  | 0x79 => tidStore off v hw
  | 0x7A => if 0x100 ≤ off ∧ (off - 0x100) % 0x20 = 0x0C then sftDetStore ((off - 0x100) / 0x20) v hw else hw.plainWrite a v
  | 0x80 => calStore off v hw
  | 0x88 => kprStore off v hw
  | 0x89 => belStore off v hw
  | 0x8A =>
    if off = 0 then sltCtlWrite v hw
    else if 0x40 ≤ off ∧ off < 0x60 ∧ off % 8 = 0 then sltEngCfgWrite ((off - 0x40) / 8) v hw
    else if 0x20 ≤ off ∧ off < 0x40 then (hw.holdCur ((off - 0x20) / 4)).plainWrite a v
    else hw.plainWrite a v
  | 0x90 => pmcStore off v hw
  | 0x98 => secStore service off v hw
  | b => if 0x10 ≤ b ∧ b < 0x40 ∧ off = 0 then tileCtlStore (b - 0x10) v hw else hw.plainWrite a v

/-- A write of one register: an address that no table names is BAD_PARAM, a locked one LOCKED (R41, R495). -/
def Hw.writeReg (hw : Hw) (service : Bool) (a v : Nat) : Hw :=
  if a % 4 ≠ 0 ∨ (regDesc a).isNone then { hw with ack := 0x05, ackData := le 2 16 }
  else if hw.locked a then hw.ackLocked a
  else hw.storeReg service a v

end Sys2Proof.Machine
end

