-- ==== Sys2Proof/Machine/Boot.lean ====
section
/-! DEFINITION. Reset, power, wake and the boot steps (chapter 03): what a reset keeps, the fourteen steps with their policies,
the boot record and the Logbook. -/

namespace Sys2Proof.Machine

/-! ### Reset and DORMANT (R55, R66 to R72) -/

/-- The boot record after a start with TRIAL set that ended before S14: the next start selects the other slot first (R455; log
entry 58). -/
def Hw.trialLost (hw : Hw) : BootRecord :=
  if hw.dev.mode = .boot ∧ ¬ hw.dev.inReset ∧ ¬ hw.dev.hotHold ∧ hw.fwTrial then
    { hw.pantry.boot with fw := putBit (putBit hw.pantry.boot.fw 4 (!tb hw.pantry.boot.fw 4)) 5 false }
  else hw.pantry.boot

/-- A reset with a cause of Table 3.8 (R69, R72): every register and SRAM at its reset value; the Pantry, the always-on island
and what outside parties drive stay. A power-up also clears the always-on island (Table 26.3). -/
def Hw.restart (hw : Hw) (cause : Nat) : Hw :=
  { pantry := { hw.pantry with boot := hw.trialLost }
    pins := hw.pins
    free := hw.free
    cas := if cause = 0 then { index := hw.cas.index } else
      { index := hw.cas.index, myDelay := hw.cas.myDelay, secs := hw.cas.secs.map (fun e => (e.1, { delay := e.2.delay })) }
    on := if cause = 0 then { resetCause := 1 }
      else { hw.on with resetCause := putBit hw.on.resetCause cause true, heldLog := [] }
    dev := { step := 1, startCause := cause }
    outbox := [.deviceReset] }

/-- Whether the device is held in reset: RESET_N low, or too hot to start (R66, R67). -/
def Hw.held (hw : Hw) : Bool := hw.dev.inReset || hw.dev.hotHold

/-- Whether an island that starts with boot step `n` is clocked: not in reset, not in DORMANT, in BOOT from that step on; 15 stands for one
that does not run in BOOT (R18, R56, Table 3.2; log entry 146). -/
def Hw.awake (hw : Hw) (n : Nat) : Bool :=
  !hw.held && (match hw.dev.mode with
    | .dormant => false
    | .boot => decide (n ≤ hw.dev.step)
    | _ => true)

/-- FAULT_N is low (R71): until S14 completes, in a halted boot, while a STOP or SAFE fault is raised; DORMANT keeps what it had. -/
def Hw.faultPin (hw : Hw) : Bool :=
  match hw.dev.mode with
  | .boot => true
  | .dormant => hw.dev.faultLow
  | _ => hw.classRaised 3 || hw.classRaised 4

/-- POWER_UP. -/
def powerUp (hw : Hw) : Hw := { hw.restart 0 with cas := {} }

/-- RESET_N_LOW: shorter than 2 µs it is ignored, from 10 µs on it resets; between them either happens, freely (R67). -/
def resetNLow (lowNs : Nat) (hw : Hw) : Hw :=
  let (r, hw) := hw.draw
  if hw.dev.inReset ∨ lowNs < 2000 ∨ (lowNs < 10000 ∧ r % 2 = 0) then hw
  else
    let hot := hw.dev.hotHold
    let hw := hw.restart 1
    { hw with dev := { hw.dev with inReset := true, hotHold := hot } }

/-- RESET_N_RISE: BOOT begins; the cascade straps are latched (R67, R266). -/
def resetNRise (straps : Nat) (hw : Hw) : Hw :=
  if hw.dev.inReset then { hw with dev := { hw.dev with inReset := false }, cas := { hw.cas with index := straps % 4 } } else hw

/-- CORE_SUPPLY_FAULT: a core supply outside its window for more than 10 µs (R66). -/
def coreSupplyFault (outsideUs : Nat) (hw : Hw) : Hw :=
  if hw.held ∨ outsideUs ≤ 10 then hw else hw.restart 4

/-- Entry to DORMANT from CONFIG (R56, R68, R70): sessions close, the bias ramps down, the axes go to their safe outputs and then
off, the lanes are ANCHORED, fades end (R334; log entry 182), every output idles. -/
def Hw.sleep (hw : Hw) (wakeMask : Nat) : Hw :=
  let low := hw.faultPin
  let hw := (List.range 4).foldl (fun (h : Hw) a =>
    let h := if (h.axis a).live then h.axisTo a .safe 3 else h
    h.axisTo a .off 3) hw
  let hw := (List.range 8).foldl (fun (h : Hw) l => h.toLane l .anchored id) hw
  let hw := hw.command 0 0
  let hw := hw.toMode .dormant 0
  { hw with
    dev := { hw.dev with wakeMask := wakeMask % 4, faultLow := low, hvEnable := false, sched := none }
    spd := { hw.spd with biasOn := false, hvInSince := none }
    slt := {}
    sft := { hw.sft with chans := hw.sft.chans.map (fun e => (e.1, { e.2 with old := [], fade := 0, staged := none })) }
    bel := { hw.bel with running := false }
    outbox := hw.outbox ++ [.deviceReset] }

/-- DORMANT through reset (RESET_SOFT with target 1): WAKE alone is armed (R70). -/
def Hw.sleepByReset (hw : Hw) : Hw :=
  let hw := hw.restart 2
  { hw with dev := { hw.dev with mode := .dormant, step := 0, wakeMask := 1, faultLow := true } }

/-- WAKE_EDGE: WAKE high for at least 1 µs while its source is armed (R70). -/
def wakeEdge (highNs : Nat) (hw : Hw) : Hw :=
  if hw.dev.mode = .dormant ∧ ¬ hw.held ∧ tb hw.dev.wakeMask 0 ∧ 1000 ≤ highNs then hw.restart 3 else hw

/-- LANE0_WAKE_ACTIVITY: above 100 mV for 10 µs it wakes, below 50 mV never; between them freely (R70, Table 24.11). -/
def lane0Wake (activeUs swingMv : Nat) (hw : Hw) : Hw :=
  let (r, hw) := hw.draw
  if hw.dev.mode = .dormant ∧ ¬ hw.held ∧ tb hw.dev.wakeMask 1 ∧ 10 ≤ activeUs ∧ (100 < swingMv ∨ (50 ≤ swingMv ∧ r % 2 = 1)) then
    hw.restart 3
  else hw

/-- TEMP_CONVERSION: the sensors and thermistors, then the over-temperature conditions of the hottest sensor, each with its
hysteresis; a condition that begins raises its fault (R66, R322, R466; log entry 87); in a
hold after a shutdown, the start once it has cooled below 115 °C. -/
def tempConversion (sensors therms : List Int) (hw : Hw) : Hw :=
  if hw.dev.mode = .dormant ∨ hw.dev.inReset ∨ hw.ticks < hw.tid.tempAt then hw
  else
    let hot := sensors.foldl max (sensors.headD 0)
    let hw : Hw := { hw with
      temps := (List.range 8).foldl (fun m j => mset 0 m j (clampI (-32768) 32767 (sensors.getD j 0))) hw.temps
      tid := { hw.tid with tempAt := hw.ticks + 800000 } }
    if hw.dev.hotHold then (if hot < 115 * 64 then { hw with dev := { hw.dev with hotHold := false } } else hw)
    else if 140 * 64 ≤ hot then
      let h := hw.restart 5
      { h with dev := { h.dev with hotHold := true } }
    else
      let hw := (List.range 4).foldl (fun (h : Hw) j => match therms[j]? with
        | some r => h.takeTherm j r
        | none => h) hw
      let judge := fun (was : Bool) (up down : Int) => decide (up * 64 ≤ hot) || (was && decide (down * 64 < hot))
      let warm := judge hw.dev.tooWarm 120 115
      let limit := judge hw.dev.tooHot 130 125
      let newWarm := warm && !hw.dev.tooWarm
      let newHot := limit && !hw.dev.tooHot
      let hw := { hw with dev := { hw.dev with tooWarm := warm, tooHot := limit } }
      let hw := if newWarm then hw.raise (fid srcDev 1 201) [] else hw
      let hw := if newHot then hw.raise (fid srcDev 3 202) [] else hw
      hw.calTemps

/-! ### The boot record and the Logbook (R75 to R79, Tables 3.11, 3.13) -/

/-- Count C of step `n` in COUNTS. -/
def BootRecord.count (b : BootRecord) (n : Nat) : Nat := bits b.counts (2 * n - 2) 2
def BootRecord.setCount (b : BootRecord) (n c : Nat) : BootRecord := { b with counts := putBits b.counts (2 * n - 2) 2 c }
def BootRecord.setAlt (b : BootRecord) (n : Nat) (v : Bool) : BootRecord := { b with altNext := putBit b.altNext n v }

/-- C and ALT_NEXT of a step, with DEV_BOOT_FAILS (Table 3.9, R75). -/
def Hw.setBootCount (hw : Hw) (n c : Nat) (alt : Bool) : Hw :=
  let b := (hw.pantry.boot.setCount n c).setAlt n alt
  { hw with pantry := { hw.pantry with boot := b }, dev := { hw.dev with bootFails := b.counts } }

/-- What a host operation of the terminal-policy column does when it succeeds (R75). -/
def Hw.clearBootCount (hw : Hw) (n : Nat) : Hw := hw.setBootCount n 0 false

/-- The 60 bytes before the CRC, and the whole record (Table 3.13). -/
def BootRecord.bytes (b : BootRecord) : List Byte :=
  let body := le 2 b.start ++ le 4 b.counts ++ le 2 b.altNext ++ le 1 b.watch ++ le 1 b.fw ++ le 1 b.dir ++ le 1 b.rate ++ le 6 b.tileFail ++
    le 12 b.tileCount ++ le 1 b.cascade ++ List.replicate 29 0
  body ++ le 4 (crc32c body)

/-- Count of tile `n` in TILE_COUNT. -/
def tileCountOf (w n : Nat) : Nat := bits w (2 * n) 2

/-- How a step ended (OUTCOME of Table 3.11). -/
inductive Outcome where
  | main
  | altFailed
  | altFirst
  | skipped
  | halted
  | terminal
  deriving DecidableEq, Repr

def Outcome.code : Outcome → Nat
  | .main => 0 | .altFailed => 1 | .altFirst => 2 | .skipped => 3 | .halted => 4 | .terminal => 5

/-- A Logbook entry (Table 3.11). -/
def logEntry (time step outcome attempts count start detail : Nat) : List Byte :=
  le 8 time ++ le 1 step ++ le 1 outcome ++ le 1 attempts ++ le 1 count ++ le 2 start ++ le 2 detail

/-- An entry written: to the Pantry from S07's end on, held by the always-on island before it (R78, R79). -/
def Hw.writeLog (hw : Hw) (e : List Byte) : Hw :=
  if hw.dev.step ≤ 6 then { hw with on := { hw.on with heldLog := hw.on.heldLog ++ [e] } }
  else
    let l := hw.pantry.log ++ [e]
    ({ hw with pantry := { hw.pantry with log := l.drop (l.length - 64) } } : Hw).pantryWrite 0
def Hw.mountLog (hw : Hw) : Hw :=
  let es := hw.on.heldLog
  let l := hw.pantry.log ++ es
  let hw := { hw with on := { hw.on with heldLog := [] }, pantry := { hw.pantry with log := l.drop (l.length - 64) } }
  es.foldl (fun (h : Hw) _ => h.pantryWrite 0) hw

/-- LOGBOOK_READ: oldest first, entries never written after the written ones, all zero. -/
def Hw.logbook (hw : Hw) : List Byte :=
  hw.pantry.log.flatMap id ++ List.replicate (16 * (64 - hw.pantry.log.length)) 0

/-! ### Policies (Table 3.10) -/

/-- Attempts of a step's main path. S10 counts bring-up attempts. -/
def stepAttempts : Nat → Nat
  | 2 => 3 | 3 => 2 | 5 => 2 | 6 => 3 | 9 => 2 | 10 => 3 | 12 => 2 | 13 => 2 | _ => 1

/-- Steps whose policy on failure is ALTERNATE, steps that attempt their main path whatever C is, steps that halt when the
alternate fails too. -/
def stepAlternate (n : Nat) : Bool := decide (n = 3 ∨ n = 4 ∨ (7 ≤ n ∧ n ≤ 11))
def stepAlways (n : Nat) : Bool := decide (n ≤ 2 ∨ n = 6 ∨ n = 14)
def stepHalts (n : Nat) : Bool := decide (n = 3 ∨ n = 4 ∨ n = 7)

/-- The class of F.DEV.1NN. -/
def stepClass (n : Nat) : Nat := if n = 2 ∨ n = 5 ∨ n = 6 then 3 else 2

/-! ### What the steps do -/

/-- S02 on its main path: the fuses, the boot record (R3, R69, R75, R76, R104). -/
def Hw.bootFuses (hw : Hw) (o : BootObs) : Hw :=
  let fuses := o.fuses.foldl (fun m e => mset 0 m (e.1 % 256) e.2.toNat) hw.pantry.fuses
  let word := fun w => mget 0 fuses w
  let hw : Hw := { hw with
    pantry := { hw.pantry with fuses := fuses }
    sec := { hw.sec with fused := fuses }
    dev := { hw.dev with codeRead := some (bits (word 2) 4 4) }
    lnt := { hw.lnt with
      caps := (List.range 12).map (fun i => word (71 + i))
      windows := (List.range 3).map (fun i => word (83 + i))
      capsValid := tb (or2 (word 0)) 2 }
    bcn := { hw.bcn with
      derived := (List.range 4).foldl (fun m b => mset 0 m b (Config.derivedSeed b % 2 ^ 31)) []
      banks := (List.range 4).foldl (fun m b => mupd {} m b (fun (k : BeaconBank) => { k with coding := { k.coding with state := Config.derivedSeed b % 2 ^ 31 } })) hw.bcn.banks } }
  let hw : Hw := if o.value = 1 then
      ({ hw with pantry := { hw.pantry with boot := {} } } : Hw).raise (fid srcDev 1 205) []
    else hw
  { hw with dev := { hw.dev with bootFails := hw.pantry.boot.counts } }

/-- S03 with the units that stay out (R411, Table 3.10). -/
def Hw.bootWatch (hw : Hw) (out : Nat) : Hw :=
  let up : WchUnit := { state := 5, since := hw.ticks, beat := hw.ticks, activeAt := hw.clk.time }
  let second : WchUnit := if out = 0 then { state := 2, since := hw.ticks, beat := hw.ticks } else { state := 6, since := hw.ticks }
  let act := if tb out 0 then 1 else 0
  { hw with
    wch := { hw.wch with
      active := act, a := if act = 0 then up else second, b := if act = 0 then second else up
      nextAt := hw.ticks + 200000 * bits (hw.reg 0x00010008) 0 6 }
    pantry := { hw.pantry with boot := { hw.pantry.boot with watch := out % 4 } } }
def Hw.tellUnits (hw : Hw) (out : Nat) : Hw := (setBits 2 out).foldl (fun h u => h.raise (fid srcWch 2 5) (le 1 u)) hw

/-- S05: the bias in its window, or off, with F.SPD.001 where the ramp was tried (R118, R469; log entry 88); Lantern starts either way (R104, R107). -/
def Hw.bootBias (hw : Hw) (ok tried : Bool) (mv : Nat) : Hw :=
  let hw : Hw := if ok then
      { hw with
        dev := { hw.dev with hvEnable := true }
        spd := { hw.spd with biasOn := true, hvMeas := min 65535 mv, hvInSince := some (hw.ticks - 800000) } }
    else
      let hw : Hw := { hw with dev := { hw.dev with hvEnable := false }, spd := { hw.spd with biasOn := false, hvInSince := none } }
      if tried then hw.raise (fid srcSpd 3 1) [] else hw
  capsFault (lanternStart hw)

/-- S06: the reference locked; device time begins at 0, on a secondary with the primary's first TIME frame (R74, R135, R271). -/
def Hw.bootClock (hw : Hw) : Hw :=
  let clk := { hw.clk with refLock := true, xtalOk := true, time := 0, timeValid := !hw.isSecondary, ppsMissAt := hw.ticks + 1200000000 }
  { hw with clk := clk }

/-- S07: the Pantry mounted from a directory copy (R371); `bad` lists the regions with words that cannot be corrected. -/
def Hw.bootMount (hw : Hw) (failed : Nat) (corrected : Nat) (bad : List Nat) : Hw :=
  let hw : Hw := { hw with
    cal := { hw.cal with corrected := corrected }
    pantry := { hw.pantry with boot := { hw.pantry.boot with dir := failed % 4 } } }
  let hw := bad.foldl (fun (h : Hw) r => h.raise (fid srcCal 2 10) (le 2 r)) hw
  hw.mountLog

/-- S08: calibration, the saved mask in both copies, the lane profile, SPD_HV_REC (R116, R120, R265, R369, R501). -/
def Hw.bootLoad (hw : Hw) (main globalsOk : Bool) (dropped : List Nat) : Hw :=
  let hw := hw.loadCal main globalsOk dropped
  let hw : Hw := { hw with
    spd := { hw.spd with maskShadow := hw.pantry.mask, maskActive := hw.pantry.mask, hvRec := hw.computeHvRec }
    lnk := { hw.lnk with cfg := hw.lnkProfile } }
  hw.recount

/-- S09: `failed` tiles of those tested, `untested` retired without a test; every retired one has cause 1 (R170, R75). -/
def Hw.bootTiles (hw : Hw) (failed untested : List Nat) (tested : Bool) : Hw :=
  let all := (List.range 48).filter (fun n => failed.contains n || untested.contains n)
  let hw := all.foldl (fun (h : Hw) n => retireNow n 1 h) hw
  let b := hw.pantry.boot
  let counts := if tested then (List.range 48).foldl (fun w n =>
      if untested.contains n then w
      else if failed.contains n then putBits w (2 * n) 2 (min 3 (tileCountOf w n + 1)) else putBits w (2 * n) 2 0) b.tileCount
    else b.tileCount
  let hw : Hw := { hw with pantry := { hw.pantry with boot := { b with tileFail := maskOf all, tileCount := counts } } }
  if all.length = 48 then ({ hw with dev := { hw.dev with noTiles := true } } : Hw).raise (fid srcDev 3 203) [] else hw

/-- S10: the lanes of 0 to 3 that are up at the rate reached, the others ANCHORED; none up raises F.DEV.204 (R250, R254), but on a secondary,
where all four stay ANCHORED (R267; log entry 177). -/
def Hw.bootLanes (hw : Hw) (up : List Nat) (rate : Nat) : Hw :=
  let hw := (List.range 4).foldl (fun (h : Hw) l =>
    if h.laneOn l ∧ up.contains l then
      if h.isEth then h.setLane l { h.lane l with lock := true, rate := rate }
      else if (h.lane l).state = .active ∧ (h.lane l).rate = rate then h
      else h.toLane l .active (fun x => { x with rate := rate, quietAt := h.ticks, ackAt := h.ticks, attempts := 0 })
    else h.toLane l .anchored (fun x => { x with lock := false })) hw
  let hw : Hw := { hw with pantry := { hw.pantry with boot := { hw.pantry.boot with rate := rate % 256 } } }
  if hw.isSecondary ∨ (List.range 4).any (fun l => hw.laneUp l) then hw
  else ({ hw with dev := { hw.dev with noLanes := true } } : Hw).raise (fid srcDev 3 204) []

/-- The enabled lanes of 0 to 3 that are not among those up. -/
def Hw.lanesMissing (hw : Hw) (up : List Nat) : Bool := (List.range 4).any (fun l => hw.laneOn l && !up.contains l)

/-- The secondaries admitted. -/
def Hw.admitted (hw : Hw) : Nat := ([1, 2, 3].filter (fun i => (hw.secd i).admitted)).length

/-- S12: the axes of the boot profile configured, loaded and started, those that already run left alone (R292). -/
def Hw.bootAxes (hw : Hw) : Hw :=
  hw.pantry.axes.foldl (fun (h : Hw) b =>
    if (h.axis b.axis).state = .run then h
    else
      let h := (h.axisTo b.axis .off 0).configAxis b.axis b.kind b.cfg
      let h := (h.loadCoefs b.axis false b.inner).1
      let h := (h.loadCoefs b.axis true b.outer).1
      (h.enableAxis b.axis 1).1) hw
def Hw.axesHomed (hw : Hw) : Bool := hw.pantry.axes.all (fun b => decide ((hw.axis b.axis).state = .run))
def Hw.axesLeft (hw : Hw) : Hw :=
  hw.pantry.axes.foldl (fun (h : Hw) b => if (h.axis b.axis).state = .run then h else h.axisTo b.axis .safe 0) hw

/-- CAM_CONFIG's parameters into a port (R341). -/
def Hw.configCam (hw : Hw) (p lanes format width height rate : Nat) : Hw :=
  hw.setPort p { hw.port p with lanes := lanes, format := format, width := width, height := height, rate := rate }

/-- A port enabled waits for its first FS packet; a disabled one loses its maps (R344, R350). -/
def Hw.enableCam (hw : Hw) (p : Nat) (on : Bool) : Hw :=
  let x := hw.port p
  if on then
    if x.en then hw else hw.setPort p { x with en := true, state := .waiting, quietAt := hw.ticks }
  else
    (hw.setPort p { x with en := false, state := .disabled, inFrame := false, lines := [], received := 0 }).withdrawMaps p

/-- S13: the ports whose identity matched take the profile's settings; the others of the profile are OFFLINE (R349). -/
def Hw.bootCams (hw : Hw) (found : List Nat) : Hw :=
  hw.pantry.cams.foldl (fun (h : Hw) c =>
    if found.contains c.port then (h.configCam c.port c.lanes c.format c.width c.height c.rate).enableCam c.port c.en
    else h.setPort c.port { h.port c.port with en := false, state := .offline }) hw

/-- S14: CONFIG is entered, with the tests of an entry to CONFIG; a trial slot is confirmed; a cascade's run at power-up becomes
due (R55, R95, R128, R367, R431, R455). The observation may hold the readings of the pin test and of the lamp room. -/
def Hw.bootDone (hw : Hw) (o : BootObs) : Hw :=
  let hw := (hw.toMode .config 4).configTests o.items[0]? o.items[1]?
  let hw := hw.fwConfirm
  { hw with
    slt := { hw.slt with testDue := true }
    cal := { hw.cal with bootDue := decide (hw.dev.startCause = 0) && (hw.isSecondary || hw.cas.found) } }

/-! ### The step machine (R74, R75) -/

/-- What a step does as it starts. -/
def Hw.enterStep (hw : Hw) (n : Nat) : Hw :=
  let hw := { hw with dev := { hw.dev with step := n, attempt := 0, stopFails := 0, stepAt := hw.ticks } }
  match n with
  | 10 => if hw.isEth then hw else (List.range 4).foldl (fun (h : Hw) l => if h.laneOn l then h.startLane l 0 else h) hw
  | 11 =>
    [4, 5, 6].foldl (fun (h : Hw) l => if h.laneOn l then h.startLane l 0 else h) hw
  | 12 => if hw.pantry.boot.count 12 = 3 then hw else hw.bootAxes
  | _ => hw

/-- The step ends: fault, boot record, Logbook, the next step; a halt stays where it is, one of S07 without an entry (R74, R76 to R79). `c` is C after this
start, `alt` its ALT_NEXT bit. -/
def Hw.endStep (hw : Hw) (out : Outcome) (attempts c : Nat) (alt : Bool) (detail : Nat) : Hw :=
  let n := hw.dev.step
  let hw := { hw with dev := { hw.dev with attempt := attempts } }
  let hw : Hw := if out = .main ∨ n = 1 ∨ n = 14 then hw
    else ({ hw with dev := { hw.dev with degraded := true } } : Hw).raise (fid srcDev (stepClass n) (100 + n)) []
  let hw := if n = 1 then hw else hw.setBootCount n c alt
  let hw := if n = 7 ∧ out = .halted then hw else hw.writeLog (logEntry (if n ≤ 5 then 0 else hw.clk.time.toNat) n out.code attempts c hw.pantry.boot.start detail)
  let hw := { hw with dev := { hw.dev with stopFails := 0 } }
  if out = .halted then { hw with dev := { hw.dev with halted := true } }
  else if n = 14 then hw
  else hw.enterStep (n + 1)

/-- What a path of step `n` leaves: the state, DETAIL, and whether the step must halt. `out` is the path taken. -/
def Hw.stepBody (hw : Hw) (n : Nat) (out : Outcome) (o : BootObs) : Hw × Nat × Bool :=
  let main := decide (out = .main)
  match n with
  | 2 => if main then (hw.bootFuses o, 0, false) else (hw, 0, true)
  | 3 =>
    let bad := if main then 0
      else if out = .altFailed then maskOf (o.items.filter (fun u => decide (u < 2)))
      else (if hw.pantry.boot.watch % 4 = 0 then 2 else hw.pantry.boot.watch % 4)
    let hw := if out = .altFailed then hw.tellUnits bad else hw
    if bad = 3 ∨ (¬ main ∧ ¬ o.altOk) then ({ hw with pantry := { hw.pantry with boot := { hw.pantry.boot with watch := 3 } } }, 0, true)
    else (hw.bootWatch bad, b2n (tb bad 0), false)
  | 4 =>
    let sel := hw.fwSelected
    let hw : Hw := if out = .terminal then { hw with pantry := { hw.pantry with boot := { hw.pantry.boot with fw := putBit hw.pantry.boot.fw sel true } } } else hw
    if main then ({ hw with sec := { hw.sec with slot := sel } }, sel, false)
    else if o.altOk then ({ hw with sec := { hw.sec with slot := 1 - sel } }, 1 - sel, false)
    else (hw, 0xFF, true)
  | 5 => (hw.bootBias main (decide (out ≠ .terminal)) o.value, 0, false)
  | 6 => if main then (hw.bootClock, 0, false) else (hw, 0, true)
  | 7 =>
    let best := hw.pantry.map.dirSeq % 2
    if main then (hw.bootMount 0 o.value o.items, best, false)
    else if o.altOk then (hw.bootMount (if out = .altFailed then 2 ^ best else 0) o.value o.items, 1 - best, false)
    else ({ hw with pantry := { hw.pantry with boot := { hw.pantry.boot with dir := 3 } } }, 0, true)
  | 8 => (hw.bootLoad main o.fusesOk o.items, 0, false)
  | 9 =>
    let b := hw.pantry.boot
    let worn := (List.range 48).filter (fun t => decide (tileCountOf b.tileCount t = 3))
    let untested := if out = .altFirst then setBits 48 b.tileFail else worn
    let failed := if main ∨ out = .altFirst then [] else o.items.filter (fun t => decide (t < 48) && !untested.contains t)
    let all := (List.range 48).filter (fun t => failed.contains t || untested.contains t)
    (hw.bootTiles failed untested (decide (out ≠ .altFirst)), all.length * 256 + all.headD 0xFF, false)
  | 10 =>
    let want := hw.targetRate
    let rate := match out with
      | .main => want
      | .altFirst => min hw.pantry.boot.rate (min o.value want)
      | .terminal => 0
      | _ => min o.value want
    let up := if main then (List.range 4).filter (fun l => hw.laneOn l) else o.items
    let rate := if (List.range 4).any (fun l => hw.laneOn l && up.contains l) then rate else 0
    (hw.bootLanes up rate, rate, false)
  | 11 =>
    let hw : Hw := if hw.isSecondary ∧ hw.dev.startCause = 0 then { hw with cas := { hw.cas with myDelay := o.value } } else hw
    ({ hw with pantry := { hw.pantry with boot := { hw.pantry.boot with cascade := hw.admitted } } }, hw.admitted, false)
  | 12 => (if main then hw else hw.axesLeft, 0, false)
  | 13 => (hw.bootCams (if main then hw.pantry.cams.map (·.port) else if out = .terminal then [] else o.items), 0, false)
  | _ => (hw, 0, false)

/-- A path other than the main one taken to its end; S09 with every tile retired and S10 without a lane count as skipped. -/
def Hw.finish (hw : Hw) (out : Outcome) (o : BootObs) (attempts c : Nat) (alt : Bool) : Hw :=
  let n := hw.dev.step
  let (h, detail, halt) := hw.stepBody n out o
  let out := if halt then .halted
    else if n = 9 ∧ h.dev.noTiles ∧ out ≠ .main then .skipped
    else if n = 10 ∧ h.dev.noLanes ∧ out ≠ .main then .skipped
    else out
  h.endStep out attempts c alt detail

/-- The timeout of an attempt in ms (Table 3.10): S10's bring-up, then its step-up, S12's the longest of its axes, a secondary's S06 with
the wait for CAS_SYNC (R269; log entry 145). -/
def Hw.stepTimeout (hw : Hw) (bringUp : Bool) : Nat :=
  match hw.dev.step with
  | 2 => 5
  | 3 => 30
  | 4 => 250
  | 5 => 200
  | 6 => if hw.isSecondary ∧ hw.dev.attempt = 0 then 2010 else 10
  | 7 => 50
  | 8 => 100
  | 9 => 60
  | 10 => if bringUp then 300 else 1300
  | 11 => 1000
  | 12 => hw.pantry.axes.foldl (fun n b => max n (min 30000 (max 100 b.timeout))) 100
  | 13 => 200 * max 1 hw.pantry.cams.length
  | _ => 1

/-- Whether the timeout of the attempt has ended. -/
def Hw.stepLate (hw : Hw) (bringUp : Bool) : Bool := decide (hw.dev.stepAt + 800000 * hw.stepTimeout bringUp < hw.ticks)

/-- The next attempt of the step begins. -/
def Hw.tryAgain (hw : Hw) (tries : Nat) : Hw := { hw with dev := { hw.dev with attempt := tries, stopFails := 0, stepAt := hw.ticks } }

/-- Whether the attempt observed reached its main path's end: within its timeout, no STOP fault meanwhile (Table 3.5), every tile in S09, every enabled
lane in S10, every listed axis in RUN in S12. -/
def Hw.attemptOk (hw : Hw) (o : BootObs) (timedOut : Bool) : Bool :=
  o.ok && !timedOut && (decide (hw.dev.step = 1 ∨ hw.dev.step = 14) || !hw.stepLate false) && decide (hw.dev.stopFails = 0) &&
  (match hw.dev.step with
   | 2 => o.fusesOk
   | 9 => (List.range 48).all (fun t => decide (tileCountOf hw.pantry.boot.tileCount t ≠ 3)) && o.items.isEmpty
   | 12 => hw.axesHomed
   | _ => true)

/-- One attempt of the step running ends (BOOT_STEP_COMPLETE, BOOT_STEP_TIMEOUT). Bring-up in S10 has three attempts on every path; the
other slot of S04 and the other copy of S07 are attempts of their own (log entry 89). -/
def bootAttempt (o : BootObs) (timedOut : Bool) (hw : Hw) : Hw :=
  if hw.dev.mode ≠ .boot ∨ hw.dev.halted ∨ hw.held then hw
  else
    let n := hw.dev.step
    let b := hw.pantry.boot
    let c := b.count n
    let tries := hw.dev.attempt + 1
    let ok := hw.attemptOk o timedOut
    if n = 1 then
      if ok then
        let start := (b.start + 1) % 65536
        let hw : Hw := { hw with
          pantry := { hw.pantry with boot := { b with start := start } }
          on := { hw.on with restartSeenOpen := hw.on.restartSeenOpen || !hw.pins.restart } }
        hw.endStep .main tries 0 false 0
      else hw
    else if n = 14 then
      let hw := hw.bootDone o
      hw.endStep .main 1 0 false 0
    else if n = 10 ∧ (c = 3 ∨ tb b.altNext n) ∧ tries < 3 ∧ hw.lanesMissing o.items then hw.tryAgain tries
    else if ¬ stepAlways n ∧ c = 3 then hw.finish .terminal o (if stepAlternate n then tries else 0) 3 false
    else if stepAlternate n ∧ tb b.altNext n then hw.finish .altFirst o tries c false
    else if ok then hw.finish .main o tries 0 false
    else if tries < stepAttempts n ∧ (n ≠ 10 ∨ hw.lanesMissing o.items) then
      let hw := hw.tryAgain tries
      if n = 12 then hw.bootAxes else hw
    else
      let out : Outcome := if n = 2 ∨ n = 6 then .halted else if stepAlternate n then .altFailed else .skipped
      hw.finish out o (if n = 4 ∨ n = 7 then tries + 1 else tries) (min 3 (c + 1)) true

def bootComplete (o : BootObs) (hw : Hw) : Hw := bootAttempt o false hw
/-- BOOT_STEP_TIMEOUT: once the attempt's timeout has ended; S01 has none (Table 3.10). -/
def bootTimeout (o : BootObs) (hw : Hw) : Hw :=
  if hw.dev.step = 1 ∨ ¬ hw.stepLate (hw.lanesMissing o.items) then hw else bootAttempt o true hw

end Sys2Proof.Machine
end

