-- ==== Sys2Proof/Machine/Clear.lean ====
section
/-! DEFINITION. FAULT_CLEAR (R54, R75, R86, R97, R432, R446): whether the cause of a fault is still present, and what clearing
its flag does beside. -/

namespace Sys2Proof.Machine

/-- Any lane, input, port, axis, slice ... of `n` with a property. -/
def anyOf (n : Nat) (p : Nat → Bool) : Bool := (List.range n).any p

/-- A point or export lane of the placement in force is down with DEGRADE 0, or no point lane is up (R260). -/
def Hw.streamDown (hw : Hw) : Bool :=
  (!hw.degrade && (setBits 4 hw.streamMask).any (fun l => !hw.laneUp l)) ||
  (decide (hw.pointMask ≠ 0) && !(setBits 4 hw.pointMask).any (fun l => hw.laneUp l))

/-- Whether the cause of a fault is still present (R54; log entry 59). -/
def Hw.faultCause (hw : Hw) (f : FaultId) : Bool :=
  let n := f.code % 1024
  if f.src = srcDev then
    if n < 200 then decide (hw.dev.mode = .boot)
    else match n with
      | 201 => hw.dev.tooWarm
      | 202 => hw.dev.tooHot
      | 203 => hw.dev.noTiles
      | 204 => hw.dev.noLanes
      | _ => false
  else if f.src = srcWch then
    match n with
    | 1 => !hw.wch.standby.promotable
    | 2 => !hw.wch.standby.promotable
    | 3 => hw.wch.lost
    | 5 => decide (hw.wch.a.state = 6 ∨ hw.wch.b.state = 6)
    | _ => false
  else if f.src = srcBcn then
    match n with
    | 1 => decide (hw.reg 0x00020090 ≠ 0)
    | 10 => false
    | 27 => anyOf 16 (fun a => decide (3 ≤ (hw.driver a).silent))
    | _ => anyOf 7 (fun i => decide ((driverFault i).1.code = f.code) && anyOf 16 (fun a => tb (hw.driver a).faults i))
  else if f.src = srcLnt then
    match n with
    | 1 => !hw.lnt.capsValid && decide (hw.dev.mode ≠ .service)
    | 3 => decide (hw.lnt.blocked ≠ 0)
    | 4 => decide (hw.lnt.invalid ≠ 0)
    | 5 => hw.lnt.dead
    | _ => false
  else if f.src = srcSpd then
    match n with
    | 1 => !hw.spd.biasOn
    | 2 => !hw.hvInWindow hw.spd.hvMeas
    | 3 => hw.biasOk && anyOf 1153 (fun r => (hw.region r).enable && decide ((hw.region r).state = 3))
    | 4 => anyOf 1153 (fun r => match (hw.region r).offSince with | some t => decide (t + 800000000 < hw.ticks) | none => false)
    | 10 => decide (hw.spd.lampUnfit ≠ 0)
    | _ => false
  else if f.src = srcClk then
    match n with
    | 1 => !hw.clk.xtalOk
    | 2 => !hw.clk.refLock
    | 3 => !hw.clk.present
    | 4 => decide (3 < (hw.clk.rejTimes.filter (fun t => decide (hw.ticks < t + 48000000000))).length)
    | _ => false
  else if 0x10 ≤ f.src ∧ f.src < 0x40 then
    let t := hw.tile (f.src - 0x10)
    match n with
    | 10 => anyOf 16 (fun p => (t.chan p).retired)
    | 13 => t.retired
    | _ => false
  else if f.src = srcTnd then
    match n with
    | 1 => (match hw.tnd.active with | some p => decide (p.unplaced ≠ 0) | none => false)
    | 3 => hw.tnd.faultFrozen
    | _ => false
  else if f.src = srcOut then
    match n with
    | 3 => hw.out.arp.any (fun a => a.faulted)
    | 4 => hw.out.ptpLost.isSome
    | _ => false
  else if f.src = srcLnk then
    match n with
    | 1 => hw.streamDown
    | 2 => anyOf 4 (fun l => (hw.lane l).lost)
    | 4 => anyOf 8 (fun l => decide (16 < ((hw.lane l).retrains.filter (fun t => decide (hw.ticks < t + 48000000000))).length))
    | 6 => anyOf 8 (fun l => anyOf 8 (fun v => tb (hw.lane l).paused v && decide (mget 0 (hw.lane l).pausedAt v + 8000000 < hw.ticks)))
    | _ => false
  else if f.src = srcGlz 0 ∨ f.src = srcGlz 1 then
    match n with
    | 1 => decide ((hw.port (f.src - srcGlz 0)).state = .noSignal)
    | _ => false
  else if f.src = srcTid then
    match n with
    | 1 => anyOf 32 (fun i => match (hw.tin i).sample with | some s => s.clamp | none => false)
    | 2 => decide (hw.tid.impFail ≠ 0)
    | 4 => anyOf 3 (fun s => decide ((hw.slice s).state = 2))
    | 5 => decide (hw.usable < 2)
    | 6 => anyOf 4 (fun j => decide (2 ^ 30 ≤ mget 0 hw.tid.therm j))
    | _ => false
  else if f.src = srcSft then
    match n with
    | 2 => anyOf 32 (fun c => (hw.sftc c).stale)
    | 3 => anyOf 32 (fun c => (hw.sftc c).broken)
    | _ => false
  else if f.src = srcCal then decide (n = 11 ∧ hw.pantry.map.spares.length < 16)
  else if f.src = srcKpr 0 ∨ f.src = srcKpr 1 then hw.kprCause f
  else if f.src = srcBel then
    match n with
    | 1 => hw.bel.running && !hw.bel.connected
    | 4 => hw.bel.heldSince.isSome
    | _ => false
  else if f.src = srcSlt then decide (n = 2 ∧ hw.slt.marks ≠ 0)
  else if f.src = srcSec then decide (n = 2) && hw.pwLocked
  else if f.src = srcCas then
    match n with
    | 1 => anyOf 4 (fun i => (hw.secd i).excluded)
    | 2 => anyOf 4 (fun i => decide (0 < i) && (hw.secd i).admitted && decide ((hw.lane (3 + i)).state ≠ .active))
    | 3 => hw.cas.silent || !hw.cas.timeOk
    | 4 => anyOf 4 (fun i => (hw.secd i).absent)
    | 6 => anyOf 4 (fun i => decide (256 < (hw.secd i).drift.natAbs))
    | _ => false
  else false

/-- Whether FAULT_CLEAR may clear a raised fault: its cause has gone, and it is no SAFE fault (R54). -/
def Hw.clearable (hw : Hw) (f : FaultId) : Bool := decide (f.cls ≠ 4) && !hw.faultCause f

/-- What clearing a flag does beside: counts of a boot step, emitters, drivers, LEDs measured afresh (R75, R86, R97, R432). -/
def Hw.afterClear (hw : Hw) (f : FaultId) : Hw :=
  let n := f.code % 1024
  if f.src = srcDev ∧ 102 ≤ n ∧ n ≤ 114 then hw.clearBootCount (n - 100)
  else if f.src = srcBcn ∧ n = 10 then hw.emittersAfresh
  else if f.src = srcBcn ∧ 12 ≤ n then hw.driverCleared
  else if f.src = srcSlt ∧ n = 1 then hw.sltCleared
  else hw

/-- FAULT_CLEAR: the number of entries cleared; code 0xFFFF names every fault of the source. -/
def Hw.clearFaults (hw : Hw) (src code : Nat) : Hw × Nat :=
  let fs := (hw.evt.table.filter (fun x => x.raised && decide (x.id.src = src ∧ (code = 0xFFFF ∨ x.id.code = code)) && hw.clearable x.id)).map (·.id)
  (fs.foldl (fun h f => (h.clearFault f).afterClear f) hw, fs.length)

end Sys2Proof.Machine
end

