-- ==== Sys2Proof/Machine/Modes.lean ====
section
/-! DEFINITION. Changing mode (R57 to R64, Table 3.4): the preconditions, what each transition does, the scheduled transition and
the one a cascade announces. -/

namespace Sys2Proof.Machine

/-! ### Preconditions (R58, Table 3.4) -/

/-- The relayed axes of a cascade (CAS_CTL.AXES). -/
def Hw.relayed (hw : Hw) : Nat := bits (hw.reg 0x00A00000) 0 4

/-- 0x0005: every axis in use is in RUN and inside its following-error limits; on a secondary every one is relayed. -/
def Hw.axesReady (hw : Hw) : Bool :=
  if hw.isSecondary then hw.axesInUse.all (fun a => tb hw.relayed a)
  else hw.axesInUse.all (fun a =>
    let x := hw.axis a
    decide (x.state = .run ∧ x.inner.feRun = 0 ∧ x.outer.feRun = 0))

/-- 0x0006: the lanes or ports for the point stream are up. -/
def Hw.lanesReady (hw : Hw) : Bool :=
  match hw.tnd.nextPlan with
  | none => false
  | some p =>
    if hw.isSecondary then true
    else if hw.degrade then (setBits 4 (planPointLanes p)).any (fun l => hw.laneUp l)
    else (setBits 4 (planPointLanes p ||| planExportLanes p)).all (fun l => hw.laneUp l)

/-- Codes 0x0001 to 0x0005, the first that fails. -/
def Hw.preCommon (hw : Hw) : Option Nat :=
  if hw.tnd.nextPlan.isNone then some 0x0001
  else if hw.classRaised 3 then some 0x0002
  else if ¬ hw.biasOk then some 0x0003
  else if ¬ anyOf 48 (fun n => !(hw.tile n).retired) then some 0x0004
  else if ¬ hw.axesReady then some 0x0005
  else none

/-- The conditions for SCAN. -/
def Hw.preScan (hw : Hw) : Option Nat :=
  match hw.preCommon with
  | some c => some c
  | none => if hw.lanesReady then none else some 0x0006

/-- Whether Tender can place every cell of the guard maps on tiles in service (0x0013). -/
def Hw.guardPlaceable (hw : Hw) : Bool :=
  let rows := hw.guardRows
  let h : Hw := { hw with tnd := { hw.tnd with pinned := rows, pins := true } }
  match (h.computePlacement (decide (h.tnd.active = none))).2 with
  | some p => rows.all (fun k => p.tracks.any (fun e => decide (trackKey (e.2.row, e.2.strip) = k)))
  | none => rows.isEmpty

/-- Whether a map_crc is the guard CRC; in a cascade it covers the guard CRCs of every device, of which the others' are free (R378;
log entry 60). -/
def Hw.mapCrcOk (hw : Hw) (crc : Nat) : Hw × Bool :=
  let others := [1, 2, 3].filter (fun i => hw.serves i)
  if hw.isSecondary ∨ others.isEmpty then (hw, decide (crc = hw.guardCrc))
  else
    let (bytes, hw) := Hw.random others.length hw
    (hw, decide (crc = crc32c (le 4 hw.guardCrc ++ bytes)))

/-- The conditions of GUARD_ARM (`arming`) and GUARD_ENTER in the order of Table 3.4; `tokenOk` and `crcOk` are those of the command. -/
def Hw.preGuard (hw : Hw) (crcOk : Bool) (tokenOk : Bool) : Option Nat :=
  match hw.preCommon with
  | some c => some c
  | none =>
    if ¬ crcOk then some 0x0010
    else if ¬ tokenOk then some 0x0011
    else if hw.pins.readback % 16 ≠ 0 then some 0x0012
    else if ¬ hw.guardPlaceable then some 0x0013
    else if hw.kpr.carried then some 0x0014
    else none

/-- The three conditions of GUARD_ARM's own (R391). -/
def Hw.preArm (hw : Hw) (set : Nat) : Option Nat :=
  let plan := hw.tnd.nextPlan.getD []
  if ¬ hw.fselValid ∨ hw.pins.fselA ≠ set then some 0x0701
  else if ¬ hw.cellsFit plan then some 0x0706
  else if ¬ hw.staleFits plan then some 0x0707
  else none

/-! ### Transitions -/

/-- Every entry to CONFIG runs the emission path's tests and the indicators' (R95, R128, R431). -/
def Hw.enterConfig (hw : Hw) (cause : Nat) (pins lamp : Option Nat) : Hw :=
  let hw := (hw.toMode .config cause).calBoundary.configTests pins lamp
  { hw with slt := { hw.slt with testDue := true } }

/-- Entry to SCAN: the emitters are no longer inhibited, the first boundary becomes due (R57, R200). -/
def Hw.enterScan (hw : Hw) (cause : Nat) : Hw :=
  let hw := hw.toMode .scan cause
  ({ hw with bcn := { hw.bcn with inhibited := false } } : Hw).startFrames

/-- SCAN ends by a command or a schedule (R59). -/
def Hw.leaveScan (hw : Hw) (cause : Nat) (pins lamp : Option Nat) : Hw :=
  let hw := hw.inhibit.scanEnd.enterConfig cause pins lamp
  { hw with outbox := hw.outbox ++ [.modeLeft] }

/-- Entry to SERVICE: F.LNT.001 clears, the emitters fire on command (R104, Table 3.2). -/
def Hw.enterService (hw : Hw) : Hw :=
  let hw := capsFault (hw.toMode .service 0)
  let hw : Hw := { hw with bcn := { hw.bcn with inhibited := hw.classRaised 3 } }
  if hw.tnd.nextPlan.isSome then hw.startFrames else hw

/-- SERVICE ends (R61, R104, R116, R171): by MODE_SET with cause 0, by a session or access closed with cause 3. -/
def Hw.leaveService (hw : Hw) (cause : Nat) (pins lamp : Option Nat) : Hw :=
  let hw := (List.range 48).foldl (fun (h : Hw) n => h.setReg (tileReg n 0) (putBits (h.reg (tileReg n 0)) 8 6 0)) hw
  let hw : Hw := { hw with lnk := { hw.lnk with testOn := false, injEnd := 0 } }
  let hw := hw.setReg 0x00030000 (putBits (hw.reg 0x00030000) 8 1 0)
  let hw := capsFault (hw.inhibit.scanEnd.enterConfig cause pins lamp)
  { hw with outbox := hw.outbox ++ [.modeLeft] }

/-- An address in its place among rising ones. -/
def insertAddr (a : Nat) : List Nat → List Nat
  | [] => [a]
  | b :: r => if a ≤ b then a :: b :: r else b :: insertAddr a r

/-- The registers with an RWL field, in ascending address order (R60, R395). -/
def frozenRegs : List Nat :=
  (regTable.flatMap (fun l => l.flatMap (fun d =>
    if d.rwl = 0 then []
    else (List.range d.m).flatMap (fun j => (List.range d.n).map (fun i => d.base + j * d.mstride + i * d.stride))))).foldr insertAddr []

/-- What a register gives to the frozen configuration: its word; a window on tables gives the tables behind it in place of the words that its
selector shows: the region enables and dead-time classes and the hot-pixel mask in force (R115), DET's tables (R191), the direction table
(log entry 61). -/
def Hw.frozenWords (hw : Hw) (a : Nat) : List Nat :=
  let window := fun b => decide (b ≤ a ∧ a < b + 0x400)
  if window 0x00030400 then
    if a = 0x00030400 then
      (List.range 1153).map (fun r => b2n (hw.region r).enable * 2 ^ 31 + (hw.region r).dtClass * 2 ^ 29) ++
        (List.range 36864).map (fun i => mget 0 hw.spd.maskActive i)
    else []
  else if window 0x00500400 then
    if a = 0x00500400 then (List.range 6).flatMap (fun t => (List.range (detTabWords t)).map (fun i => hw.detTab t i)) else []
  else if window 0x00700400 then
    if a = 0x00700400 then (List.range 4096).map (fun i => mget 0 hw.elev i) else []
  else [hw.peek a]

/-- The CRC over the frozen configuration (R60, R395). -/
def Hw.frozenCrc (hw : Hw) : Nat := crc32c (frozenRegs.flatMap (fun a => (hw.frozenWords a).flatMap (le 4)))

/-- GUARD_ENTER (R60, R210). -/
def Hw.enterGuard (hw : Hw) : Hw :=
  let frozen := hw.frozenCrc
  let hw := hw.toMode .guard 0
  let hw : Hw := { hw with
    bcn := { hw.bcn with inhibited := false }
    tnd := { hw.tnd with pinned := hw.guardRows, pins := true, unpinDue := false } }
  ((hw.guardStart frozen).bellStart).startFrames

/-- GUARD_LEAVE: the outputs are off first; the pins go at the next boundary in CONFIG (R60). -/
def Hw.leaveGuard (hw : Hw) (pins lamp : Option Nat) : Hw :=
  let hw := (hw.guardEnd.bellEnd).inhibit.scanEnd
  let hw : Hw := { hw with tnd := { hw.tnd with unpinDue := true } }
  let hw := hw.enterConfig 5 pins lamp
  { hw with outbox := hw.outbox ++ [.modeLeft] }

/-- What a transition between CONFIG and another mode does at its tick. -/
def Hw.goMode (hw : Hw) (m : Mode) (cause : Nat) (pins lamp : Option Nat) : Hw :=
  match hw.dev.mode, m with
  | .config, .scan => hw.enterScan cause
  | .scan, .config => hw.leaveScan cause pins lamp
  | .config, .service => hw.enterService
  | .service, .config => hw.leaveService cause pins lamp
  | _, _ => hw

/-- A primary announces a transition of its cascade, 100 µs ahead (R275). -/
def Hw.announceMode (hw : Hw) (m : Mode) : Hw :=
  let t := hw.clk.time.toNat + 80000
  let hw := hw.casQueue 4 (m.code * 2 ^ 73 + t % 2 ^ 64 * 2 ^ 8)
  { hw with cas := { hw.cas with modeAt := some (m.code, t) } }

/-- Whether a transition of this device is a transition of a cascade. -/
def Hw.inCascade (hw : Hw) : Bool := !hw.isSecondary && [1, 2, 3].any (fun i => hw.serves i)

/-- CASCADE_MODE_TICK: at the announced tick every device changes mode; one that it cannot leave or enter stays, one where a STOP
fault was raised since stays in CONFIG (R57, R63, R275). -/
def cascadeModeTick (hw : Hw) : Hw :=
  match hw.cas.modeAt with
  | none => hw
  | some (c, t) =>
    if hw.clk.time.toNat < t then hw
    else
      let hw : Hw := { hw with cas := { hw.cas with modeAt := none } }
      if (c = 3 ∨ c = 4) ∧ hw.classRaised 3 then hw
      else match hw.dev.mode, Mode.ofCode c with
      | .config, some .guard => if hw.isIS then hw.enterGuard else hw
      | .guard, some .config => hw.leaveGuard none none
      | .config, some .dormant => hw.sleep (if hw.dev.wakeMask = 0 then 1 else hw.dev.wakeMask)
      | _, some m => hw.goMode m 0 none none
      | _, none => hw

/-- MODE_SET_AT_TICK: at the scheduled tick Table 3.4 is checked again; a failure raises a DEV event with its code and makes no
transition (R62; the code of the event itself is free, log entry 62). -/
def modeSetAtTick (hw : Hw) : Hw :=
  match hw.dev.sched with
  | none => hw
  | some (m, t) =>
    if hw.clk.time.toNat < t.toNat then hw
    else
      let hw : Hw := { hw with dev := { hw.dev with sched := none } }
      match hw.dev.mode, m with
      | .config, .scan =>
        match hw.preScan with
        | some c =>
          let (n, hw) := hw.draw
          hw.event srcDev (0xE000 + n % 0x2000) (le 2 c)
        | none => hw.enterScan 1
      | .scan, .config => hw.leaveScan 1 none none
      | _, _ => hw

end Sys2Proof.Machine
end

