-- ==== Sys2Proof/Machine/Session.lean ====
section
/-! DEFINITION. The command side of Watch (chapter 02): sessions, replies, event packets, the end of a stepped operation, and the
order of checks of R31 that every host command passes. -/

namespace Sys2Proof.Machine

/-! ### Answers (R38, Table 2.3) -/

/-- The answer of a command: a status with its payload, or a wait before the answer (R36). -/
structure Ans where
  status : Nat := 0
  data   : List Byte := []
  wait   : Option Wait := none
  deriving DecidableEq, Repr

def ansOk (data : List Byte) : Ans := { data := data }
def ansBusy : Ans := { status := 0x02 }
def Hw.ansMode (hw : Hw) : Ans := { status := 0x03, data := le 1 hw.dev.mode.code }
def ansDenied : Ans := { status := 0x04 }
def ansBad (off : Nat) : Ans := { status := 0x05, data := le 2 off }
def ansPre (code : Nat) : Ans := { status := 0x06, data := le 2 code }
def ansLocked (a : Nat) : Ans := { status := 0x0A, data := le 4 a }
def ansNotFitted : Ans := { status := 0x0B }

/-! ### Transports and sessions -/

def transports : List Transport := [.spi, .link, .eth]

def CmdSt.session (c : CmdSt) : Transport → Option Session
  | .spi => c.spi
  | .link => c.link
  | .eth => c.eth

def CmdSt.setSession (c : CmdSt) (t : Transport) (x : Option Session) : CmdSt :=
  match t with
  | .spi => { c with spi := x }
  | .link => { c with link := x }
  | .eth => { c with eth := x }

def CmdSt.out (c : CmdSt) : Transport → List Packet
  | .spi => c.outSpi
  | .link => c.outLink
  | .eth => c.outEth

def CmdSt.setOut (c : CmdSt) (t : Transport) (l : List Packet) : CmdSt :=
  match t with
  | .spi => { c with outSpi := l }
  | .link => { c with outLink := l }
  | .eth => { c with outEth := l }

/-- A packet put behind the pending outbound packets of a transport. -/
def CmdSt.push (c : CmdSt) (t : Transport) (p : Packet) : CmdSt := c.setOut t (c.out t ++ [p])

/-- The DATA_READY output: high while an outbound packet is pending on SPI, low in reset and in DORMANT (R28, R68). -/
def State.dataReady (s : State) : Bool :=
  !s.cmd.outSpi.isEmpty && !s.hw.dev.inReset && decide (s.hw.dev.mode ≠ .dormant)

/-- The largest payload of a transport (Table 2.1). -/
def payloadLimit : Transport → Nat
  | .eth => 1440
  | _ => 4096

/-- Whether packets reach the device on a transport now (Table 2.1, R40, R417). -/
def Hw.hears (hw : Hw) (t : Transport) : Bool :=
  !hw.held &&
  (match t with
   | .spi => true
   | _ =>
     let port := if hw.isSecondary then decide ((hw.lane 4).state = .active) else hw.cmdLane.isSome
     let kind := match t with | .eth => hw.isEth | _ => !hw.isEth
     port && kind && !hw.wch.lost && decide (hw.dev.mode ≠ .dormant) && (decide (hw.dev.mode ≠ .boot) || decide (10 ≤ hw.dev.step)))

/-! ### Events (R35, R44, R52) -/

/-- Events of the queue that are not of the reserved kinds: STOP, SAFE and STEP_DONE (R52). -/
def CmdSt.ordinary (c : CmdSt) (t : Transport) : Nat := ((c.out t).filter (fun p => !p.reply && !p.urgent)).length

/-- An event packet of a session, with the next event count (R35). -/
def CmdSt.sendEvent (c : CmdSt) (t : Transport) (x : Session) (index opcode : Nat) (payload : List Byte) (urgent : Bool) : CmdSt :=
  (c.setSession t (some { x with eventSeq := (x.eventSeq + 1) % 65536 })).push t
    { opcode := opcode, source := 0x10 + index, seq := x.eventSeq, reply := false, payload := payload, urgent := urgent, peer := x.peer }

/-- Whether a record is a fault record, and of which class (R53). -/
def Record.isFault (r : Record) : Bool := decide (r.code < 0xA000)
def Record.cls (r : Record) : Nat := r.code / 0x2000

/-- Whether a session receives a record (R52). -/
def Session.wants (x : Session) (r : Record) : Bool :=
  match x.sources with
  | none => r.isFault && decide (1 ≤ r.cls)
  | some m => tb m r.src && (!r.isFault || decide (x.minClass ≤ r.cls))

/-- A record reaches the queue of the session of a transport, or is discarded there and counted (R52). -/
def CmdSt.deliver (index : Nat) (r : Record) (c : CmdSt) (t : Transport) : CmdSt :=
  match c.session t with
  | none => c
  | some x =>
    let urgent := r.isFault && decide (3 ≤ r.cls)
    if ¬ x.wants r then c
    else if ¬ urgent ∧ 224 ≤ c.ordinary t then
      c.setSession t (some { x with lost := mupd 0 x.lost r.src (fun n => min 0xFFFF (n + 1)), lostMark := putBit x.lostMark r.src true })
    else
      c.sendEvent t { x with lostMark := putBit x.lostMark r.src false } index (if r.isFault then 0xE1 else 0xE0)
        (pad4 ({ r with lost := r.lost || tb x.lostMark r.src } : Record).bytes) urgent

/-- Whether a transport carries what a primary has checked and passed on: the lane of a secondary (R37; log entry 138). -/
def Hw.relays (hw : Hw) (t : Transport) : Bool := hw.isSecondary && decide (t = .link)

/-- An event packet of a secondary goes to its primary, which assigns the session's count as it sends it on (R35); the packets that wait
for the lane are bounded as a session's queue is. -/
def CmdSt.relayEvent (c : CmdSt) (index opcode : Nat) (payload : List Byte) (urgent : Bool) : CmdSt :=
  if ¬ urgent ∧ 224 ≤ c.ordinary .link then c
  else c.push .link { opcode := opcode, source := 0x10 + index, reply := false, payload := payload, urgent := urgent }

/-- A record on its way out: to each session that wants it; from a secondary to its primary, where no session of its own names it. -/
def CmdSt.deliverAll (c : CmdSt) (index : Nat) (r : Record) (relay : Bool) : CmdSt :=
  let c := transports.foldl (CmdSt.deliver index r) c
  if relay ∧ c.link.isNone then c.relayEvent index (if r.isFault then 0xE1 else 0xE0) (pad4 r.bytes) (r.isFault && decide (3 ≤ r.cls)) else c

/-! ### Stepped operations (R44 to R48) -/

/-- An operation that has not ended. -/
def StepOp.live (o : StepOp) : Bool := o.doneAt.isNone
/-- The stepped operations outstanding, of which there are at most 4: an automatic run is none of them, since it never makes a host
command return BUSY (R45, R366). -/
def CmdSt.liveOps (c : CmdSt) : Nat := (c.ops.filter (fun o => o.live && o.owner.isSome)).length

/-- Whether an operation holds one of the listed blocks; source 0xFF stands for any block at all (R45, R63). -/
def StepOp.clashes (o : StepOp) (srcs : List Nat) : Bool :=
  o.live && !srcs.isEmpty && (o.holdAll || (srcs.contains 0xFF && !o.holds.isEmpty) || o.holds.any (fun b => srcs.contains b))
def CmdSt.held (c : CmdSt) (srcs : List Nat) : Bool := c.ops.any (fun o => o.clashes srcs)

def CmdSt.op (c : CmdSt) (tok : Nat) : Option StepOp := c.ops.find? (fun o => decide (o.token = tok))
def CmdSt.updOp (c : CmdSt) (tok : Nat) (f : StepOp → StepOp) : CmdSt :=
  { c with ops := c.ops.map (fun o => if o.token = tok then f o else o) }

/-- The session that started an operation, while it is open (R34, R48). -/
def CmdSt.ownerOf (c : CmdSt) (o : StepOp) : Option (Transport × Session) :=
  match o.owner with
  | none => none
  | some (t, n) =>
    match c.session t with
    | some x => if x.number = n then some (t, x) else none
    | none => none

/-- The STEP_DONE entry of the event log, with EVT_CTL.LOG_STEP set (R447); its code and sequence are free (log entry 63). -/
def Hw.logStep (hw : Hw) (payload : List Byte) : Hw :=
  if tb (hw.reg 0x00910000) 8 then
    let (c, hw) := hw.draw
    let (q, hw) := hw.draw
    { hw with evt := logRecord { src := srcCmd, seq := q % 2 ^ 24, time := hw.clk.time, code := c % 2 ^ 16, payload := payload } hw.evt }
  else hw

/-- An operation ends: STEP_DONE to its session, the result kept for STEP_FETCH (R44, R48). The bytes of a STEP_DONE payload are those of
Table 2.17 in order, the result behind them at once; no header of Table 2.18 stands before them (log entry 139). -/
def State.finishOp (s : State) (tok status : Nat) (result : List Byte) : State :=
  match s.cmd.op tok with
  | none => s
  | some o =>
    let head := le 4 tok ++ le 1 status ++ le 4 result.length
    let payload := if result.length ≤ 48 then head ++ pad4 result else head
    let own := s.cmd.ownerOf o
    let away := s.hw.relays .link && decide (o.owner = some (.link, 0))
    let c := s.cmd.updOp tok (fun o =>
      { o with state := 3, status := status, result := result, doneAt := some s.hw.ticks, released := own.isNone && !away, ending := none })
    let c := match own with
      | some (t, x) => c.sendEvent t x s.hw.cas.index 0xE3 payload true
      | none => if away then c.relayEvent s.hw.cas.index 0xE3 payload true else c
    { s with cmd := c, hw := if o.owner.isSome then s.hw.logStep payload else s.hw }

/-- An ending of R46: at the next step boundary, at once for an upload that awaits chunks, which has no steps. -/
def State.endOp (s : State) (tok status : Nat) (result : List Byte) : State :=
  match s.cmd.op tok with
  | none => s
  | some o =>
    if ¬ o.live then s
    else if o.state = 0 then s.finishOp tok status result
    else { s with cmd := s.cmd.updOp tok (fun o => if o.ending.isNone then { o with state := 2, ending := some (status, result) } else o) }

/-- The modes that permit a stepped opcode (Tables 2.5 to 2.15). -/
def stepModes (opcode : Nat) : List Mode :=
  match opcode with
  | 0x14 => [.config, .service]
  | 0x30 => [.config, .scan]
  | 0x34 => [.config, .scan, .guard, .service]
  | 0x44 => [.config]
  | 0x46 => [.config, .scan, .guard, .service]
  | 0x56 => [.config, .scan]
  | 0x60 => [.config, .scan, .guard, .service]
  | 0x62 => [.config, .scan, .guard, .service]
  | 0x70 => [.config]
  | 0x84 => [.config]
  | 0x85 => [.service]
  | 0x94 => [.config]
  | 0xA5 => [.config, .scan, .guard, .service]
  | 0xB3 => [.config]
  | _ => [.config, .scan, .guard, .service]

/-- The modes that allow a built-in self-test (Table 22.5). -/
def bistModes (test : Nat) : List Mode :=
  match test with
  | 0 => [.config, .scan, .service]
  | 1 => [.config, .service]
  | 2 => [.config]
  | 5 => [.config, .service]
  | _ => [.config, .scan, .guard, .service]

/-- Whether the present mode still permits an operation; a CAL_RUN by the forms of its quantities, a BIST_RUN by the tests left
(R46, R61, R357, R448). -/
def Hw.permits (hw : Hw) (o : StepOp) : Bool :=
  (stepModes o.opcode).contains hw.dev.mode && (o.opcode ≠ 0x60 || hw.calAllowed (o.params.headD 0)) &&
    (o.opcode ≠ 0xA5 || o.params.all (fun t => (bistModes t).contains hw.dev.mode))

/-- ADMIN held under ADMIN_OPEN is lost when SERVICE access closes (R458). -/
def Session.dropAdmin (ok : Bool) (x : Session) : Session := if x.role = 2 ∧ ¬ ok then { x with role := 1 } else x
def State.dropAdmin (s : State) : State :=
  let f := fun (o : Option Session) => o.map (Session.dropAdmin s.hw.adminOpenOk)
  { s with cmd := { s.cmd with spi := f s.cmd.spi, link := f s.cmd.link, eth := f s.cmd.eth } }

/-- The packet that hands a command to a secondary; `i` is the device (R37). -/
def Hw.handOver (hw : Hw) (i : Nat) (p : CasPacket) : Hw :=
  { hw with out := { hw.out with fwd := mset [] hw.out.fwd (3 + i) (mget [] hw.out.fwd (3 + i) ++ [(i, p)]) } }

/-- The operations that secondaries run for a session abort: each is sent STEP_ABORT (R34, R37). -/
def Hw.abortRemote (hw : Hw) (x : Session) : Hw :=
  x.remote.foldl (fun (hw : Hw) e =>
    hw.handOver e.1 { kind := 0, opcode := 0xC1, tag := 0, seq := 0, status := 0, bytes := le 4 e.2, role := 1, subaddr := BitVec.ofNat 8 e.1 }) hw

/-- A session closes (R34, R61, R461): its operations abort at their next step boundaries, its results go, the scopes it opened close,
SERVICE ends. Its commands that wait and its event packets go without an answer, the spec being silent on both (log entry 140). -/
def State.closeSession (s : State) (t : Transport) : State :=
  match s.cmd.session t with
  | none => s
  | some x =>
    let c := (s.cmd.setSession t none).setOut t ((s.cmd.out t).filter (fun p => p.reply))
    let mine := c.ops.filter (fun o => decide (o.owner = some (t, x.number)))
    let c := { c with ops := c.ops.map (fun o => if o.owner = some (t, x.number) ∧ ¬ o.live then { o with released := true } else o) }
    let s := mine.foldl (fun (s : State) o => s.endOp o.token 0x02 []) { s with cmd := c }
    let hw := (s.hw.abortRemote x).closeScopes x.number
    let hw := if hw.dev.mode = .service ∧ (x.role = 3 ∨ ¬ hw.serviceOpen) then hw.leaveService 3 none none else hw
    ({ s with hw := hw } : State).dropAdmin

/-! ### What the hardware hands to Watch -/

/-- The operations that a change of mode ends (R46, R366). -/
def State.endNotAllowed (s : State) : State :=
  s.cmd.ops.foldl (fun (s : State) o =>
    if o.live ∧ (o.owner.isNone ∨ ¬ s.hw.permits o) then s.endOp o.token 0x03 (le 1 s.hw.dev.mode.code) else s) s

/-- An automatic calibration yields at its next step boundary (R366). -/
def State.endAuto (s : State) : State :=
  s.cmd.ops.foldl (fun (s : State) o => if o.live ∧ o.owner.isNone then s.endOp o.token 0x02 [] else s) s

/-- Whether a record tells that a STOP fault was raised (R53). -/
def Record.isStop (r : Record) : Bool := r.isFault && decide (r.cls = 3) && decide (r.payload[2]? = some 1)

def State.signal (s : State) : Signal → State
  | .record r =>
    let s : State := { s with cmd := s.cmd.deliverAll s.hw.cas.index r s.hw.isSecondary }
    if r.isStop then s.endAuto else s
  | .modeLeft => s.endNotAllowed
  | .stopInTransition =>
    s.cmd.ops.foldl (fun (s : State) o => if o.live ∧ o.holdAll then s.endOp o.token 0x06 (le 2 2) else s) s
  | .transportDown t => s.closeSession t
  | .laneBack since =>
    { s with cmd := { s.cmd with link := s.cmd.link.map (fun x => { x with lastSeen := x.lastSeen + (s.hw.ticks - max since x.lastSeen) }) } }
  | .deviceReset => { s with cmd := {}, mirror := {} }

/-- Every signal of the step delivered; those that a delivery raises after it. -/
def drainGo : Nat → State → State
  | 0, s => { s with hw := { s.hw with outbox := [] } }
  | n + 1, s =>
    let l := s.hw.outbox
    drainGo n (l.foldl State.signal { s with hw := { s.hw with outbox := [] } })
def State.drain (s : State) : State := drainGo 3 s

/-- A step of the hardware, its signals delivered. -/
def State.hwStep (s : State) (f : Hw → Hw) : State := ({ s with hw := f s.hw } : State).drain

/-- A step of hardware whose island starts with boot step `n`: nothing happens while the island is stopped (R56). -/
def State.clocked (s : State) (n : Nat) (f : Hw → Hw) : State := if s.hw.awake n then s.hwStep f else s

/-- A step of the Keepers or of Bell, which AG7680-IX and AG7680-AX leave stopped (R2, R56). -/
def State.keepers (s : State) (n : Nat) (f : Hw → Hw) : State := if s.hw.isIS then s.clocked n f else s

/-! ### The checks of R31 -/

/-- What a row of Tables 2.4 to 2.16 fixes: the opcode, its lowest role (0 none, 1 U, 2 A, 3 S), its modes; the blocks it writes
(by source ID, 0xFF all), whether it starts a stepped operation, whether it acts on the whole cascade (Table 12.3), whether its
meaning itself sees to the other devices, and whether what it asks for is fused off. -/
structure Spec where
  op      : Nat
  role    : Nat := 1
  modes   : List Mode := [.config, .scan, .guard, .service]
  writes  : List Nat := []
  stepped : Bool := false
  wide    : Bool := false
  alone   : Bool := false
  fused   : Bool := false

/-- Who sends a command: its transport, session number (0 without a session), the role of the packet. -/
structure Caller where
  tr      : Transport
  session : Nat
  role    : Nat
  seq     : Nat
  deriving DecidableEq, Repr

def callerOf (h : Hdr) (c : CmdSt) : Caller :=
  { tr := h.tr, session := ((c.session h.tr).map (·.number)).getD 0, role := h.role.toNat, seq := h.seq.toNat }

/-- Opcodes that need no session (R32), opcodes served in DORMANT and in BOOT (R40). -/
def noSession (op : Nat) : Bool := [0x00, 0x01, 0x03, 0x04, 0xB0, 0xB1, 0xB2].contains op
def dormantOp (op : Nat) : Bool := [0x00, 0x03, 0x04].contains op
def bootOp (op : Nat) : Bool := [0x00, 0x01, 0x03, 0x04].contains op

/-- Opcodes of the protective function (R42). -/
def safetyOp (op : Nat) : Bool := decide (op = 0x22 ∨ op = 0x23 ∨ (0x70 ≤ op ∧ op < 0x80))

/-- Whether the protective function is known to be fused off (R2, R42). -/
def Hw.noSafety (hw : Hw) : Bool := !hw.isIS && hw.dev.codeRead.isSome

/-- Step 3 of R31: the offset of the first offending byte of the header. SOURCE and STATUS, and the FLAGS REPLY and EVENT, are not judged:
the spec states no value that a command may not carry there (log entry 137). -/
def Hw.badHeader (hw : Hw) (h : Hdr) (wide seqBad : Bool) : Option Nat :=
  let i := h.subaddr.toNat
  let there := decide (i < 4) && (decide (i = hw.cas.index) || hw.serves i)
  if h.version ≠ 1 then some 2
  else if h.opcode.isSome then some 3
  else if seqBad then some 10
  else if 4 ≤ h.flags.toNat then some 12
  else if ¬ there ∨ (wide ∧ hw.inCascade ∧ i ≠ 0) then some 14
  else if h.reserved ≠ 0 then some 15
  else h.padBad

/-- The checks of steps 5 and 6 of R31, and what DORMANT, BOOT and a lost Watch refuse (R32, R33, R40): the primary makes them for every
device. Without a session the answer is DENIED, in DORMANT and BOOT too: step 6 comes before step 7 (log entry 141). -/
def State.gate (s : State) (sp : Spec) (c : Caller) : Option Ans :=
  let hw := s.hw
  let halted := decide (sp.op = 0x06 ∧ hw.dev.mode = .boot ∧ hw.dev.halted)
  let asleep := decide (hw.dev.mode = .dormant) || hw.wch.lost
  if hw.noSafety ∧ (sp.fused ∨ safetyOp sp.op) then some ansNotFitted
  else if (match s.cmd.session c.tr with
      | none => if hw.relays c.tr then decide (c.role < sp.role) else !noSession sp.op
      | some x => decide (sp.op ≠ 0x01) && decide (x.role < c.role ∨ c.role < (if halted then 1 else sp.role))) then some ansDenied
  else if asleep ∧ ¬ (c.tr = .spi ∧ dormantOp sp.op) then some hw.ansMode
  else if ¬ asleep ∧ hw.dev.mode = .boot ∧ ¬ bootOp sp.op ∧ ¬ halted then some ansBusy
  else none

/-- Steps 5 to 7 and the resource check of step 9 (R31, R39 to R42, R45): the refusal, if any. -/
def State.judge (s : State) (sp : Spec) (c : Caller) : Option Ans :=
  match s.gate sp c with
  | some a => some a
  | none =>
    let awake := decide (s.hw.dev.mode ≠ .dormant) && !s.hw.wch.lost && decide (s.hw.dev.mode ≠ .boot)
    if awake ∧ ¬ sp.modes.contains s.hw.dev.mode then some s.hw.ansMode
    else if s.cmd.held sp.writes then some ansBusy
    else if sp.stepped ∧ 4 ≤ s.cmd.liveOps then some ansBusy
    else none

/-- The reply packet of a command (Table 2.2, R35). -/
def Hw.replyTo (hw : Hw) (op : Nat) (h : Hdr) (a : Ans) : Packet :=
  { opcode := (h.opcode.map (·.toNat)).getD op, tag := h.tag.toNat, source := 0x10 + hw.cas.index, role := h.role.toNat, seq := h.seq.toNat, status := a.status
    subaddr := h.subaddr.toNat % 4, payload := a.data, peer := h.peer }

/-- A reply sent and kept in the session's cache (R26, R35). -/
def cacheReply (p : Packet) (x : Session) : Session :=
  { x with accepted := x.accepted.map (fun e => if e.seq = p.seq ∧ e.tag = p.tag ∧ e.reply.isNone then { e with reply := some p } else e) }
def CmdSt.answer (c : CmdSt) (t : Transport) (p : Packet) : CmdSt :=
  ((c.session t).elim c (fun x => c.setSession t (some (cacheReply p x)))).push t p

/-- Commands accepted and not yet answered: the one that waits, the one that is taken up again, those behind them, those with a secondary
(R36, R37). -/
def Session.outstanding (x : Session) : Nat := b2n x.wait.isSome + b2n x.resume.isSome + x.held.length + x.away.length

/-- The other devices' part in a command on the whole cascade (R277; log entry 64): a copy goes to each admitted secondary, whose status
is free; the reply is the status of the lowest-numbered device that failed, with the payload that Table 2.3 gives it (`failData`, its
numbers the secondary's and so free), and a CAS event gives each device's status. -/
def failData (status n : Nat) : List Byte :=
  match status with
  | 0x03 => le 1 (n % 6)
  | 0x05 => le 2 n
  | 0x06 => le 2 n
  | 0x0A => le 4 n
  | _ => []
def Hw.secondaries (hw : Hw) : List Nat := [1, 2, 3].filter (fun i => hw.serves i)

/-- The parameters of a copy: EXPORT_SELECT gives each secondary the accepted channels of its own (R228), any other opcode what the host
sent. -/
def Hw.copyParams (hw : Hw) (op i : Nat) (params : List Byte) : List Byte :=
  if op = 0x81 then
    let own := (hw.out.list.filter (fun e => e.2 && decide (e.1 / 768 = i))).map (·.1)
    le 2 own.length ++ own.flatMap (le 2)
  else params
def Hw.copyCommand (hw : Hw) (op : Nat) (h : Hdr) (params : List Byte) : Hw :=
  hw.secondaries.foldl (fun (hw : Hw) i => hw.handOver i
    { kind := 0, opcode := BitVec.ofNat 8 op, tag := h.tag, seq := h.seq, status := 0, bytes := hw.copyParams op i params, role := h.role }) hw
def State.casJoin (s : State) (op : Nat) (h : Hdr) (params : List Byte) (a : Ans) : State × Ans :=
  if ¬ s.hw.inCascade then (s, a)
  else
    let hw := s.hw.copyCommand op h params
    if a.status = 1 then ({ s with hw := hw }, a)
    else
      let (bytes, hw) := Hw.random hw.secondaries.length hw
      let sts := a.status :: (bytes.take hw.secondaries.length).map (fun b => if b.toNat % 12 = 1 then 0 else b.toNat % 12)
      match sts.find? (fun x => decide (x ≠ 0)) with
      | none => ({ s with hw := hw }, a)
      | some st =>
        let (code, hw) := hw.draw
        let hw := hw.event srcCas (0xE000 + code % 0x2000) (sts.flatMap (le 1))
        let (n, hw) := hw.draw
        (({ s with hw := hw } : State).drain, if a.status = 0 then { status := st, data := failData st n } else a)

/-! ### Serving a command (R31, R34 to R36) -/

/-- The session of a transport replaced. -/
def State.putSession (s : State) (t : Transport) (x : Option Session) : State := { s with cmd := s.cmd.setSession t x }

/-- A reply goes out, and stands in the session's cache (R26, R35). -/
def State.reply (s : State) (h : Hdr) (op : Nat) (a : Ans) : State := { s with cmd := s.cmd.answer h.tr (s.hw.replyTo op h a) }

/-- A packet from the host restarts the heartbeat period (R34). -/
def Session.heard (x : Session) (now : Nat) : Session := { x with lastSeen := now }

/-- The sequence check passed: the count advances, the command is one of the last 8 accepted (R35). -/
def Session.accept (x : Session) (h : Hdr) : Session :=
  { x with
    lastSeq := h.seq.toNat
    accepted := (x.accepted ++ [({ seq := h.seq.toNat, tag := h.tag.toNat } : Cached)]).drop (x.accepted.length + 1 - 8) }

/-- A command is entered in the standby's journal (R413). -/
def State.journal (s : State) : State := { s with hw := { s.hw with wch := { s.hw.wch with journal := s.hw.wch.journal + 1 } } }

/-- What acceptance changes. -/
def State.took (s : State) (h : Hdr) (x : Session) : State := (s.putSession h.tr (some ((x.heard s.hw.ticks).accept h))).journal

/-- A packet larger than its transport's limit is discarded and counted (step 1 of R31). -/
def State.discard (s : State) : State := { s with cmd := { s.cmd with discarded := satAdd 0xFFFF s.cmd.discarded 1 } }

/-- The cached reply of a retransmission goes out again; without one the copy is dropped (R35). -/
def State.resend (s : State) (t : Transport) (e : Cached) : State :=
  match e.reply with
  | some p => { s with cmd := s.cmd.push t p }
  | none => s

/-- A command whose answer has to wait (R36, R460). -/
def State.await (s : State) (t : Transport) (w : Wait) (p : Packet) : State :=
  match s.cmd.session t with
  | some x => s.putSession t (some { x with wait := some (w, p) })
  | none =>
    match w with
    | .denied due => { s with cmd := { s.cmd with late := s.cmd.late ++ [(due, t, p)] } }
    | _ => { s with cmd := s.cmd.push t p }

/-- The meaning of a command that steps 5 to 9 let through, with the other devices' part in one on the whole cascade. -/
def State.perform (s : State) (h : Hdr) (sp : Spec) (params : List Byte) (body : Caller → State → State × Ans) : State × Ans :=
  match s.judge sp (callerOf h s.cmd) with
  | some a => (s, a)
  | none =>
    let r := body (callerOf h s.cmd) s
    if sp.wide ∧ ¬ sp.alone then r.1.casJoin sp.op h params r.2 else r

/-- A command that its session's order lets through: judged, served, its signals delivered, answered (R31). -/
def State.run (s : State) (h : Hdr) (sp : Spec) (params : List Byte) (body : Caller → State → State × Ans) : State :=
  let r := s.perform h sp params body
  match r.2.wait with
  | some w => r.1.drain.await h.tr w (r.1.drain.hw.replyTo sp.op h r.2)
  | none => r.1.drain.reply h sp.op r.2

/-- A command for a secondary goes on over its lane, outstanding until that device's reply comes back (R36, R37, R278). -/
def State.forward (s : State) (h : Hdr) (op : Nat) (params : List Byte) : State :=
  let i := h.subaddr.toNat
  let p : CasPacket :=
    { kind := 0, opcode := BitVec.ofNat 8 op, tag := h.tag, seq := h.seq, status := 0, bytes := params, role := h.role, subaddr := h.subaddr }
  let e : Away := { dev := i, op := op, tag := h.tag.toNat, seq := h.seq.toNat, role := h.role.toNat, peer := h.peer }
  let s : State := { s with hw := s.hw.handOver i p }
  match (if op = 0x01 then none else s.cmd.session h.tr) with
  | some x => s.putSession h.tr (some { x with away := x.away ++ [e] })
  | none => { s with cmd := { s.cmd with strays := s.cmd.strays ++ [(h.tr, e)] } }

/-- A command that its session's order lets through runs on the device that SUBADDR names: here, or, once the session and the role are
judged, on a secondary whose lane is ACTIVE (R37, R277, R279). -/
def State.start (s : State) (h : Hdr) (sp : Spec) (params : List Byte) (body : Caller → State → State × Ans) : State :=
  if h.subaddr.toNat = s.hw.cas.index then s.run h sp params body
  else
    match s.gate sp (callerOf h s.cmd) with
    | some a => s.reply h sp.op a
    | none => if (s.hw.lane (3 + h.subaddr.toNat)).state = .active then s.forward h sp.op params else s.reply h sp.op ansBusy

/-- Steps 3 and 4 of R31 passed or not, then the command itself or its place in the queue of its session (R36). -/
def State.intake (s : State) (i : Instr) (h : Hdr) (sp : Spec) (params : List Byte) (seqBad : Bool)
    (body : Caller → State → State × Ans) : State :=
  match s.hw.badHeader h sp.wide seqBad with
  | some off => s.reply h sp.op (ansBad off)
  | none =>
    match s.cmd.session h.tr with
    | none => s.start h sp params body
    | some x =>
      if sp.op = 0x01 then s.start h sp params body
      else if 8 ≤ x.outstanding then s.reply h sp.op ansBusy
      else if x.wait.isSome ∨ ¬ x.held.isEmpty then s.putSession h.tr (some { x with held := x.held ++ [i] })
      else s.start h sp params body

/-- A command packet arrives (R31, R34, R35): its size, its session's sequence, retransmissions, which a secondary leaves to its primary; a
command that was held behind a wait comes with `resume` set and has passed these already. -/
def State.serve (s : State) (i : Instr) (h : Hdr) (sp : Spec) (params : List Byte) (body : Caller → State → State × Ans) : State :=
  if ¬ s.hw.hears h.tr then s
  else if payloadLimit h.tr < params.length then s.discard
  else
    match s.cmd.session h.tr with
    | none => s.intake i h sp params false body
    | some x =>
      if x.resume = some h.seq.toNat then (s.putSession h.tr (some { x with resume := none })).start h sp params body
      else
        let t := s.putSession h.tr (some (x.heard s.hw.ticks))
        if sp.op = 0x01 then t.intake i h sp params false body
        else
          match x.accepted.find? (fun e => !s.hw.relays h.tr && decide (e.seq = h.seq.toNat ∧ e.tag = h.tag.toNat)) with
          | some e => t.resend h.tr e
          | none =>
            if h.seq.toNat = (x.lastSeq + 1) % 65536 ∨ s.hw.relays h.tr then (s.took h x).intake i h sp params false body
            else t.intake i h sp params true body

end Sys2Proof.Machine
end

