-- ==== Sys2Proof/Machine/Steps.lean ====
section
/-! DEFINITION. Stepped operations as Watch keeps them (R44 to R48): how one begins, the chunks of an upload, the step control
opcodes (Table 2.16), the event packets and timeouts that belong to them. -/

namespace Sys2Proof.Machine

/-- What a command's meaning answers: every command of this block ends in a next state but those listed under Fault. -/
abbrev Out := Host.Outcome State Fault Refusal

/-! ### Beginning -/

/-- The first number from `n` on, modulo 2³², that is neither 0 nor used; `used.length + 1` tries find one. -/
def freshGo : Nat → Nat → List Nat → Nat
  | 0, n, _ => n
  | f + 1, n, used => if n = 0 ∨ used.contains n then freshGo f ((n + 1) % 2 ^ 32) used else n

/-- A token: nonzero and issued only once (R44), otherwise free. -/
def freshToken (n : Nat) (used : List Nat) : Nat := freshGo (used.length + 1) (n % 2 ^ 32) used

/-- The part of an operation that its opcode fixes; token, owner and progress come as it begins. -/
def stepOp (opcode : Nat) (holds : List Nat) (params : List Nat) : StepOp :=
  { token := 0, opcode := opcode, owner := none, holds := holds, params := params }

/-- A stepped operation begins (R44); its number of steps is the device's own (log entry 65). -/
def State.begin (s : State) (c : Caller) (o : StepOp) : State × Ans :=
  let (n, hw) := s.hw.draw
  let (steps, hw) := hw.draw
  let tok := freshToken n s.cmd.issued
  let o := { o with token := tok, owner := some (c.tr, c.session), steps := steps % 65536, chunkAt := hw.ticks }
  ({ s with
      hw := hw
      cmd := { s.cmd with issued := tok :: s.cmd.issued, ops := s.cmd.ops.filter (fun o => !o.released) ++ [o] } },
    { status := 0x01, data := le 4 tok })

/-! ### Chunked uploads (R47) -/

/-- The index of the first place where two lists differ. -/
def firstDiff : List Nat → List Nat → Option Nat
  | [], [] => none
  | [], _ :: _ => some 0
  | _ :: _, [] => some 0
  | a :: r, b :: q => if a = b then (firstDiff r q).map (· + 1) else some 0

/-- The offset of the first offending byte of a later chunk. -/
def StepOp.badChunk (o : StepOp) (ck : Chunk) (own data : List Byte) : Option Nat :=
  if ck.offset.toNat ≠ o.bytes.length then some 20
  else if ck.total.toNat ≠ o.total ∨ o.total < ck.offset.toNat + data.length then some 24
  else (firstDiff (own.map (·.toNat)) o.params).map (· + 28)

/-- A chunk of an upload whose opcode holds `holds` and carries its own parameters `own`; `bad` is what the first chunk's parameters
are answered with when they are refused. -/
def State.upload (s : State) (c : Caller) (opcode : Nat) (holds : List Nat) (ck : Chunk) (own data : List Byte) (bad : Option Ans) :
    State × Ans :=
  let tok := ck.token.toNat
  if tok = 0 then
    if s.cmd.held holds ∨ 4 ≤ s.cmd.liveOps then (s, ansBusy)
    else if ck.offset ≠ 0 then (s, ansBad 20)
    else if ck.total.toNat < data.length then (s, ansBad 24)
    else
      match bad with
      | some a => (s, a)
      | none =>
        s.begin c { stepOp opcode holds (own.map (·.toNat)) with
          state := if data.length = ck.total.toNat then 1 else 0, bytes := data, total := ck.total.toNat }
  else
    match s.cmd.op tok with
    | none => (s, ansBad 16)
    | some o =>
      if o.live ∧ o.state = 0 ∧ o.opcode = opcode ∧ o.owner = some (c.tr, c.session) then
        match o.badChunk ck own data with
        | some k => (s.finishOp tok 0x05 (le 2 k), ansBad k)
        | none =>
          let all := o.bytes ++ data
          ({ s with cmd := s.cmd.updOp tok (fun o => { o with
              bytes := all, chunkAt := s.hw.ticks, state := if all.length = o.total then 1 else 0 }) }, ansOk [])
      else (s, ansBad 16)

/-! ### Step control (Table 2.16) -/

/-- An operation that STEP_QUERY and STEP_FETCH still know. -/
def CmdSt.known (c : CmdSt) (tok : Nat) : Option StepOp :=
  match c.op tok with
  | some o => if o.released then none else some o
  | none => none

/-- STEP_QUERY. -/
def execStepQuery (h : Hdr) (token : U32) (s : State) : Out :=
  .next (s.serve (.stepQuery h token) h { op := 0xC0 } (le 4 token.toNat) (fun _ s =>
    match s.cmd.known token.toNat with
    | none => (s, ansBad 16)
    | some o => (s, ansOk (le 1 o.opcode ++ le 2 o.step ++ le 2 o.steps ++ le 1 o.state))))

/-- STEP_ABORT: at the next step boundary, with BUSY (R46). -/
def execStepAbort (h : Hdr) (token : U32) (s : State) : Out :=
  .next (s.serve (.stepAbort h token) h { op := 0xC1 } (le 4 token.toNat) (fun c s =>
    match s.cmd.known token.toNat with
    | none => (s, ansBad 16)
    | some o =>
      if ¬ o.live then (s, ansBad 16)
      else if o.owner ≠ some (c.tr, c.session) then (s, ansDenied)
      else (s.endOp token.toNat 0x02 [], ansOk [])))

/-- STEP_LIST. -/
def execStepList (h : Hdr) (s : State) : Out :=
  .next (s.serve (.stepList h) h { op := 0xC2 } [] (fun _ s =>
    let l := (s.cmd.ops.filter (fun o => o.live)).map (·.token)
    (s, ansOk (le 1 l.length ++ l.flatMap (le 4)))))

/-- STEP_FETCH: the result from an offset on; read to its end it is released (R48). -/
def execStepFetch (h : Hdr) (token offset : U32) (s : State) : Out :=
  .next (s.serve (.stepFetch h token offset) h { op := 0xC3 } (le 4 token.toNat ++ le 4 offset.toNat) (fun c s =>
    match s.cmd.known token.toNat with
    | none => (s, ansBad 16)
    | some o =>
      if o.owner ≠ some (c.tr, c.session) then (s, ansDenied)
      else if o.live then (s, ansBad 16)
      else if o.result.length < offset.toNat then (s, ansBad 20)
      else
        let part := (o.result.drop offset.toNat).take (payloadLimit c.tr)
        let s := if o.result.length ≤ offset.toNat + part.length then
            { s with cmd := s.cmd.updOp token.toNat (fun o => { o with released := true }) }
          else s
        (s, ansOk part)))

/-! ### Timeouts and event packets -/

/-- A record that the ordinary part of a session's queue has no room for is discarded and counted (R52). -/
def CmdSt.ordinaryEvent (c : CmdSt) (t : Transport) (x : Session) (index opcode src : Nat) (payload : List Byte) : CmdSt :=
  if 224 ≤ c.ordinary t then
    c.setSession t (some { x with lost := mupd 0 x.lost src (fun n => min 0xFFFF (n + 1)), lostMark := putBit x.lostMark src true })
  else c.sendEvent t x index opcode payload false

/-- STEP_PROGRESS: token, step, steps, no more often than every 10 ms (R44). -/
def execStepProgress (token : U32) (s : State) : Out :=
  .next (
    match s.cmd.op token.toNat with
    | none => s
    | some o =>
      let due : Bool := match o.sentAt with | some t => decide (t + 8000000 ≤ s.hw.ticks) | none => true
      match s.cmd.ownerOf o with
      | none => s
      | some (t, x) =>
        if o.live ∧ o.state ≠ 0 ∧ due then
          let c := s.cmd.updOp o.token (fun o => { o with sentAt := some s.hw.ticks })
          { s with cmd := c.ordinaryEvent t x s.hw.cas.index 0xE2 srcCmd (le 4 o.token ++ le 2 o.step ++ le 2 o.steps) }
        else s)

/-- UPLOAD_TIMEOUT: 10 s without a chunk (R47). -/
def execUploadTimeout (token : U32) (s : State) : Out :=
  .next (
    match s.cmd.op token.toNat with
    | none => s
    | some o => if o.live ∧ o.state = 0 ∧ o.chunkAt + 8000000000 ≤ s.hw.ticks then s.finishOp o.token 0x07 [] else s)

/-- RESULT_RELEASE: 10 s after STEP_DONE (R48). -/
def execResultRelease (token : U32) (s : State) : Out :=
  .next (
    match s.cmd.op token.toNat with
    | none => s
    | some o =>
      match o.doneAt with
      | none => s
      | some t =>
        if t + 8000000000 ≤ s.hw.ticks then { s with cmd := s.cmd.updOp o.token (fun o => { o with released := true }) } else s)

/-- EVENTS_LOST: once space returns, what each source lost (R52). -/
def execEventsLost (tr : Transport) (s : State) : Out :=
  .next (
    match s.cmd.session tr with
    | none => s
    | some x =>
      if x.lost.isEmpty ∨ 224 ≤ s.cmd.ordinary tr then s
      else
        let payload := le 1 x.lost.length ++ x.lost.flatMap (fun e => le 1 e.1 ++ le 2 e.2)
        { s with cmd := s.cmd.sendEvent tr { x with lost := [] } s.hw.cas.index 0xE4 payload false })

/-- The tick at which the heartbeat period of a session ends: a session of the lanes has it extended by the time that a step keeps its
lane outside ACTIVE (R34, R252). -/
def Hw.heartbeatEnd (hw : Hw) (tr : Transport) (x : Session) : Nat :=
  let held := fun l => match (hw.lane l).heldAt with
    | some t => hw.ticks - max t x.lastSeen
    | none => 0
  x.lastSeen + 800000 * x.heartbeat + (if tr = .link then (List.range 5).foldl (fun n l => max n (held l)) 0 else 0)

/-- SESSION_HEARTBEAT_TIMEOUT (R34). -/
def execSessionHeartbeatTimeout (tr : Transport) (s : State) : Out :=
  .next (
    match s.cmd.session tr with
    | none => s
    | some x => if s.hw.heartbeatEnd tr x ≤ s.hw.ticks then (s.closeSession tr).drain else s)

/-- PACKET_DISCARDED: counted, without any other effect (step 1 of R31); a fragmented datagram too, and no heartbeat counts it (log entries
142 and 143). -/
def execPacketDiscarded (tr : Transport) (s : State) : Out :=
  .next (if s.hw.hears tr then { s with cmd := { s.cmd with discarded := satAdd 0xFFFF s.cmd.discarded 1 } } else s)

/-- CRC_ERROR: answered with the TAG and SEQUENCE received, nothing executed (step 2 of R31); the reply's ROLE and SUBADDR are free
(log entry 66), and the heartbeat period does not restart (log entry 143). -/
def execCrcError (src : Arrival) (opcode : U8) (tag seq : U16) (s : State) : Out :=
  .next (
    if s.hw.hears src.tr then
      let (r, hw) := s.hw.draw
      let p : Packet :=
        { opcode := opcode.toNat, tag := tag.toNat, source := 0x10 + hw.cas.index, role := r % 4, seq := seq.toNat, status := 0x09
          subaddr := r / 4 % 4, peer := src.peer }
      { s with hw := hw, cmd := ({ s.cmd with crcErrors := satAdd 0xFFFF s.cmd.crcErrors 1 } : CmdSt).push src.tr p }
    else s)

/-- SPI_SHIFT_OUT: the oldest pending packet leaves when all of it was clocked out within the period (R28). -/
def execSpiShiftOut (clocked : Nat) (s : State) : Out :=
  .next (
    match s.cmd.outSpi with
    | [] => s
    | p :: r => if s.hw.held ∨ clocked < 20 + (pad4 p.payload).length then s else { s with cmd := { s.cmd with outSpi := r } })

end Sys2Proof.Machine
end

