-- ==== Sys2Proof/Machine/Registers.lean ====
section
/-! DEFINITION. The register access opcodes (Table 2.5) and the register rows that act without a command packet: 0x10 to 0x15,
REGISTER_WRITE, RC_READ, LATCHING_READ. -/

namespace Sys2Proof.Machine

/-! ### Reading (R9, R33, R43, R445, R495 to R497) -/

/-- CMD_STATUS and CMD_ERRORS (Table 26.2). -/
def CmdSt.statusWord (c : CmdSt) : Nat :=
  let on := (List.range 3).filter (fun i => (c.session (transports.getD i .spi)).isSome)
  let waiting := on.foldl (fun n i => n + ((c.session (transports.getD i .spi)).map Session.outstanding).getD 0) 0
  on.length * 2 ^ 24 + maskOf on * 2 ^ 20 + c.liveOps % 8 * 2 ^ 16 + waiting % 64
def CmdSt.errorWord (c : CmdSt) : Nat := c.discarded % 65536 * 2 ^ 16 + c.crcErrors % 65536

/-- A read of a register by Watch. -/
def State.readReg (s : State) (a : Nat) : State × Nat :=
  if a = 0x00001000 then (s, s.cmd.statusWord)
  else if a = 0x00001004 then (s, s.cmd.errorWord)
  else
    let (hw, v) := s.hw.readReg a
    ({ s with hw := hw }, v)

/-- The addresses of a multi-register access (R43). -/
def addrRun (a n : Nat) : List Nat := (List.range n).map (fun i => a + 4 * i)

/-- An address that no register-access command is served at (R9, R495, R497). -/
def badAddr (a : Nat) : Bool := decide (a % 4 ≠ 0) || (regDesc a).isNone

/-- What a load of one Sifter channel holds: the channel alone, not the block (R334; log entry 73). -/
def srcSifter (c : Nat) : Nat := 0x200 + c

/-- The source ID of the block a register belongs to (Tables 2.19 and 26.1): what a stepped operation holds (R45). -/
def srcOfAddr (a : Nat) : Nat :=
  let b := a / 0x10000
  if b = 0 then (if a < 0x1000 then srcDev else srcCmd)
  else if 0x10 ≤ b ∧ b < 0x40 then srcTile (b - 0x10)
  else match b with
    | 0x01 => srcWch
    | 0x02 => if a % 0x10000 < 0x8000 then srcBcn else srcLnt
    | 0x03 => srcSpd
    | 0x04 => if a % 0x10000 < 0x8000 then srcClk else srcDmk
    | 0x50 => srcDet | 0x58 => srcTnd | 0x60 => srcOut | 0x68 => srcLnk
    | 0x70 => if a % 0x10000 < 0x2000 then srcGlz 0 else srcGlz 1
    | 0x78 => srcPds | 0x79 => srcTid
    | 0x7A => if a % 0x10000 < 0x100 then srcSft else srcSifter ((a % 0x10000 - 0x100) / 0x20)
    | 0x80 => srcCal | 0x88 => srcKpr 0 | 0x89 => srcBel | 0x8A => srcSlt
    | 0x90 => srcPmc | 0x91 => srcEvt | 0x98 => srcSec | _ => srcCas

/-- A read that the role denies: SEC needs ADMIN, PMC does while USER_READ is 0 (R33, R445). -/
def Hw.readDenied (hw : Hw) (role a : Nat) : Bool :=
  decide (role < 2) && (decide (a / 0x10000 = 0x98) || (decide (a / 0x10000 = 0x90) && !tb (hw.reg 0x00900000) 8))

/-- The words REG_READ may return on a transport (R43). -/
def readLimit : Transport → Nat
  | .eth => 360
  | _ => 1024

/-- Registers read in order of their addresses. -/
def State.readRegs (s : State) (as' : List Nat) : State × List Byte :=
  as'.foldl (fun (e : State × List Byte) a =>
    let (s, v) := e.1.readReg a
    (s, e.2 ++ le 4 v)) (s, [])

/-- REG_READ: every address is checked before any is read. A count of 0, or beyond the transport's words, is BAD_PARAM at its offset
(log entry 144). -/
def execRegRead (h : Hdr) (addr : U32) (count : U16) (s : State) : Out :=
  .next (s.serve (.regRead h addr count) h { op := 0x10 } (le 4 addr.toNat ++ le 2 count.toNat) (fun c s =>
    let n := count.toNat
    let as' := addrRun addr.toNat (max 1 (min n (readLimit c.tr)))
    if as'.any (fun a => s.hw.readDenied c.role a) then (s, ansDenied)
    else if as'.any badAddr then (s, ansBad 16)
    else if n = 0 ∨ readLimit c.tr < n then (s, ansBad 20)
    else
      let (s, data) := s.readRegs as'
      (s, ansOk data)))

/-! ### Writing (R12, R41, R43, R45) -/

/-- Whether the caller's session holds SERVICE. -/
def Caller.service (c : Caller) : Bool := decide (3 ≤ c.role)

/-- What stops a write before it acts, in the order of R31: a lock, a held block, an address; `off` is the offset of the address. -/
def State.writeStop (s : State) (as' : List Nat) (off : Nat) : Option Ans :=
  match as'.find? (fun a => !badAddr a && s.hw.locked a) with
  | some a => some (ansLocked a)
  | none =>
    if as'.any (fun a => !badAddr a && s.cmd.held [srcOfAddr a]) then some ansBusy
    else if as'.any badAddr then some (ansBad off)
    else none

/-- One register written; a value refused names the byte at `off` (R38). -/
def State.writeReg (s : State) (c : Caller) (a v off : Nat) : State × Ans :=
  let s := s.hwStep (fun hw => hw.writeReg c.service a v)
  (s, if s.hw.ack = 0x05 then ansBad off else { status := s.hw.ack, data := s.hw.ackData })

/-- Registers written in order; the answer of the first that is refused. -/
def State.writeRegs (s : State) (c : Caller) : List (Nat × Nat) → Nat → State × Ans
  | [], _ => (s, ansOk [])
  | (a, v) :: r, off =>
    let (s', x) := s.writeReg c a v off
    if x.status = 0 then s'.writeRegs c r (off + 4) else (s', x)

/-- REG_WRITE: every address and lock is checked first; a write that a register's own rule refuses undoes those before it, since a
refused command has no effect (Table 2.3; log entry 68). -/
def execRegWrite (h : Hdr) (addr : U32) (vals : List U32) (s : State) : Out :=
  .next (s.serve (.regWrite h addr vals) h { op := 0x11, role := 2 }
    (le 4 addr.toNat ++ le 2 vals.length ++ vals.flatMap (fun v => le 4 v.toNat)) (fun c s =>
    let as' := addrRun addr.toNat (max 1 vals.length)
    match s.writeStop as' 16 with
    | some a => (s, a)
    | none =>
      if vals.isEmpty then (s, ansBad 20)
      else
        let (s', a) := s.writeRegs c (as'.zip (vals.map (·.toNat))) 22
        if a.status = 0 ∨ vals.length = 1 then (s', a) else (s, a)))

/-- REG_RMW: `new` is the value written (log entry 69). -/
def execRegRmw (h : Hdr) (addr mask value : U32) (s : State) : Out :=
  .next (s.serve (.regRmw h addr mask value) h { op := 0x12, role := 2 }
    (le 4 addr.toNat ++ le 4 mask.toNat ++ le 4 value.toNat) (fun c s =>
    match s.writeStop [addr.toNat] 16 with
    | some a => (s, a)
    | none =>
      let (s, old) := s.readReg addr.toNat
      let new := ((BitVec.ofNat 32 old &&& ~~~mask) ||| (value &&& mask)).toNat
      let (s, a) := s.writeReg c addr.toNat new 24
      if a.status = 0 then (s, ansOk (le 4 old ++ le 4 new)) else (s, a)))

/-- The value of a register, and whether it is the one polled for. -/
def State.pollNow (s : State) (addr mask value : Nat) : State × Nat × Bool :=
  let (s, v) := s.readReg addr
  (s, v, decide (v &&& mask = value))

/-- REG_POLL: answered at once when the value is there, else it waits (R36). -/
def execRegPoll (h : Hdr) (addr mask value timeoutUs : U32) (s : State) : Out :=
  .next (s.serve (.regPoll h addr mask value timeoutUs) h { op := 0x13 }
    (le 4 addr.toNat ++ le 4 mask.toNat ++ le 4 value.toNat ++ le 4 timeoutUs.toNat) (fun c s =>
    if s.hw.readDenied c.role addr.toNat then (s, ansDenied)
    else if badAddr addr.toNat then (s, ansBad 16)
    else if 100000 < timeoutUs.toNat then (s, ansBad 28)
    else
      let (s, v, hit) := s.pollNow addr.toNat mask.toNat value.toNat
      if hit then (s, ansOk (le 4 v))
      else (s, { wait := some (.poll addr.toNat mask.toNat value.toNat (s.hw.ticks + 800 * timeoutUs.toNat)) })))

/-- A wait of a session ends with an answer. -/
def State.endWait (s : State) (t : Transport) (x : Session) (p : Packet) (a : Ans) : State :=
  { s with cmd := (s.cmd.setSession t (some { x with wait := none })).answer t { p with status := a.status, payload := a.data } }

/-- REG_POLL_END (R36): the value matches, or the timeout has ended. -/
def execRegPollEnd (tr : Transport) (s : State) : Out :=
  .next (
    match s.cmd.session tr with
    | none => s
    | some x =>
      match x.wait with
      | some (.poll addr mask value due, p) =>
        let (s, v, hit) := s.pollNow addr mask value
        if hit then s.endWait tr x p (ansOk (le 4 v))
        else if due ≤ s.hw.ticks then s.endWait tr x p { status := 0x07 }
        else s
      | _ => s)

/-- The entries of REG_LIST_WRITE in order, up to the first failure: how many were applied, and the status. -/
def State.listWrite (s : State) (c : Caller) : List (U32 × U32) → Nat → Nat → State × Nat × Nat
  | [], n, _ => (s, n, 0)
  | (a, v) :: r, n, off =>
    match s.writeStop [a.toNat] off with
    | some x => (s, n, x.status)
    | none =>
      let (s', x) := s.writeReg c a.toNat v.toNat (off + 4)
      if x.status = 0 then s'.listWrite c r (n + 1) (off + 8) else (s', n, x.status)

/-- REG_LIST_WRITE: its reply carries the number applied, whatever the status (Table 2.3). -/
def execRegListWrite (h : Hdr) (entries : List (U32 × U32)) (s : State) : Out :=
  .next (s.serve (.regListWrite h entries) h { op := 0x15, role := 2 }
    (le 2 entries.length ++ entries.flatMap (fun e => le 4 e.1.toNat ++ le 4 e.2.toNat)) (fun c s =>
    if entries.isEmpty ∨ 255 < entries.length then (s, ansBad 16)
    else
      let (s, n, st) := s.listWrite c entries 0 18
      (s, { status := st, data := le 2 n })))

/-! ### The histogram window (R168, R497) -/

/-- The view of a channel: its histogram most recently DONE, zeros before there is one. -/
def Hw.channelView (hw : Hw) (k : Nat) : List Byte :=
  let c := (hw.tile (k / 16)).chan (k % 16)
  match c.view with
  | some b => viewBytes (c.buf b)
  | none => List.replicate 8192 0

/-- `len` bytes of the window from `off` on; past the last channel's view it reads 0. -/
def Hw.windowBytes (hw : Hw) (off len : Nat) : List Byte :=
  let first := off / 8192
  let last := (off + len - 1) / 8192
  let all := (List.range (last + 1 - first)).flatMap (fun i =>
    if first + i < 768 then hw.channelView (first + i) else List.replicate 8192 0)
  (all.drop (off - 8192 * first)).take len

/-- The tiles a copy of the window works on. -/
def windowTiles (off len : Nat) : List Nat :=
  ((List.range 48).filter (fun n => decide (off < 131072 * (n + 1) ∧ 131072 * n < off + len))).map srcTile

/-- The channels whose view a copy takes: the copy holds the buffer in view, which meanwhile is not IDLE to R160, for 5 µs, the longest
R168 allows (log entry 155). -/
def Hw.holdCopied (hw : Hw) (off len : Nat) : Hw :=
  let first := off / 8192
  let last := (off + len - 1) / 8192
  (List.range (last + 1 - first)).foldl (fun hw i =>
    let k := first + i
    if 768 ≤ k then hw
    else hw.setTile (k / 16) ((hw.tile (k / 16)).setChan (k % 16) { (hw.tile (k / 16)).chan (k % 16) with copyEnd := hw.ticks + 4000 })) hw

/-- BULK_READ: a stepped copy (R168). -/
def execBulkRead (h : Hdr) (addr len : U32) (s : State) : Out :=
  .next (s.serve (.bulkRead h addr len) h { op := 0x14, role := 2, modes := [.config, .service], stepped := true }
    (le 4 addr.toNat ++ le 4 len.toNat) (fun c s =>
    let a := addr.toNat
    let n := len.toNat
    let tiles := windowTiles (a - 0x10000000) n
    if s.cmd.held tiles then (s, ansBusy)
    else if a < 0x10000000 ∨ 0x14000000 ≤ a ∨ a % 4 ≠ 0 then (s, ansBad 16)
    else if n % 4 ≠ 0 ∨ 4194304 < n then (s, ansBad 20)
    else if 0x14000000 < a + n then (s, ansBad 16)
    else s.begin c (stepOp 0x14 tiles [a, n])))

/-! ### Register accesses by an agent -/

/-- REGISTER_WRITE: a register written by its access code and lock (R12, R499). -/
def execRegisterWrite (addr : U32) (value : Word) (s : State) : Out :=
  .next (s.hwStep (fun hw => hw.writeReg false addr.toNat value.toNat))

/-- RC_READ: the register returns its value and clears (R12). -/
def execRcRead (addr : U32) (s : State) : Out :=
  .next (s.hwStep (fun hw => hw.rcClear addr.toNat))

/-- LATCHING_READ: the read latches the remaining words (R136). -/
def execLatchingRead (addr : U32) (s : State) : Out :=
  .next (s.hwStep (fun hw => hw.latchRead addr.toNat))

end Sys2Proof.Machine
end

