-- ==== Sys2Proof/Machine/Calibration.lean ====
section
/-! DEFINITION. Calibration: opcodes 0x60 to 0x65 (Table 2.10) and CAL_BOOT_MASK. -/

namespace Sys2Proof.Machine

/-- The blocks that a run's quantities write (R361). -/
def calHolds (mask : Nat) : List Nat :=
  (if tb mask 0 ∨ tb mask 1 then (List.range 48).map srcTile else []) ++
  (if tb mask 2 ∨ tb mask 3 then [srcSpd] else []) ++ (if tb mask 5 then [srcTid] else []) ++ (if tb mask 6 then [srcClk] else []) ++
  (if tb mask 7 then [srcLnt] else []) ++ [srcCal]

/-- A run that measures now. -/
def CmdSt.calRuns (c : CmdSt) : Bool := c.ops.any (fun o => o.live && decide (o.opcode = 0x60))

/-- CAL_RUN (R356, R357, R361, R366): an automatic run ends at its next step boundary, before the first step of this one, whose
parameters say whether it has begun. -/
def execCalRun (h : Hdr) (mask : U32) (s : State) : Out :=
  .next (s.serve (.calRun h mask) h { op := 0x60, role := 2 } (le 4 mask.toNat) (fun c s =>
    let m := mask.toNat
    if ¬ s.hw.calAllowed m then (s, s.hw.ansMode)
    else if 4 ≤ s.cmd.liveOps ∨ s.cmd.held (calHolds m) then (s, ansBusy)
    else if m = 0 ∨ 512 ≤ m then (s, ansBad 16)
    else if s.cmd.calRuns then s.endAuto.begin c (stepOp 0x60 (calHolds m) [m, 0])
    else ({ s with hw := s.hw.calBegin m } : State).begin c (stepOp 0x60 (calHolds m) [m, 1])))

/-- CAL_STATUS (R362). -/
def execCalStatus (h : Hdr) (s : State) : Out :=
  .next (s.serve (.calStatus h) h { op := 0x61 } [] (fun _ s => (s, ansOk s.hw.calStatusBytes)))

/-- CAL_SET_READ (R369): the set as it stands at acceptance, since the operation holds CAL. -/
def execCalSetRead (h : Hdr) (index : U8) (s : State) : Out :=
  .next (s.serve (.calSetRead h index) h { op := 0x62, stepped := true } (le 1 index.toNat) (fun c s =>
    if s.cmd.held [srcCal] then (s, ansBusy)
    else if 7 < index.toNat then (s, ansBad 16)
    else
      match s.hw.setAt index.toNat with
      | none => (s, ansBad 16)
      | some x => s.begin c { stepOp 0x62 [srcCal] [index.toNat] with bytes := x.bytes }))

/-- CAL_CAMERA (R352). -/
def execCalCamera (h : Hdr) (port : U8) (intrinsics extrinsic : List U32) (s : State) : Out :=
  .next (s.serve (.calCamera h port intrinsics extrinsic) h
    { op := 0x63, role := 2, modes := [.config], writes := [srcCal, srcGlz 0, srcGlz 1] }
    (le 1 port.toNat ++ intrinsics.flatMap (fun v => le 4 v.toNat) ++ extrinsic.flatMap (fun v => le 4 v.toNat)) (fun _ s =>
    if 1 < port.toNat then (s, ansBad 16)
    else
      let (hw, code) := s.hw.calCamera port.toNat ((intrinsics ++ extrinsic).map (fun v => v.toInt))
      (({ s with hw := hw } : State).drain, ansOk (le 1 code))))

/-- CAL_FACTORY (R368). -/
def execCalFactory (h : Hdr) (s : State) : Out :=
  .next (s.serve (.calFactory h) h { op := 0x64, role := 2, modes := [.config, .service], writes := [srcCal] } [] (fun _ s =>
    match s.hw.calFactory with
    | none => (s, ansPre 0x0608)
    | some hw => (({ s with hw := hw } : State).drain, ansOk [])))

/-- CAL_TRIGGER (R366): CAL_CTL.DELTA_T and TRIG_EN. -/
def execCalTrigger (h : Hdr) (deltaT enable : U8) (s : State) : Out :=
  .next (s.serve (.calTrigger h deltaT enable) h { op := 0x65, role := 2, modes := [.config, .scan], writes := [srcCal] }
    (le 1 deltaT.toNat ++ le 1 enable.toNat) (fun _ s =>
    if deltaT = 0 then (s, ansBad 16)
    else if 1 < enable.toNat then (s, ansBad 17)
    else
      let v := putBit (putBits (s.hw.reg 0x00800000) 24 8 deltaT.toNat) 16 (decide (enable = 1))
      ({ s with hw := s.hw.setReg 0x00800000 v }, ansOk [])))

/-- CAL_BOOT_MASK_WRITE (R367). -/
def execCalBootMaskWrite (value : Word) (s : State) : Out := .next (s.hwStep (fun hw => hw.writeReg false 0x00800030 value.toNat))

end Sys2Proof.Machine
end

