-- ==== Sys2Proof/Machine/Cameras.lean ====
section
/-! DEFINITION. The camera ports: opcodes 0x90 to 0x95 (Table 2.13) and the rows of Glaze. -/

namespace Sys2Proof.Machine

/-! ### Opcodes -/

/-- The first offending parameter of CAM_CONFIG (R341): offsets in the packet; a product out of its limit is found at the rate. -/
def badCam (lanes format width height rate : Nat) : Option Nat :=
  let px := width * height * rate
  let dim := fun (v top : Nat) => decide (v % 2 = 1 ∨ v < 16 ∨ top < v)
  ([ (17, !(decide (lanes = 1) || decide (lanes = 2) || decide (lanes = 4))), (18, decide (3 < format)), (19, dim width 4096), (21, dim height 3072),
     (23, decide (rate < 1000 ∨ 120000 < rate) || decide (377487360000 < px) || decide (2125000000000 * lanes < px * bppOf format)) ].find?
    (fun e => e.2)).map (·.1)

/-- CAM_CONFIG (R341). -/
def execCamConfig (h : Hdr) (port lanes format : U8) (width height : U16) (rate : U32) (s : State) : Out :=
  .next (s.serve (.camConfig h port lanes format width height rate) h
    { op := 0x90, role := 2, modes := [.config], writes := [srcGlz (port.toNat % 2)] }
    (le 1 port.toNat ++ le 1 lanes.toNat ++ le 1 format.toNat ++ le 2 width.toNat ++ le 2 height.toNat ++ le 4 rate.toNat) (fun _ s =>
    let p := port.toNat
    if 1 < p then (s, ansBad 16)
    else if (s.hw.port p).en then (s, ansBusy)
    else
      match badCam lanes.toNat format.toNat width.toNat height.toNat rate.toNat with
      | some o => (s, ansBad o)
      | none => ({ s with hw := s.hw.configCam p lanes.toNat format.toNat width.toNat height.toNat rate.toNat }, ansOk [])))

/-- CAM_ENABLE (R344, R350): an OFFLINE port stays so until a reset (R349); the code that refuses it is free (log entry 78). -/
def execCamEnable (h : Hdr) (port on : U8) (s : State) : Out :=
  .next (s.serve (.camEnable h port on) h { op := 0x91, role := 2, modes := [.config, .scan], writes := [srcGlz (port.toNat % 2)] }
    (le 1 port.toNat ++ le 1 on.toNat) (fun _ s =>
    let p := port.toNat
    if 1 < p then (s, ansBad 16)
    else if 1 < on.toNat then (s, ansBad 17)
    else if (s.hw.port p).state = .offline then
      if on = 0 then (s, ansOk [])
      else
        let (n, hw) := s.hw.draw
        ({ s with hw := hw }, ansPre (n % 65536))
    else ({ s with hw := s.hw.enableCam p (decide (on = 1)) }, ansOk [])))

/-- Whether a read of `n` bytes, written and read, ends within 1 ms: two address bytes, nine bits a byte, a start, a repeated start
and a stop (R348; log entry 79). -/
def cciInTime (speed n : Nat) : Bool := decide (9 * (n + 2) + 3 ≤ (if speed = 0 then 100 else if speed = 1 then 400 else 1000))

/-- CCI_XFER (R348): a write is queued, a read answered with what the sensor gives. -/
def execCciXfer (h : Hdr) (port address delay rlen : U8) (bytes : List Byte) (acked : Bool) (answer : List Byte) (s : State) : Out :=
  .next (s.serve (.cciXfer h port address delay rlen bytes acked answer) h
    { op := 0x92, role := 2, modes := [.config, .scan], writes := [srcGlz (port.toNat % 2)] }
    (le 1 port.toNat ++ le 1 address.toNat ++ le 1 delay.toNat ++ le 1 bytes.length ++ le 1 rlen.toNat ++ bytes) (fun _ s =>
    let p := port.toNat
    let x := s.hw.port p
    let n := rlen.toNat
    if 1 < p then (s, ansBad 16)
    else if n = 0 ∧ 16 ≤ x.queue.length then (s, ansBusy)
    else if 3 < delay.toNat ∨ (n ≠ 0 ∧ delay ≠ 0) then (s, ansBad 18)
    else if 32 < n then (s, ansBad 20)
    else if n = 0 then
      let f := (x.frame + 1 + delay.toNat) % 2 ^ 32
      ({ s with hw := s.hw.setPort p { x with
          queue := x.queue ++ [{ addr := address.toNat, bytes := bytes, delay := delay.toNat, frame := f }] } }, ansOk (le 4 f))
    else if ¬ acked then (s, ansPre 0x0901)
    else if ¬ cciInTime (bits (s.hw.glzP p 0x1078) 0 2) (bytes.length + n) then (s, { status := 0x07 })
    else (s, ansOk (bytesAt answer 0 n ++ le 4 x.frame))))

/-- The data of a CAM_STATS part: 0 the histogram, 1 to 3 zones in groups of 64 (R347). -/
def CamStats.part (x : CamStats) (part : Nat) : List Byte :=
  if part = 0 then (List.range 256).flatMap (fun i => le 4 (x.hist.getD i 0))
  else (List.range 64).flatMap (fun i =>
    let z := x.zones.getD (64 * (part - 1) + i) (0, 0, 0)
    le 4 z.1 ++ le 4 z.2.1 ++ le 4 z.2.2)

/-- CAM_STATS. -/
def execCamStats (h : Hdr) (port part : U8) (s : State) : Out :=
  .next (s.serve (.camStats h port part) h { op := 0x93 } (le 1 port.toNat ++ le 1 part.toNat) (fun _ s =>
    if 1 < port.toNat then (s, ansBad 16)
    else if 3 < part.toNat then (s, ansBad 17)
    else
      let x := (s.hw.port port.toNat).stats
      (s, ansOk (le 4 x.frame ++ le 2 x.settings ++ x.part part.toNat))))

/-- CAM_MESH_LOAD: chunked, 768 nodes of 4 bytes (R345, R47). -/
def execCamMeshLoad (h : Hdr) (ck : Chunk) (port : U8) (data : List Byte) (s : State) : Out :=
  .next (s.serve (.camMeshLoad h ck port data) h { op := 0x94, role := 2, modes := [.config] }
    (le 4 ck.token.toNat ++ le 4 ck.offset.toNat ++ le 4 ck.total.toNat ++ le 1 port.toNat ++ data) (fun c s =>
    let bad := if ck.total ≠ 3072 then some (ansBad 24) else if 1 < port.toNat then some (ansBad 28) else none
    s.upload c 0x94 [srcGlz (port.toNat % 2)] ck (le 1 port.toNat) data bad))

/-- CAM_STATUS (R344, Table 16.6). -/
def execCamStatus (h : Hdr) (port : U8) (s : State) : Out :=
  .next (s.serve (.camStatus h port) h { op := 0x95 } (le 1 port.toNat) (fun _ s =>
    let p := port.toNat
    if 1 < p then (s, ansBad 16)
    else (s, ansOk (le 4 (s.hw.port p).frame ++ le 4 (s.hw.glzP p 0x1060) ++ le 4 (s.hw.glzP p 0x1064) ++ le 1 (s.hw.port p).state.code))))

/-! ### Glaze -/

/-- CSI_FRAME_START (R343). -/
def execCsiFrameStart (port : Nat) (s : State) : Out := .next (s.clocked 13 (csiFrameStart port))
/-- CSI_LINE (R342). -/
def execCsiLine (port : Nat) (pixels : List Nat) (crcOk : Bool) (s : State) : Out := .next (s.clocked 13 (csiLine port pixels crcOk))
/-- CSI_FRAME_END (R343). -/
def execCsiFrameEnd (port : Nat) (s : State) : Out := .next (s.clocked 13 (csiFrameEnd port))
/-- CSI_FRAME_TIMEOUT (R343). -/
def execCsiFrameTimeout (port : Nat) (s : State) : Out := .next (s.clocked 13 (csiFrameTimeout port))
/-- CAM_NO_SIGNAL (R344). -/
def execCamNoSignal (port : Nat) (s : State) : Out := .next (s.clocked 13 (camNoSignal port))
/-- CCI_WRITE_ISSUE (R348). -/
def execCciWriteIssue (port : Nat) (acked late : Bool) (s : State) : Out := .next (s.clocked 13 (cciWriteIssue port acked late))
/-- GLZ_MAP_PARITY (R354). -/
def execGlzMapParity (port buffer : Nat) (s : State) : Out := .next (s.clocked 13 (glzMapParity port buffer))
/-- GLZ_P_EXPOFS_WRITE (R350). -/
def execGlzPExpofsWrite (port : Nat) (value : Word) (s : State) : Out :=
  .next (if port < 2 then s.hwStep (fun hw => hw.writeReg false (glzReg port 0x103C) value.toNat) else s)
/-- GLZ_P_MAP_WRITE (R350). -/
def execGlzPMapWrite (port : Nat) (value : Word) (s : State) : Out :=
  .next (if port < 2 then s.hwStep (fun hw => hw.writeReg false (glzReg port 0x1010) value.toNat) else s)

end Sys2Proof.Machine
end

