-- ==== Sys2Proof/Machine/Diagnostics.lean ====
section
/-! DEFINITION. Diagnostics: opcodes 0xA0 to 0xA7 (Table 2.14) and the rows of the performance counters and of Sector Lights. -/

namespace Sys2Proof.Machine

/-! ### Performance counters (R438, R442, R443, R445) -/

/-- PMC_CONFIG: a Safety type NOT_FITTED without the protective function, an undefined type BAD_PARAM (R438). -/
def execPmcConfig (h : Hdr) (counter : U8) (event : U16) (filters : U32) (s : State) : Out :=
  .next (s.serve (.pmcConfig h counter event filters) h { op := 0xA0, role := 2, writes := [srcPmc], fused := eventSafety event.toNat }
    (le 1 counter.toNat ++ le 2 event.toNat ++ le 4 filters.toNat) (fun _ s =>
    if 63 < counter.toNat then (s, ansBad 16)
    else if ¬ eventDefined event.toNat then (s, ansBad 17)
    else if bits filters.toNat 4 4 ≠ 0 then (s, ansBad 19)
    else ({ s with hw := s.hw.pmcConfig counter.toNat event.toNat filters.toNat }, ansOk [])))

/-- PMC_FREEZE: the device time of the snapshot, when it releases one of the one released; with none to release it is free (log
entry 81). -/
def execPmcFreeze (h : Hdr) (freeze : U8) (s : State) : Out :=
  .next (s.serve (.pmcFreeze h freeze) h { op := 0xA1, role := 2, writes := [srcPmc] } (le 1 freeze.toNat) (fun _ s =>
    if 1 < freeze.toNat then (s, ansBad 16)
    else
      let hw := s.hw.pmcFreeze (decide (freeze = 1))
      match (if freeze = 1 then hw.pmc.snap else s.hw.pmc.snap) with
      | some (_, _, t) => ({ s with hw := hw }, ansOk (le 8 t.toNat))
      | none =>
        let (n, hw) := hw.draw
        ({ s with hw := hw }, ansOk (le 8 n))))

/-- PMC_READ: DENIED to a USER session while PMC_CTL.USER_READ is 0 (R445). -/
def execPmcRead (h : Hdr) (first n : U8) (s : State) : Out :=
  .next (s.serve (.pmcRead h first n) h { op := 0xA2 } (le 1 first.toNat ++ le 1 n.toNat) (fun c s =>
    if s.hw.readDenied c.role 0x00900000 then (s, ansDenied)
    else if 63 < first.toNat then (s, ansBad 16)
    else if 64 < first.toNat + n.toNat then (s, ansBad 17)
    else (s, ansOk (s.hw.pmcRead first.toNat n.toNat))))

/-! ### Faults, events, the Logbook (R52, R54, R78, R446) -/

/-- FAULT_LIST. -/
def execFaultList (h : Hdr) (offset : U16) (s : State) : Out :=
  .next (s.serve (.faultList h offset) h { op := 0xA3 } (le 2 offset.toNat) (fun c s =>
    if s.hw.evt.table.length < offset.toNat then (s, ansBad 16)
    else (s, ansOk (s.hw.evt.listBytes offset.toNat (payloadLimit c.tr)))))

/-- FAULT_CLEAR: 0xFFFF names every fault of the source; a code that is no fault's is BAD_PARAM (R53, R54). -/
def execFaultClear (h : Hdr) (source : U8) (code : U16) (s : State) : Out :=
  .next (s.serve (.faultClear h source code) h { op := 0xA4, role := 2, writes := [srcEvt] } (le 1 source.toNat ++ le 2 code.toNat) (fun _ s =>
    let k := code.toNat
    if k ≠ 0xFFFF ∧ (0xA000 ≤ k ∨ bits k 10 3 ≠ 0) then (s, ansBad 17)
    else
      let (hw, n) := s.hw.clearFaults source.toNat k
      (({ s with hw := hw } : State).drain, ansOk (le 2 n))))

/-- EVENT_SUBSCRIBE: bit i of the 32 bytes stands for source i. -/
def execEventSubscribe (h : Hdr) (sources : List Byte) (minClass : U8) (s : State) : Out :=
  .next (s.serve (.eventSubscribe h sources minClass) h { op := 0xA6 } (sources ++ le 1 minClass.toNat) (fun c s =>
    if 4 < minClass.toNat then (s, ansBad 48)
    else
      match s.cmd.session c.tr with
      | none => (s, ansDenied)
      | some x =>
        ({ s with cmd := s.cmd.setSession c.tr (some { x with sources := some (field sources 0 32), minClass := minClass.toNat }) }, ansOk [])))

/-- LOGBOOK_READ. -/
def execLogbookRead (h : Hdr) (s : State) : Out :=
  .next (s.serve (.logbookRead h) h { op := 0xA7 } [] (fun _ s => (s, ansOk s.hw.logbook)))

/-! ### Built-in self-tests (R448) -/

/-- The blocks a test works on. -/
def bistBlocks (test : Nat) : List Nat :=
  match test with
  | 0 => (List.range 48).map srcTile
  | 1 => [srcSpd]
  | 2 => [srcBcn]
  | 3 => [srcSlt]
  | 4 => (List.range 48).map srcTile
  | 5 => [srcOut, srcGlz 0, srcGlz 1]
  | 6 => [srcCal]
  | 7 => [srcTid]
  | 8 => [srcKpr 0, srcKpr 1]
  | _ => [srcWch]

/-- BIST_RUN: its parameters are the tests still to run. -/
def execBistRun (h : Hdr) (mask : U32) (s : State) : Out :=
  let tests := setBits 10 mask.toNat
  let modes : List Mode := [.config, .scan, .guard, .service]
  .next (s.serve (.bistRun h mask) h
    { op := 0xA5, role := 2, modes := modes.filter (fun m => tests.all (fun t => (bistModes t).contains m))
      writes := tests.flatMap bistBlocks, stepped := true, fused := tb mask.toNat 8 } (le 4 mask.toNat) (fun c s =>
    if 1024 ≤ mask.toNat then (s, ansBad 16)
    else s.begin c (stepOp 0xA5 (tests.flatMap bistBlocks) tests)))

/-! ### Performance counters and Sector Lights -/

/-- PMC_INCREMENT (R440). -/
def execPmcIncrement (event : U16) (inst : Nat) (addr : U32) (cls master priv n : Nat) (s : State) : Out :=
  .next (s.clocked 3 (pmcIncrement event.toNat inst addr.toNat cls master priv n))
/-- PMC_CNT_WRITE (R443). -/
def execPmcCntWrite (index : Nat) (high : Bool) (value : Word) (s : State) : Out := .next (s.hwStep (pmcCntWrite index high value.toNat))
/-- PMC_EVT_WRITE (R443). -/
def execPmcEvtWrite (index : Nat) (filter : Bool) (value : Word) (s : State) : Out := .next (s.hwStep (pmcEvtWrite index filter value.toNat))
/-- SLT_CTL_WRITE (R426). -/
def execSltCtlWrite (value : Word) (s : State) : Out := .next (s.hwStep (fun hw => hw.writeReg false 0x008A0000 value.toNat))
/-- SLT_PINTEST (R431). -/
def execSltPintest (shorted : Nat) (s : State) : Out := .next (s.clocked 3 (sltPinTestEnd shorted))
/-- SLT_PERIOD (R428). -/
def execSltPeriod (led : Nat) (s : State) : Out := .next (s.clocked 3 (sltPeriod led))
/-- SLT_RUN_END (R432). -/
def execSltRunEnd (led lengthNs millivolts : Nat) (regulating : Bool) (s : State) : Out :=
  .next (s.clocked 3 (sltRunEnd led lengthNs millivolts regulating))
/-- SLT_ENG_CFG_WRITE (R430). -/
def execSltEngCfgWrite (engine : Nat) (value : Word) (s : State) : Out :=
  .next (if engine < 4 then s.hwStep (fun hw => hw.writeReg false (0x008A0040 + 8 * engine) value.toNat) else s)

end Sys2Proof.Machine
end

