-- ==== Sys2Proof/Machine/Guarding.lean ====
section
/-! DEFINITION. Protection: opcodes 0x70 to 0x77 (Table 2.11), which step 5 of R31 answers NOT_FITTED on a device that is no
AG7680-IS (R42), and the rows of the Keepers and of Bell. -/

namespace Sys2Proof.Machine

/-! ### Opcodes -/

/-- GUARD_MAP_LOAD: chunked (R377). -/
def execGuardMapLoad (h : Hdr) (ck : Chunk) (set : U8) (data : List Byte) (s : State) : Out :=
  .next (s.serve (.guardMapLoad h ck set data) h { op := 0x70, role := 2, modes := [.config] }
    (le 4 ck.token.toNat ++ le 4 ck.offset.toNat ++ le 4 ck.total.toNat ++ le 1 set.toNat ++ data) (fun c s =>
    s.upload c 0x70 [srcKpr 0] ck (le 1 set.toNat) data (if 7 < set.toNat then some (ansBad 28) else none)))

/-- GUARD_MAP_READ. -/
def execGuardMapRead (h : Hdr) (set : U8) (offset : U32) (s : State) : Out :=
  .next (s.serve (.guardMapRead h set offset) h { op := 0x71 } (le 1 set.toNat ++ le 4 offset.toNat) (fun c s =>
    let m := s.hw.kpr.map set.toNat
    if 7 < set.toNat then (s, ansBad 16)
    else if m.length < offset.toNat then (s, ansBad 17)
    else (s, ansOk (le 4 (s.hw.kpr.setCrc set.toNat) ++ (m.drop offset.toNat).take (payloadLimit c.tr - 4)))))

/-- GUARD_LEAVE (R60): a map_crc that is not the guard CRC 0x0010 (log entry 75); in a cascade every device leaves at the announced
tick, the outputs are off before the reply. -/
def execGuardLeave (h : Hdr) (mapCrc : U32) (s : State) : Out :=
  .next (s.serve (.guardLeave h mapCrc) h { op := 0x72, role := 2, modes := [.guard], wide := true } (le 4 mapCrc.toNat) (fun _ s =>
    let (hw, crcOk) := s.hw.mapCrcOk mapCrc.toNat
    let s : State := { s with hw := hw }
    if ¬ crcOk then (s, ansPre 0x0010)
    else (s.hwStep (fun hw => if hw.inCascade then (hw.drive2 0 0).announceMode .config else hw.leaveGuard none none), ansOk [])))

/-- SAFE_ACK (R392): answered when the Keepers' self-test has ended. -/
def execSafeAck (h : Hdr) (fault : U16) (s : State) : Out :=
  .next (s.serve (.safeAck h fault) h { op := 0x73, role := 2, modes := [.guard] } (le 2 fault.toNat) (fun _ s =>
    match s.hw.latchedBy fault.toNat with
    | none => (s, ansBad 16)
    | some f =>
      if f.code % 1024 ≠ 10 ∧ s.hw.kprCause f then (s, ansPre 0x0702)
      else (s.hwStep (fun hw => { hw with kpr := { hw.kpr with safeSince := false } }), { wait := some (.safeAck fault.toNat) })))

/-- SAFE_ACK_SELFTEST_END (R392): the SAFE_ACK that waits is answered. -/
def State.ackSession (s : State) (okA okB : Bool) (t : Transport) : State :=
  match s.cmd.session t with
  | none => s
  | some x =>
    match x.wait with
    | some (.safeAck code, p) =>
      match s.hw.latchedBy code with
      | none => s.endWait t x p (ansBad 16)
      | some _ =>
        let (hw, r) := s.hw.safeAckEnd code okA okB
        let a := match r with
          | none => ansOk []
          | some c => ansPre c
        (({ s with hw := hw } : State).endWait t x p a).drain
    | _ => s
def execSafeAckSelftestEnd (okA okB : Bool) (s : State) : Out := .next (transports.foldl (fun s t => State.ackSession s okA okB t) s)

/-- KEEPER_STATUS (R395). -/
def execKeeperStatus (h : Hdr) (s : State) : Out :=
  .next (s.serve (.keeperStatus h) h { op := 0x74 } [] (fun _ s => (s, ansOk s.hw.keeperStatus)))

/-- What another device of the cascade holds as its connection identity is free (R400, log entry 64). -/
def Hw.identTaken (hw : Hw) (connection : Nat) : Hw × Bool :=
  if hw.inCascade ∧ connection ≠ 0 then
    let (n, hw) := hw.draw
    (hw, decide (n % 2 = 1))
  else (hw, false)

/-- BELL_CONFIG (R400); an Ethernet session's address is where frames go while BEL_DEST_IP is 0 (R407). -/
def execBellConfig (h : Hdr) (connection tExpectUs : U32) (transport : U8) (s : State) : Out :=
  .next (s.serve (.bellConfig h connection tExpectUs transport) h { op := 0x75, role := 2, modes := [.config], writes := [srcBel] }
    (le 4 connection.toNat ++ le 4 tExpectUs.toNat ++ le 1 transport.toNat) (fun c s =>
    let (hw, taken) := s.hw.identTaken connection.toNat
    let s : State := { s with hw := hw }
    if taken then (s, ansBad 16)
    else
      match hw.bellBad tExpectUs.toNat transport.toNat with
      | some o => (s, ansBad (16 + o))
      | none =>
        let hw := (hw.setReg 0x00890004 connection.toNat).setReg 0x00890008 tExpectUs.toNat
        let hw := hw.setReg 0x00890000 (putBit (hw.reg 0x00890000) 0 (decide (transport = 1)))
        let src := if c.tr = .eth then ((s.cmd.session .eth).map (·.peer)).getD {} else hw.bel.src
        ({ s with hw := { hw with bel := { hw.bel with src := src } } }, ansOk [])))

/-- BELL_STATUS (R405). -/
def execBellStatus (h : Hdr) (s : State) : Out :=
  .next (s.serve (.bellStatus h) h { op := 0x76 } [] (fun _ s => (s, ansOk s.hw.bellStatus)))

/-- SAFETY_CONFIG (R395). -/
def execSafetyConfig (h : Hdr) (s : State) : Out :=
  .next (s.serve (.safetyConfig h) h { op := 0x77 } [] (fun _ s => (s, ansOk s.hw.safetyConfig)))

/-! ### The Keepers -/

/-- KEEPER_SAMPLE (R379). -/
def execKeeperSample (keeper : Nat) (crcOk : Bool) (s : State) : Out := .next (if keeper < 2 then s.keepers 15 (keeperSample keeper crcOk) else s)
/-- CLUSTER_SEARCH (R382). -/
def execClusterSearch (keeper : Nat) (s : State) : Out := .next (if keeper < 2 then s.keepers 15 (clusterSearch keeper) else s)
/-- KEEPER_STALE (R381). -/
def execKeeperStale (keeper cell : Nat) (s : State) : Out := .next (if keeper < 2 then s.keepers 15 (keeperStale keeper cell) else s)
/-- KEEPER_CLOCK_CHECK (R374). -/
def execKeeperClockCheck (keeper : Nat) (ppm : Int) (s : State) : Out := .next (if keeper < 2 then s.keepers 3 (keeperClockCheck keeper ppm) else s)
/-- KEEPER_SELFTEST (R374). -/
def execKeeperSelftest (keeper : Nat) (ok : Bool) (s : State) : Out := .next (if keeper < 2 then s.keepers 3 (keeperSelftest keeper ok) else s)
/-- KEEPER_DISAGREE (R376). -/
def execKeeperDisagree (s : State) : Out := .next (s.keepers 3 keeperDisagree)
/-- FSEL_CHANGE (R383). -/
def execFselChange (a b : Nat) (s : State) : Out := .next (s.hwStep (fun hw => if hw.awake 3 then fselChange a b hw else hw.fselLevels a b))
/-- FSEL_DEBOUNCE (R383). -/
def execFselDebounce (s : State) : Out := .next (s.keepers 3 fselDebounce)
/-- FSEL_INVALID_TIMEOUT (R383). -/
def execFselInvalidTimeout (s : State) : Out := .next (s.keepers 3 fselInvalidTimeout)
/-- RESTART_PRESS (R389). -/
def execRestartPress (s : State) : Out :=
  .next (s.hwStep (fun hw => if hw.awake 3 then restartPress hw else { hw with pins := { hw.pins with restart := true } }))
/-- RESTART_RELEASE (R389). -/
def execRestartRelease (skewUs : Nat) (s : State) : Out :=
  .next (s.hwStep (fun hw => if hw.awake 3 then restartRelease skewUs hw else { hw with pins := { hw.pins with restart := false } }))
/-- RESTART_STUCK (R389). -/
def execRestartStuck (s : State) : Out := .next (s.keepers 3 restartStuck)
/-- AUTO_RESTART (R384). -/
def execAutoRestart (pair : Nat) (s : State) : Out := .next (if pair < 2 then s.keepers 15 (autoRestart pair) else s)
/-- EDM_CHECK (R388). -/
def execEdmCheck (pair : Nat) (s : State) : Out := .next (s.keepers 3 (edmCheck pair))
/-- EDM_INPUT_CHANGE (R388). -/
def execEdmInputChange (a b : Bool) (s : State) : Out := .next (s.hwStep (fun hw => if hw.awake 3 then edmInputChange a b hw else hw.edmLevels a b))
/-- READBACK_CHECK (R386). -/
def execReadbackCheck (line : Nat) (s : State) : Out := .next (s.keepers 3 (readbackCheck line))
/-- SAFE_READBACK_CHANGE (R386). -/
def execSafeReadbackChange (lines : Nat) (s : State) : Out :=
  .next (s.hwStep (fun hw => if hw.awake 3 then safeReadbackChange lines hw else { hw with pins := { hw.pins with readback := lines % 16 } }))
/-- TEST_PULSE (R387). -/
def execTestPulse (line : Nat) (lowFollows highFollows : Bool) (s : State) : Out :=
  .next (if line < 4 then s.keepers 3 (testPulse line lowFollows highFollows) else s)
/-- KPR_TIDE_TIMEOUT (R390). -/
def execKprTideTimeout (input : Nat) (s : State) : Out := .next (if input < 32 then s.keepers 12 (kprTideTimeout input) else s)

/-! ### Bell -/

/-- BELL_FRAME_BUILD (R401). -/
def execBellFrameBuild (s : State) : Out := .next (s.keepers 15 bellFrameBuild)
/-- A primary of a cascade routes a CONFIRM with another IDENT to the device that holds it; which one that is stands in the others'
registers and is free, none discards the frame (R408; log entry 189). -/
def Hw.routeConfirm (hw : Hw) (f : List Byte) : Hw :=
  let (n, hw) := hw.draw
  let i := n % 4
  if i ≠ 0 ∧ hw.serves i then hw.handOver i { kind := 4, opcode := 0, tag := 0, seq := 0, status := 0, bytes := f } else hw

/-- CONFIRM_RECEIVE (R405, R408). -/
def execConfirmReceive (bytes : List Byte) (s : State) : Out :=
  .next (s.keepers 15 (fun hw =>
    if hw.inCascade ∧ ¬ hw.isEth ∧ bytes.length = 64 ∧ field bytes 0 4 ≠ hw.reg 0x00890004 then hw.routeConfirm bytes
    else confirmReceive bytes hw))
/-- BELL_CONFIRM_TIMEOUT (R405). -/
def execBellConfirmTimeout (s : State) : Out := .next (s.keepers 15 bellConfirmTimeout)

end Sys2Proof.Machine
end

