-- ==== Sys2Proof/Machine/Device.lean ====
section
/-! DEFINITION. The session, device and mode opcodes (Tables 2.4 and 2.6): 0x00 to 0x07 and 0x20 to 0x26. -/

namespace Sys2Proof.Machine

/-! ### Sessions (R32 to R35) -/

/-- NOP. -/
def execNop (h : Hdr) (s : State) : Out :=
  .next (s.serve (.nop h) h { op := 0x00, role := 0 } [] (fun _ s => (s, ansOk [])))

/-- The heartbeat period in ms that SESSION_OPEN asks for: 0 is 10,000 (R34). -/
def heartbeatOf (ms : Nat) : Option Nat :=
  if ms = 0 then some 10000 else if 100 ≤ ms ∧ ms ≤ 60000 then some ms else none

/-- Whether a session of another transport holds ADMIN or SERVICE (R33). -/
def CmdSt.adminTaken (c : CmdSt) (t : Transport) : Bool :=
  transports.any (fun u => decide (u ≠ t) && (match c.session u with | some x => decide (2 ≤ x.role) | none => false))

/-- SESSION_OPEN (R32 to R35, R458): the existing session of its transport closes first; its SEQUENCE is the new session's first. -/
def execSessionOpen (h : Hdr) (role : U8) (heartbeatMs : U16) (s : State) : Out :=
  .next (s.serve (.sessionOpen h role heartbeatMs) h { op := 0x01, role := 0 } (le 1 role.toNat ++ le 2 heartbeatMs.toNat) (fun c s =>
    let r := role.toNat
    if r = 3 ∧ ¬ s.hw.serviceOpen then (s, ansDenied)
    else if 2 ≤ r ∧ r ≤ 3 ∧ (¬ s.hw.adminPort c.tr ∨ ¬ s.hw.adminOpenOk) then (s, ansDenied)
    else if 2 ≤ r ∧ r ≤ 3 ∧ s.cmd.adminTaken c.tr then (s, ansBusy)
    else if r = 0 ∨ 3 < r then (s, ansBad 16)
    else
      match heartbeatOf heartbeatMs.toNat with
      | none => (s, ansBad 17)
      | some ms =>
        let s := (s.closeSession c.tr).drain
        let (name, hw) := s.hw.draw
        let x : Session :=
          { number := s.cmd.sessNext, name := name % 256, role := r, heartbeat := ms, lastSeq := h.seq.toNat, lastSeen := hw.ticks
            accepted := [{ seq := h.seq.toNat, tag := h.tag.toNat }], peer := h.peer }
        ({ s with hw := hw, cmd := ({ s.cmd with sessNext := s.cmd.sessNext + 1 } : CmdSt).setSession c.tr (some x) },
          ansOk (le 1 (name % 256) ++ le 1 r ++ le 1 8))))

/-- SESSION_CLOSE (R34). -/
def execSessionClose (h : Hdr) (s : State) : Out :=
  .next (s.serve (.sessionClose h) h { op := 0x02 } [] (fun c s => ((s.closeSession c.tr).drain, ansOk [])))

/-- HEARTBEAT: any packet restarts the period (R34). -/
def execHeartbeat (h : Hdr) (s : State) : Out :=
  .next (s.serve (.heartbeat h) h { op := 0x07 } [] (fun _ s => (s, ansOk [])))

/-! ### The device -/

/-- IDENT_GET (R39; the feature word is free, log entry 38). -/
def Hw.identBytes (hw : Hw) : List Byte :=
  le 4 hw.identWord ++ le 4 hw.fwRunning ++ le 4 (Config.features (hw.dev.codeRead.getD 0xF)) ++ le 1 hw.devices
def execIdentGet (h : Hdr) (s : State) : Out :=
  .next (s.serve (.identGet h) h { op := 0x03, role := 0 } [] (fun _ s => (s, ansOk s.hw.identBytes)))

/-- fault_summary (R73). -/
def Hw.faultSummary (hw : Hw) : Nat :=
  if hw.dev.mode = .boot then hw.devView 0x0C else maskOf ((List.range 5).filter (fun c => hw.classRaised c))

/-- STATUS_GET (R73, R412). -/
def execStatusGet (h : Hdr) (s : State) : Out :=
  .next (s.serve (.statusGet h) h { op := 0x04, role := 0 } [] (fun _ s =>
    (s, ansOk (le 1 s.hw.dev.mode.code ++ le 1 s.hw.wch.active ++ le 1 s.hw.wch.epoch ++ le 4 s.hw.faultSummary ++ le 8 s.hw.clk.time.toNat))))

/-- TIME_GET (R136). -/
def execTimeGet (h : Hdr) (s : State) : Out :=
  .next (s.serve (.timeGet h) h { op := 0x05 } [] (fun _ s => (s, ansOk (le 8 s.hw.clk.time.toNat ++ le 1 (b2n s.hw.clk.locked)))))

/-- RESET_SOFT (R55, R57, R63, R77): DORMANT cannot be reached from a halted BOOT. -/
def execResetSoft (h : Hdr) (target : U8) (s : State) : Out :=
  .next (s.serve (.resetSoft h target) h
    { op := 0x06, role := 2, modes := [.config, .scan, .service], writes := [srcDev], wide := true, alone := true } (le 1 target.toNat) (fun _ s =>
    if 1 < target.toNat then (s, ansBad 16)
    else if target = 1 ∧ s.hw.dev.mode = .boot then (s, s.hw.ansMode)
    else ((s.hwStep (fun hw => if target = 0 then hw.restart 2 else hw.sleepByReset)), ansOk [])))

/-! ### The mode (R57 to R64) -/

/-- MODE_GET. -/
def execModeGet (h : Hdr) (s : State) : Out :=
  .next (s.serve (.modeGet h) h { op := 0x20 } [] (fun _ s =>
    (s, ansOk (le 1 s.hw.dev.mode.code ++ le 1 (match s.hw.dev.target with | some m => m.code | none => 0xFF)))))

/-- The modes from which MODE_SET may name a target (Table 3.3, R57); a mode that MODE_SET never enters and a value that is no mode are
judged by its meaning. -/
def modeSetFrom : Nat → List Mode
  | 2 => [.config, .scan, .service]
  | 3 => [.config, .scan]
  | 5 => [.config, .service]
  | _ => [.config, .scan, .service]

/-- A transition begins: one stepped operation that holds every block; a scheduled transition is cancelled, an
automatic calibration yields (R62, R63, R366). -/
def State.beginMode (s : State) (c : Caller) (m : Mode) : State × Ans :=
  let s : State := ({ s with hw := { s.hw with dev := { s.hw.dev with target := some m, sched := none } } } : State).endAuto
  s.begin c { stepOp 0x21 [] [m.code] with holdAll := true }

/-- MODE_SET (R57, R58, R63): a mode that no MODE_SET enters is MODE_CONFLICT, GUARD where it is fused off NOT_FITTED (R2), a value that is no
mode BAD_PARAM. -/
def execModeSet (h : Hdr) (target : U8) (s : State) : Out :=
  .next (s.serve (.modeSet h target) h
    { op := 0x21, role := if target = 5 then 3 else 2, modes := modeSetFrom target.toNat, writes := [0xFF], wide := true, alone := true
      fused := decide (target = 4) }
    (le 1 target.toNat) (fun c s =>
    match Mode.ofCode target.toNat with
    | some m =>
      if m = s.hw.dev.mode then (s, ansOk [])
      else if ¬ [Mode.config, .scan, .service].contains m then (s, s.hw.ansMode)
      else if 4 ≤ s.cmd.liveOps then (s, ansBusy)
      else s.beginMode c m
    | none => (s, ansBad 16)))

/-- GUARD_ARM (R60, R391): the conditions of Table 3.4 but the token's, then its own, then a token valid for 1 s; not while DEBUG
access stands open after having been opened (R457). -/
def execGuardArm (h : Hdr) (set : U8) (mapCrc : U32) (s : State) : Out :=
  .next (s.serve (.guardArm h set mapCrc) h { op := 0x22, role := 2, modes := [.config], wide := true } (le 1 set.toNat ++ le 4 mapCrc.toNat)
    (fun _ s =>
    if 7 < set.toNat then (s, ansBad 16)
    else if s.hw.sec.scopeD.isSome then (s, ansPre 0x0B01)
    else
      let (hw, crcOk) := s.hw.mapCrcOk mapCrc.toNat
      let s : State := { s with hw := hw }
      match hw.preGuard crcOk true with
      | some code => (s, ansPre code)
      | none =>
        match hw.preArm set.toNat with
        | some code => (s, ansPre code)
        | none =>
          let (n, hw) := hw.draw
          let token := n % 2 ^ 32
          ({ s with hw := { hw with kpr := { hw.kpr with arm := some (token, set.toNat, hw.ticks) } } }, ansOk (le 4 token))))

/-- Whether a token is the one last issued and less than 1 s old (0x0011). -/
def Hw.tokenOk (hw : Hw) (token : Nat) : Bool :=
  match hw.kpr.arm with
  | some (t, _, at') => decide (t = token ∧ hw.ticks < at' + 800000000)
  | none => false

/-- What the other devices of a cascade find when they check Table 3.4 (R275): nothing, or a code and the device that names it. -/
def Hw.othersFail (hw : Hw) : Hw × Option (Nat × Nat) :=
  if ¬ hw.inCascade then (hw, none)
  else
    let (n, hw) := hw.draw
    let (i, hw) := hw.draw
    if n % 2 = 0 then (hw, none)
    else
      let codes := [0x0001, 0x0002, 0x0003, 0x0004, 0x0005, 0x0006, 0x0010, 0x0011, 0x0012, 0x0013, 0x0014]
      (hw, some (codes.getD (n / 2 % 11) 0x0001, hw.secondaries.getD (i % 3) (hw.secondaries.headD 1)))

/-- GUARD_ENTER (R58, R60): in a cascade every device enters at the announced tick (R275; log entry 67). -/
def execGuardEnter (h : Hdr) (token mapCrc : U32) (s : State) : Out :=
  .next (s.serve (.guardEnter h token mapCrc) h
    { op := 0x23, role := 2, modes := [.config], writes := [0xFF], wide := true, alone := true } (le 4 token.toNat ++ le 4 mapCrc.toNat) (fun _ s =>
    let (hw, crcOk) := s.hw.mapCrcOk mapCrc.toNat
    let s : State := { s with hw := hw }
    match hw.preGuard crcOk (hw.tokenOk token.toNat) with
    | some code => (s, ansPre code)
    | none =>
      let (hw, bad) := hw.othersFail
      match bad with
      | some (code, i) => (({ s with hw := hw.event srcCas 0xE002 (le 1 i) } : State).drain, ansPre code)
      | none =>
        let s : State := { s with hw := hw }
        (s.hwStep (fun hw => if hw.inCascade then hw.announceMode .guard else hw.enterGuard), ansOk [])))

/-- SLEEP (R70): its reply goes out before the entry. -/
def execSleep (h : Hdr) (wakeMask : U8) (s : State) : Out :=
  .next (s.serve (.sleep h wakeMask) h
    { op := 0x24, role := 2, modes := [.config], writes := [0xFF], wide := true, alone := true } (le 1 wakeMask.toNat) (fun _ s =>
    if wakeMask = 0 ∨ 4 ≤ wakeMask.toNat then (s, ansBad 16)
    else
      (s.hwStep (fun hw =>
        if hw.inCascade then
          let hw := hw.copyCommand 0x24 h (le 1 wakeMask.toNat)
          ({ hw with dev := { hw.dev with wakeMask := wakeMask.toNat } } : Hw).announceMode .dormant
        else hw.sleep wakeMask.toNat), ansOk [])))

/-- MODE_SET_AT (R62): Table 3.4 is checked now and again at the tick. -/
def execModeSetAt (h : Hdr) (target : U8) (time : U64) (s : State) : Out :=
  .next (s.serve (.modeSetAt h target time) h
    { op := 0x25, role := 2, modes := [.config, .scan], writes := [srcDev], wide := true } (le 1 target.toNat ++ le 8 time.toNat) (fun _ s =>
    let now := s.hw.clk.time.toNat
    match Mode.ofCode target.toNat with
    | none => (s, ansBad 16)
    | some m =>
      if ¬ ((s.hw.dev.mode = .config ∧ m = .scan) ∨ (s.hw.dev.mode = .scan ∧ m = .config)) then (s, s.hw.ansMode)
      else if time.toNat < now + 800000 ∨ now + 48000000000 < time.toNat then (s, ansBad 17)
      else
        match (if m = .scan then s.hw.preScan else none) with
        | some code => (s, ansPre code)
        | none => ({ s with hw := { s.hw with dev := { s.hw.dev with sched := some (m, time) } } }, ansOk [])))

/-- MODE_HISTORY (R57). -/
def ModeEntry.bytes (e : ModeEntry) : List Byte := le 8 e.time.toNat ++ le 1 e.src.code ++ le 1 e.dst.code ++ le 2 e.cause
def execModeHistory (h : Hdr) (s : State) : Out :=
  .next (s.serve (.modeHistory h) h { op := 0x26 } [] (fun _ s =>
    let l := s.hw.dev.history.flatMap ModeEntry.bytes
    (s, ansOk (l ++ List.replicate (192 - l.length) 0))))

/-! ### Events of power and mode -/

/-- MODE_SET_AT_TICK (R62). -/
def execModeSetAtTick (s : State) : Out := .next (s.clocked 15 modeSetAtTick)
/-- CASCADE_MODE_TICK (R275). -/
def execCascadeModeTick (s : State) : Out := .next (s.clocked 15 cascadeModeTick)
/-- POWER_UP (R55, R69). -/
def execPowerUp (s : State) : Out := .next (s.hwStep powerUp)
/-- RESET_N_LOW (R67). -/
def execResetNLow (lowNs : Nat) (s : State) : Out := .next (s.hwStep (resetNLow lowNs))
/-- RESET_N_RISE (R67). -/
def execResetNRise (straps : Nat) (s : State) : Out := .next (s.hwStep (resetNRise straps))
/-- CORE_SUPPLY_FAULT (R66). -/
def execCoreSupplyFault (outsideUs : Nat) (s : State) : Out := .next (s.hwStep (coreSupplyFault outsideUs))
/-- WAKE_EDGE (R70). -/
def execWakeEdge (highNs : Nat) (s : State) : Out := .next (s.hwStep (wakeEdge highNs))
/-- LANE0_WAKE_ACTIVITY (R70). -/
def execLane0WakeActivity (activeUs swingMv : Nat) (s : State) : Out := .next (s.hwStep (lane0Wake activeUs swingMv))
/-- BOOT_STEP_COMPLETE (R74 to R76). -/
def execBootStepComplete (obs : BootObs) (s : State) : Out := .next (s.hwStep (bootComplete obs))
/-- BOOT_STEP_TIMEOUT (R74 to R76). -/
def execBootStepTimeout (obs : BootObs) (s : State) : Out := .next (s.hwStep (bootTimeout obs))
/-- TEMP_CONVERSION (R66, R322). -/
def execTempConversion (sensors thermistors : List Int) (s : State) : Out := .next (s.hwStep (tempConversion sensors thermistors))

end Sys2Proof.Machine
end

