-- ==== Sys2Proof/Machine/Links.lean ====
section
/-! DEFINITION. Output, lanes and cascade: opcodes 0x80 to 0x87 (Table 2.12) and the rows of OUT, LNK, the network and CAS. -/

namespace Sys2Proof.Machine

/-! ### Output (R228, R235, R237) -/

/-- The options of STREAM_CONFIG that OUT_CTL has, at the same positions (R237). -/
def streamOpts : Nat := 0x03FF0113

/-- The lowest byte of a word that is not 0. -/
def firstByte (x : Nat) : Nat := ((List.range 4).find? (fun i => decide (bits x (8 * i) 8 ≠ 0))).getD 0

/-- STREAM_CONFIG (R233, R237): FLUSH clamped; an Ethernet session's address and port are where streams go while OUT_DEST_IP or
OUT_DEST_PORT is 0. -/
def execStreamConfig (h : Hdr) (returns : U8) (options : U32) (s : State) : Out :=
  .next (s.serve (.streamConfig h returns options) h { op := 0x80, role := 2, modes := [.config], writes := [srcOut], wide := true }
    (le 1 returns.toNat ++ le 4 options.toNat) (fun c s =>
    let o := options.toNat
    let bad := o &&& (0xFFFFFFFF ^^^ streamOpts)
    if returns.toNat < 1 ∨ 3 < returns.toNat then (s, ansBad 16)
    else if bad ≠ 0 then (s, ansBad (17 + firstByte bad))
    else
      let v := clampWrite 0x00600000 ((o &&& streamOpts) + returns.toNat * 2 ^ 12)
      let hw := s.hw.setReg 0x00600000 v
      let src := if c.tr = .eth then ((s.cmd.session .eth).map (·.peer)).getD {} else hw.out.streamSrc
      ({ s with hw := { hw with out := { hw.out with streamSrc := src } } }, ansOk [])))

/-- The placement that EXPORT_SELECT judges under: the one in force, in CONFIG the first of the activated plan (R228). -/
def Hw.exportPlacement (hw : Hw) : Option Placement :=
  if hw.dev.mode = .config then
    match hw.tnd.nextPlan with
    | none => none
    | some _ => (hw.computePlacement true).2
  else hw.tnd.active

/-- Whether EXPORT_SELECT takes a channel: one of the cascade on the primary, one of its own on a secondary (R228, R273). -/
def Hw.exportable (hw : Hw) (k : Nat) : Bool :=
  if hw.isSecondary then decide (k / 768 = hw.cas.index) else decide (k < 768 * hw.devices)

/-- EXPORT_SELECT (R228). -/
def execExportSelect (h : Hdr) (channels : List U16) (s : State) : Out :=
  .next (s.serve (.exportSelect h channels) h { op := 0x81, role := 2, modes := [.config, .scan], writes := [srcOut], wide := true }
    (le 2 channels.length ++ channels.flatMap (fun k => le 2 k.toNat)) (fun _ s =>
    if 256 < channels.length then (s, ansBad 16)
    else
      match (List.range channels.length).find? (fun i => !s.hw.exportable (channels.getD i 0).toNat) with
      | some i => (s, ansBad (18 + 2 * i))
      | none =>
        match s.hw.exportPlacement with
        | none => (s, ansPre 0x0001)
        | some p =>
          let (hw, n) := s.hw.selectExports p (channels.map (·.toNat))
          ({ s with hw := hw }, ansOk (le 2 n))))

/-- NET_CONFIG (R235); ptp 0 ends what the PTP function had found, ptp other than 2 its lock, and PPS_TERM is 0 again with PPS_MODE at MEASURE. -/
def execNetConfig (h : Hdr) (address netmask gateway : U32) (pointPort adminPort : U16) (ptp : U8) (s : State) : Out :=
  .next (s.serve (.netConfig h address netmask gateway pointPort adminPort ptp) h
    { op := 0x86, role := 2, modes := [.config], writes := [srcOut, srcLnk], wide := true }
    (le 4 address.toNat ++ le 4 netmask.toNat ++ le 4 gateway.toNat ++ le 2 pointPort.toNat ++ le 2 adminPort.toNat ++ le 1 ptp.toNat) (fun _ s =>
    let n := ptp.toNat
    if 2 < n ∨ (n = 2 ∧ bits (s.hw.reg 0x00040000) 0 2 = 2) then (s, ansBad 32)
    else
      let hw := s.hw.setReg 0x00680008 adminPort.toNat
      let o := { hw.out with
        netAddr := address.toNat, netMask := netmask.toNat, netGate := gateway.toNat, pointPort := pointPort.toNat, ptp := n }
      let o := if n = 0 then { o with ptpSeen := false } else o
      let o := if n = 2 then o else { o with ptpLocked := false, ptpRun := 0, ptpLost := none }
      let term := if n ≠ 2 ∧ hw.out.ptp = 2 ∧ hw.ppsMode = 1 then 0 else hw.clk.term
      ({ s with hw := { hw with out := o, clk := { hw.clk with term := term } } }, ansOk [])))

/-! ### Lanes (R249, R253, R262, R265) -/

/-- The offending parameters of LANE_CONFIG (R265, Table 11.11): offsets in the packet, the lowest first. -/
def badProfile (lanes pers rate fec deg : Nat) : Option Nat :=
  let eth := decide (pers = 1)
  let rateOk := if eth then decide (rate = 4 ∨ rate = 5) else decide (rate ≤ 2)
  let fecBad := decide (1 < fec) || (rateOk && ((!eth && decide (rate = 2 ∧ fec = 1)) || (eth && decide (rate = 4 ∧ fec = 1))))
  ([ (16, eth && decide (16 ≤ lanes)), (17, decide (1 < pers)), (18, decide (pers ≤ 1) && !rateOk), (19, fecBad), (20, decide (1 < deg)) ].find?
    (fun e => e.2)).map (·.1)

/-- LANE_CONFIG: the profile goes to the Pantry for the next start, DEGRADE at once too. -/
def execLaneConfig (h : Hdr) (lanes personality rate fec degrade : U8) (s : State) : Out :=
  .next (s.serve (.laneConfig h lanes personality rate fec degrade) h { op := 0x82, role := 2, modes := [.config], writes := [srcLnk] }
    (le 1 lanes.toNat ++ le 1 personality.toNat ++ le 1 rate.toNat ++ le 1 fec.toNat ++ le 1 degrade.toNat) (fun _ s =>
    match badProfile lanes.toNat personality.toNat rate.toNat fec.toNat degrade.toNat with
    | some o => (s, ansBad o)
    | none =>
      let w := degrade.toNat * 2 ^ 24 + fec.toNat * 2 ^ 16 + personality.toNat * 2 ^ 12 + rate.toNat * 2 ^ 8 + lanes.toNat
      let hw := { s.hw with
        pantry := { s.hw.pantry with lnkProfile := some w }, lnk := { s.hw.lnk with cfg := putBit s.hw.lnk.cfg 24 (decide (degrade = 1)) } }
      (({ s with hw := hw.pantryWrite 1 } : State).drain, ansOk [])))

/-- LANE_STATUS: bad codewords are reported without clearing (Table 11.10). -/
def Hw.laneBytes (hw : Hw) : List Byte :=
  (List.range 8).flatMap (fun l =>
    let x := hw.lane l
    le 1 x.state.code ++ le 1 x.rate ++ le 2 (min 0xFFFF x.margin) ++ le 4 (hw.reg (0x006800A0 + 4 * l)))
def execLaneStatus (h : Hdr) (s : State) : Out :=
  .next (s.serve (.laneStatus h) h { op := 0x83 } [] (fun _ s => (s, ansOk s.hw.laneBytes)))

/-- The enabled lanes of 0 to 3 below a rate (R253). -/
def Hw.lanesBelow (hw : Hw) (rate : Nat) : List Nat := (List.range 4).filter (fun l => hw.laneOn l && decide ((hw.lane l).rate < rate))

/-- LANE_STEP_UP (R253; to code 2 never under DETECT, R240, log entry 172): the operation keeps the target and the rates of lanes 0 to 3 at acceptance. -/
def execLaneStepUp (h : Hdr) (rate : U8) (s : State) : Out :=
  .next (s.serve (.laneStepUp h rate) h { op := 0x84, role := 2, modes := [.config], writes := [srcLnk], stepped := true } (le 1 rate.toNat)
    (fun c s =>
    if s.hw.isEth then (s, s.hw.ansMode)
    else if 2 < rate.toNat ∨ (s.hw.lanesBelow rate.toNat).isEmpty ∨ (rate.toNat = 2 ∧ s.hw.fecDetect) then (s, ansBad 16)
    else s.begin c (stepOp 0x84 [srcLnk] (rate.toNat :: (List.range 4).map (fun l => (s.hw.lane l).rate)))))

/-- Whether a LANE_TEST code is undefined, a Q pattern at an NRZ rate, or a PRBS at code 2 (R262, Table 11.8). -/
def badTest (test rate : Nat) : Bool :=
  let p := test % 16
  decide (3 < test / 16) || (decide (test / 16 ≠ 3) && (decide (8 < p) || decide (5 ≤ p ∧ p ≤ 7 ∧ rate ≠ 2) || decide (p ≤ 4 ∧ rate = 2)))

/-- Whether a lane is the last one that carries a session of the lanes. -/
def Hw.lastLane (hw : Hw) (t : Transport) (l : Nat) : Bool :=
  decide (t ≠ .spi) && decide (l < 4) && hw.laneUp l && !(List.range 4).any (fun m => decide (m ≠ l) && hw.laneUp m)

/-- LANE_TEST (R262). -/
def execLaneTest (h : Hdr) (lane test : U8) (durationMs : U32) (s : State) : Out :=
  .next (s.serve (.laneTest h lane test durationMs) h { op := 0x85, role := 3, modes := [.service], writes := [srcLnk], stepped := true }
    (le 1 lane.toNat ++ le 1 test.toNat ++ le 4 durationMs.toNat) (fun c s =>
    let l := lane.toNat
    let ms := durationMs.toNat
    let port := s.hw.isEth && decide (l < 4)
    if 7 < l then (s, ansBad 16)
    else if badTest test.toNat (if port then 0 else (s.hw.lane l).rate) then (s, ansBad 17)
    else if ms < 1 ∨ 3600000 < ms then (s, ansBad 18)
    else if (if port then !s.hw.laneOn l else decide ((s.hw.lane l).state = .anchored)) then (s, ansPre 0x0200)
    else if s.hw.lastLane c.tr l then (s, ansPre 0x0201)
    else if tb s.hw.streamMask l ∧ ¬ s.hw.degrade then (s, ansPre 0x0202)
    else
      let (s, a) := s.begin c (stepOp 0x85 [srcLnk] [l])
      (s.hwStep (fun hw => hw.startTest l test.toNat ms), a)))

/-! ### The cascade (R272) -/

/-- One entry of CASCADE_STATUS: presence, mode, link and fault summary of its own device; presence, link and time offset of a secondary, the
mode that the primary's transitions have brought it to (R275); its fault summary, and all else that this device cannot know, is free
(log entry 77). -/
def Hw.cascadeEntry (hw : Hw) (i : Nat) : Hw × List Byte :=
  let (r, hw) := Hw.random 2 hw
  let byte := fun k => r.drop k |>.take 1
  let up := fun l => le 1 (b2n (decide ((hw.lane l).state = .active)))
  if i = hw.cas.index then
    (hw, le 1 1 ++ le 1 hw.dev.mode.code ++ (if i = 0 then byte 2 else up 4) ++ le 1 hw.faultSummary ++ (if i = 0 then leInt 4 0 else r.drop 4))
  else if hw.isSecondary then (hw, r)
  else if hw.serves i then (hw, le 1 1 ++ le 1 hw.dev.mode.code ++ up (3 + i) ++ byte 3 ++ leInt 4 (hw.secd i).drift)
  else if hw.cas.found then (hw, le 1 0 ++ byte 1 ++ up (3 + i) ++ r.drop 3)
  else (hw, le 1 0 ++ r.drop 1)

/-- CASCADE_STATUS. -/
def execCascadeStatus (h : Hdr) (s : State) : Out :=
  .next (s.serve (.cascadeStatus h) h { op := 0x87 } [] (fun _ s =>
    let (hw, data) := (List.range 4).foldl (fun (e : Hw × List Byte) i =>
      let (hw, b) := e.1.cascadeEntry i
      (hw, e.2 ++ b)) (s.hw, [])
    ({ s with hw := hw }, ansOk data)))

/-! ### OUT -/

/-- POINT_PACKET_FLUSH (R217). -/
def execPointPacketFlush (sub : Nat) (s : State) : Out := .next (if sub < 4 then s.clocked 15 (pointPacketFlush sub) else s)
/-- FRAME_PACKET_SEND (R225). -/
def execFramePacketSend (s : State) : Out := .next (s.clocked 15 framePacketSend)

/-! ### Vymon Link -/

/-- LP_RECEIVE (R245): what the packet carries of a command or CONFIRM comes with its own row. -/
def execLpReceive (lane : Nat) (lp : LinkPacket) (s : State) : Out := .next (s.clocked 10 (lpReceive lane lp))
/-- CODEWORD_RECEIVE (R240). -/
def execCodewordReceive (lane symbolErrors : Nat) (s : State) : Out := .next (s.clocked 10 (codewordReceive lane symbolErrors))
/-- LINK_BLOCK_RECEIVE (R245). -/
def execLinkBlockReceive (lane payload : Nat) (s : State) : Out := .next (s.clocked 10 (linkBlockReceive lane payload))
/-- LINK_BLOCK_MISSED (R257). -/
def execLinkBlockMissed (lane : Nat) (s : State) : Out := .next (s.clocked 10 (linkBlockMissed lane))
/-- ACK_TIMEOUT (R246). -/
def execAckTimeout (lane : Nat) (s : State) : Out := .next (s.clocked 10 (ackTimeoutAt lane))
/-- SUPERFRAME_LOCK (R243). -/
def execSuperframeLock (lane : Nat) (s : State) : Out := .next (s.clocked 10 (superframeLock lane))
/-- LANE_READY (R249). -/
def execLaneReady (lane : Nat) (obs : ReadyObs) (s : State) : Out :=
  .next (s.clocked 10 (laneReady lane obs.farArg obs.margin obs.tap obs.cursor))
/-- ALIGN_COMPLETE (R249). -/
def execAlignComplete (lane : Nat) (s : State) : Out := .next (s.clocked 10 (alignComplete lane))
/-- BRINGUP_TIMEOUT (R250). -/
def execBringupTimeout (lane : Nat) (s : State) : Out := .next (s.clocked 10 (bringupTimeout lane))
/-- STEP_OFFER (R251). -/
def execStepOffer (lane rates sfc : Nat) (s : State) : Out := .next (s.clocked 10 (stepOffer lane rates sfc))
/-- STEP_ACCEPT (R251): both sides change at the offer's count plus 16, each by its own, so the far count of this block plays no
part. -/
def execStepAccept (lane code _sfc : Nat) (s : State) : Out := .next (s.clocked 10 (stepAccept lane code))
/-- RATE_CHANGE (R251). -/
def execRateChange (lane : Nat) (s : State) : Out := .next (s.clocked 10 (rateChange lane))
/-- STEP_TIMEOUT (R251). -/
def execStepTimeout (lane : Nat) (s : State) : Out := .next (s.clocked 10 (stepTimeout lane))
/-- LANE_RETRAIN_TIMEOUT (R258). -/
def execLaneRetrainTimeout (lane : Nat) (s : State) : Out := .next (s.clocked 10 (laneRetrainTimeout lane))
/-- MARGIN_LOW (R256). -/
def execMarginLow (lane margin : Nat) (s : State) : Out := .next (s.clocked 10 (marginLowAt lane margin))
/-- RETRAIN (R256). -/
def execRetrain (lane : Nat) (s : State) : Out := .next (s.clocked 10 (retrain lane))
/-- PAUSE_TIMEOUT (R248). -/
def execPauseTimeout (lane vc : Nat) (s : State) : Out := .next (s.clocked 10 (pauseTimeout lane vc))
/-- LANE_TEST_END (R262). -/
def execLaneTestEnd (lane bits errors : Nat) (s : State) : Out := .next (s.clocked 10 (laneTestEnd lane bits errors))
/-- LNK_INJECT_GO (R263): LNK_INJECT written with GO. -/
def execLnkInjectGo (value : Word) (s : State) : Out := .next (s.hwStep (fun hw => hw.writeReg false 0x00680114 (putBit value.toNat 31 true)))

/-! ### The network -/

/-- ETH_LOCK_LOSS (R257). -/
def execEthLockLoss (port : Nat) (s : State) : Out := .next (s.clocked 10 (ethLockLoss port))
/-- PCS_BLOCK_LOCK (R257). -/
def execPcsBlockLock (port : Nat) (s : State) : Out := .next (s.clocked 10 (pcsBlockLock port))
/-- ARP_REQUEST (R234). -/
def execArpRequest (ask : ArpAsk) (s : State) : Out := .next (s.clocked 10 (arpRequest ask.ip ask.sender ask.mac))
/-- ARP_RETRY (R234). -/
def execArpRetry (ip : U32) (s : State) : Out := .next (s.clocked 10 (arpRetry ip))
/-- ARP_REPLY (R234). -/
def execArpReply (ip : U32) (mac : Nat) (s : State) : Out := .next (s.clocked 10 (arpReply ip mac))
/-- ARP_CACHE_EXPIRY (R234). -/
def execArpCacheExpiry (ip : U32) (s : State) : Out := .next (s.clocked 10 (arpExpiry ip))
/-- DEST_UNRESOLVED_TIMEOUT (R234). -/
def execDestUnresolvedTimeout (ip : U32) (s : State) : Out := .next (s.clocked 10 (destUnresolved ip))
/-- ICMP_ECHO (R234). -/
def execIcmpEcho (src : U32) (bytes : List Byte) (s : State) : Out := .next (s.clocked 10 (icmpEcho src bytes))
/-- PTP_MESSAGE (R235): the rate of an exchange follows from its offsets, which alone the term of R139 takes. -/
def execPtpMessage (kind : Nat) (offsetNs _rate : Int) (s : State) : Out := .next (s.clocked 10 (ptpMessage kind offsetNs))
/-- PTP_LOCK_LOST (R235). -/
def execPtpLockLost (s : State) : Out := .next (s.clocked 10 ptpLockLost)

/-! ### CAS_TIME and the cascade's packets -/

/-- DISCOVERY_PACKET (R269): admission compares index, identity and firmware, the feature word follows the identity. -/
def execDiscoveryPacket (lane index : Nat) (ident fw _features : U32) (s : State) : Out := .next (s.clocked 11 (discoveryPacket lane index ident fw))
/-- CAS_TIME_SEND (R270). -/
def execCasTimeSend (s : State) : Out := .next (s.clocked 6 casTimeSend)
/-- CAS_TIME_FRAME (R271). -/
def execCasTimeFrame (time : U64) (crcOk : Bool) (s : State) : Out := .next (s.clocked 6 (casTimeFrame time crcOk))
/-- CAS_ANGLE_FRAME (R274). -/
def execCasAngleFrame (axis : Nat) (angle rate : Int) (time : U64) (s : State) : Out :=
  .next (s.clocked 6 (casAngleFrame axis angle rate time.toNat))
/-- CAS_FRAME_FRAME (R274). -/
def execCasFrameFrame (frame : U32) (time : U64) (s : State) : Out := .next (s.clocked 6 (casFrameFrame frame time))
/-- CAS_MODE_FRAME (R275). -/
def execCasModeFrame (mode : Nat) (time : U64) (s : State) : Out := .next (s.clocked 6 (casModeFrame mode time))
/-- CAS_INHIBIT_FRAME (R275): the source decides, the code tells the fault. -/
def execCasInhibitFrame (source : Nat) (_code : U16) (s : State) : Out := .next (s.clocked 6 (casInhibitFrame source))
/-- CAS_ECHO_FRAME (R272). -/
def execCasEchoFrame (index : Nat) (s : State) : Out := .next (s.clocked 6 (casEchoFrame index))
/-- ECHO_MEASURE (R272). -/
def execEchoMeasure (index : Nat) (roundTrip : Option Nat) (s : State) : Out := .next (s.clocked 11 (echoMeasure index roundTrip))
/-- CAS_TIME_SILENCE (R271). -/
def execCasTimeSilence (s : State) : Out := .next (s.clocked 6 casTimeSilence)
/-- The command with a secondary that a reply of device `i` answers (R37). -/
def Away.answeredBy (e : Away) (i : Nat) (p : CasPacket) : Bool :=
  decide (e.dev = i ∧ e.seq = p.seq.toNat ∧ e.tag = p.tag.toNat ∧ e.op = p.opcode.toNat)

/-- The packet of a secondary as the host receives it (Table 2.2). -/
def forwardedReply (i : Nat) (p : CasPacket) (e : Away) : Packet :=
  { opcode := p.opcode.toNat, tag := e.tag, source := 0x10 + i, role := e.role, seq := e.seq, status := p.status.toNat, subaddr := i, payload := p.bytes
    peer := e.peer }

/-- A secondary's reply goes out on the transport that carried its command, and stands in the session's cache; one that no command waits for is
dropped (R26, R35, R37). -/
def CmdSt.replyFrom (c : CmdSt) (i : Nat) (p : CasPacket) : CmdSt :=
  let own := transports.findSome? (fun t =>
    (c.session t).bind (fun x => (x.away.find? (fun e => e.answeredBy i p)).map (fun e => (t, x, e))))
  match own with
  | some (t, x, e) =>
    let x := { x with
      away := x.away.erase e
      remote := if p.status = 1 then x.remote ++ [(i, field p.bytes 0 4)] else x.remote }
    (c.setSession t (some x)).answer t (forwardedReply i p e)
  | none =>
    match c.strays.find? (fun e => e.2.answeredBy i p) with
    | some (t, e) => ({ c with strays := c.strays.erase (t, e) } : CmdSt).push t (forwardedReply i p e)
    | none => c

/-- An event packet of a secondary goes to the sessions with their own counts: records by the subscription, the progress and the end of an
operation to the session that started it, losses to all (R35, R52). -/
def CmdSt.eventFrom (c : CmdSt) (i : Nat) (p : CasPacket) : CmdSt :=
  let op := p.opcode.toNat
  let tok := field p.bytes 0 4
  if op = 0xE0 ∨ op = 0xE1 then
    (recordsOf p.bytes).foldl (fun (c : CmdSt) r => transports.foldl (CmdSt.deliver i r) c) c
  else
    transports.foldl (fun (c : CmdSt) t =>
      match c.session t with
      | none => c
      | some x =>
        let mine := x.remote.contains (i, tok)
        if op = 0xE2 then (if mine then c.ordinaryEvent t x i op srcCmd p.bytes else c)
        else if op = 0xE3 then
          (if mine then c.sendEvent t { x with remote := x.remote.erase (i, tok) } i op p.bytes true else c)
        else if op = 0xE4 then c.ordinaryEvent t x i op srcEvt p.bytes
        else c) c

/-- CASCADE_FORWARD: a packet of a secondary reaches the primary. A reply goes to the host that asked, an event packet to the sessions; a STOP
fault among its records acts on the whole cascade (R37, R275, R278). -/
def State.cascadeForward (i : Nat) (p : CasPacket) (s : State) : State :=
  if s.hw.isSecondary ∨ ¬ s.hw.serves i then s
  else if 1 ≤ p.kind ∧ p.kind ≤ 4 then s.hwStep (cascadeStream i p)
  else if p.opcode.toNat < 0xE0 then { s with hw := s.hw.countForward i, cmd := s.cmd.replyFrom i p }
  else
    ({ s with cmd := s.cmd.eventFrom i p } : State).hwStep (fun hw =>
      (hw.countForward i).stopOf i (if p.opcode.toNat < 0xE2 then recordsOf p.bytes else []))
def execCascadeForward (index : Nat) (packet : CasPacket) (s : State) : Out := .next (s.cascadeForward index packet)
/-- SECONDARY_ABSENT (R279). -/
def execSecondaryAbsent (index : Nat) (s : State) : Out := .next (s.clocked 11 (secondaryAbsent index))

end Sys2Proof.Machine
end

