-- ==== Sys2Proof/Machine/Ranging.lean ====
section
/-! DEFINITION. The scan plan and the emission path: opcodes 0x30 to 0x37 and 0x40 to 0x47 (Tables 2.7 and 2.8), and the rows of
Beacon, Lantern, Tender, the SPAD array, the tiles and DET. -/

namespace Sys2Proof.Machine

/-! ### Scan plan and Tender (Table 2.7) -/

/-- PLAN_LOAD: chunked (R47, R192). -/
def execPlanLoad (h : Hdr) (ck : Chunk) (slot : U8) (data : List Byte) (s : State) : Out :=
  .next (s.serve (.planLoad h ck slot data) h { op := 0x30, role := 2, modes := [.config, .scan], wide := true }
    (le 4 ck.token.toNat ++ le 4 ck.offset.toNat ++ le 4 ck.total.toNat ++ le 1 slot.toNat ++ data) (fun c s =>
    s.upload c 0x30 [srcTnd] ck (le 1 slot.toNat) data (if 3 < slot.toNat then some (ansBad 28) else none)))

/-- PLAN_ACTIVATE (R201, R203, R209). -/
def execPlanActivate (h : Hdr) (slot : U8) (s : State) : Out :=
  .next (s.serve (.planActivate h slot) h
    { op := 0x31, role := 2, modes := [.config, .scan], writes := [srcTnd], wide := true } (le 1 slot.toNat) (fun _ s =>
    if 3 < slot.toNat then (s, ansBad 16)
    else
      let stored := mget [] s.hw.tnd.slots slot.toNat
      let (v, _, _) := s.hw.planVerdict stored
      if v ≠ 0 then (s, ansPre (0x0100 + v))
      else
        let t := s.hw.tnd
        ({ s with hw := { s.hw with tnd := { t with nextPlan := some (planInForce stored), nextSlot := slot.toNat, faultFrozen := false } } },
          ansOk (le 1 (s.hw.planEpoch (planInForce stored) slot.toNat)))))

/-- PLAN_GET. -/
def execPlanGet (h : Hdr) (slot : U8) (offset : U32) (s : State) : Out :=
  .next (s.serve (.planGet h slot offset) h { op := 0x32 } (le 1 slot.toNat ++ le 4 offset.toNat) (fun c s =>
    let stored := mget [] s.hw.tnd.slots slot.toNat
    if 3 < slot.toNat then (s, ansBad 16)
    else if stored.length < offset.toNat then (s, ansBad 17)
    else (s, ansOk ((stored.drop offset.toNat).take (payloadLimit c.tr)))))

/-- The epoch in force. -/
def TndSt.inForce (t : TndSt) : Nat := match t.active with | some p => p.epoch | none => t.epoch

/-- ADAPT_FREEZE (R206, R209). -/
def execAdaptFreeze (h : Hdr) (freeze : U8) (s : State) : Out :=
  .next (s.serve (.adaptFreeze h freeze) h
    { op := 0x33, role := 2, modes := [.config, .scan, .guard], writes := [srcTnd], wide := true } (le 1 freeze.toNat) (fun _ s =>
    if 1 < freeze.toNat then (s, ansBad 16)
    else
      let t := s.hw.tnd
      let t' := if freeze = 1 then { t with frozen := true } else { t with frozen := false, faultFrozen := false }
      ({ s with hw := { s.hw with tnd := t' } }, ansOk (le 1 t.inForce))))

/-- PLACEMENT_READ: the tables of an epoch that Tender still holds (R212). -/
def execPlacementRead (h : Hdr) (epoch : U8) (s : State) : Out :=
  .next (s.serve (.placementRead h epoch) h { op := 0x34, stepped := true } (le 1 epoch.toNat) (fun c s =>
    if s.cmd.held [srcTnd] then (s, ansBusy)
    else
      match s.hw.tnd.history.find? (fun p => decide (p.epoch = epoch.toNat)) with
      | none => (s, ansBad 16)
      | some p => s.begin c { stepOp 0x34 [srcTnd] [epoch.toNat] with bytes := placementBytes p }))

/-- ROI_SET: one region entry of the plan in force, under the rules of Table 9.2 (R192; without an activated plan log entry 71). -/
def execRoiSet (h : Hdr) (roi : U8) (fields : List Byte) (s : State) : Out :=
  .next (s.serve (.roiSet h roi fields) h
    { op := 0x35, role := 2, modes := [.config, .scan], writes := [srcTnd], wide := true } (le 1 roi.toNat ++ fields) (fun _ s =>
    if 15 < roi.toNat then (s, ansBad 16)
    else
      match (roiChecks fields 0).find? (fun e => !e.2) with
      | some (o, _) => (s, ansBad (17 + o))
      | none =>
        match s.hw.tnd.nextPlan with
        | none => (s, ansPre 0x0001)
        | some p =>
          let o := 64 + 16 * roi.toNat
          let p' := p.take o ++ bytesAt fields 0 16 ++ p.drop (o + 16)
          ({ s with hw := { s.hw with tnd := { s.hw.tnd with nextPlan := some p' } } }, ansOk [])))

/-- FRAME_RATE_SET (R192). -/
def execFrameRateSet (h : Hdr) (rate : U32) (s : State) : Out :=
  .next (s.serve (.frameRateSet h rate) h
    { op := 0x36, role := 2, modes := [.config, .scan], writes := [srcTnd], wide := true } (le 4 rate.toNat) (fun _ s =>
    if rate.toNat < 1000 ∨ 100000 < rate.toNat then (s, ansBad 16)
    else
      match s.hw.tnd.nextPlan with
      | none => (s, ansPre 0x0001)
      | some p =>
        let p' := p.take 16 ++ le 4 rate.toNat ++ p.drop 20
        ({ s with hw := { s.hw with tnd := { s.hw.tnd with nextPlan := some p' } } }, ansOk [])))

/-- PLAN_CHECK (R201). -/
def execPlanCheck (h : Hdr) (slot : U8) (s : State) : Out :=
  .next (s.serve (.planCheck h slot) h { op := 0x37 } (le 1 slot.toNat) (fun _ s =>
    if 3 < slot.toNat then (s, ansBad 16)
    else
      let stored := mget [] s.hw.tnd.slots slot.toNat
      let (v, o, pps) := s.hw.planVerdict stored
      (if planSized stored then s else { s with hw := s.hw.draw.2 }, ansOk (le 1 v ++ le 4 o ++ le 4 pps))))

/-! ### Emission and Lantern (Table 2.8) -/

/-- PATTERN_LOAD: a program is checked before it is stored (R93). -/
def execPatternLoad (h : Hdr) (program : U8) (steps : List U64) (s : State) : Out :=
  .next (s.serve (.patternLoad h program steps) h { op := 0x40, role := 2, modes := [.config], writes := [srcBcn] }
    (le 1 program.toNat ++ le 2 steps.length ++ steps.flatMap (fun x => le 8 x.toNat)) (fun _ s =>
    if 7 < program.toNat then (s, ansBad 16)
    else if steps.isEmpty ∨ 256 < steps.length then (s, ansBad 17)
    else
      match badStep steps with
      | some i => (s, ansBad (19 + 8 * i))
      | none =>
        let b := s.hw.bcn
        ({ s with hw := { s.hw with bcn := { b with programs := mset [] b.programs program.toNat steps } } },
          ansOk (le 4 (crc32c (steps.flatMap (fun x => le 8 x.toNat)))))))

/-- PATTERN_RUN: armed until the next boundary in SCAN, or SCAN entry (R92; a program that holds nothing log entry 72). -/
def execPatternRun (h : Hdr) (program : U8) (repeats : U16) (s : State) : Out :=
  .next (s.serve (.patternRun h program repeats) h
    { op := 0x41, role := 2, modes := [.config, .scan], writes := [srcBcn], wide := true } (le 1 program.toNat ++ le 2 repeats.toNat) (fun _ s =>
    let b := s.hw.bcn
    if 7 < program.toNat ∨ (mget [] b.programs program.toNat).isEmpty then (s, ansBad 16)
    else
      ({ s with hw := { s.hw with bcn := { b with pattern := { b.pattern with armed := some (program.toNat, repeats.toNat) } } } }, ansOk [])))

/-- PATTERN_STOP: the grid at the next boundary; an armed program is armed no longer (R92). -/
def execPatternStop (h : Hdr) (s : State) : Out :=
  .next (s.serve (.patternStop h) h { op := 0x42, role := 2, modes := [.config, .scan], writes := [srcBcn], wide := true } [] (fun _ s =>
    let b := s.hw.bcn
    ({ s with hw := { s.hw with bcn := { b with pattern := { b.pattern with armed := none, stopDue := b.pattern.running.isSome } } } },
      ansOk [])))

/-- The statuses of a bank's emitters, four to a byte (R97). -/
def Hw.emitterBytes (hw : Hw) (b : Nat) : List Byte :=
  (List.range 256).map (fun i =>
    let st := fun k => hw.emStatus b ((4 * i + k) / 16) ((4 * i + k) % 16)
    BitVec.ofNat 8 (st 0 + 4 * st 1 + 16 * st 2 + 64 * st 3))

/-- EMITTER_STATUS. -/
def execEmitterStatus (h : Hdr) (bank : U8) (s : State) : Out :=
  .next (s.serve (.emitterStatus h bank) h { op := 0x43 } (le 1 bank.toNat) (fun _ s =>
    if 3 < bank.toNat then (s, ansBad 16) else (s, ansOk (s.hw.emitterBytes bank.toNat))))

/-- PIN_TEST (R95). -/
def execPinTest (h : Hdr) (s : State) : Out :=
  .next (s.serve (.pinTest h) h { op := 0x44, role := 2, modes := [.config], writes := [srcBcn], stepped := true } [] (fun c s =>
    s.begin c (stepOp 0x44 [srcBcn] [])))

/-- LANTERN_LIMIT: above the cap BAD_PARAM (R104). -/
def execLanternLimit (h : Hdr) (bank window : U8) (limit : U32) (s : State) : Out :=
  .next (s.serve (.lanternLimit h bank window limit) h { op := 0x45, role := 2, modes := [.config, .scan], writes := [srcLnt] }
    (le 1 bank.toNat ++ le 1 window.toNat ++ le 4 limit.toNat) (fun _ s =>
    let b := bank.toNat
    let w := window.toNat
    if 3 < b then (s, ansBad 16)
    else if 2 < w then (s, ansBad 17)
    else if s.hw.lnt.cap b w < limit.toNat then (s, ansBad 18)
    else
      let s := s.hwStep (storeLimit (bw b w) limit.toNat)
      (s, ansOk (le 4 (s.hw.lnt.limit b w)))))

/-- LANTERN_LEDGER (R108). -/
def execLanternLedger (h : Hdr) (bank window : U8) (s : State) : Out :=
  .next (s.serve (.lanternLedger h bank window) h { op := 0x46, stepped := true } (le 1 bank.toNat ++ le 1 window.toNat) (fun c s =>
    if s.cmd.held [srcLnt] then (s, ansBusy)
    else if 3 < bank.toNat then (s, ansBad 16)
    else if 2 < window.toNat then (s, ansBad 17)
    else s.begin c (stepOp 0x46 [srcLnt] [bank.toNat, window.toNat])))

/-- The ledger of a bank and window, row × 64 + column. -/
def Hw.ledgerBytes (hw : Hw) (b w : Nat) : List Byte := (List.range 4096).flatMap (fun c => le 2 (hw.lnt.ledgerWord b w c))

/-- DRIVER_STATUS (R86). -/
def execDriverStatus (h : Hdr) (address : U8) (s : State) : Out :=
  .next (s.serve (.driverStatus h address) h { op := 0x47 } (le 1 address.toNat) (fun _ s =>
    if 15 < address.toNat then (s, ansBad 16)
    else
      let d := s.hw.driver address.toNat
      (s, ansOk (le 2 d.status ++ le 2 d.faults))))

/-! ### Beacon and Lantern -/

/-- SHOT_DECISION (R87). -/
def execShotDecision (bank : Nat) (s : State) : Out := .next (s.clocked 15 (shotDecision bank))
/-- SHOT_FIRE (R88). -/
def execShotFire (bank : Nat) (s : State) : Out := .next (s.clocked 15 (shotFire bank))
/-- DRIVER_POLL (R86). -/
def execDriverPoll (address : Nat) (reply : Option DriverReply) (s : State) : Out := .next (s.clocked 15 (driverPoll address reply))
/-- MAP_SEND (R81). -/
def execMapSend (address : Nat) (s : State) : Out := .next (s.clocked 15 (mapSend address))
/-- RAMP_UPDATE (R94). -/
def execRampUpdate (s : State) : Out := .next (s.clocked 15 rampUpdate)
/-- REF_WINDOW_CLOSE (R97). -/
def execRefWindowClose (bank cells : Nat) (s : State) : Out := .next (s.clocked 15 (refWindowClose bank cells))
/-- BCN_CODE_SEED_WRITE (R91). -/
def execBcnCodeSeedWrite (bank : Nat) (value : Word) (s : State) : Out :=
  .next (if bank < 4 then s.hwStep (fun hw => hw.writeReg false (0x00020010 + 4 * bank) value.toNat) else s)
/-- BCN_DRV_WRITE (R81). -/
def execBcnDrvWrite (address : Nat) (value : Word) (s : State) : Out :=
  .next (if address < 16 then s.hwStep (fun hw => hw.writeReg false (0x00020040 + 4 * address) value.toNat) else s)
/-- BCN_BANK_WRITE (R82). -/
def execBcnBankWrite (bank : Nat) (value : Word) (s : State) : Out :=
  .next (if bank < 4 then s.hwStep (fun hw => hw.writeReg false (0x00020020 + 4 * bank) value.toNat) else s)
/-- LNT_BUCKET_CLOSE (R100). -/
def execLntBucketClose (window : Nat) (s : State) : Out := .next (s.clocked 5 (bucketClose window))
/-- LNT_XCHK_SAMPLE (R105). -/
def execLntXchkSample (bank : Nat) (sample : Int) (quality : Nat) (s : State) : Out := .next (s.clocked 15 (xchkSample bank sample quality))
/-- LNT_GRID_WRITE (R103): the grid registers in the order of their offsets. -/
def execLntGridWrite (index : Nat) (value : Word) (s : State) : Out :=
  .next (if index < 5 then s.hwStep (fun hw => hw.writeReg false (0x00028090 + 4 * index) value.toNat) else s)
/-- LNT_LIMIT_WRITE (R104). -/
def execLntLimitWrite (index : Nat) (value : Word) (s : State) : Out :=
  .next (if index < 12 then s.hwStep (fun hw => hw.writeReg false (0x00028040 + 4 * index) value.toNat) else s)

/-! ### Frames and placements -/

/-- FRAME_BOUNDARY (R122, R198). -/
def execFrameBoundary (s : State) : Out := .next (s.clocked 15 boundaryAll)
/-- PLACEMENT_CUT (R203). -/
def execPlacementCut (s : State) : Out := .next (s.clocked 15 placementCut)
/-- PLACEMENT_READY (R203). -/
def execPlacementReady (durationUs : Nat) (s : State) : Out := .next (s.clocked 15 (placementReady durationUs))

/-! ### The SPAD array -/

/-- TRIM_RECOMPUTE (R114). -/
def execTrimRecompute (s : State) : Out := .next (s.clocked 5 trimRecompute)
/-- HV_MEAS_UPDATE (R118). -/
def execHvMeasUpdate (millivolts : Nat) (s : State) : Out := .next (s.clocked 5 (hvMeasUpdate millivolts))
/-- REGION_OFFTARGET_TIMEOUT (R117). -/
def execRegionOfftargetTimeout (region : Nat) (s : State) : Out := .next (s.clocked 5 (regionOffTarget region))
/-- MASK_COMMIT (R119): SPD_CTL.MASK_COMMIT written, with SPD_CTL's other fields as they stand. -/
def execMaskCommit (s : State) : Out :=
  .next (s.hwStep (fun hw => hw.writeReg false 0x00030000 (putBit (hw.reg 0x00030000 &&& 0x100) 0 true)))
/-- MASK_SAVE (R120): SPD_CTL.MASK_SAVE written. -/
def execMaskSave (s : State) : Out :=
  .next (s.hwStep (fun hw => hw.writeReg false 0x00030000 (putBit (hw.reg 0x00030000 &&& 0x100) 1 true)))
/-- MASK_PARITY_ERROR (R120). -/
def execMaskParityError (word : Nat) (s : State) : Out := .next (s.clocked 5 (maskParity word))
/-- SPD_TAB_WIN_WRITE (R131). -/
def execSpdTabWinWrite (index : Nat) (value : Word) (s : State) : Out :=
  .next (if index < 256 then s.hwStep (fun hw => hw.writeReg false (0x00030400 + 4 * index) value.toNat) else s)

/-! ### Tiles and DET -/

/-- GATE_EVENT (R124). -/
def execGateEvent (channel pre cell : Nat) (fire : Firing) (s : State) : Out :=
  .next (s.clocked 15 (gateEvent channel pre cell fire.time fire.after))
/-- VERNIER_CONVERSION (R143). -/
def execVernierConversion (channel vernier edge : Nat) (count : Option Nat) (s : State) : Out :=
  .next (s.clocked 15 (vernierEnd channel vernier edge count))
/-- SHOT_EDGE_ARRIVAL (R140). -/
def execShotEdgeArrival (tile vernier edge count : Nat) (s : State) : Out := .next (s.clocked 15 (shotEdge tile vernier edge count))
/-- ZOOM_IN (R162). -/
def execZoomIn (channel : Nat) (s : State) : Out := .next (s.clocked 15 (zoomIn channel))
/-- HISTOGRAM_CLOSE (R159). -/
def execHistogramClose (channel : Nat) (s : State) : Out := .next (s.clocked 15 (closeHist channel))
/-- PEAK_FIND_START (R165). -/
def execPeakFindStart (tile : Nat) (s : State) : Out := .next (s.clocked 15 (peakStart tile))
/-- PEAK_FIND_DONE (R165). -/
def execPeakFindDone (tile : Nat) (parityError : Bool) (s : State) : Out := .next (s.clocked 15 (peakDone tile parityError))
/-- DET_DONE (R173). -/
def execDetDone (bank : Nat) (parityError : Bool) (s : State) : Out := .next (s.clocked 15 (detDone bank parityError))
/-- TILE_CTL_WRITE (R171). -/
def execTileCtlWrite (tile : Nat) (value : Word) (s : State) : Out :=
  .next (if tile < 48 then s.hwStep (fun hw => hw.writeReg false (tileReg tile 0) value.toNat) else s)
/-- TILE_RETIRE (R170): TILE_CTL.RETIRE written, with TILE_CTL's other fields as they stand. -/
def execTileRetire (tile : Nat) (s : State) : Out :=
  .next (if tile < 48 then s.hwStep (fun hw => hw.writeReg false (tileReg tile 0) (putBit (hw.reg (tileReg tile 0)) 0 true)) else s)
/-- TILE_TAB_DATA_READ (R171). -/
def execTileTabDataRead (tile : Nat) (s : State) : Out := .next (if tile < 48 then s.hwStep (fun hw => hw.tileTabRead tile) else s)
/-- DET_TAB_COMMIT (R174): DET_CTL.TAB_COMMIT written, with DET_CTL's other fields as they stand. -/
def execDetTabCommit (s : State) : Out :=
  .next (s.hwStep (fun hw => hw.writeReg false 0x00500000 (putBit (hw.reg 0x00500000) 23 true)))

end Sys2Proof.Machine
end

