-- ==== Sys2Proof/Machine/Security.lean ====
section
/-! DEFINITION. Access and firmware: opcodes 0xB0 to 0xB5 (Table 2.15) and the rows of SEC. -/

namespace Sys2Proof.Machine

/-! ### Access (R457 to R461) -/

/-- SEC_CHALLENGE (R459). -/
def execSecChallenge (h : Hdr) (scope : U8) (s : State) : Out :=
  .next (s.serve (.secChallenge h scope) h { op := 0xB0, role := 0 } (le 1 scope.toNat) (fun _ s =>
    if scope = 0 ∨ 3 < scope.toNat then (s, ansBad 16)
    else
      let (hw, nonce) := s.hw.issueChallenge scope.toNat
      ({ s with hw := hw }, ansOk nonce)))

/-- SEC_RESPONSE (R459): without a standing challenge of this scope 0x0B07, with a key that opens nothing DENIED. -/
def execSecResponse (h : Hdr) (scope : U8) (signature : List Byte) (s : State) : Out :=
  .next (s.serve (.secResponse h scope signature) h { op := 0xB1, role := 0, modes := [.config, .service] } (le 1 scope.toNat ++ signature)
    (fun c s =>
    if scope = 0 ∨ 3 < scope.toNat then (s, ansBad 16)
    else
      let (hw, st, code) := s.hw.respond c.session scope.toNat signature
      (({ s with hw := hw } : State).drain, if st = 0x06 then ansPre code else { status := st })))

/-- SEC_PASSWORD (R460): a wrong password's DENIED waits. -/
def execSecPassword (h : Hdr) (password : List Byte) (s : State) : Out :=
  .next (s.serve (.secPassword h password) h { op := 0xB2, role := 0, modes := [.config, .service] } password (fun c s =>
    let (hw, st, code, delayed) := s.hw.tryPassword c.session password
    let s := ({ s with hw := hw } : State).drain
    if st = 0x06 then (s, ansPre code)
    else (s, { status := st, wait := if delayed then some (.denied (s.hw.ticks + s.hw.pwDelay)) else none })))

/-- SEC_CLOSE (R461): the scopes that the session opened close; a device in SERVICE leaves it with the access (R61), ADMIN held
under ADMIN_OPEN goes (R458). -/
def execSecClose (h : Hdr) (s : State) : Out :=
  .next (s.serve (.secClose h) h { op := 0xB5 } [] (fun c s =>
    let s := s.hwStep (fun hw =>
      let hw := hw.closeScopes c.session
      if hw.dev.mode = .service ∧ ¬ hw.serviceOpen then hw.leaveService 3 none none else hw)
    (s.dropAdmin, ansOk [])))

/-! ### Firmware (R453 to R456) -/

/-- The first chunk of an accepted FW_UPDATE: the earlier content of the slot that is not running is lost, and what the header's
checks find ends the operation at its next step boundary, after the reply (R44, R456). -/
def State.fwFirst (s : State) (data : List Byte) : State :=
  match s.cmd.ops.getLast? with
  | none => s
  | some o =>
    let hw := { s.hw with pantry := { s.hw.pantry with fw := mset [] s.hw.pantry.fw (1 - s.hw.sec.slot) [] } }
    match hw.fwHeader (data.take 256) with
    | none => { s with hw := hw }
    | some code =>
      let hw := hw.raise (fid srcSec 1 4) []
      ({ s with hw := hw, cmd := s.cmd.updOp o.token (fun o => { o with state := 2, ending := some (0x06, le 2 code) }) } : State).drain

/-- FW_UPDATE: chunked (R47); its first chunk carries the whole header (the offset of what is missing log entry 82), 0x0B06 while an
update awaits its trial start. -/
def execFwUpdate (h : Hdr) (ck : Chunk) (data : List Byte) (s : State) : Out :=
  .next (s.serve (.fwUpdate h ck data) h { op := 0xB3, role := 2, modes := [.config] }
    (le 4 ck.token.toNat ++ le 4 ck.offset.toNat ++ le 4 ck.total.toNat ++ data) (fun c s =>
    let bad := if data.length < 256 then some (ansBad (28 + data.length)) else if s.hw.fwTrial then some (ansPre 0x0B06) else none
    let (s, a) := s.upload c 0xB3 [srcSec] ck [] data bad
    (if ck.token = 0 ∧ a.status = 1 then s.fwFirst data else s, a)))

/-- FW_STATUS. -/
def execFwStatus (h : Hdr) (s : State) : Out :=
  .next (s.serve (.fwStatus h) h { op := 0xB4 } [] (fun _ s =>
    (s, ansOk (le 4 s.hw.fwRunning ++ le 4 s.hw.fwStaged ++ le 4 s.hw.svnNow))))

/-! ### Rows of SEC -/

/-- FUSE_PROGRAM: SEC_FUSE_CTL.PROG written by a SERVICE session, the word read back (R452). Which session writes is no operand: the
row is the write of one that holds SERVICE, if there is one. -/
def execFuseProgram (readback : Word) (s : State) : Out :=
  .next (
    let service := transports.any (fun t => match s.cmd.session t with | some x => decide (3 ≤ x.role) | none => false)
    s.hwStep (fuseProgram service readback.toNat))
/-- PASSWORD_COMMIT (R460). -/
def execPasswordCommit (s : State) : Out := .next (s.hwStep passwordCommit)
/-- PASSWORD_CLEAR (R460). -/
def execPasswordClear (s : State) : Out := .next (s.hwStep passwordClear)
/-- CHALLENGE_EXPIRY (R459). -/
def execChallengeExpiry (s : State) : Out := .next (s.clocked 3 challengeExpiry)

end Sys2Proof.Machine
end

