-- ==== Sys2Proof/Machine/Steering.lean ====
section
/-! DEFINITION. Steering, Tide and Sifter: opcodes 0x50 to 0x57 (Table 2.9) and the rows of Pedestal, Tide, Sifter, Daymark and
the clock. -/

namespace Sys2Proof.Machine

/-! ### Opcodes -/

/-- AXIS_CONFIG (R286, R290, R339): an axis not OFF 0x0503, a broken tick budget 0x0501. -/
def execAxisConfig (h : Hdr) (axis type : U8) (params : List Byte) (s : State) : Out :=
  .next (s.serve (.axisConfig h axis type params) h { op := 0x50, role := 2, modes := [.config], writes := [srcPds] }
    (le 1 axis.toNat ++ le 1 type.toNat ++ params) (fun _ s =>
    let a := axis.toNat
    let kind := type.toNat
    if 3 < a then (s, ansBad 16)
    else if 3 < kind then (s, ansBad 17)
    else
      match s.hw.badAxisField a kind params with
      | some o => (s, ansBad (18 + o))
      | none =>
        if (s.hw.axis a).state ≠ .off then (s, ansPre 0x0503)
        else
          let hw := s.hw.configAxis a kind params
          if hw.budgetOk then ({ s with hw := hw }, ansOk []) else (s, ansPre 0x0501)))

/-- AXIS_COEF (R296): the reply's swap code. -/
def execAxisCoef (h : Hdr) (axis loop : U8) (coefs : List (List U32)) (s : State) : Out :=
  .next (s.serve (.axisCoef h axis loop coefs) h { op := 0x51, role := 2, modes := [.config, .scan], writes := [srcPds] }
    (le 1 axis.toNat ++ le 1 loop.toNat ++ le 1 coefs.length ++ coefs.flatMap (fun l => l.flatMap (fun v => le 4 v.toNat))) (fun _ s =>
    if 3 < axis.toNat then (s, ansBad 16)
    else if 1 < loop.toNat then (s, ansBad 17)
    else if coefs.isEmpty ∨ 8 < coefs.length then (s, ansBad 18)
    else
      let (hw, r) := s.hw.loadCoefs axis.toNat (decide (loop.toNat = 1)) (coefs.map (fun l => l.map (fun v => v.toInt)))
      match r with
      | some swap => (({ s with hw := hw } : State).drain, ansOk (le 1 swap))
      | none => (s, ansPre 0x0501)))

/-- AXIS_ENABLE (R292). -/
def execAxisEnable (h : Hdr) (axis state : U8) (s : State) : Out :=
  .next (s.serve (.axisEnable h axis state) h { op := 0x52, role := 2, modes := [.config, .scan], writes := [srcPds] }
    (le 1 axis.toNat ++ le 1 state.toNat) (fun _ s =>
    if 3 < axis.toNat then (s, ansBad 16)
    else if 2 < state.toNat then (s, ansBad 17)
    else
      let (hw, r) := s.hw.enableAxis axis.toNat state.toNat
      match r with
      | none => (({ s with hw := hw } : State).drain, ansOk [])
      | some 0 => (s, s.hw.ansMode)
      | some code => (s, ansPre code)))

/-- AXIS_STATUS (R301). -/
def execAxisStatus (h : Hdr) (axis : U8) (s : State) : Out :=
  .next (s.serve (.axisStatus h axis) h { op := 0x53 } (le 1 axis.toNat) (fun _ s =>
    if 3 < axis.toNat then (s, ansBad 16)
    else
      let x := s.hw.axis axis.toNat
      (s, ansOk (leInt 4 x.theta ++ leInt 4 x.outer.input ++ le 4 x.flags ++ le 1 x.missRun))))

/-- TIDE_SCAN (R309, R290). -/
def execTideScan (h : Hdr) (mask : U32) (gains : U64) (s : State) : Out :=
  .next (s.serve (.tideScan h mask gains) h { op := 0x54, role := 2, modes := [.config, .scan], writes := [srcTid] }
    (le 4 mask.toNat ++ le 8 gains.toNat) (fun _ s =>
    let hw := s.hw.setScan mask.toNat gains.toNat
    if hw.budgetOk then (({ s with hw := hw } : State).drain, ansOk []) else (s, ansPre 0x0501)))

/-- TIDE_READ (R318). -/
def execTideRead (h : Hdr) (mask : U32) (s : State) : Out :=
  .next (s.serve (.tideRead h mask) h { op := 0x55 } (le 4 mask.toNat) (fun _ s =>
    let (hw, data) := s.hw.tideRead mask.toNat
    ({ s with hw := hw }, ansOk data)))

/-- What the first chunk of a SIFTER_SET can be refused for before its data is there: the offset, or a fade that runs (R334). -/
def Hw.sifterFirst (hw : Hw) (channel mode taps : Nat) : Option Ans :=
  let n := 4 * taps + (if mode % 8 = 4 then 4 else 0)
  match hw.sifterAsk channel mode taps (List.replicate n 0xFF) with
  | .error o => some (ansBad (28 + o))
  | .ok _ => if (hw.sftc channel).fading then some ansBusy else none

/-- SIFTER_SET: chunked (R47, R332 to R334); it holds its channel (log entry 73). -/
def execSifterSet (h : Hdr) (ck : Chunk) (channel mode : U8) (taps : U16) (data : List Byte) (s : State) : Out :=
  let own := le 1 channel.toNat ++ le 1 mode.toNat ++ le 2 taps.toNat
  .next (s.serve (.sifterSet h ck channel mode taps data) h { op := 0x56, role := 2, modes := [.config, .scan] }
    (le 4 ck.token.toNat ++ le 4 ck.offset.toNat ++ le 4 ck.total.toNat ++ own ++ data) (fun c s =>
    s.upload c 0x56 [srcSifter channel.toNat] ck own data (s.hw.sifterFirst channel.toNat mode.toNat taps.toNat)))

/-- SFD_READ (R335). -/
def execSfdRead (h : Hdr) (mask : U32) (s : State) : Out :=
  .next (s.serve (.sfdRead h mask) h { op := 0x57 } (le 4 mask.toNat) (fun _ s => (s, ansOk (s.hw.sfdRead mask.toNat))))

/-! ### Pedestal -/

/-- PEDESTAL_TICK (R289). -/
def execPedestalTick (s : State) : Out := .next (s.clocked 12 pedestalTick)
/-- TICK_DEADLINE (R291). -/
def execTickDeadline (axis : Nat) (s : State) : Out := .next (if axis < 4 then s.clocked 12 (tickDeadline axis) else s)
/-- AXIS_START_TIMEOUT (R292). -/
def execAxisStartTimeout (axis : Nat) (s : State) : Out := .next (if axis < 4 then s.clocked 12 (axisStartTimeout axis) else s)
/-- RESONANT_DAC_UPDATE (R299). -/
def execResonantDacUpdate (axis : Nat) (s : State) : Out := .next (if axis < 4 then s.clocked 12 (resonantDacUpdate axis) else s)
/-- PDS_PERIOD_WRITE (R284). -/
def execPdsPeriodWrite (value : Word) (s : State) : Out := .next (s.hwStep (fun hw => hw.writeReg false 0x00780000 value.toNat))

/-! ### Tide -/

/-- TIDE_TRIG_EDGE (R310). -/
def execTideTrigEdge (edge : Nat) (s : State) : Out := .next (s.clocked 12 (tideTrigEdge edge))
/-- TIDE_CONVERSION_START (R306). -/
def execTideConversionStart (slice : Nat) (s : State) : Out := .next (s.clocked 12 (tideConversionStart slice))
/-- TIDE_CONVERSION_END (R307). Under a clamp current above what Electrical and timing characteristics allows the behaviour is not
defined (R305): a conversion that ends so stops by name. -/
def execTideConversionEnd (slice : Nat) (raw : Int) (ovr clamp : Bool) (limits : ConversionObs) (s : State) : Out :=
  if s.hw.awake 12 ∧ limits.overcurrent ∧ s.hw.conversionDue slice then .fault .clampOvercurrent
  else .next (s.clocked 12 (tideConversionEnd slice raw ovr clamp limits.broken))
/-- TIDE_TONE_BURST (R314). -/
def execTideToneBurst (s : State) : Out := .next (s.clocked 12 tideToneBurst)
/-- TONE_BURST_END (R315). -/
def execToneBurstEnd (s : State) : Out := .next (s.clocked 12 toneBurstEnd)
/-- TIDE_ROTATION (R319). -/
def execTideRotation (s : State) : Out := .next (s.clocked 12 tideRotation)
/-- SLICE_CAL_DONE (R319). -/
def execSliceCalDone (offsets gains : List Int) (s : State) : Out := .next (s.clocked 12 (sliceCalDone offsets gains))
/-- TID_SNAP (R318). -/
def execTidSnap (value : Word) (s : State) : Out := .next (s.hwStep (fun hw => hw.writeReg false 0x00790034 value.toNat))
/-- TID_PAIR_WRITE (R302). -/
def execTidPairWrite (value : Word) (s : State) : Out := .next (s.hwStep (fun hw => hw.writeReg false 0x00790014 value.toNat))
/-- TID_TONE_WRITE (R314). -/
def execTidToneWrite (value : Word) (s : State) : Out := .next (s.hwStep (fun hw => hw.writeReg false 0x00790018 value.toNat))

/-! ### Sifter -/

/-- SIFTER_SLOT (R325). -/
def execSifterSlot (channel : Nat) (s : State) : Out := .next (if channel < 32 then s.clocked 12 (sifterSlot channel) else s)
/-- SFT_POP_VAL (R337). -/
def execSftPopVal (s : State) : Out := .next (s.hwStep sftPop)
/-- SFT_CH_DET_WRITE (R339). -/
def execSftChDetWrite (channel : Nat) (value : Word) (s : State) : Out :=
  .next (if channel < 32 then s.hwStep (fun hw => hw.writeReg false (sftReg channel 0x10C) value.toNat) else s)
/-- SIFTER_PARITY_ERROR (R338). -/
def execSifterParityError (channel : Nat) (s : State) : Out := .next (if channel < 32 then s.clocked 12 (sifterParityError channel) else s)

/-! ### Daymark and the clock -/

/-- DMK_EDGE (R146). -/
def execDmkEdge (input : Nat) (rising : Bool) (fine : Nat) (s : State) : Out := .next (s.clocked 6 (motionEdge input rising fine))
/-- DMK_IV_ARM (R148): DMK_IV_CTL.ARM written, with the register's other fields as they stand. -/
def execDmkIvArm (s : State) : Out :=
  .next (s.hwStep (fun hw => hw.writeReg false 0x00048008 (putBit (hw.reg 0x00048008) 0 true)))
/-- DMK_IV_TIMEOUT (R148). -/
def execDmkIvTimeout (s : State) : Out := .next (s.clocked 6 ivTimeout)
/-- DMK_FREQ_START (R149): a write of an input's DMK_FREQ_CTL. -/
def execDmkFreqStart (input : Nat) (value : Word) (s : State) : Out :=
  .next (if input < 4 then s.hwStep (fun hw => hw.writeReg false (0x00048020 + 4 * input) value.toNat) else s)
/-- DMK_FREQ_GATE_END (R149). -/
def execDmkFreqGateEnd (input : Nat) (s : State) : Out := .next (s.clocked 6 (motionGateEnd input))
/-- PPS_EDGE (R138). -/
def execPpsEdge (rising : Bool) (fine : Nat) (s : State) : Out := .next (s.clocked 6 (ppsEdge rising fine))
/-- PPS_TIMEOUT (R138). -/
def execPpsTimeout (s : State) : Out := .next (s.clocked 6 ppsTimeout)
/-- CLK_TIME_SET (R137): a write of CLK_TIME_SET_HI. -/
def execClkTimeSet (hi : Word) (s : State) : Out := .next (s.hwStep (fun hw => hw.writeReg false 0x0004001C hi.toNat))
/-- CLK_CTL_WRITE (R235). -/
def execClkCtlWrite (value : Word) (s : State) : Out := .next (s.hwStep (fun hw => hw.writeReg false 0x00040000 value.toNat))
/-- CRYSTAL_STOP (R134). -/
def execCrystalStop (s : State) : Out := .next (s.clocked 6 crystalStop)
/-- REF_PLL_UNLOCK (R134). -/
def execRefPllUnlock (s : State) : Out := .next (s.clocked 6 refUnlock)

end Sys2Proof.Machine
end

