-- ==== Sys2Proof/Machine/StepEnd.lean ====
section
/-! DEFINITION. How a stepped operation ends before its final step (R46, R49): the previous state stays in force, and what the
operation had already set in motion stops. -/

namespace Sys2Proof.Machine

/-! ### Calibration (R362, R366) -/

/-- A run that ends before it has begun: every quantity of its mask is ABORTED (Table 17.4). -/
def Hw.calNone (hw : Hw) (mask : Nat) : Hw :=
  (setBits 9 mask).foldl (fun (h : Hw) q =>
    let h := h.calTell q 6
    { h with cal := { h.cal with result := mset (0, 0, 0) h.cal.result q (6, 0, h.clk.time) } }) hw

/-- The result bytes of such a run. -/
def calNoneBytes (mask : Nat) : List Byte := (setBits 9 mask).flatMap (fun q => le 1 q ++ le 1 6 ++ le 2 0)

/-- An automatic run reports by CAL event 0xE001, whose payload is its result (R366). -/
def Hw.calReport (hw : Hw) (o : StepOp) (bytes : List Byte) : Hw := if o.owner.isNone then hw.event srcCal 0xE001 bytes else hw

/-- A run ends with what it has so far. -/
def State.ceaseCal (s : State) (o : StepOp) : State × List Byte :=
  if o.params.getD 1 0 = 0 then
    let m := o.params.headD 0
    (s.hwStep (fun hw => hw.calNone m), calNoneBytes m)
  else
    let s := s.hwStep (fun hw => hw.calAbort)
    let bytes := (calStatus s.hw.cal.outcome).2.2
    (s.hwStep (fun hw => hw.calReport o bytes), bytes)

/-! ### Lanes and filters -/

/-- LANE_STEP_UP gives up: offers are withdrawn, every lane that stepped returns to the rate it had (R253). -/
def Hw.lanesBack (hw : Hw) (rates : List Nat) : Hw :=
  (List.range 4).foldl (fun (h : Hw) l =>
    let x := h.lane l
    let r := rates.getD l x.rate
    if ¬ h.laneOn l then h
    else if x.state = .step ∨ x.stepFrom.isSome ∨ x.rate ≠ r then
      h.toLane l .detect (fun y => { y with
        rate := r, offered := none, stepTo := none, stepFrom := none, keepSeq := true, reqOut := 0, sf0 := h.ticks, lostAt := h.ticks })
    else if x.offered.isSome then h.setLane l { x with offered := none, reqOut := 0 }
    else h) hw

/-- A LANE_TEST stops; its lane retrains through DETECT (R46, R262). -/
def Hw.stopTest (hw : Hw) (l : Nat) : Hw :=
  if ¬ (hw.lnk.testOn ∧ hw.lnk.testLane = l) then hw
  else
    let hw := { hw with lnk := { hw.lnk with testOn := false } }
    if (hw.isEth ∧ l < 4) ∨ (hw.lane l).state ≠ .test then hw
    else hw.toLane l .detect (fun y => { y with lostAt := hw.ticks, attempts := 0 })

/-- A filter change is given up: what is staged is dropped, a fade returns to the filter it came from (R46). -/
def Hw.dropFilter (hw : Hw) (c : Nat) : Hw :=
  let x := hw.sftc c
  hw.setSftc c { x with staged := none, taps := if x.old.isEmpty then x.taps else x.old, old := [], fade := 0 }

/-! ### The end -/

/-- An operation ends at a step boundary with an ending of R46 or R49; an opcode whose chapter defines a result gives it (R44);
the mask of a PIN_TEST that stops short is free (log entry 148). -/
def State.cease (s : State) (o : StepOp) (status : Nat) (result : List Byte) : State :=
  match o.opcode with
  | 0x21 =>
    let hw := { s.hw with dev := { s.hw.dev with target := none }, cas := { s.hw.cas with modeAt := none } }
    ({ s with hw := hw } : State).finishOp o.token status result
  | 0x44 =>
    let (n, hw) := s.hw.draw
    ({ s with hw := hw } : State).finishOp o.token status (le 4 (n &&& 0x010107FF))
  | 0x56 =>
    let s : State := if 0 < o.step then { s with hw := s.hw.dropFilter (o.params.headD 0) } else s
    s.finishOp o.token status result
  | 0x60 =>
    let (s, bytes) := s.ceaseCal o
    s.finishOp o.token status bytes
  | 0x84 => (s.hwStep (fun hw => hw.lanesBack (o.params.drop 1))).finishOp o.token status result
  | 0x85 =>
    let s := s.hwStep (fun hw => hw.stopTest (o.params.headD 0))
    s.finishOp o.token status (le 8 s.hw.lnk.testErrs)
  | 0xA5 => s.finishOp o.token status o.bytes
  | _ => s.finishOp o.token status result

/-- Every operation that has not ended ends at once (R49). -/
def State.ceaseAll (s : State) (status : Nat) : State :=
  s.cmd.ops.foldl (fun (s : State) o => if o.live then s.cease o status [] else s) s

end Sys2Proof.Machine
end

