-- ==== Sys2Proof/Machine/Watch.lean ====
section
/-! DEFINITION. Watch A and Watch B (chapter 20): epochs and their copies, heartbeats, failure, promotion, planned swaps. -/

namespace Sys2Proof.Machine

/-! ### Units -/

def WchSt.setUnit (w : WchSt) (u : Nat) (x : WchUnit) : WchSt := if u = 0 then { w with a := x } else { w with b := x }

/-- The length of a mirror epoch in ticks (R412). -/
def Hw.epochTicks (hw : Hw) : Nat := 200000 * min 40 (max 1 (bits (hw.reg 0x00010008) 0 6))

/-- Whether the Watches run: from S03 of a start on, and not after F.WCH.003 (R411, R417). -/
def Hw.watchRuns (hw : Hw) : Bool :=
  !hw.held && !hw.wch.lost && decide (hw.dev.mode ≠ .dormant) && (decide (hw.dev.mode ≠ .boot) || decide (4 ≤ hw.dev.step))

/-- WATCH_HEARTBEAT: a unit that runs sends one every 100 µs (R414). -/
def watchHeartbeat (u : Nat) (hw : Hw) : Hw :=
  let x := hw.wch.unit u
  if u < 2 ∧ 1 ≤ x.state ∧ x.state ≤ 5 ∧ hw.watchRuns then { hw with wch := hw.wch.setUnit u { x with beat := hw.ticks } } else hw

/-- A unit fails: cut off and held OFF; the third failure within 3,600 s takes it out of service (R411, R414). -/
def Hw.unitOff (hw : Hw) (u : Nat) : Hw :=
  let x := hw.wch.unit u
  let times := hw.ticks :: x.failAt.filter (fun t => decide (hw.ticks < t + 2880000000000))
  let gone := decide (3 ≤ times.length)
  let y := { x with
    state := if gone then 6 else 0, since := hw.ticks, failAt := times.take 3, fails := satAdd 0xFF x.fails 1
    wasActive := x.wasActive || decide (hw.wch.active = u) }
  let hw : Hw := { hw with wch := hw.wch.setUnit u y }
  if gone then hw.raise (fid srcWch 2 5) (le 1 u) else hw

/-- A failed standby: the copy to it ends, a take-back it was to make is off (R415, R422). -/
def Hw.standbyFails (hw : Hw) (u : Nat) : Hw :=
  let hw := hw.unitOff u
  let hw : Hw := { hw with wch := { hw.wch with copy := none, waiting := false, swapStep := false, swap := if hw.wch.swap = some 1 then none else hw.wch.swap } }
  hw.raise (fid srcWch 2 2) (le 1 u)

/-- WATCH_RESTART: 10 ms after it was held a unit starts its self-test (R411). -/
def watchRestart (u : Nat) (hw : Hw) : Hw :=
  let x := hw.wch.unit u
  if u < 2 ∧ x.state = 0 ∧ 0 < x.fails ∧ x.since + 8000000 ≤ hw.ticks ∧ hw.watchRuns then
    { hw with wch := hw.wch.setUnit u { x with state := 1, since := hw.ticks, beat := hw.ticks } }
  else hw

/-- WATCH_SELFTEST_DONE: the self-test of 30 ms ends (R411). -/
def watchSelftestDone (u : Nat) (ok : Bool) (hw : Hw) : Hw :=
  let x := hw.wch.unit u
  if u < 2 ∧ x.state = 1 ∧ x.since + 24000000 ≤ hw.ticks ∧ hw.watchRuns then
    if ok then { hw with wch := hw.wch.setUnit u { x with state := 2, since := hw.ticks, beat := hw.ticks } }
    else ({ hw with wch := hw.wch.setUnit u { x with state := 6, since := hw.ticks } } : Hw).raise (fid srcWch 2 5) (le 1 u)
  else hw

/-! ### Epochs (R412, R413) -/

/-- The image that a capture takes. -/
def State.image (s : State) : Image :=
  { cmd := s.cmd, slots := s.hw.tnd.slots, regs := s.hw.regs, limits := s.hw.lnt.limits, points := s.hw.evt.seq
    netAddr := s.hw.out.netAddr, netMask := s.hw.out.netMask, netGate := s.hw.out.netGate }

/-- Whether a transition runs or is announced. -/
def State.transits (s : State) : Bool :=
  s.hw.dev.target.isSome || s.hw.cas.modeAt.isSome || s.cmd.ops.any (fun o => o.live && o.holdAll)

/-- How many commands arrive during a switchover, which the model takes no time over, is free: 9 for each session at most (R36). -/
def Hw.heldCount (hw : Hw) : Nat × Hw :=
  let (n, hw) := hw.draw
  (n % 28, hw)

/-- A planned swap (R421): a final epoch, the roles exchanged, event 0xE001. -/
def State.plannedSwap (s : State) (cause : Nat) : State :=
  let w := s.hw.wch
  let old := w.active
  let new := 1 - old
  let img := s.image
  let w := (w.setUnit old { w.unit old with state := 3, since := s.hw.ticks, wasActive := false }).setUnit new
    { w.unit new with state := 5, since := s.hw.ticks, wasActive := false, activeAt := s.hw.clk.time }
  let w := { w with
    active := new, epoch := (w.epoch + 1) % 2 ^ 32, copy := none, waiting := false, swap := none, swapStep := false, journal := 0
    nextAt := s.hw.ticks + s.hw.epochTicks
    takebacks := if cause = 1 then satAdd 0xFF w.takebacks 1 else w.takebacks
    rehearsals := if cause = 2 then satAdd 0xFFFF w.rehearsals 1 else w.rehearsals }
  ({ s with hw := { s.hw with wch := w }, mirror := { sealed := some img } } : State).hwStep (fun hw =>
    let (n, hw) := hw.heldCount
    hw.event srcWch 0xE001 (le 1 new ++ le 1 cause ++ le 4 w.epoch ++ le 1 n))

/-- Whether a stepped operation has a step in progress. -/
def State.stepping (s : State) : Bool := s.cmd.ops.any (fun o => o.live && decide (o.state ≠ 0))

/-- An epoch boundary that need not wait: a swap that is due, or the capture for a standby that can take it. A swap waits for the
end of a step in progress (R421). -/
def State.boundary (s : State) : State :=
  let w := s.hw.wch
  match (if w.standby.promotable ∧ ¬ s.transits then w.swap else none), s.stepping with
  | some cause, false => s.plannedSwap cause
  | swap, _ =>
    let w := { w with swapStep := swap.isSome }
    let can := decide (2 ≤ w.standby.state ∧ w.standby.state ≤ 4)
    { s with
        hw := { s.hw with wch := { w with
          copy := if can then some s.hw.ticks else none, waiting := false, journal := 0, nextAt := s.hw.ticks + s.hw.epochTicks } }
        mirror := if can then { s.mirror with copying := some s.image } else s.mirror }

/-- The end of a step for which a planned swap waits (R421). -/
def State.swapAfterStep (s : State) : State :=
  match (if s.hw.wch.swapStep ∧ s.hw.wch.standby.promotable ∧ ¬ s.transits then s.hw.wch.swap else none) with
  | some cause => s.plannedSwap cause
  | none => s

/-- EPOCH_BOUNDARY: at the end of an epoch, or forced early by a journal that a command would overflow; while a copy runs it waits
for the seal, which stretches the epoch (R412, R413). -/
def State.epochBoundary (s : State) : State :=
  let w := s.hw.wch
  let due := decide (w.nextAt ≤ s.hw.ticks)
  if ¬ s.hw.watchRuns ∨ w.waiting ∨ (¬ due ∧ w.journal = 0) then s
  else
    let s : State := if due then s else { s with hw := { s.hw with wch := { w with early := satAdd 0xFFFF w.early 1 } } }
    if w.copy.isNone then s.boundary
    else
      let l := (s.hw.ticks :: w.stretches).filter (fun t => decide (s.hw.ticks < t + 800000000))
      s.hwStep (fun hw =>
        let hw : Hw := { hw with wch := { hw.wch with waiting := true, stretches := l.take 17 } }
        if 16 < l.length then hw.raise (fid srcWch 1 6) (le 1 w.active) else hw)

/-- EPOCH_SEAL: the copy is whole; how many pages it had and the part of a µs it took beyond whole ones are free (R412). -/
def State.epochSeal (s : State) : State :=
  let w := s.hw.wch
  match w.copy with
  | none => s
  | some t =>
    let (n, hw) := s.hw.draw
    let sb := 1 - w.active
    let x := w.unit sb
    let x := if x.state = 2 then { x with state := if x.wasActive then 4 else 3, since := s.hw.ticks } else x
    let us := (roundOpen 2000 (((s.hw.ticks - t : Nat) : Rat) / 800)).toNat
    let w := { (w.setUnit sb x) with
      copy := none, epoch := (w.epoch + 1) % 2 ^ 32, longest := min 0xFFFF (max w.longest us), pages := n % 385 }
    let s : State := { s with hw := { hw with wch := w }, mirror := { sealed := s.mirror.copying } }
    if w.waiting then s.boundary else s

/-! ### Promotion (R49, R416, R418 to R420) -/

/-- A command accepted and not yet answered is answered OUTCOME_UNKNOWN, and that reply is cached (R49, R419). -/
def CmdSt.unknown (c : CmdSt) (t : Transport) (p : Packet) : CmdSt :=
  let p := { p with status := 0x08, payload := [] }
  match c.session t with
  | none => c.push t p
  | some x =>
    let has := x.accepted.any (fun e => decide (e.seq = p.seq ∧ e.tag = p.tag))
    let x := if has then x else { x with accepted := (x.accepted ++ [({ seq := p.seq, tag := p.tag } : Cached)]).drop (x.accepted.length + 1 - 8) }
    (c.setSession t (some x)).answer t p

/-- The replies a session still owes, oldest first. -/
def Hw.owed (hw : Hw) (x : Session) : List Packet :=
  (match x.wait with | some (_, p) => [p] | none => []) ++
    x.held.filterMap (fun i => (hdrOf i).map (fun h => hw.replyTo (opOf i) h {})) ++
    x.away.map (fun e =>
      { opcode := e.op, tag := e.tag, source := 0x10 + hw.cas.index, role := e.role, seq := e.seq, subaddr := e.dev, peer := e.peer })

/-- The replies that commands without a session still wait for are OUTCOME_UNKNOWN too (R49, R460). -/
def State.lateUnknown (s : State) : State :=
  { s with cmd := s.cmd.late.foldl (fun c e => c.unknown e.2.1 e.2.2) { s.cmd with late := [] } }

/-- Operations that had ended, but had not by the last complete epoch, end as OUTCOME_UNKNOWN (R49); `before` lists the operations at the
failure. -/
def State.endUnsealed (s : State) (img : CmdSt) (before : List StepOp) (partial' : Bool) : State :=
  let left := before.filter (fun o => !o.live && !img.ops.any (fun e => decide (e.token = o.token) && (partial' || !e.live)))
  left.foldl (fun (s : State) o => s.finishOp o.token 0x08 []) s

/-- Every unanswered command of a transport, as the session that failed left it. -/
def State.answerUnknown (s : State) (old : CmdSt) (t : Transport) : State :=
  match old.session t with
  | none => s
  | some x =>
    let c := match s.cmd.session t with
      | some y => s.cmd.setSession t (some { y with wait := none, held := [], resume := none, away := [] })
      | none => s.cmd
    { s with cmd := (s.hw.owed x).foldl (fun c p => c.unknown t p) c }

/-- The sequences of a restored session whose OK replies no longer hold (R418): the first command answered after the capture and how
many there are; of a session that has closed since, the last is not held and free. -/
def Hw.lostRange (hw : Hw) (old : Option Session) (y : Session) : Hw × Option (Nat × Nat × Nat) :=
  let first := match y.wait with
    | some (_, p) => p.seq
    | none => (y.lastSeq + 1) % 65536
  match old with
  | some x =>
    if x.number = y.number then
      let next := match x.wait with
        | some (_, p) => p.seq
        | none => (x.lastSeq + 1) % 65536
      let n := (next + 65536 - first) % 65536
      (hw, if n = 0 then none else some (y.name, first, (next + 65535) % 65536))
    else
      let (r, hw) := hw.draw
      (hw, some (y.name, first, r % 65536))
  | none =>
    let (r, hw) := hw.draw
    (hw, some (y.name, first, r % 65536))

/-- The session of a transport taken from the image: its sequence counts go on from where they stood (R419). -/
def restoreSession (old : Option Session) (y : Session) : Session :=
  let y := { y with wait := none, held := [], resume := none, away := [] }
  match old with
  | some x => if x.number = y.number then { y with remote := x.remote, lastSeq := x.lastSeq, eventSeq := x.eventSeq, lastSeen := x.lastSeen } else y
  | none => y

/-- The command side of the last sealed epoch, with what left the device since: packets, tokens, counts; those of the operations
`ended` that had not ended by that epoch stand as running (R49, R416). -/
def restoreCmd (ended : List Nat) (old img : CmdSt) : CmdSt :=
  let open' := img.ops.filter (fun o => o.live)
  let back := fun (o : StepOp) => if ended.contains o.token then (open'.find? (fun e => decide (e.token = o.token))).getD o else o
  { old with
    spi := img.spi.map (restoreSession old.spi), link := img.link.map (restoreSession old.link), eth := img.eth.map (restoreSession old.eth)
    ops := old.ops.map back ++ open'.filter (fun e => !old.ops.any (fun o => decide (o.token = e.token))) }

/-- Step 4 of R416: every RW and RWL field that differs from the image is rewritten; those of PMC are not mirrored (R444). -/
def Hw.rewrite (hw : Hw) (img : Image) : Hw :=
  let keys := (hw.regs.map (·.1)) ++ (img.regs.map (·.1))
  let hw := keys.foldl (fun (h : Hw) a =>
    match (if a / 0x10000 = 0x90 then none else regDesc a) with
    | none => h
    | some d =>
      let m := d.rw ||| d.rwl
      let was := (mget (wordOf d.reset) img.regs a).toNat
      h.setReg a ((h.reg a &&& (0xFFFFFFFF ^^^ m)) ||| (was &&& m))) hw
  { hw with
    tnd := { hw.tnd with slots := img.slots }, lnt := { hw.lnt with limits := img.limits }
    out := { hw.out with netAddr := img.netAddr, netMask := img.netMask, netGate := img.netGate } }

/-- The records of a source newer than a delivery point, oldest first; LOST_BEFORE on the first when 64 did not hold them (R420). -/
def Hw.newer (hw : Hw) (points : SMap Nat) (src : Nat) : List Record :=
  let p := mget 0 points src
  let n := (mget 0 hw.evt.seq src + 2 ^ 24 - p) % 2 ^ 24
  let l := ((mget [] hw.evt.recent src).take n).reverse
  if l.length < n then (match l with | r :: q => { r with lost := true } :: q | [] => []) else l

/-- The new active unit delivers them to every session (R420). -/
def State.redeliver (s : State) (points : SMap Nat) : State :=
  let l := (s.hw.evt.seq.map (·.1)).flatMap (fun src => s.hw.newer points src)
  { s with cmd := l.foldl (fun c r => c.deliverAll s.hw.cas.index r s.hw.isSecondary) s.cmd }

/-- Steps 1 to 3 of R416: with the copy of the next epoch under way the state goes back to the last seal, otherwise the journal brings
it to the last completed command, where it stands. Answers the lost ranges. -/
def State.takeOver (s : State) (img : Image) : State × List (Nat × Nat × Nat) :=
  let ended := (s.cmd.ops.filter (fun o => !o.live)).map (·.token)
  let s := s.ceaseAll 0x08
  let old := s.cmd
  let s : State := { s with cmd := restoreCmd ended old img.cmd }
  let (hw, ranges) := transports.foldl (fun (e : Hw × List (Nat × Nat × Nat)) t =>
    match img.cmd.session t with
    | none => e
    | some y =>
      let (hw, r) := e.1.lostRange (old.session t) y
      (hw, e.2 ++ r.toList)) (s.hw, [])
  let s := ({ s with hw := hw.rewrite img } : State).dropAdmin
  let s := s.cmd.ops.foldl (fun (s : State) o => if o.live then s.finishOp o.token 0x08 [] else s) s
  (s, ranges)

/-- The standby is promoted (R416): `u` is the unit that failed. -/
def State.promote (s : State) (u : Nat) : State :=
  let w := s.hw.wch
  let partial' := w.copy.isSome
  let img := s.mirror.sealed.getD s.image
  let old := s.cmd
  let (s, ranges) := if partial' then s.takeOver img else (s.ceaseAll 0x08, [])
  let s := s.endUnsealed img.cmd old.ops partial'
  let s := (transports.foldl (fun s t => s.answerUnknown old t) s).lateUnknown
  let s := s.redeliver img.points
  let new := 1 - u
  let w := s.hw.wch
  let w := w.setUnit new { w.unit new with state := 5, since := s.hw.ticks, wasActive := false, activeAt := s.hw.clk.time }
  let w := { w with
    active := new, copy := none, waiting := false, swap := none, swapStep := false, journal := 0, nextAt := s.hw.ticks + s.hw.epochTicks
    failovers := satAdd 0xFF w.failovers 1 }
  ({ s with hw := { s.hw with wch := w } } : State).hwStep (fun hw =>
    let hw := hw.raise (fid srcWch 2 1) (le 1 u)
    let hw := if partial' then hw.raise (fid srcWch 1 4) (le 1 new) else hw
    let (n, hw) := hw.heldCount
    let hw := hw.event srcWch 0xE001 (le 1 new ++ le 1 0 ++ le 4 w.epoch ++ le 1 n)
    if partial' then
      hw.event srcWch 0xE002 (le 1 ranges.length ++ ranges.flatMap (fun r => le 1 r.1 ++ le 2 r.2.1 ++ le 2 r.2.2))
    else hw)

/-- No unit can be promoted (R417): the fault acts, the state is lost. -/
def State.loseWatch (s : State) (u : Nat) : State :=
  let s := s.ceaseAll 0x08
  let s := s.hwStep (fun hw => hw.raise (fid srcWch 3 3) (le 1 u))
  { s with
    hw := { s.hw with wch := { s.hw.wch with lost := true, copy := none, waiting := false, swap := none, swapStep := false } }
    cmd := { issued := s.cmd.issued, sessNext := s.cmd.sessNext }
    mirror := {} }

/-- WATCH_FAIL_DECLARE: three heartbeats missing, each allowed 10 µs late, or a failed internal check (R414 to R417). -/
def State.failDeclare (s : State) (u : Nat) (internal : Bool) : State :=
  let x := s.hw.wch.unit u
  if ¬ (u < 2 ∧ 2 ≤ x.state ∧ x.state ≤ 5 ∧ s.hw.watchRuns ∧ (internal ∨ x.beat + 248000 ≤ s.hw.ticks)) then s
  else if u ≠ s.hw.wch.active then s.hwStep (fun hw => hw.standbyFails u)
  else
    let ready := s.hw.wch.standby.promotable
    let s := s.hwStep (fun hw => hw.unitOff u)
    if ready then s.promote u else s.loseWatch u

/-- TAKE_BACK: the hold-off is spent; the swap waits for the next boundary (R422). -/
def takeBack (hw : Hw) : Hw :=
  let x := hw.wch.standby
  let wait := 80000000 * min 600 (max 1 (bits (hw.reg 0x0001000C) 0 10))
  if hw.watchRuns ∧ x.state = 4 ∧ x.since + wait ≤ hw.ticks ∧ hw.wch.swap.isNone then { hw with wch := { hw.wch with swap := some 1 } } else hw

/-! ### Rows -/

/-- EPOCH_BOUNDARY. -/
def execEpochBoundary (s : State) : Out := .next s.epochBoundary
/-- EPOCH_SEAL. -/
def execEpochSeal (s : State) : Out := .next s.epochSeal
/-- WATCH_HEARTBEAT. -/
def execWatchHeartbeat (unit : Nat) (s : State) : Out := .next (s.hwStep (watchHeartbeat unit))
/-- WATCH_FAIL_DECLARE. -/
def execWatchFailDeclare (unit : Nat) (internal : Bool) (s : State) : Out := .next (s.failDeclare unit internal)
/-- WATCH_RESTART. -/
def execWatchRestart (unit : Nat) (s : State) : Out := .next (s.hwStep (watchRestart unit))
/-- WATCH_SELFTEST_DONE. -/
def execWatchSelftestDone (unit : Nat) (ok : Bool) (s : State) : Out := .next (s.hwStep (watchSelftestDone unit ok))
/-- TAKE_BACK. -/
def execTakeBack (s : State) : Out := .next (s.hwStep takeBack)
/-- REHEARSE (R423): a write of 1 to WCH_CTL.REHEARSE. -/
def execRehearse (s : State) : Out := .next (s.hwStep (fun hw => hw.writeReg false 0x00010000 1))

end Sys2Proof.Machine
end

