-- ==== Sys2Proof/Machine/StepRun.lean ====
section
/-! DEFINITION. The steps of stepped operations (R44 to R46): what each opcode's operation does in a step and commits in its final
one, and the start of an automatic calibration. The observation of a step says whether it is the final one and what was measured. -/

namespace Sys2Proof.Machine

/-- An operation ends with OK and its result. -/
def State.doneOk (s : State) (o : StepOp) (result : List Byte) : State := s.finishOp o.token 0 result
/-- An operation ends with an answer's status and payload (R44). -/
def State.doneWith (s : State) (o : StepOp) (a : Ans) : State := s.finishOp o.token a.status a.data
/-- An operation ends with OK once its effect on the hardware is in force. -/
def State.commit (s : State) (o : StepOp) (f : Hw → Hw) (result : List Byte) : State := (s.hwStep f).doneOk o result

/-! ### The mode (R58, R63, R275) -/

/-- A failed check of a transition; in a cascade an event names the device (R275). -/
def State.modeFails (s : State) (o : StepOp) (code dev : Nat) : State :=
  (s.hwStep (fun hw =>
    let hw : Hw := { hw with dev := { hw.dev with target := none } }
    if hw.inCascade then hw.event srcCas 0xE002 (le 1 dev) else hw)).doneWith o (ansPre code)

/-- The final step of MODE_SET: Table 3.4 is checked, the mode changes; a cascade's devices change at an announced tick, after which
the operation ends. The observation holds the pin and lamp-room readings of an entry to CONFIG and what the other devices found. -/
def State.modeFinal (s : State) (o : StepOp) (obs : StepObs) : State :=
  match Mode.ofCode (o.params.headD 0) with
  | none => s.doneWith o (ansBad 16)
  | some m =>
    let hw := s.hw
    if hw.dev.mode = m then
      ({ s with hw := { hw with dev := { hw.dev with target := none } } } : State).doneOk o []
    else if hw.cas.modeAt.isSome then s
    else
      match (if m = .scan then hw.preScan else none) with
      | some code => s.modeFails o code 0
      | none =>
        if hw.inCascade then
          if m = .scan ∧ ¬ obs.ok then s.modeFails o obs.code ((obs.data.headD 1).toNat % 4)
          else s.hwStep (fun hw => hw.announceMode m)
        else
          let s := s.hwStep (fun hw => hw.goMode m 0 (obs.data[0]?.map Int.toNat) (obs.data[1]?.map Int.toNat))
          if s.hw.dev.mode = m then s.doneOk o [] else s.doneWith o s.hw.ansMode

/-! ### Lanes (R253, R262) -/

/-- The lanes that LANE_STEP_UP has still to step, in its order: ascending, the lane of the command channel last. -/
def Hw.lanesToStep (hw : Hw) (rate : Nat) : List Nat :=
  let l := hw.lanesBelow rate
  l.filter (fun i => decide (hw.cmdLane ≠ some i)) ++ l.filter (fun i => decide (hw.cmdLane = some i))

/-- One step of LANE_STEP_UP: the next lane below the target sends an offer, one lane at a time. -/
def Hw.offerNext (hw : Hw) (rate : Nat) : Hw :=
  match hw.lanesToStep rate with
  | [] => hw
  | l :: _ =>
    let x := hw.lane l
    if x.state = .active ∧ x.offered.isNone then hw.setLane l { x with offered := some (2 ^ (rate + 1) - 1, hw.sfc l), reqOut := 1 } else hw

/-- Its final step: every enabled lane at the target and ACTIVE, or all of them back where they were. -/
def State.lanesFinal (s : State) (o : StepOp) : State :=
  let rate := o.params.headD 0
  let bad := (List.range 4).find? (fun l =>
    s.hw.laneOn l && (decide ((s.hw.lane l).rate < rate) || decide ((s.hw.lane l).state ≠ .active ∧ (s.hw.lane l).state ≠ .idle)))
  match bad with
  | none => s.commit o (fun hw => hw.clearBootCount 10) (le 1 rate)
  | some l =>
    (s.hwStep (fun hw => (hw.lanesBack (o.params.drop 1)).raise (fid srcLnk 1 3) (le 1 l))).doneWith o (ansPre 0x0203)

/-! ### Uploads -/

/-- SIFTER_SET: checked in the first step, loaded; it ends once the fade is over (R332 to R334). -/
def State.filterStep (s : State) (o : StepOp) : State :=
  let c := o.params.getD 0 0
  let load : Option (State × Option Nat) :=
    if o.step = 0 then
      match s.hw.sifterAsk c (o.params.getD 1 0) (o.params.getD 2 0 + 256 * o.params.getD 3 0) o.bytes with
      | .error e => some (s, some e)
      | .ok ask => some (s.hwStep (fun hw => hw.loadFilter c ask), none)
    else none
  match load with
  | some (s, some e) => s.doneWith o (ansBad (28 + e))
  | some (s, none) => if (s.hw.sftc c).fading then s else s.doneOk o []
  | none => if (s.hw.sftc c).fading then s else s.doneOk o []

/-- GUARD_MAP_LOAD's final step (R377). -/
def State.mapFinal (s : State) (o : StepOp) : State :=
  let set := o.params.headD 0
  match badMap o.bytes with
  | some e => s.doneWith o (ansBad (29 + e))
  | none =>
    if 16384 < s.hw.kpr.cellsBut set + mapCells o.bytes then s.doneWith o (ansPre 0x0705)
    else
      let s := s.hwStep (fun hw => hw.storeMap set o.bytes)
      s.doneOk o (le 4 (s.hw.kpr.setCrc set))

/-- FW_UPDATE's final step (R455): a committed image is valid, and its count of S04 returns to 0. -/
def State.fwFinal (s : State) (o : StepOp) : State :=
  let (hw, bad) := s.hw.fwCommit o.bytes
  let s := ({ s with hw := hw } : State).drain
  match bad with
  | some c => s.doneWith o (ansPre c)
  | none =>
    s.commit o (fun hw =>
      let b := hw.pantry.boot
      ({ hw with pantry := { hw.pantry with boot := { b with fw := putBit b.fw (1 - hw.sec.slot) false } } } : Hw).clearBootCount 4) []

/-! ### Calibration (R361, R362, R366) -/

/-- One quantity of a run ends; with the last one the run commits and ends. -/
def State.calFinal (s : State) (o : StepOp) (obs : StepObs) : State :=
  let s := s.hwStep (fun hw => hw.calStep obs)
  if ¬ s.hw.cal.queue.isEmpty then s
  else
    let out := s.hw.cal.outcome
    let (status, _, bytes) := calStatus out
    let s := s.hwStep (fun hw =>
      let hw := hw.calCommit
      let hw := if calClean out then hw.clearBootCount 8 else hw
      hw.calReport o bytes)
    s.finishOp o.token status bytes

/-- A step of CAL_RUN: a run that waited for an automatic one begins once that has ended (R366). -/
def State.calStepOp (s : State) (o : StepOp) (obs : StepObs) : State :=
  if o.params.getD 1 0 = 0 then
    let s := s.cmd.ops.foldl (fun (s : State) e =>
      if e.live ∧ e.opcode = 0x60 ∧ e.token ≠ o.token then
        match e.ending with
        | some (st, r) => s.cease e st r
        | none => s.cease e 0x02 []
      else s) s
    let m := o.params.headD 0
    { s with hw := s.hw.calBegin m, cmd := s.cmd.updOp o.token (fun o => { o with params := [m, 1] }) }
  else if obs.final then s.calFinal o obs
  else s

/-- CAL_AUTO_START: a due quantity runs once the mode allows and no host operation holds its blocks; the first run of a cascade's
power-up holds off MODE_SET (R366, R367). -/
def State.calAuto (s : State) : State :=
  let boot := s.hw.cal.bootDue
  let mask := if boot then s.hw.reg 0x00800030 % 512 else s.hw.calDueNow
  let may := if boot then decide (s.hw.dev.mode = .config) else tb (s.hw.reg 0x00800000) 16 && decide (s.hw.dev.mode ≠ .guard)
  if ¬ may ∨ ¬ s.hw.awake 15 ∨ mask = 0 ∨ s.cmd.calRuns ∨ s.cmd.held (calHolds mask) then s
  else
    let (n, hw) := s.hw.draw
    let (steps, hw) := hw.draw
    let tok := freshToken n s.cmd.issued
    let o : StepOp := { stepOp 0x60 (if boot then [0x1FF] else []) [mask, 1] with token := tok, steps := steps % 65536, chunkAt := hw.ticks }
    let hw := hw.calBegin mask
    { s with
        hw := { hw with cal := { hw.cal with bootDue := if boot then false else hw.cal.bootDue } }
        cmd := { s.cmd with issued := tok :: s.cmd.issued, ops := s.cmd.ops.filter (fun o => !o.released) ++ [o] } }
def execCalAutoStart (s : State) : Out := .next s.calAuto

/-! ### Built-in self-tests (R448, Table 22.5) -/

/-- Whether a channel of a tile is placed (R170). -/
def Hw.tilePlaced (hw : Hw) (n : Nat) : Bool :=
  match hw.tnd.active with
  | some p => p.tracks.any (fun e => decide (e.1 / 16 = n))
  | none => false

/-- TILE: every tile in service without a placed channel; those that fail are retired, those skipped are counted. -/
def Hw.bistTile (hw : Hw) (fails : List Int) : Hw × Nat × Nat :=
  let inService := (List.range 48).filter (fun n => !(hw.tile n).retired)
  let skipped := inService.filter (fun n => hw.tilePlaced n)
  let bad := inService.filter (fun n => !hw.tilePlaced n && fails.contains (n : Int))
  let hw := bad.foldl (fun h n => retireTile n 1 h) hw
  match bad with
  | n :: _ => (hw, 1, (fid (srcTile n) 2 13).code)
  | [] => if skipped.isEmpty then (hw, 0, 0) else (hw, 2, skipped.length)

/-- VERNIER: a channel beyond the trim window is retired with F.TILE.010. -/
def Hw.bistChannel (hw : Hw) (k : Nat) : Hw :=
  if 768 ≤ k then hw
  else
    let n := k / 16
    let pinned := hw.pinnedChan k
    let t := hw.tile n
    ((hw.setTile n (t.setChan (k % 16) { t.chan (k % 16) with retired := true })).raise (fid (srcTile n) 2 10) (le 2 n ++ le 2 k)).lossOfPinned pinned

/-- A short found by a pin test that a command asked for: F.BCN.001 with its effect (R64, R95). -/
def Hw.pinTestNow (hw : Hw) (mask : Nat) : Hw :=
  let hw := hw.pinTest mask
  if mask = 0 then hw else (hw.casInhibit 0 (fid srcBcn 3 1) true).stopEffect srcBcn []

/-- One test ends: its effect, its result (0 pass, 1 fail, 2 skipped) and its detail, the code of the fault a failure raises. The
observation holds what was found: tiles, live lamp-room cells, pins, channels, a buffer, a slice. -/
def Hw.bistTest (hw : Hw) (t : Nat) (obs : StepObs) : Hw × Nat × Nat :=
  let d := (obs.data.headD 0).toNat
  let failed := fun (hw : Hw) (f : FaultId) => (hw, 1, f.code)
  match t with
  | 0 => hw.bistTile (if obs.ok then [] else obs.data)
  | 1 =>
    let h := hw.lampTest (if obs.ok then 2 ^ 64 - 1 else d)
    if unfitGroups h.spd.lampLive h.refK = 0 then (h, 0, 0) else failed h (fid srcSpd 2 10)
  | 2 =>
    let m := if obs.ok then 0 else d &&& 0x010107FF
    if m = 0 then (hw.pinTestNow 0, 0, 0) else failed (hw.pinTestNow m) (fid srcBcn 3 1)
  | 3 =>
    let m := if obs.ok then 0 else d % 4096
    if m = 0 then (sltPinTest 0 hw, 0, 0) else failed (sltPinTest m hw) (fid srcSlt 1 2)
  | 4 =>
    let bad := if obs.ok then [] else (obs.data.map Int.toNat).filter (fun k => decide (k < 768))
    if bad.isEmpty then (hw, 0, 0) else failed (bad.foldl (fun h k => h.bistChannel k) hw) (fid (srcTile 0) 2 10)
  | 5 => if obs.ok then (hw, 0, 0) else failed (hw.raise (fid srcEvt 2 1) (le 2 d)) (fid srcEvt 2 1)
  | 6 => if obs.ok then (hw, 0, 0) else failed (hw.raise (fid srcCal 2 10) (le 2 d)) (fid srcCal 2 10)
  | 7 => if obs.ok then (hw, 0, 0) else failed (hw.raise (fid srcTid 2 4) (le 1 d)) (fid srcTid 2 4)
  | 8 =>
    if obs.ok then (hw, 0, 0)
    else
      if hw.guarding then failed (hw.kprFault (d % 2) 10 0) (fid (srcKpr (d % 2)) 4 10)
      else failed (hw.raise (fid (srcKpr (d % 2)) 0 10) (le 2 0)) (fid (srcKpr (d % 2)) 0 10)
  | _ =>
    if obs.ok then (hw, 0, 0)
    else
      let u := 1 - hw.wch.active
      let st := (hw.wch.unit u).state
      failed (if 2 ≤ st ∧ st ≤ 4 then hw.standbyFails u else hw.raise (fid srcWch 2 2) (le 1 u)) (fid srcWch 2 2)

/-- A step of BIST_RUN that ends its next test; with the last the operation ends, with OK only if every test passed; the status of one
that did not is free (log entry 80). -/
def State.bistFinal (s : State) (o : StepOp) (obs : StepObs) : State :=
  match o.params with
  | [] => s.doneOk o o.bytes
  | t :: rest =>
    let (hw, r, d) := s.hw.bistTest t obs
    let s := ({ s with hw := hw } : State).drain
    let all := o.bytes ++ le 1 t ++ le 1 r ++ le 2 d
    let s : State := { s with cmd := s.cmd.updOp o.token (fun o => { o with params := rest, bytes := all }) }
    if ¬ rest.isEmpty then s
    else if (List.range (all.length / 4)).all (fun i => all.getD (4 * i + 1) 0 == 0) then s.doneOk o all
    else
      let (n, hw) := s.hw.draw
      ({ s with hw := hw } : State).finishOp o.token (if n % 256 = 0 then 6 else n % 256) all

/-! ### A step -/

/-- What a final step of an operation commits. -/
def State.finalStep (s : State) (o : StepOp) (obs : StepObs) : State :=
  let p := fun i => o.params.getD i 0
  match o.opcode with
  | 0x14 => s.commit o (fun hw => hw.holdCopied (p 0 - 0x10000000) (p 1)) (s.hw.windowBytes (p 0 - 0x10000000) (p 1))
  | 0x21 => s.modeFinal o obs
  | 0x30 => s.commit o (fun hw => { hw with tnd := { hw.tnd with slots := mset [] hw.tnd.slots (p 0) o.bytes } }) (le 4 (crc32c o.bytes))
  | 0x44 =>
    let m := (obs.data.headD 0).toNat &&& 0x010107FF
    s.commit o (fun hw => hw.pinTestNow m) (le 4 m)
  | 0x46 => s.doneOk o (s.hw.ledgerBytes (p 0) (p 1))
  | 0x70 => s.mapFinal o
  | 0x84 => s.lanesFinal o
  | 0x85 => if s.hw.lnk.testOn then s else s.doneOk o (le 8 s.hw.lnk.testErrs)
  | 0x94 =>
    s.commit o (fun hw => hw.setPort (p 0) { hw.port (p 0) with mesh := (List.range 768).map (fun i => field o.bytes (4 * i) 4) }) []
  | 0xA5 => s.bistFinal o obs
  | 0xB3 => s.fwFinal o
  | _ => s.doneOk o o.bytes

/-- STEPPED_OP_STEP: at a step boundary an ending of R46 takes effect; otherwise the operation makes a step. -/
def State.stepOp (s : State) (tok : Nat) (obs : StepObs) : State :=
  match s.cmd.op tok with
  | none => s
  | some o =>
    if ¬ o.live ∨ o.state = 0 then s
    else
      match o.ending with
      | some (status, result) => s.cease o status result
      | none =>
        let s : State := { s with cmd := s.cmd.updOp tok (fun o => { o with step := min 65535 (o.step + 1) }) }
        match o.opcode with
        | 0x56 => s.filterStep o
        | 0x60 => s.calStepOp o obs
        | 0x84 => if obs.final then s.lanesFinal o else s.hwStep (fun hw => hw.offerNext (o.params.headD 0))
        | _ => if obs.final then s.finalStep o obs else s
def execSteppedOpStep (token : U32) (obs : StepObs) (s : State) : Out := .next (s.stepOp token.toNat obs).swapAfterStep

end Sys2Proof.Machine
end

