-- ==== Sys2Proof/Machine/Transmit.lean ====
section
/-! DEFINITION. Sending (R225, R231, R233, R234, R244 to R248, R258, R261): the next link packet of a lane, the next datagram of a
port, electrical idle. -/

namespace Sys2Proof.Machine

/-! ### What is queued -/

/-- The first element that `p` accepts, and the list without it. -/
def takeFirst {A : Type} (p : A → Bool) : List A → Option (A × List A)
  | [] => none
  | x :: r => if p x then some (x, r) else (takeFirst p r).map (fun e => (e.1, x :: e.2))

/-- A packet taken from where it waited: what it carries, the state without it. -/
abbrev Taken := LpBody × State

/-- A forwarded packet under a key of the forwarding queues whose kind `k` accepts: 1 points, 2 frame, 3 export, 4 Bell, any other a
packet of VC 0 (R278, R408). -/
def State.takeForward (s : State) (key : Nat) (k : Nat → Bool) : Option Taken :=
  (takeFirst (fun (e : Nat × CasPacket) => k e.2.kind) (mget [] s.hw.out.fwd key)).map (fun e =>
    (LpBody.cas e.1.2, { s with hw := { s.hw with out := { s.hw.out with fwd := mset [] s.hw.out.fwd key e.2 } } }))

/-- The next packet of the command channel. -/
def State.takeCommand (s : State) : Option Taken :=
  match s.cmd.outLink with
  | p :: r => some (.command p, { s with cmd := { s.cmd with outLink := r } })
  | [] => none

/-- The next Bell frame (R402). -/
def State.takeBell (s : State) : Option Taken :=
  match s.hw.bel.waiting with
  | f :: r => some (.bell f, { s with hw := { s.hw with bel := { s.hw.bel with waiting := r, sent := (s.hw.bel.sent + 1) % 2 ^ 32 } } })
  | [] => none

/-- A secondary's discovery packet: its index, DEV_IDENT, firmware version and feature word (R269; log entry 178). -/
def State.takeHello (s : State) : Option Taken :=
  if s.hw.cas.hello then
    some (.discovery (le 4 s.hw.cas.index ++ le 4 s.hw.identWord ++ le 4 s.hw.fwRunning ++ le 4 (Config.features (s.hw.dev.codeRead.getD 0xF))),
      { s with hw := { s.hw with cas := { s.hw.cas with hello := false } } })
  else none

/-- The substreams of this device that a lane carries now. -/
def Hw.subsOn (hw : Hw) (l : Nat) : List Nat :=
  (List.range 4).filter (fun b => decide (hw.subLane b = l))

/-- The next frame packet of a lane: behind the lane's last point packet of its frame (R225). -/
def State.takeFrame (s : State) (l : Nat) : Option Taken :=
  let ready := fun (e : Nat × StreamPkt) =>
    decide (e.1 = l) && !(s.hw.subsOn l).any (fun b => (s.hw.sub b).packets.any (fun p => decide (p.frame = e.2.frame)))
  (takeFirst ready s.hw.out.frameQ).map (fun e =>
    (.stream e.1.2, { s with hw := { s.hw with out := { s.hw.out with frameQ := e.2 } } }))

/-- The next point packet of a substream. -/
def State.takeSub (s : State) (b : Nat) : Option Taken :=
  let x := s.hw.sub b
  match x.packets with
  | p :: r => some (.stream p, { s with hw := s.hw.setSub b { x with packets := r } })
  | [] => none

/-- The next point packet of a lane; which of its substreams, or of the forwarded packets, comes first is free. The queue of the lane drains
(R232). -/
def State.takePoint (s : State) (l : Nat) : Option Taken :=
  let own := (s.hw.subsOn l).filterMap (fun b => s.takeSub b)
  let all := own ++ (if s.hw.isSecondary then [] else (s.takeForward l (fun k => decide (k = 1))).toList)
  let one : Option Taken := match all with
    | [] => none
    | [x] => some x
    | _ =>
      let n := Config.freeNat s.hw.free % all.length
      all[n]?.map (fun (x : Taken) => (x.1, { x.2 with hw := { x.2.hw with free := x.2.hw.free + 1 } }))
  one.map (fun (x : Taken) => (x.1, { x.2 with hw := x.2.hw.markLane l }))

/-- The next export segment of a lane, unless a lost lane pauses raw export (R258). -/
def State.takeExport (s : State) (l : Nat) : Option Taken :=
  if s.hw.out.expPaused then none
  else
    ((takeFirst (fun (e : Nat × StreamPkt) => decide (e.1 = l)) s.hw.out.expQ).map (fun e =>
      ((.stream e.1.2, { s with hw := { s.hw with out := { s.hw.out with expQ := e.2 } } }) : Taken))).orElse (fun _ =>
        if s.hw.isSecondary then none else s.takeForward l (fun k => decide (k = 3)))

/-- The next new packet of a virtual channel of a lane (Table 11.3, R278, R408). -/
def State.takeNew (s : State) (l vc : Nat) : Option Taken :=
  let host := decide (s.hw.hostLane = some l)
  if s.hw.isSecondary then
    if l ≠ 4 then none
    else match vc with
      | 0 => (s.takeHello.orElse (fun _ => s.takeCommand)).orElse (fun _ => s.takeFrame l)
      | 1 => s.takeBell
      | 5 => (s.takePoint l).orElse (fun _ => s.takeExport l)
      | _ => none
  else if 4 ≤ l then (if vc = 0 ∧ l < 7 then s.takeForward l (fun _ => true) else none)
  else match vc with
    | 0 => if host then s.takeCommand else none
    | 1 => if host then s.takeBell.orElse (fun _ => s.takeForward 0 (fun k => decide (k = 4))) else none
    | 2 => (s.takeFrame l).orElse (fun _ => if host then s.takeForward 0 (fun k => decide (k = 2)) else none)
    | 3 => s.takePoint l
    | 4 => s.takeExport l
    | _ => none

/-! ### Link packets (R244 to R248, R258) -/

/-- What a packet takes in the retry buffer (R246). -/
def retrySize (len : Nat) : Nat := ceilDiv len 16 * 16 + 32
def Lane.buffered (x : Lane) : Nat := x.unacked.foldl (fun n p => n + retrySize p.len) 0

/-- Whether the retry buffer takes one more packet. -/
def Lane.takes (x : Lane) (len : Nat) : Bool := decide (x.unacked.length < 2047 ∧ x.buffered + retrySize len ≤ 49152)

/-- A packet started as the lane's next LP (R244 to R246). -/
def Hw.startLp (hw : Hw) (l vc : Nat) (body : LpBody) : Hw :=
  let x := hw.lane l
  let p : Lp := { seq := x.txSeq, vc := vc, body := body, len := body.size }
  hw.setLane l { x.put p hw.ticks with
    txSeq := (x.txSeq + 1) % 4096, unacked := x.unacked ++ [p]
    ackAt := if x.unacked.isEmpty then hw.ticks else x.ackAt, quietAt := hw.ticks }

/-- The next packet of a virtual channel that is ready, one moved from a lost lane first; none on a channel that is held (R248, R258). -/
def State.takeReady (s : State) (l vc : Nat) : Option Taken :=
  let x := s.hw.lane l
  if 2 ≤ vc ∧ s.hw.vcHeld l vc then none
  else
    match takeFirst (fun (p : Lp) => decide (p.vc = vc)) x.moved with
    | some (p, rest) => some (p.body, { s with hw := s.hw.setLane l { x with moved := rest } })
    | none => s.takeNew l vc

/-- The virtual channels in the order of Table 11.3; of VC 0 and VC 1, which have one priority, either may be first (free). -/
def vcOrder (n : Nat) : List Nat := if n % 2 = 0 then [0, 1, 2, 3, 4, 5] else [1, 0, 2, 3, 4, 5]

/-- LP_TRANSMIT on a Vymon Link lane, between packets: what is to be replayed, else the packet of the highest priority that is ready; where
the retry buffer does not take that one, none starts (R231, R244, R246). -/
def State.sendLp (s : State) (l : Nat) : State :=
  let x := s.hw.lane l
  if x.state ≠ .active ∨ s.hw.ticks < x.exitAt ∨ x.sending s.hw.ticks then s
  else
    match x.resend with
    | p :: r => { s with hw := s.hw.setLane l { x.put p s.hw.ticks with resend := r, quietAt := s.hw.ticks } }
    | [] =>
      let n := Config.freeNat s.hw.free
      let s : State := { s with hw := { s.hw with free := s.hw.free + 1 } }
      match (vcOrder n).findSome? (fun vc => (s.takeReady l vc).map (fun e => (vc, e))) with
      | some (vc, body, t) => if x.takes body.size then { t with hw := t.hw.startLp l vc body } else s
      | none => s

/-! ### Datagrams (R233, R234, R407) -/

/-- The destination of the streams: a field that is 0 takes its part from the session that last sent STREAM_CONFIG (R233). -/
def Hw.streamDest (hw : Hw) : Nat × Nat :=
  let src := hw.out.streamSrc
  (if hw.reg 0x00600020 = 0 then src.ip.toNat else hw.reg 0x00600020,
   if bits (hw.reg 0x00600024) 0 16 = 0 then src.port.toNat else bits (hw.reg 0x00600024) 0 16)

/-- What the discard of an unresolved stream datagram counts: its points as dropped, its image as skipped once; frame packets have no count
(R234; log entry 170). -/
def Hw.lostStream (b : LpBody) (hw : Hw) : Hw :=
  let (f, n) := b.points
  let hw := if n = 0 then hw else (hw.stick 0x0060000C n).updFrame f (fun r => { r with dropped := r.dropped + n, flags := r.flags ||| 2 })
  match b.image with
  | some f => hw.skipExport f
  | none => hw

/-- What port 0 carries beside streams, in its order: what the network answers and asks, Bell frames, a secondary's among them, and the
packets of the admin port; `l` is the port (R231, R233, R234, R407; log entry 171). The destination of a secondary's Bell frames stands in
that device's registers, which this one does not hold: it is free (R408; log entry 171). -/
def State.sendAdmin (s : State) (l : Nat) : Option State :=
  match takeFirst (fun (e : Nat × NetOut) => decide (e.1 = l)) s.hw.out.ethOut with
  | some (e, rest) => some { s with hw := ({ s.hw with out := { s.hw.out with ethOut := rest } } : Hw).sendOwn l e.2 }
  | none =>
    if l ≠ 0 then none
    else match s.takeBell, s.takeForward 0 (fun k => decide (k = 4)), s.cmd.outEth with
      | some (body, t), _, _ =>
        let ports := t.hw.reg 0x00890010
        let ip := if t.hw.reg 0x0089000C = 0 then t.hw.bel.src.ip.toNat else t.hw.reg 0x0089000C
        some { t with hw := t.hw.sendUdp 0 (bits ports 16 16) ip (bits ports 0 16) body.bytes id }
      | none, some (body, t), _ =>
        let (ip, hw) := t.hw.draw
        let (ports, hw) := hw.draw
        some { t with hw := hw.sendUdp 0 (bits ports 16 16) (ip % 2 ^ 32) (bits ports 0 16) body.bytes id }
      | none, none, p :: r =>
        let hw := s.hw.sendUdp 0 (bits (s.hw.reg 0x00680008) 0 16) p.peer.ip.toNat p.peer.port.toNat p.bytes id
        some { s with cmd := { s.cmd with outEth := r }, hw := hw }
      | none, none, [] => none

/-- LP_TRANSMIT on an Ethernet port: one frame, the highest priority first. -/
def State.sendDatagram (s : State) (l : Nat) : State :=
  if ¬ (s.hw.lane l).lock then s
  else match s.sendAdmin l with
    | some t => t.drain
    | none =>
      let frame := (s.takeFrame l).orElse (fun _ => if s.hw.hostLane = some l then s.takeForward 0 (fun k => decide (k = 2)) else none)
      match (frame.orElse (fun _ => s.takePoint l)).orElse (fun _ => s.takeExport l) with
      | some (body, t) =>
        t.hwStep (fun hw => hw.sendUdp l hw.out.pointPort hw.streamDest.1 hw.streamDest.2 body.bytes (Hw.lostStream body))
      | none => s

/-- LP_TRANSMIT. -/
def execLpTransmit (lane : Nat) (s : State) : Out :=
  .next (if 8 ≤ lane then s else if s.hw.isEth ∧ lane < 4 then s.sendDatagram lane else s.sendLp lane)

/-! ### Electrical idle (R261) -/

/-- Whether a lane has an LP queued. -/
def State.queued (s : State) (l : Nat) : Bool :=
  !(s.hw.lane l).moved.isEmpty || !(s.hw.lane l).resend.isEmpty || (List.range 6).any (fun vc => (s.takeNew l vc).isSome)

/-- IDLE_ENTER. -/
def State.idleEnter (s : State) (l : Nat) : State :=
  let x := s.hw.lane l
  let after := bits (s.hw.reg (0x00680040 + 4 * l)) 16 16
  if 8 ≤ l ∨ (s.hw.isEth ∧ l < 4) ∨ x.state ≠ .active ∨ after = 0 ∨ s.queued l ∨ ¬ x.unacked.isEmpty ∨ s.hw.ticks < x.quietAt + 800 * after then s
  else s.hwStep (fun hw => hw.toLane l .idle (fun y => { y with reqOut := 6 }))

/-- IDLE_EXIT: 4 superframes of TRAIN, then the normal format. -/
def State.idleExit (s : State) (l : Nat) : State :=
  let x := s.hw.lane l
  if 8 ≤ l ∨ x.state ≠ .idle ∨ ¬ s.queued l then s
  else s.hwStep (fun hw => hw.toLane l .active (fun y =>
    let y := y.lineTo (y.block (y.since + sfTicks y.rate 2))
    let exit := hw.ticks + sfTicks y.rate 4
    { y with reqOut := 0, exitAt := exit, quietAt := hw.ticks, lineAt := y.block exit }))

def execIdleEnter (lane : Nat) (s : State) : Out := .next (s.idleEnter lane)
def execIdleExit (lane : Nat) (s : State) : Out := .next (s.idleExit lane)

end Sys2Proof.Machine
end

