-- ==== Sys2Proof/Machine/Idle.lean ====
section
/-! DEFINITION. What the device does between commands (DESIGN CHOICE, log entry 84): commands held behind a wait are taken up again,
delayed replies leave, otherwise one reference tick passes. -/

namespace Sys2Proof.Machine

/-- The first transport whose session has ended its wait and holds commands. -/
def CmdSt.nextHeld (c : CmdSt) : Option (Transport × Session × Instr × List Instr) :=
  transports.findSome? (fun t =>
    match c.session t with
    | some x =>
      match x.wait, x.held with
      | none, i :: r => some (t, x, i, r)
      | _, _ => none
    | none => none)

/-- A command held behind a wait goes to the front of the queue (R36). -/
def State.takeHeld (s : State) (t : Transport) (x : Session) (i : Instr) (r : List Instr) : State :=
  { s with pending := i :: s.pending, cmd := s.cmd.setSession t (some { x with held := r, resume := (hdrOf i).map (fun h => h.seq.toNat) }) }

/-- The replies whose delay is over (R460). -/
def State.lateReplies (s : State) : State :=
  let due := s.cmd.late.filter (fun e => decide (e.1 ≤ s.hw.ticks))
  let c := { s.cmd with late := s.cmd.late.filter (fun e => !decide (e.1 ≤ s.hw.ticks)) }
  { s with cmd := due.foldl (fun c e => c.push e.2.1 e.2.2) c }
def State.endDenied (s : State) (t : Transport) : State :=
  match s.cmd.session t with
  | some x =>
    match x.wait with
    | some (.denied due, p) => if due ≤ s.hw.ticks then s.endWait t x p ansDenied else s
    | _ => s
  | none => s

/-- One reference tick: the interval timers advance, device time while the reference runs (R135, R137). -/
def Hw.tick (hw : Hw) : Hw :=
  { hw with ticks := hw.ticks + 1, clk := { hw.clk with time := if hw.clk.xtalOk ∧ hw.clk.refLock then hw.clk.time + 1 else hw.clk.time } }

/-- The step of an empty queue: what waits, else a tick, in which CAL may inject events (R363). -/
def State.idle (s : State) : State :=
  match s.cmd.nextHeld with
  | some (t, x, i, r) => s.takeHeld t x i r
  | none =>
    let s := transports.foldl (fun s t => State.endDenied s t) s.lateReplies
    { s with hw := s.hw.tick.inject }

end Sys2Proof.Machine
end

