-- ==== Sys2Proof/Machine/Dispatch.lean ====
section
/-! DEFINITION. One arm per command: the meaning of each row of spec/opcode_table.json. -/

namespace Sys2Proof.Machine

/-- The effect of a command on everything but the queue. -/
def exec (i : Instr) (s : State) : Host.Outcome State Fault Refusal :=
  match i with
  | .nop h => Sys2Proof.Machine.execNop h s
  | .sessionOpen h role heartbeatMs => Sys2Proof.Machine.execSessionOpen h role heartbeatMs s
  | .sessionClose h => Sys2Proof.Machine.execSessionClose h s
  | .identGet h => Sys2Proof.Machine.execIdentGet h s
  | .statusGet h => Sys2Proof.Machine.execStatusGet h s
  | .timeGet h => Sys2Proof.Machine.execTimeGet h s
  | .resetSoft h target => Sys2Proof.Machine.execResetSoft h target s
  | .heartbeat h => Sys2Proof.Machine.execHeartbeat h s
  | .regRead h addr count => Sys2Proof.Machine.execRegRead h addr count s
  | .regWrite h addr vals => Sys2Proof.Machine.execRegWrite h addr vals s
  | .regRmw h addr mask value => Sys2Proof.Machine.execRegRmw h addr mask value s
  | .regPoll h addr mask value timeoutUs => Sys2Proof.Machine.execRegPoll h addr mask value timeoutUs s
  | .bulkRead h addr len => Sys2Proof.Machine.execBulkRead h addr len s
  | .regListWrite h entries => Sys2Proof.Machine.execRegListWrite h entries s
  | .modeGet h => Sys2Proof.Machine.execModeGet h s
  | .modeSet h target => Sys2Proof.Machine.execModeSet h target s
  | .guardArm h set mapCrc => Sys2Proof.Machine.execGuardArm h set mapCrc s
  | .guardEnter h token mapCrc => Sys2Proof.Machine.execGuardEnter h token mapCrc s
  | .sleep h wakeMask => Sys2Proof.Machine.execSleep h wakeMask s
  | .modeSetAt h target time => Sys2Proof.Machine.execModeSetAt h target time s
  | .modeHistory h => Sys2Proof.Machine.execModeHistory h s
  | .planLoad h ck slot data => Sys2Proof.Machine.execPlanLoad h ck slot data s
  | .planActivate h slot => Sys2Proof.Machine.execPlanActivate h slot s
  | .planGet h slot offset => Sys2Proof.Machine.execPlanGet h slot offset s
  | .adaptFreeze h freeze => Sys2Proof.Machine.execAdaptFreeze h freeze s
  | .placementRead h epoch => Sys2Proof.Machine.execPlacementRead h epoch s
  | .roiSet h roi fields => Sys2Proof.Machine.execRoiSet h roi fields s
  | .frameRateSet h rate => Sys2Proof.Machine.execFrameRateSet h rate s
  | .planCheck h slot => Sys2Proof.Machine.execPlanCheck h slot s
  | .patternLoad h program steps => Sys2Proof.Machine.execPatternLoad h program steps s
  | .patternRun h program repeats => Sys2Proof.Machine.execPatternRun h program repeats s
  | .patternStop h => Sys2Proof.Machine.execPatternStop h s
  | .emitterStatus h bank => Sys2Proof.Machine.execEmitterStatus h bank s
  | .pinTest h => Sys2Proof.Machine.execPinTest h s
  | .lanternLimit h bank window limit => Sys2Proof.Machine.execLanternLimit h bank window limit s
  | .lanternLedger h bank window => Sys2Proof.Machine.execLanternLedger h bank window s
  | .driverStatus h address => Sys2Proof.Machine.execDriverStatus h address s
  | .axisConfig h axis type params => Sys2Proof.Machine.execAxisConfig h axis type params s
  | .axisCoef h axis loop coefs => Sys2Proof.Machine.execAxisCoef h axis loop coefs s
  | .axisEnable h axis state => Sys2Proof.Machine.execAxisEnable h axis state s
  | .axisStatus h axis => Sys2Proof.Machine.execAxisStatus h axis s
  | .tideScan h mask gains => Sys2Proof.Machine.execTideScan h mask gains s
  | .tideRead h mask => Sys2Proof.Machine.execTideRead h mask s
  | .sifterSet h ck channel mode taps data => Sys2Proof.Machine.execSifterSet h ck channel mode taps data s
  | .sfdRead h mask => Sys2Proof.Machine.execSfdRead h mask s
  | .calRun h mask => Sys2Proof.Machine.execCalRun h mask s
  | .calStatus h => Sys2Proof.Machine.execCalStatus h s
  | .calSetRead h index => Sys2Proof.Machine.execCalSetRead h index s
  | .calCamera h port intrinsics extrinsic => Sys2Proof.Machine.execCalCamera h port intrinsics extrinsic s
  | .calFactory h => Sys2Proof.Machine.execCalFactory h s
  | .calTrigger h deltaT enable => Sys2Proof.Machine.execCalTrigger h deltaT enable s
  | .guardMapLoad h ck set data => Sys2Proof.Machine.execGuardMapLoad h ck set data s
  | .guardMapRead h set offset => Sys2Proof.Machine.execGuardMapRead h set offset s
  | .guardLeave h mapCrc => Sys2Proof.Machine.execGuardLeave h mapCrc s
  | .safeAck h fault => Sys2Proof.Machine.execSafeAck h fault s
  | .keeperStatus h => Sys2Proof.Machine.execKeeperStatus h s
  | .bellConfig h connection tExpectUs transport => Sys2Proof.Machine.execBellConfig h connection tExpectUs transport s
  | .bellStatus h => Sys2Proof.Machine.execBellStatus h s
  | .safetyConfig h => Sys2Proof.Machine.execSafetyConfig h s
  | .streamConfig h returns options => Sys2Proof.Machine.execStreamConfig h returns options s
  | .exportSelect h channels => Sys2Proof.Machine.execExportSelect h channels s
  | .laneConfig h lanes personality rate fec degrade => Sys2Proof.Machine.execLaneConfig h lanes personality rate fec degrade s
  | .laneStatus h => Sys2Proof.Machine.execLaneStatus h s
  | .laneStepUp h rate => Sys2Proof.Machine.execLaneStepUp h rate s
  | .laneTest h lane test durationMs => Sys2Proof.Machine.execLaneTest h lane test durationMs s
  | .netConfig h address netmask gateway pointPort adminPort ptp => Sys2Proof.Machine.execNetConfig h address netmask gateway pointPort adminPort ptp s
  | .cascadeStatus h => Sys2Proof.Machine.execCascadeStatus h s
  | .camConfig h port lanes format width height rate => Sys2Proof.Machine.execCamConfig h port lanes format width height rate s
  | .camEnable h port on => Sys2Proof.Machine.execCamEnable h port on s
  | .cciXfer h port address delay rlen bytes acked answer => Sys2Proof.Machine.execCciXfer h port address delay rlen bytes acked answer s
  | .camStats h port part => Sys2Proof.Machine.execCamStats h port part s
  | .camMeshLoad h ck port data => Sys2Proof.Machine.execCamMeshLoad h ck port data s
  | .camStatus h port => Sys2Proof.Machine.execCamStatus h port s
  | .pmcConfig h counter event filters => Sys2Proof.Machine.execPmcConfig h counter event filters s
  | .pmcFreeze h freeze => Sys2Proof.Machine.execPmcFreeze h freeze s
  | .pmcRead h first n => Sys2Proof.Machine.execPmcRead h first n s
  | .faultList h offset => Sys2Proof.Machine.execFaultList h offset s
  | .faultClear h source code => Sys2Proof.Machine.execFaultClear h source code s
  | .bistRun h mask => Sys2Proof.Machine.execBistRun h mask s
  | .eventSubscribe h sources minClass => Sys2Proof.Machine.execEventSubscribe h sources minClass s
  | .logbookRead h => Sys2Proof.Machine.execLogbookRead h s
  | .secChallenge h scope => Sys2Proof.Machine.execSecChallenge h scope s
  | .secResponse h scope signature => Sys2Proof.Machine.execSecResponse h scope signature s
  | .secPassword h password => Sys2Proof.Machine.execSecPassword h password s
  | .fwUpdate h ck data => Sys2Proof.Machine.execFwUpdate h ck data s
  | .fwStatus h => Sys2Proof.Machine.execFwStatus h s
  | .secClose h => Sys2Proof.Machine.execSecClose h s
  | .stepQuery h token => Sys2Proof.Machine.execStepQuery h token s
  | .stepAbort h token => Sys2Proof.Machine.execStepAbort h token s
  | .stepList h => Sys2Proof.Machine.execStepList h s
  | .stepFetch h token offset => Sys2Proof.Machine.execStepFetch h token offset s
  | .packetDiscarded tr => Sys2Proof.Machine.execPacketDiscarded tr s
  | .crcError src opcode tag seq => Sys2Proof.Machine.execCrcError src opcode tag seq s
  | .spiShiftOut clocked => Sys2Proof.Machine.execSpiShiftOut clocked s
  | .sessionHeartbeatTimeout tr => Sys2Proof.Machine.execSessionHeartbeatTimeout tr s
  | .steppedOpStep token obs => Sys2Proof.Machine.execSteppedOpStep token obs s
  | .stepProgress token => Sys2Proof.Machine.execStepProgress token s
  | .uploadTimeout token => Sys2Proof.Machine.execUploadTimeout token s
  | .resultRelease token => Sys2Proof.Machine.execResultRelease token s
  | .eventsLost tr => Sys2Proof.Machine.execEventsLost tr s
  | .powerUp => Sys2Proof.Machine.execPowerUp s
  | .resetNLow lowNs => Sys2Proof.Machine.execResetNLow lowNs s
  | .resetNRise straps => Sys2Proof.Machine.execResetNRise straps s
  | .coreSupplyFault outsideUs => Sys2Proof.Machine.execCoreSupplyFault outsideUs s
  | .wakeEdge highNs => Sys2Proof.Machine.execWakeEdge highNs s
  | .lane0WakeActivity activeUs swingMv => Sys2Proof.Machine.execLane0WakeActivity activeUs swingMv s
  | .crystalStop => Sys2Proof.Machine.execCrystalStop s
  | .refPllUnlock => Sys2Proof.Machine.execRefPllUnlock s
  | .bootStepComplete obs => Sys2Proof.Machine.execBootStepComplete obs s
  | .bootStepTimeout obs => Sys2Proof.Machine.execBootStepTimeout obs s
  | .modeSetAtTick => Sys2Proof.Machine.execModeSetAtTick s
  | .shotDecision bank => Sys2Proof.Machine.execShotDecision bank s
  | .shotFire bank => Sys2Proof.Machine.execShotFire bank s
  | .driverPoll address reply => Sys2Proof.Machine.execDriverPoll address reply s
  | .mapSend address => Sys2Proof.Machine.execMapSend address s
  | .rampUpdate => Sys2Proof.Machine.execRampUpdate s
  | .refWindowClose bank cells => Sys2Proof.Machine.execRefWindowClose bank cells s
  | .bcnCodeSeedWrite bank value => Sys2Proof.Machine.execBcnCodeSeedWrite bank value s
  | .bcnDrvWrite address value => Sys2Proof.Machine.execBcnDrvWrite address value s
  | .bcnBankWrite bank value => Sys2Proof.Machine.execBcnBankWrite bank value s
  | .lntBucketClose window => Sys2Proof.Machine.execLntBucketClose window s
  | .lntXchkSample bank sample quality => Sys2Proof.Machine.execLntXchkSample bank sample quality s
  | .lntGridWrite index value => Sys2Proof.Machine.execLntGridWrite index value s
  | .lntLimitWrite index value => Sys2Proof.Machine.execLntLimitWrite index value s
  | .frameBoundary => Sys2Proof.Machine.execFrameBoundary s
  | .placementCut => Sys2Proof.Machine.execPlacementCut s
  | .placementReady durationUs => Sys2Proof.Machine.execPlacementReady durationUs s
  | .trimRecompute => Sys2Proof.Machine.execTrimRecompute s
  | .hvMeasUpdate millivolts => Sys2Proof.Machine.execHvMeasUpdate millivolts s
  | .regionOfftargetTimeout region => Sys2Proof.Machine.execRegionOfftargetTimeout region s
  | .maskCommit => Sys2Proof.Machine.execMaskCommit s
  | .maskSave => Sys2Proof.Machine.execMaskSave s
  | .maskParityError word => Sys2Proof.Machine.execMaskParityError word s
  | .spdTabWinWrite index value => Sys2Proof.Machine.execSpdTabWinWrite index value s
  | .gateEvent channel pre cell fire => Sys2Proof.Machine.execGateEvent channel pre cell fire s
  | .vernierConversion channel vernier edge count => Sys2Proof.Machine.execVernierConversion channel vernier edge count s
  | .shotEdgeArrival tile vernier edge count => Sys2Proof.Machine.execShotEdgeArrival tile vernier edge count s
  | .zoomIn channel => Sys2Proof.Machine.execZoomIn channel s
  | .histogramClose channel => Sys2Proof.Machine.execHistogramClose channel s
  | .peakFindStart tile => Sys2Proof.Machine.execPeakFindStart tile s
  | .peakFindDone tile parityError => Sys2Proof.Machine.execPeakFindDone tile parityError s
  | .detDone bank parityError => Sys2Proof.Machine.execDetDone bank parityError s
  | .tileCtlWrite tile value => Sys2Proof.Machine.execTileCtlWrite tile value s
  | .tileRetire tile => Sys2Proof.Machine.execTileRetire tile s
  | .tileTabDataRead tile => Sys2Proof.Machine.execTileTabDataRead tile s
  | .detTabCommit => Sys2Proof.Machine.execDetTabCommit s
  | .pointPacketFlush sub => Sys2Proof.Machine.execPointPacketFlush sub s
  | .framePacketSend => Sys2Proof.Machine.execFramePacketSend s
  | .lpTransmit lane => Sys2Proof.Machine.execLpTransmit lane s
  | .lpReceive lane lp => Sys2Proof.Machine.execLpReceive lane lp s
  | .codewordReceive lane symbolErrors => Sys2Proof.Machine.execCodewordReceive lane symbolErrors s
  | .linkBlockReceive lane payload => Sys2Proof.Machine.execLinkBlockReceive lane payload s
  | .linkBlockMissed lane => Sys2Proof.Machine.execLinkBlockMissed lane s
  | .ackTimeout lane => Sys2Proof.Machine.execAckTimeout lane s
  | .superframeLock lane => Sys2Proof.Machine.execSuperframeLock lane s
  | .laneReady lane obs => Sys2Proof.Machine.execLaneReady lane obs s
  | .alignComplete lane => Sys2Proof.Machine.execAlignComplete lane s
  | .bringupTimeout lane => Sys2Proof.Machine.execBringupTimeout lane s
  | .stepOffer lane rates sfc => Sys2Proof.Machine.execStepOffer lane rates sfc s
  | .stepAccept lane code sfc => Sys2Proof.Machine.execStepAccept lane code sfc s
  | .rateChange lane => Sys2Proof.Machine.execRateChange lane s
  | .stepTimeout lane => Sys2Proof.Machine.execStepTimeout lane s
  | .laneRetrainTimeout lane => Sys2Proof.Machine.execLaneRetrainTimeout lane s
  | .marginLow lane margin => Sys2Proof.Machine.execMarginLow lane margin s
  | .retrain lane => Sys2Proof.Machine.execRetrain lane s
  | .idleEnter lane => Sys2Proof.Machine.execIdleEnter lane s
  | .idleExit lane => Sys2Proof.Machine.execIdleExit lane s
  | .pauseTimeout lane vc => Sys2Proof.Machine.execPauseTimeout lane vc s
  | .laneTestEnd lane bits errors => Sys2Proof.Machine.execLaneTestEnd lane bits errors s
  | .lnkInjectGo value => Sys2Proof.Machine.execLnkInjectGo value s
  | .ethLockLoss port => Sys2Proof.Machine.execEthLockLoss port s
  | .arpRetry ip => Sys2Proof.Machine.execArpRetry ip s
  | .arpReply ip mac => Sys2Proof.Machine.execArpReply ip mac s
  | .arpCacheExpiry ip => Sys2Proof.Machine.execArpCacheExpiry ip s
  | .destUnresolvedTimeout ip => Sys2Proof.Machine.execDestUnresolvedTimeout ip s
  | .icmpEcho src bytes => Sys2Proof.Machine.execIcmpEcho src bytes s
  | .ptpMessage kind offsetNs rate => Sys2Proof.Machine.execPtpMessage kind offsetNs rate s
  | .ptpLockLost => Sys2Proof.Machine.execPtpLockLost s
  | .discoveryPacket lane index ident fw features => Sys2Proof.Machine.execDiscoveryPacket lane index ident fw features s
  | .casTimeSend => Sys2Proof.Machine.execCasTimeSend s
  | .casTimeFrame time crcOk => Sys2Proof.Machine.execCasTimeFrame time crcOk s
  | .casAngleFrame axis angle rate time => Sys2Proof.Machine.execCasAngleFrame axis angle rate time s
  | .casFrameFrame frame time => Sys2Proof.Machine.execCasFrameFrame frame time s
  | .casModeFrame mode time => Sys2Proof.Machine.execCasModeFrame mode time s
  | .casInhibitFrame source code => Sys2Proof.Machine.execCasInhibitFrame source code s
  | .casEchoFrame index => Sys2Proof.Machine.execCasEchoFrame index s
  | .cascadeModeTick => Sys2Proof.Machine.execCascadeModeTick s
  | .echoMeasure index roundTrip => Sys2Proof.Machine.execEchoMeasure index roundTrip s
  | .casTimeSilence => Sys2Proof.Machine.execCasTimeSilence s
  | .cascadeForward index packet => Sys2Proof.Machine.execCascadeForward index packet s
  | .secondaryAbsent index => Sys2Proof.Machine.execSecondaryAbsent index s
  | .pedestalTick => Sys2Proof.Machine.execPedestalTick s
  | .tickDeadline axis => Sys2Proof.Machine.execTickDeadline axis s
  | .axisStartTimeout axis => Sys2Proof.Machine.execAxisStartTimeout axis s
  | .resonantDacUpdate axis => Sys2Proof.Machine.execResonantDacUpdate axis s
  | .pdsPeriodWrite value => Sys2Proof.Machine.execPdsPeriodWrite value s
  | .tideTrigEdge edge => Sys2Proof.Machine.execTideTrigEdge edge s
  | .tideConversionStart slice => Sys2Proof.Machine.execTideConversionStart slice s
  | .tideConversionEnd slice raw ovr clamp limits => Sys2Proof.Machine.execTideConversionEnd slice raw ovr clamp limits s
  | .tideToneBurst => Sys2Proof.Machine.execTideToneBurst s
  | .toneBurstEnd => Sys2Proof.Machine.execToneBurstEnd s
  | .tideRotation => Sys2Proof.Machine.execTideRotation s
  | .sliceCalDone offsets gains => Sys2Proof.Machine.execSliceCalDone offsets gains s
  | .tempConversion sensors thermistors => Sys2Proof.Machine.execTempConversion sensors thermistors s
  | .tidSnap value => Sys2Proof.Machine.execTidSnap value s
  | .tidPairWrite value => Sys2Proof.Machine.execTidPairWrite value s
  | .tidToneWrite value => Sys2Proof.Machine.execTidToneWrite value s
  | .sifterSlot channel => Sys2Proof.Machine.execSifterSlot channel s
  | .sftPopVal => Sys2Proof.Machine.execSftPopVal s
  | .sftChDetWrite channel value => Sys2Proof.Machine.execSftChDetWrite channel value s
  | .sifterParityError channel => Sys2Proof.Machine.execSifterParityError channel s
  | .dmkEdge input rising fine => Sys2Proof.Machine.execDmkEdge input rising fine s
  | .dmkIvArm => Sys2Proof.Machine.execDmkIvArm s
  | .dmkIvTimeout => Sys2Proof.Machine.execDmkIvTimeout s
  | .dmkFreqStart input value => Sys2Proof.Machine.execDmkFreqStart input value s
  | .dmkFreqGateEnd input => Sys2Proof.Machine.execDmkFreqGateEnd input s
  | .ppsEdge rising fine => Sys2Proof.Machine.execPpsEdge rising fine s
  | .ppsTimeout => Sys2Proof.Machine.execPpsTimeout s
  | .clkTimeSet hi => Sys2Proof.Machine.execClkTimeSet hi s
  | .clkCtlWrite value => Sys2Proof.Machine.execClkCtlWrite value s
  | .csiFrameStart port => Sys2Proof.Machine.execCsiFrameStart port s
  | .csiLine port pixels crcOk => Sys2Proof.Machine.execCsiLine port pixels crcOk s
  | .csiFrameEnd port => Sys2Proof.Machine.execCsiFrameEnd port s
  | .csiFrameTimeout port => Sys2Proof.Machine.execCsiFrameTimeout port s
  | .camNoSignal port => Sys2Proof.Machine.execCamNoSignal port s
  | .cciWriteIssue port acked late => Sys2Proof.Machine.execCciWriteIssue port acked late s
  | .glzMapParity port buffer => Sys2Proof.Machine.execGlzMapParity port buffer s
  | .glzPExpofsWrite port value => Sys2Proof.Machine.execGlzPExpofsWrite port value s
  | .glzPMapWrite port value => Sys2Proof.Machine.execGlzPMapWrite port value s
  | .calAutoStart => Sys2Proof.Machine.execCalAutoStart s
  | .calBootMaskWrite value => Sys2Proof.Machine.execCalBootMaskWrite value s
  | .keeperSample keeper crcOk => Sys2Proof.Machine.execKeeperSample keeper crcOk s
  | .clusterSearch keeper => Sys2Proof.Machine.execClusterSearch keeper s
  | .keeperStale keeper cell => Sys2Proof.Machine.execKeeperStale keeper cell s
  | .keeperClockCheck keeper ppm => Sys2Proof.Machine.execKeeperClockCheck keeper ppm s
  | .keeperSelftest keeper ok => Sys2Proof.Machine.execKeeperSelftest keeper ok s
  | .keeperDisagree => Sys2Proof.Machine.execKeeperDisagree s
  | .fselChange a b => Sys2Proof.Machine.execFselChange a b s
  | .fselDebounce => Sys2Proof.Machine.execFselDebounce s
  | .fselInvalidTimeout => Sys2Proof.Machine.execFselInvalidTimeout s
  | .restartRelease skewUs => Sys2Proof.Machine.execRestartRelease skewUs s
  | .restartStuck => Sys2Proof.Machine.execRestartStuck s
  | .autoRestart pair => Sys2Proof.Machine.execAutoRestart pair s
  | .edmCheck pair => Sys2Proof.Machine.execEdmCheck pair s
  | .readbackCheck line => Sys2Proof.Machine.execReadbackCheck line s
  | .testPulse line lowFollows highFollows => Sys2Proof.Machine.execTestPulse line lowFollows highFollows s
  | .kprTideTimeout input => Sys2Proof.Machine.execKprTideTimeout input s
  | .bellFrameBuild => Sys2Proof.Machine.execBellFrameBuild s
  | .confirmReceive bytes => Sys2Proof.Machine.execConfirmReceive bytes s
  | .bellConfirmTimeout => Sys2Proof.Machine.execBellConfirmTimeout s
  | .epochBoundary => Sys2Proof.Machine.execEpochBoundary s
  | .epochSeal => Sys2Proof.Machine.execEpochSeal s
  | .watchHeartbeat unit => Sys2Proof.Machine.execWatchHeartbeat unit s
  | .watchFailDeclare unit internal => Sys2Proof.Machine.execWatchFailDeclare unit internal s
  | .watchRestart unit => Sys2Proof.Machine.execWatchRestart unit s
  | .watchSelftestDone unit ok => Sys2Proof.Machine.execWatchSelftestDone unit ok s
  | .takeBack => Sys2Proof.Machine.execTakeBack s
  | .rehearse => Sys2Proof.Machine.execRehearse s
  | .sltCtlWrite value => Sys2Proof.Machine.execSltCtlWrite value s
  | .sltPintest shorted => Sys2Proof.Machine.execSltPintest shorted s
  | .sltPeriod led => Sys2Proof.Machine.execSltPeriod led s
  | .sltRunEnd led lengthNs millivolts regulating => Sys2Proof.Machine.execSltRunEnd led lengthNs millivolts regulating s
  | .sltEngCfgWrite engine value => Sys2Proof.Machine.execSltEngCfgWrite engine value s
  | .pmcIncrement event inst addr cls master priv n => Sys2Proof.Machine.execPmcIncrement event inst addr cls master priv n s
  | .pmcCntWrite index high value => Sys2Proof.Machine.execPmcCntWrite index high value s
  | .pmcEvtWrite index filter value => Sys2Proof.Machine.execPmcEvtWrite index filter value s
  | .fuseProgram readback => Sys2Proof.Machine.execFuseProgram readback s
  | .passwordCommit => Sys2Proof.Machine.execPasswordCommit s
  | .passwordClear => Sys2Proof.Machine.execPasswordClear s
  | .challengeExpiry => Sys2Proof.Machine.execChallengeExpiry s
  | .rcRead addr => Sys2Proof.Machine.execRcRead addr s
  | .latchingRead addr => Sys2Proof.Machine.execLatchingRead addr s
  | .registerWrite addr value => Sys2Proof.Machine.execRegisterWrite addr value s
  | .restartPress => Sys2Proof.Machine.execRestartPress s
  | .edmInputChange a b => Sys2Proof.Machine.execEdmInputChange a b s
  | .safeReadbackChange lines => Sys2Proof.Machine.execSafeReadbackChange lines s
  | .pcsBlockLock port => Sys2Proof.Machine.execPcsBlockLock port s
  | .arpRequest ask => Sys2Proof.Machine.execArpRequest ask s
  | .regPollEnd tr => Sys2Proof.Machine.execRegPollEnd tr s
  | .safeAckSelftestEnd okA okB => Sys2Proof.Machine.execSafeAckSelftestEnd okA okB s

end Sys2Proof.Machine
end

