-- ==== Sys2Proof/Machine/Rows.lean ====
section
/-! DEFINITION. Of every host command, what its row of Tables 2.4 to 2.16 fixes and the bytes of its parameters, in the terms in which the
claims name a command. -/

namespace Sys2Proof.Machine

/-- The modes in which BIST_RUN runs the listed tests (R41, Table 22.5). -/
def bistRunModes (tests : List Nat) : List Mode :=
  ([.config, .scan, .guard, .service] : List Mode).filter (fun m => tests.all (fun t => (bistModes t).contains m))

/-- The row of a host command: opcode, role, modes, the blocks it writes, whether it is stepped, whether it acts on the whole cascade. -/
def rowOf : Instr → Spec
  | .nop _ => { op := 0x00, role := 0 }
  | .sessionOpen _ _ _ => { op := 0x01, role := 0 }
  | .sessionClose _ => { op := 0x02 }
  | .identGet _ => { op := 0x03, role := 0 }
  | .statusGet _ => { op := 0x04, role := 0 }
  | .timeGet _ => { op := 0x05 }
  | .resetSoft _ _ => { op := 0x06, role := 2, modes := [.config, .scan, .service], writes := [srcDev], wide := true, alone := true }
  | .heartbeat _ => { op := 0x07 }
  | .regRead _ _ _ => { op := 0x10 }
  | .regWrite _ _ _ => { op := 0x11, role := 2 }
  | .regRmw _ _ _ _ => { op := 0x12, role := 2 }
  | .regPoll _ _ _ _ _ => { op := 0x13 }
  | .bulkRead _ _ _ => { op := 0x14, role := 2, modes := [.config, .service], stepped := true }
  | .regListWrite _ _ => { op := 0x15, role := 2 }
  | .modeGet _ => { op := 0x20 }
  | .modeSet _ target =>
    { op := 0x21, role := if target = 5 then 3 else 2, modes := modeSetFrom target.toNat, writes := [0xFF], wide := true, alone := true
      fused := decide (target = 4) }
  | .guardArm _ _ _ => { op := 0x22, role := 2, modes := [.config], wide := true }
  | .guardEnter _ _ _ => { op := 0x23, role := 2, modes := [.config], writes := [0xFF], wide := true, alone := true }
  | .sleep _ _ => { op := 0x24, role := 2, modes := [.config], writes := [0xFF], wide := true, alone := true }
  | .modeSetAt _ _ _ => { op := 0x25, role := 2, modes := [.config, .scan], writes := [srcDev], wide := true }
  | .modeHistory _ => { op := 0x26 }
  | .planLoad _ _ _ _ => { op := 0x30, role := 2, modes := [.config, .scan], wide := true }
  | .planActivate _ _ => { op := 0x31, role := 2, modes := [.config, .scan], writes := [srcTnd], wide := true }
  | .planGet _ _ _ => { op := 0x32 }
  | .adaptFreeze _ _ => { op := 0x33, role := 2, modes := [.config, .scan, .guard], writes := [srcTnd], wide := true }
  | .placementRead _ _ => { op := 0x34, stepped := true }
  | .roiSet _ _ _ => { op := 0x35, role := 2, modes := [.config, .scan], writes := [srcTnd], wide := true }
  | .frameRateSet _ _ => { op := 0x36, role := 2, modes := [.config, .scan], writes := [srcTnd], wide := true }
  | .planCheck _ _ => { op := 0x37 }
  | .patternLoad _ _ _ => { op := 0x40, role := 2, modes := [.config], writes := [srcBcn] }
  | .patternRun _ _ _ => { op := 0x41, role := 2, modes := [.config, .scan], writes := [srcBcn], wide := true }
  | .patternStop _ => { op := 0x42, role := 2, modes := [.config, .scan], writes := [srcBcn], wide := true }
  | .emitterStatus _ _ => { op := 0x43 }
  | .pinTest _ => { op := 0x44, role := 2, modes := [.config], writes := [srcBcn], stepped := true }
  | .lanternLimit _ _ _ _ => { op := 0x45, role := 2, modes := [.config, .scan], writes := [srcLnt] }
  | .lanternLedger _ _ _ => { op := 0x46, stepped := true }
  | .driverStatus _ _ => { op := 0x47 }
  | .axisConfig _ _ _ _ => { op := 0x50, role := 2, modes := [.config], writes := [srcPds] }
  | .axisCoef _ _ _ _ => { op := 0x51, role := 2, modes := [.config, .scan], writes := [srcPds] }
  | .axisEnable _ _ _ => { op := 0x52, role := 2, modes := [.config, .scan], writes := [srcPds] }
  | .axisStatus _ _ => { op := 0x53 }
  | .tideScan _ _ _ => { op := 0x54, role := 2, modes := [.config, .scan], writes := [srcTid] }
  | .tideRead _ _ => { op := 0x55 }
  | .sifterSet _ _ _ _ _ _ => { op := 0x56, role := 2, modes := [.config, .scan] }
  | .sfdRead _ _ => { op := 0x57 }
  | .calRun _ _ => { op := 0x60, role := 2 }
  | .calStatus _ => { op := 0x61 }
  | .calSetRead _ _ => { op := 0x62, stepped := true }
  | .calCamera _ _ _ _ => { op := 0x63, role := 2, modes := [.config], writes := [srcCal, srcGlz 0, srcGlz 1] }
  | .calFactory _ => { op := 0x64, role := 2, modes := [.config, .service], writes := [srcCal] }
  | .calTrigger _ _ _ => { op := 0x65, role := 2, modes := [.config, .scan], writes := [srcCal] }
  | .guardMapLoad _ _ _ _ => { op := 0x70, role := 2, modes := [.config] }
  | .guardMapRead _ _ _ => { op := 0x71 }
  | .guardLeave _ _ => { op := 0x72, role := 2, modes := [.guard], wide := true }
  | .safeAck _ _ => { op := 0x73, role := 2, modes := [.guard] }
  | .keeperStatus _ => { op := 0x74 }
  | .bellConfig _ _ _ _ => { op := 0x75, role := 2, modes := [.config], writes := [srcBel] }
  | .bellStatus _ => { op := 0x76 }
  | .safetyConfig _ => { op := 0x77 }
  | .streamConfig _ _ _ => { op := 0x80, role := 2, modes := [.config], writes := [srcOut], wide := true }
  | .exportSelect _ _ => { op := 0x81, role := 2, modes := [.config, .scan], writes := [srcOut], wide := true }
  | .laneConfig _ _ _ _ _ _ => { op := 0x82, role := 2, modes := [.config], writes := [srcLnk] }
  | .laneStatus _ => { op := 0x83 }
  | .laneStepUp _ _ => { op := 0x84, role := 2, modes := [.config], writes := [srcLnk], stepped := true }
  | .laneTest _ _ _ _ => { op := 0x85, role := 3, modes := [.service], writes := [srcLnk], stepped := true }
  | .netConfig _ _ _ _ _ _ _ => { op := 0x86, role := 2, modes := [.config], writes := [srcOut, srcLnk], wide := true }
  | .cascadeStatus _ => { op := 0x87 }
  | .camConfig _ port _ _ _ _ _ => { op := 0x90, role := 2, modes := [.config], writes := [srcGlz (port.toNat % 2)] }
  | .camEnable _ port _ => { op := 0x91, role := 2, modes := [.config, .scan], writes := [srcGlz (port.toNat % 2)] }
  | .cciXfer _ port _ _ _ _ _ _ => { op := 0x92, role := 2, modes := [.config, .scan], writes := [srcGlz (port.toNat % 2)] }
  | .camStats _ _ _ => { op := 0x93 }
  | .camMeshLoad _ _ _ _ => { op := 0x94, role := 2, modes := [.config] }
  | .camStatus _ _ => { op := 0x95 }
  | .pmcConfig _ _ event _ => { op := 0xA0, role := 2, writes := [srcPmc], fused := eventSafety event.toNat }
  | .pmcFreeze _ _ => { op := 0xA1, role := 2, writes := [srcPmc] }
  | .pmcRead _ _ _ => { op := 0xA2 }
  | .faultList _ _ => { op := 0xA3 }
  | .faultClear _ _ _ => { op := 0xA4, role := 2, writes := [srcEvt] }
  | .bistRun _ mask =>
    { op := 0xA5, role := 2, modes := bistRunModes (setBits 10 mask.toNat)
      writes := (setBits 10 mask.toNat).flatMap bistBlocks, stepped := true, fused := tb mask.toNat 8 }
  | .eventSubscribe _ _ _ => { op := 0xA6 }
  | .logbookRead _ => { op := 0xA7 }
  | .secChallenge _ _ => { op := 0xB0, role := 0 }
  | .secResponse _ _ _ => { op := 0xB1, role := 0, modes := [.config, .service] }
  | .secPassword _ _ => { op := 0xB2, role := 0, modes := [.config, .service] }
  | .fwUpdate _ _ _ => { op := 0xB3, role := 2, modes := [.config] }
  | .fwStatus _ => { op := 0xB4 }
  | .secClose _ => { op := 0xB5 }
  | .stepQuery _ _ => { op := 0xC0 }
  | .stepAbort _ _ => { op := 0xC1 }
  | .stepList _ => { op := 0xC2 }
  | .stepFetch _ _ _ => { op := 0xC3 }
  | _ => { op := 0 }

/-- The parameter bytes of a host command, which follow the header (R29, R39). -/
def paramsOf : Instr → List Byte
  | .nop _ => []
  | .sessionOpen _ role heartbeatMs => le 1 role.toNat ++ le 2 heartbeatMs.toNat
  | .sessionClose _ => []
  | .identGet _ => []
  | .statusGet _ => []
  | .timeGet _ => []
  | .resetSoft _ target => le 1 target.toNat
  | .heartbeat _ => []
  | .regRead _ addr count => le 4 addr.toNat ++ le 2 count.toNat
  | .regWrite _ addr vals => le 4 addr.toNat ++ le 2 vals.length ++ vals.flatMap (fun v => le 4 v.toNat)
  | .regRmw _ addr mask value => le 4 addr.toNat ++ le 4 mask.toNat ++ le 4 value.toNat
  | .regPoll _ addr mask value timeoutUs => le 4 addr.toNat ++ le 4 mask.toNat ++ le 4 value.toNat ++ le 4 timeoutUs.toNat
  | .bulkRead _ addr len => le 4 addr.toNat ++ le 4 len.toNat
  | .regListWrite _ entries => le 2 entries.length ++ entries.flatMap (fun e => le 4 e.1.toNat ++ le 4 e.2.toNat)
  | .modeGet _ => []
  | .modeSet _ target => le 1 target.toNat
  | .guardArm _ set mapCrc => le 1 set.toNat ++ le 4 mapCrc.toNat
  | .guardEnter _ token mapCrc => le 4 token.toNat ++ le 4 mapCrc.toNat
  | .sleep _ wakeMask => le 1 wakeMask.toNat
  | .modeSetAt _ target time => le 1 target.toNat ++ le 8 time.toNat
  | .modeHistory _ => []
  | .planLoad _ ck slot data => le 4 ck.token.toNat ++ le 4 ck.offset.toNat ++ le 4 ck.total.toNat ++ le 1 slot.toNat ++ data
  | .planActivate _ slot => le 1 slot.toNat
  | .planGet _ slot offset => le 1 slot.toNat ++ le 4 offset.toNat
  | .adaptFreeze _ freeze => le 1 freeze.toNat
  | .placementRead _ epoch => le 1 epoch.toNat
  | .roiSet _ roi fields => le 1 roi.toNat ++ fields
  | .frameRateSet _ rate => le 4 rate.toNat
  | .planCheck _ slot => le 1 slot.toNat
  | .patternLoad _ program steps => le 1 program.toNat ++ le 2 steps.length ++ steps.flatMap (fun x => le 8 x.toNat)
  | .patternRun _ program repeats => le 1 program.toNat ++ le 2 repeats.toNat
  | .patternStop _ => []
  | .emitterStatus _ bank => le 1 bank.toNat
  | .pinTest _ => []
  | .lanternLimit _ bank window limit => le 1 bank.toNat ++ le 1 window.toNat ++ le 4 limit.toNat
  | .lanternLedger _ bank window => le 1 bank.toNat ++ le 1 window.toNat
  | .driverStatus _ address => le 1 address.toNat
  | .axisConfig _ axis type params => le 1 axis.toNat ++ le 1 type.toNat ++ params
  | .axisCoef _ axis loop coefs => le 1 axis.toNat ++ le 1 loop.toNat ++ le 1 coefs.length ++
      coefs.flatMap (fun l => l.flatMap (fun v => le 4 v.toNat))
  | .axisEnable _ axis state => le 1 axis.toNat ++ le 1 state.toNat
  | .axisStatus _ axis => le 1 axis.toNat
  | .tideScan _ mask gains => le 4 mask.toNat ++ le 8 gains.toNat
  | .tideRead _ mask => le 4 mask.toNat
  | .sifterSet _ ck channel mode taps data => le 4 ck.token.toNat ++ le 4 ck.offset.toNat ++ le 4 ck.total.toNat ++ le 1 channel.toNat ++
      le 1 mode.toNat ++ le 2 taps.toNat ++ data
  | .sfdRead _ mask => le 4 mask.toNat
  | .calRun _ mask => le 4 mask.toNat
  | .calStatus _ => []
  | .calSetRead _ index => le 1 index.toNat
  | .calCamera _ port intrinsics extrinsic => le 1 port.toNat ++ intrinsics.flatMap (fun v => le 4 v.toNat) ++
      extrinsic.flatMap (fun v => le 4 v.toNat)
  | .calFactory _ => []
  | .calTrigger _ deltaT enable => le 1 deltaT.toNat ++ le 1 enable.toNat
  | .guardMapLoad _ ck set data => le 4 ck.token.toNat ++ le 4 ck.offset.toNat ++ le 4 ck.total.toNat ++ le 1 set.toNat ++ data
  | .guardMapRead _ set offset => le 1 set.toNat ++ le 4 offset.toNat
  | .guardLeave _ mapCrc => le 4 mapCrc.toNat
  | .safeAck _ fault => le 2 fault.toNat
  | .keeperStatus _ => []
  | .bellConfig _ connection tExpectUs transport => le 4 connection.toNat ++ le 4 tExpectUs.toNat ++ le 1 transport.toNat
  | .bellStatus _ => []
  | .safetyConfig _ => []
  | .streamConfig _ returns options => le 1 returns.toNat ++ le 4 options.toNat
  | .exportSelect _ channels => le 2 channels.length ++ channels.flatMap (fun k => le 2 k.toNat)
  | .laneConfig _ lanes personality rate fec degrade => le 1 lanes.toNat ++ le 1 personality.toNat ++ le 1 rate.toNat ++ le 1 fec.toNat ++
      le 1 degrade.toNat
  | .laneStatus _ => []
  | .laneStepUp _ rate => le 1 rate.toNat
  | .laneTest _ lane test durationMs => le 1 lane.toNat ++ le 1 test.toNat ++ le 4 durationMs.toNat
  | .netConfig _ address netmask gateway pointPort adminPort ptp => le 4 address.toNat ++ le 4 netmask.toNat ++ le 4 gateway.toNat ++
      le 2 pointPort.toNat ++ le 2 adminPort.toNat ++ le 1 ptp.toNat
  | .cascadeStatus _ => []
  | .camConfig _ port lanes format width height rate => le 1 port.toNat ++ le 1 lanes.toNat ++ le 1 format.toNat ++ le 2 width.toNat ++
      le 2 height.toNat ++ le 4 rate.toNat
  | .camEnable _ port on => le 1 port.toNat ++ le 1 on.toNat
  | .cciXfer _ port address delay rlen bytes _ _ => le 1 port.toNat ++ le 1 address.toNat ++ le 1 delay.toNat ++ le 1 bytes.length ++
      le 1 rlen.toNat ++ bytes
  | .camStats _ port part => le 1 port.toNat ++ le 1 part.toNat
  | .camMeshLoad _ ck port data => le 4 ck.token.toNat ++ le 4 ck.offset.toNat ++ le 4 ck.total.toNat ++ le 1 port.toNat ++ data
  | .camStatus _ port => le 1 port.toNat
  | .pmcConfig _ counter event filters => le 1 counter.toNat ++ le 2 event.toNat ++ le 4 filters.toNat
  | .pmcFreeze _ freeze => le 1 freeze.toNat
  | .pmcRead _ first n => le 1 first.toNat ++ le 1 n.toNat
  | .faultList _ offset => le 2 offset.toNat
  | .faultClear _ source code => le 1 source.toNat ++ le 2 code.toNat
  | .bistRun _ mask => le 4 mask.toNat
  | .eventSubscribe _ sources minClass => sources ++ le 1 minClass.toNat
  | .logbookRead _ => []
  | .secChallenge _ scope => le 1 scope.toNat
  | .secResponse _ scope signature => le 1 scope.toNat ++ signature
  | .secPassword _ password => password
  | .fwUpdate _ ck data => le 4 ck.token.toNat ++ le 4 ck.offset.toNat ++ le 4 ck.total.toNat ++ data
  | .fwStatus _ => []
  | .secClose _ => []
  | .stepQuery _ token => le 4 token.toNat
  | .stepAbort _ token => le 4 token.toNat
  | .stepList _ => []
  | .stepFetch _ token offset => le 4 token.toNat ++ le 4 offset.toNat
  | _ => []

end Sys2Proof.Machine
end

