-- ==== Sys2Proof/Safety.lean ====
section
/-! DEFINITION. The terms in which claims are made: what it takes for a host command to be served, what its acceptance and its reply change,
and the invariants of Watch's command side. -/

namespace Sys2Proof.Machine

/-! ### A host command that is served -/

/-- The header of a packet passes step 3 of R31 and names this device; a command on the whole cascade (`wide`) is taken here for a
device that stands alone (R29, R277). -/
structure State.HeaderGood (s : State) (h : Hdr) (wide : Bool) : Prop where
  version : h.version = 1
  flags   : h.flags.toNat < 4
  rest    : h.reserved = 0
  padding : h.padBad = none
  opcode  : h.opcode = none
  here    : h.subaddr.toNat = s.hw.cas.index
  device  : s.hw.cas.index < 4
  alone   : wide = true → s.hw.inCascade = false

/-- The packet of a host command whose parameters take `size` bytes reaches the device, carries its session's next sequence, passes
steps 1 to 4 of R31, and finds no command of its session waiting. -/
structure State.Arrives (s : State) (h : Hdr) (wide : Bool) (size : Nat) (x : Session) : Prop where
  hears   : s.hw.hears h.tr = true
  fits    : size ≤ payloadLimit h.tr
  sess    : s.cmd.session h.tr = some x
  next    : h.seq.toNat = (x.lastSeq + 1) % 65536
  fresh   : x.accepted.find? (fun e => decide (e.seq = h.seq.toNat ∧ e.tag = h.tag.toNat)) = none
  idle    : x.wait = none ∧ x.held = [] ∧ x.resume = none
  room    : x.away.length < 8
  header  : s.HeaderGood h wide
  quiet   : s.hw.outbox = []

/-- Steps 5 to 9 of R31 let a command of the row `sp` pass too. -/
structure State.Ready (s : State) (h : Hdr) (sp : Spec) (size : Nat) (x : Session) : Prop extends State.Arrives s h sp.wide size x where
  fitted  : s.hw.noSafety = true → sp.fused = false ∧ safetyOp sp.op = false
  role    : sp.role ≤ h.role.toNat ∧ h.role.toNat ≤ x.role
  mode    : s.hw.dev.mode ∈ sp.modes ∧ s.hw.dev.mode ≠ .dormant ∧ s.hw.dev.mode ≠ .boot
  up      : s.hw.wch.lost = false
  free    : s.cmd.held sp.writes = false
  slots   : sp.stepped = true → s.cmd.liveOps < 4

/-- The host command `c` arrives with the header `h` for the session `x`; it is served at once. -/
def State.Hears (s : State) (c : Instr) (h : Hdr) (x : Session) : Prop :=
  hdrOf c = some h ∧ s.Arrives h (rowOf c).wide (paramsOf c).length x
def State.Takes (s : State) (c : Instr) (h : Hdr) (x : Session) : Prop :=
  hdrOf c = some h ∧ s.Ready h (rowOf c) (paramsOf c).length x

/-- The hardware once a command is accepted: the standby's journal has one more entry (R413). -/
def State.accepted (s : State) : Hw := s.journal.hw

/-- The command `c`, taken for the session `x`, leaves the hardware as `hw` and is answered `a`; beside these only the session and its
transport's packets differ, as acceptance and the reply make them. -/
def State.Served (s : State) (c : Instr) (h : Hdr) (x : Session) (hw : Hw) (a : Ans) : Prop :=
  exec c s = .next (({ s.took h x with hw := hw } : State).reply h (opOf c) a)

/-- The command `c`, taken for the session `x`, leaves the hardware as `hw`, starts the stepped operation `o` under some token, which
it answers with ACCEPTED_STEPPED, and drops the operations whose results are released. -/
def State.Begins (s : State) (c : Instr) (h : Hdr) (x : Session) (hw : Hw) (o : StepOp) : Prop :=
  ∃ tok steps : Nat, exec c s = .next (({ s.took h x with
    hw := hw
    cmd := { (s.took h x).cmd with
      issued := tok :: s.cmd.issued
      ops := s.cmd.ops.filter (fun o => !o.released) ++
        [{ o with token := tok, owner := some (h.tr, x.number), steps := steps, chunkAt := s.hw.ticks }] } } : State).reply h (opOf c)
    { status := 0x01, data := le 4 tok })

/-- One more step of an operation is counted, up to 65,535 (R44). -/
def State.counted (s : State) (tok : Nat) : State :=
  { s with cmd := s.cmd.updOp tok (fun o => { o with step := min 65535 (o.step + 1) }) }

/-! ### Islands that are stopped -/

/-- The boot step with which the island of an event starts, 15 for one that does not run in BOOT (Table 3.2, log entry 146); none for a
host command, a register row, a level on an input pin and what the always-on island or Watch does. -/
def islandOf : Instr → Option Nat
  | .keeperClockCheck _ _ => some 3
  | .keeperSelftest _ _ => some 3
  | .keeperDisagree => some 3
  | .fselDebounce => some 3
  | .fselInvalidTimeout => some 3
  | .restartStuck => some 3
  | .edmCheck _ => some 3
  | .readbackCheck _ => some 3
  | .testPulse _ _ _ => some 3
  | .pmcIncrement _ _ _ _ _ _ _ => some 3
  | .sltPintest _ => some 3
  | .sltPeriod _ => some 3
  | .sltRunEnd _ _ _ _ => some 3
  | .challengeExpiry => some 3
  | .lntBucketClose _ => some 5
  | .trimRecompute => some 5
  | .hvMeasUpdate _ => some 5
  | .regionOfftargetTimeout _ => some 5
  | .maskParityError _ => some 5
  | .dmkEdge _ _ _ => some 6
  | .dmkIvTimeout => some 6
  | .dmkFreqGateEnd _ => some 6
  | .ppsEdge _ _ => some 6
  | .ppsTimeout => some 6
  | .crystalStop => some 6
  | .refPllUnlock => some 6
  | .casTimeSend => some 6
  | .casTimeFrame _ _ => some 6
  | .casAngleFrame _ _ _ _ => some 6
  | .casFrameFrame _ _ => some 6
  | .casModeFrame _ _ => some 6
  | .casInhibitFrame _ _ => some 6
  | .casEchoFrame _ => some 6
  | .casTimeSilence => some 6
  | .lpReceive _ _ => some 10
  | .codewordReceive _ _ => some 10
  | .linkBlockReceive _ _ => some 10
  | .linkBlockMissed _ => some 10
  | .ackTimeout _ => some 10
  | .superframeLock _ => some 10
  | .laneReady _ _ => some 10
  | .alignComplete _ => some 10
  | .bringupTimeout _ => some 10
  | .stepOffer _ _ _ => some 10
  | .stepAccept _ _ _ => some 10
  | .rateChange _ => some 10
  | .stepTimeout _ => some 10
  | .laneRetrainTimeout _ => some 10
  | .marginLow _ _ => some 10
  | .retrain _ => some 10
  | .pauseTimeout _ _ => some 10
  | .laneTestEnd _ _ _ => some 10
  | .ethLockLoss _ => some 10
  | .pcsBlockLock _ => some 10
  | .arpRequest _ => some 10
  | .arpRetry _ => some 10
  | .arpReply _ _ => some 10
  | .arpCacheExpiry _ => some 10
  | .destUnresolvedTimeout _ => some 10
  | .icmpEcho _ _ => some 10
  | .ptpMessage _ _ _ => some 10
  | .ptpLockLost => some 10
  | .discoveryPacket _ _ _ _ _ => some 11
  | .echoMeasure _ _ => some 11
  | .secondaryAbsent _ => some 11
  | .pedestalTick => some 12
  | .tickDeadline _ => some 12
  | .axisStartTimeout _ => some 12
  | .resonantDacUpdate _ => some 12
  | .tideTrigEdge _ => some 12
  | .tideConversionStart _ => some 12
  | .tideConversionEnd _ _ _ _ _ => some 12
  | .tideToneBurst => some 12
  | .toneBurstEnd => some 12
  | .tideRotation => some 12
  | .sliceCalDone _ _ => some 12
  | .sifterSlot _ => some 12
  | .sifterParityError _ => some 12
  | .kprTideTimeout _ => some 12
  | .csiFrameStart _ => some 13
  | .csiLine _ _ _ => some 13
  | .csiFrameEnd _ => some 13
  | .csiFrameTimeout _ => some 13
  | .camNoSignal _ => some 13
  | .cciWriteIssue _ _ _ => some 13
  | .glzMapParity _ _ => some 13
  | .driverPoll _ _ => some 15
  | .mapSend _ => some 15
  | .rampUpdate => some 15
  | .shotDecision _ => some 15
  | .shotFire _ => some 15
  | .refWindowClose _ _ => some 15
  | .lntXchkSample _ _ _ => some 15
  | .frameBoundary => some 15
  | .placementCut => some 15
  | .placementReady _ => some 15
  | .pointPacketFlush _ => some 15
  | .framePacketSend => some 15
  | .gateEvent _ _ _ _ => some 15
  | .vernierConversion _ _ _ _ => some 15
  | .shotEdgeArrival _ _ _ _ => some 15
  | .zoomIn _ => some 15
  | .histogramClose _ => some 15
  | .peakFindStart _ => some 15
  | .peakFindDone _ _ => some 15
  | .detDone _ _ => some 15
  | .bellFrameBuild => some 15
  | .confirmReceive _ => some 15
  | .bellConfirmTimeout => some 15
  | .keeperSample _ _ => some 15
  | .clusterSearch _ => some 15
  | .keeperStale _ _ => some 15
  | .autoRestart _ => some 15
  | .modeSetAtTick => some 15
  | .cascadeModeTick => some 15
  | _ => none

/-- The events of the Keepers and of Bell, which AG7680-IX and AG7680-AX leave stopped in every mode (R2, R56). -/
def keeperEvent : Instr → Bool
  | .keeperClockCheck _ _ => true
  | .keeperSelftest _ _ => true
  | .keeperDisagree => true
  | .fselDebounce => true
  | .fselInvalidTimeout => true
  | .restartStuck => true
  | .edmCheck _ => true
  | .readbackCheck _ => true
  | .testPulse _ _ _ => true
  | .kprTideTimeout _ => true
  | .bellFrameBuild => true
  | .confirmReceive _ => true
  | .bellConfirmTimeout => true
  | .keeperSample _ _ => true
  | .clusterSearch _ => true
  | .keeperStale _ _ => true
  | .autoRestart _ => true
  | _ => false

/-! ### A tile that has settled -/

/-- Tile `n` holds no missing-shot descriptor that it has still to retire (R140). -/
def Hw.settled (hw : Hw) (n : Nat) : Prop := ∀ d, (hw.descs.drop (hw.tile n).taken).head? = some d → d.missing = none

/-! ### A reset -/

/-- The state a reset leaves: the queue, the Pantry, the input levels and the count of free values stay, with the always-on island, the strap
latch and the start given; everything else is at its reset value. -/
def resetTo (s : State) (island : AlwaysOn) (straps : CasSt) (start : DevSt) (drawn : Nat) : State :=
  { pending := s.pending
    hw := { pantry := { s.hw.pantry with boot := s.hw.trialLost }, pins := s.hw.pins, free := drawn, cas := straps, on := island, dev := start } }

/-- The always-on island after a reset that is no power-up. -/
def islandAfter (s : State) (cause : Nat) : AlwaysOn :=
  { s.hw.on with resetCause := putBit s.hw.on.resetCause cause true, heldLog := [] }

/-- What a reset that is no power-up keeps of the cascade: the index latched from the straps and the delays measured (R266, R270). -/
def strapsAfter (s : State) : CasSt :=
  { index := s.hw.cas.index, myDelay := s.hw.cas.myDelay, secs := s.hw.cas.secs.map (fun e => (e.1, { delay := e.2.delay })) }

/-! ### Invariants of the command side -/

/-- The commands and reports of Watch keep within what chapter 02 grants: at most one session holds ADMIN or SERVICE (R33), 4 stepped
operations (R45), 8 outstanding commands and 8 cached ones of a session (R35, R36), the ordinary part of its event queue (R52), and what it keeps as
a reply is one. -/
structure CmdSt.Sound (c : CmdSt) : Prop where
  oneAdmin : ∀ t u x y, c.session t = some x → c.session u = some y → 2 ≤ x.role → 2 ≤ y.role → t = u
  fewOps   : c.liveOps ≤ 4
  waiting  : ∀ t x, c.session t = some x → x.outstanding ≤ 8
  cached   : ∀ t x, c.session t = some x → x.accepted.length ≤ 8
  events   : ∀ t, c.ordinary t ≤ 224
  waits    : ∀ t x w p, c.session t = some x → x.wait = some (w, p) → p.reply = true
  replies  : ∀ t x e p, c.session t = some x → e ∈ x.accepted → e.reply = some p → p.reply = true
  late     : ∀ e ∈ c.late, e.2.2.reply = true

/-- The images the standby holds. -/
def Mirror.images (m : Mirror) : List Image := m.sealed.toList ++ m.copying.toList

/-- Watch's command side and every image of it are sound. -/
structure State.Sound (s : State) : Prop where
  now    : s.cmd.Sound
  images : ∀ i ∈ s.mirror.images, i.cmd.Sound

/-- Tokens are nonzero, issued once, and every operation that has not ended has one that was issued, in the images too (R44). -/
structure State.TokensUnique (s : State) : Prop where
  once    : s.cmd.issued.Nodup
  nonzero : 0 ∉ s.cmd.issued
  range   : ∀ n ∈ s.cmd.issued, n < 2 ^ 32
  known   : ∀ o ∈ s.cmd.ops, o.live = true → o.token ∈ s.cmd.issued
  images  : ∀ i ∈ s.mirror.images, ∀ o ∈ i.cmd.ops, o.live = true → o.token ∈ s.cmd.issued

end Sys2Proof.Machine
end

