-- ==== Sys2Proof/Certificates/Slice0/Obligations.lean ====
section
/-! DEFINITION. The statements of this model. -/

open Sys2Proof Sys2Proof.Machine

/-- A step takes the command at the front of the queue and runs exec on it (R36, 02 Tags, sequences and sessions). -/
def Obligations.StepRunsFrontCommand : Prop :=
  ∀ (s : State) (c : Instr) (r : List Instr), s.pending = c :: r → step s = exec c { s with pending := r }

/-- On an empty queue a step passes one reference tick, or takes up a command held behind a wait that has ended (R135, R137, R36, R363). -/
def Obligations.EmptyQueuePassesATick : Prop :=
  (∀ s : State, s.pending = [] → s.cmd.late = [] → (∀ t x, s.cmd.session t = some x → x.wait = none ∧ x.held = []) → s.hw.injecting = false →
    step s = .next { s with hw := { s.hw with
      ticks := s.hw.ticks + 1
      clk := { s.hw.clk with time := if s.hw.clk.xtalOk ∧ s.hw.clk.refLock then s.hw.clk.time + 1 else s.hw.clk.time } } }) ∧
  (∀ (s : State) (x : Session) (c : Instr) (r : List Instr) (h : Hdr), s.pending = [] → s.cmd.spi = some x → x.wait = none → x.held = c :: r →
    hdrOf c = some h →
    step s = .next { s with pending := [c], cmd := { s.cmd with spi := some { x with held := r, resume := some h.seq.toNat } } })

/-- No command touches the queue of waiting commands (R36, 02 Tags, sequences and sessions). -/
def Obligations.ExecKeepsTheQueue : Prop :=
  ∀ (c : Instr) (s t : State), exec c s = .next t → t.pending = s.pending

/-- Every step delivers all that the hardware handed to Watch (R36, R52, 02 Events). -/
def Obligations.StepKeepsNothingUndelivered : Prop :=
  ∀ s t : State, s.hw.outbox = [] → step s = .next t → t.hw.outbox = []

/-- Every step keeps the bounds of sessions, operations, caches and event queues (R33, R35, R36, R45, R52, R413, R416). -/
def Obligations.StepKeepsWatchSound : Prop :=
  ∀ s t : State, s.Sound → step s = .next t → t.Sound

/-- Every step keeps tokens nonzero and issued once (R44, R416). -/
def Obligations.StepKeepsTokensUnique : Prop :=
  ∀ s t : State, s.TokensUnique → step s = .next t → t.cmd.issued.length + 1 < 2 ^ 32 → t.TokensUnique

/-- The state after reset is sound, has unique tokens, holds nothing undelivered, no command and no session (R34, R44, R51). -/
def Obligations.ResetMeetsTheInvariants : Prop :=
  State.reset.Sound ∧ State.reset.TokensUnique ∧ State.reset.hw.outbox = [] ∧ State.reset.pending = [] ∧
  (∀ t, State.reset.cmd.session t = none ∧ State.reset.cmd.out t = []) ∧ State.reset.cmd.ops = []

/-- Without a session every opcode but seven is answered DENIED and does nothing (R32, R31). -/
def Obligations.UnsessionedCommandIsDenied : Prop :=
  ∀ (c : Instr) (h : Hdr) (s : State), hdrOf c = some h → noSession (opOf c) = false → s.hw.hears h.tr = true →
    (paramsOf c).length ≤ payloadLimit h.tr → s.cmd.session h.tr = none → s.hw.badHeader h (rowOf c).wide false = none → s.hw.outbox = [] →
    s.hw.noSafety = false → (s.hw.relays h.tr = false ∨ h.role.toNat < (rowOf c).role) → exec c s = .next (s.reply h (opOf c) { status := 0x04 })

/-- A retransmission gets the cached reply again, or nothing, and executes nothing (R35, R34). -/
def Obligations.RetransmissionExecutesNothing : Prop :=
  ∀ (c : Instr) (h : Hdr) (s : State) (x : Session) (e : Cached), hdrOf c = some h → opOf c ≠ 0x01 → s.hw.hears h.tr = true →
    (paramsOf c).length ≤ payloadLimit h.tr → s.hw.relays h.tr = false → s.cmd.session h.tr = some x → x.resume ≠ some h.seq.toNat →
    x.accepted.find? (fun e => decide (e.seq = h.seq.toNat ∧ e.tag = h.tag.toNat)) = some e →
    exec c s = .next (match e.reply with
      | some p => { s with cmd := (s.cmd.setSession h.tr (some { x with lastSeen := s.hw.ticks })).push h.tr p }
      | none => { s with cmd := s.cmd.setSession h.tr (some { x with lastSeen := s.hw.ticks }) })

/-- A command out of sequence is answered BAD_PARAM with offset 10 and does not advance the count (R31, R35). -/
def Obligations.SequenceErrorIsRefused : Prop :=
  ∀ (c : Instr) (h : Hdr) (s : State) (x : Session), hdrOf c = some h → opOf c ≠ 0x01 → s.hw.hears h.tr = true →
    (paramsOf c).length ≤ payloadLimit h.tr → s.hw.relays h.tr = false → s.cmd.session h.tr = some x → x.resume ≠ some h.seq.toNat →
    x.accepted.find? (fun e => decide (e.seq = h.seq.toNat ∧ e.tag = h.tag.toNat)) = none → h.version = 1 → h.opcode = none →
    h.seq.toNat ≠ (x.lastSeq + 1) % 65536 →
    exec c s = .next ((s.putSession h.tr (some { x with lastSeen := s.hw.ticks })).reply h (opOf c) { status := 0x05, data := le 2 10 })

/-- A ninth outstanding command is answered BUSY; one behind a wait is held in its place (R31, R36). -/
def Obligations.NinthOutstandingIsBusy : Prop :=
  ∀ (c : Instr) (h : Hdr) (s : State) (x : Session), hdrOf c = some h → opOf c ≠ 0x01 → s.hw.hears h.tr = true →
    (paramsOf c).length ≤ payloadLimit h.tr → s.cmd.session h.tr = some x → x.resume = none →
    x.accepted.find? (fun e => decide (e.seq = h.seq.toNat ∧ e.tag = h.tag.toNat)) = none →
    h.seq.toNat = (x.lastSeq + 1) % 65536 → s.hw.badHeader h (rowOf c).wide false = none →
    (8 ≤ x.outstanding → exec c s = .next ((s.took h x).reply h (opOf c) { status := 0x02 })) ∧
    (x.outstanding < 8 → (x.wait.isSome ∨ x.held ≠ []) →
      exec c s = .next ((s.took h x).putSession h.tr
        (some { (x.heard s.hw.ticks).accept h with held := x.held ++ [c] })))

/-- A packet on a transport that is down changes nothing; one above the payload limit is only counted (R26, R31, R40). -/
def Obligations.UnheardOrOversizePacketIsDropped : Prop :=
  ∀ (c : Instr) (h : Hdr) (s : State), hdrOf c = some h →
    (s.hw.hears h.tr = false → exec c s = .next s) ∧
    (s.hw.hears h.tr = true → (match h.tr with | .eth => 1440 | _ => 4096) < (paramsOf c).length →
      exec c s = .next { s with cmd := { s.cmd with discarded := min 0xFFFF (s.cmd.discarded + 1) } })

/-- Steps 5 to 9 of the checks: NOT_FITTED, DENIED, MODE_CONFLICT, BUSY, each before any effect (R31, R33, R39, R40, R42, R45). -/
def Obligations.RefusalsComeInOrder : Prop :=
  ∀ (c : Instr) (h : Hdr) (s : State) (x : Session), opOf c ≠ 0x01 → s.Hears c h x →
    let answers := fun (a : Ans) => exec c s = .next ((s.took h x).reply h (opOf c) a)
    let fusedOff : Prop := s.hw.noSafety = true ∧ ((rowOf c).fused = true ∨ safetyOp (opOf c) = true)
    (fusedOff → answers { status := 0x0B }) ∧
    (¬ fusedOff → x.role < h.role.toNat → answers { status := 0x04 }) ∧
    (¬ fusedOff → h.role.toNat ≤ x.role → s.hw.dev.mode ≠ .dormant → s.hw.wch.lost = false → s.hw.dev.mode ≠ .boot →
      (h.role.toNat < (rowOf c).role → answers { status := 0x04 }) ∧
      ((rowOf c).role ≤ h.role.toNat →
        (s.hw.dev.mode ∉ (rowOf c).modes → answers { status := 0x03, data := le 1 s.hw.dev.mode.code }) ∧
        (s.hw.dev.mode ∈ (rowOf c).modes → s.cmd.held (rowOf c).writes = true → answers { status := 0x02 }) ∧
        (s.hw.dev.mode ∈ (rowOf c).modes → (rowOf c).stepped = true → 4 ≤ s.cmd.liveOps → answers { status := 0x02 }))) ∧
    (¬ fusedOff → s.hw.dev.mode = .boot → s.hw.dev.halted = false → s.hw.wch.lost = false → (rowOf c).role ≤ h.role.toNat →
      h.role.toNat ≤ x.role → opOf c ∉ [0x00, 0x03, 0x04] → answers { status := 0x02 })

/-- On AG7680-IX and AG7680-AX the protective opcodes return NOT_FITTED (R42). -/
def Obligations.ProtectiveOpcodesNeedTheFeature : Prop :=
  ∀ (c : Instr) (h : Hdr) (s : State) (x : Session) (code : Nat), opOf c = 0x22 ∨ opOf c = 0x23 ∨ (0x70 ≤ opOf c ∧ opOf c ≤ 0x7F) →
    s.hw.dev.codeRead = some code → code ≠ 0 → s.Hears c h x →
    exec c s = .next ((s.took h x).reply h (opOf c) { status := 0x0B })

/-- Every reset and wake keeps the Pantry, the input levels and, but for power-up, the always-on island, sets its cause, and starts BOOT at S01
(R55, R66, R67, R69, R70, R72). -/
def Obligations.ResetCausesStartBoot : Prop :=
  ∀ s : State,
    exec .powerUp s = .next (resetTo s { resetCause := 1 } {} { step := 1 } s.hw.free) ∧
    (∀ ns, s.hw.dev.inReset = false → 10000 ≤ ns → exec (.resetNLow ns) s =
      .next (resetTo s (islandAfter s 1) (strapsAfter s)
        { step := 1, startCause := 1, inReset := true, hotHold := s.hw.dev.hotHold } (s.hw.free + 1))) ∧
    (∀ ns, s.hw.outbox = [] → ns < 2000 → exec (.resetNLow ns) s = .next { s with hw := { s.hw with free := s.hw.free + 1 } }) ∧
    (∀ x, s.hw.outbox = [] → s.hw.dev.inReset = true → exec (.resetNRise x) s = .next { s with hw := { s.hw with
      dev := { s.hw.dev with inReset := false }, cas := { s.hw.cas with index := x % 4 } } }) ∧
    (∀ us, s.hw.held = false → 10 < us → exec (.coreSupplyFault us) s =
      .next (resetTo s (islandAfter s 4) (strapsAfter s) { step := 1, startCause := 4 } s.hw.free)) ∧
    (∀ us, s.hw.outbox = [] → us ≤ 10 → exec (.coreSupplyFault us) s = .next s) ∧
    (∀ ns, s.hw.dev.mode = .dormant → s.hw.held = false → tb s.hw.dev.wakeMask 0 = true → 1000 ≤ ns → exec (.wakeEdge ns) s =
      .next (resetTo s (islandAfter s 3) (strapsAfter s) { step := 1, startCause := 3 } s.hw.free)) ∧
    (∀ ns, s.hw.outbox = [] → s.hw.dev.mode ≠ .dormant ∨ tb s.hw.dev.wakeMask 0 = false ∨ ns < 1000 → exec (.wakeEdge ns) s = .next s) ∧
    (∀ us mv, s.hw.dev.mode = .dormant → s.hw.held = false → tb s.hw.dev.wakeMask 1 = true → 10 ≤ us → 100 < mv →
      exec (.lane0WakeActivity us mv) s =
        .next (resetTo s (islandAfter s 3) (strapsAfter s) { step := 1, startCause := 3 } (s.hw.free + 1))) ∧
    (∀ us mv, s.hw.outbox = [] → s.hw.dev.mode ≠ .dormant ∨ tb s.hw.dev.wakeMask 1 = false ∨ us < 10 ∨ mv < 50 →
      exec (.lane0WakeActivity us mv) s = .next { s with hw := { s.hw with free := s.hw.free + 1 } })

/-- Boot steps: S01 counts the start, a failed attempt is repeated, S02 that fails for good halts, S06 starts device time (R74, R75, R77, R78,
R79). -/
def Obligations.BootStepsEndByTheirPolicies : Prop :=
  ∀ (s : State) (o : BootObs), s.hw.outbox = [] → s.hw.dev.mode = .boot → s.hw.dev.halted = false → s.hw.held = false → s.hw.evt.table.length < 1024 →
    (s.hw.dev.step = 1 → o.ok = true → s.hw.dev.stopFails = 0 → ∃ t, exec (.bootStepComplete o) s = .next t ∧
      t.hw.pantry = { s.hw.pantry with boot := { s.hw.pantry.boot with start := (s.hw.pantry.boot.start + 1) % 65536 } } ∧
      t.hw.on.heldLog = s.hw.on.heldLog ++ [logEntry 0 1 0 (s.hw.dev.attempt + 1) 0 ((s.hw.pantry.boot.start + 1) % 65536) 0] ∧
      t.hw.dev = { s.hw.dev with step := 2, attempt := 0, stopFails := 0, stepAt := s.hw.ticks } ∧ t.cmd = s.cmd ∧ t.pending = s.pending) ∧
    (s.hw.dev.step = 1 → o.ok = false → exec (.bootStepComplete o) s = .next s) ∧
    (s.hw.stepLate (s.hw.lanesMissing o.items) = false → exec (.bootStepTimeout o) s = .next s) ∧
    (s.hw.dev.step = 2 → s.hw.stepLate true = true → s.hw.dev.attempt < 2 → exec (.bootStepTimeout o) s =
      .next { s with hw := { s.hw with dev := { s.hw.dev with attempt := s.hw.dev.attempt + 1, stopFails := 0, stepAt := s.hw.ticks } } }) ∧
    (s.hw.dev.step = 2 → s.hw.stepLate true = true → s.hw.dev.attempt = 2 → ∃ t,
      exec (.bootStepTimeout o) s = .next t ∧ t.hw.dev.halted = true ∧ t.hw.dev.step = 2 ∧
      t.hw.isRaised (fid srcDev 3 102) = true ∧ t.hw.dev.degraded = true ∧
      t.hw.pantry.boot.counts = putBits s.hw.pantry.boot.counts 2 2 (min 3 (s.hw.pantry.boot.count 2 + 1)) ∧
      t.hw.pantry.boot.altNext = putBit s.hw.pantry.boot.altNext 2 true) ∧
    (s.hw.dev.step = 6 → s.hw.stepLate false = false → o.ok = true → s.hw.dev.stopFails = 0 → ∃ t,
      exec (.bootStepComplete o) s = .next t ∧
      t.hw.clk =
        { s.hw.clk with refLock := true, xtalOk := true, time := 0, timeValid := !s.hw.isSecondary, ppsMissAt := s.hw.ticks + 1200000000 } ∧
      t.hw.dev.step = 7 ∧
      t.hw.pantry.boot.counts = putBits s.hw.pantry.boot.counts 10 2 0)

/-- Packets discarded, failing their CRC, shifted out, silent sessions, lost events, each with its whole effect (R28, R31, R34, R52, R417). -/
def Obligations.PacketEventsOfTheTransports : Prop :=
  ∀ s : State,
    (∀ tr, exec (.packetDiscarded tr) s = .next (if s.hw.hears tr = true
      then { s with cmd := { s.cmd with discarded := min 0xFFFF (s.cmd.discarded + 1) } } else s)) ∧
    (∀ tr op tag seq pr, s.hw.hears tr = false → exec (.crcError ⟨tr, pr⟩ op tag seq) s = .next s) ∧
    (∀ tr op tag seq pr, s.hw.hears tr = true → ∃ role sub, role < 4 ∧ sub < 4 ∧ exec (.crcError ⟨tr, pr⟩ op tag seq) s = .next { s with
      hw := { s.hw with free := s.hw.free + 1 }
      cmd := ({ s.cmd with crcErrors := min 0xFFFF (s.cmd.crcErrors + 1) } : CmdSt).push tr
        { opcode := op.toNat, tag := tag.toNat, source := 0x10 + s.hw.cas.index, role := role, seq := seq.toNat, status := 0x09, subaddr := sub,
          peer := pr } }) ∧
    (∀ n p r, s.cmd.outSpi = p :: r → s.hw.held = false → exec (.spiShiftOut n) s =
      .next (if 20 + (pad4 p.payload).length ≤ n then { s with cmd := { s.cmd with outSpi := r } } else s)) ∧
    (∀ n, s.cmd.outSpi = [] → exec (.spiShiftOut n) s = .next s) ∧
    (s.hw.dev.inReset = false → s.hw.dev.mode ≠ .dormant → (s.dataReady = true ↔ s.cmd.outSpi ≠ [])) ∧
    (∀ tr x, s.hw.outbox = [] → s.cmd.session tr = some x → (∀ l, (s.hw.lane l).heldAt = none) →
      x.lastSeen + 800000 * x.heartbeat ≤ s.hw.ticks →
      ∃ t, exec (.sessionHeartbeatTimeout tr) s = .next t ∧ t.cmd.session tr = none ∧ t.pending = s.pending ∧
        (s.hw.dev.mode ≠ .service → t.cmd.out tr = (s.cmd.out tr).filter (fun p => p.reply) ∧ t.hw.regs = s.hw.regs ∧ t.hw.dev = s.hw.dev)) ∧
    (∀ tr x, s.cmd.session tr = some x → s.hw.ticks < x.lastSeen + 800000 * x.heartbeat → exec (.sessionHeartbeatTimeout tr) s = .next s) ∧
    (∀ tr x, s.cmd.session tr = some x → x.lost ≠ [] → s.cmd.ordinary tr < 224 → exec (.eventsLost tr) s = .next { s with
      cmd := (s.cmd.setSession tr (some { x with lost := [], eventSeq := (x.eventSeq + 1) % 65536 })).push tr
        { opcode := 0xE4, source := 0x10 + s.hw.cas.index, seq := x.eventSeq, reply := false, urgent := false, peer := x.peer
          payload := le 1 x.lost.length ++ x.lost.flatMap (fun e => le 1 e.1 ++ le 2 e.2) } }) ∧
    (∀ tr x, s.cmd.session tr = some x → x.lost = [] ∨ 224 ≤ s.cmd.ordinary tr → exec (.eventsLost tr) s = .next s)

/-- Progress, upload timeout, release of a result, the end of a REG_POLL: when they act, what they send, what they leave (R36, R44, R47, R48,
R49). -/
def Obligations.SteppedOperationEvents : Prop :=
  ∀ (s : State) (k : U32) (o : StepOp), s.cmd.op k.toNat = some o →
    (∀ tr x, s.cmd.ownerOf o = some (tr, x) → o.live = true → o.state ≠ 0 → (∀ t, o.sentAt = some t → t + 8000000 ≤ s.hw.ticks) →
      s.cmd.ordinary tr < 224 → ∃ t, exec (.stepProgress k) s = .next t ∧ t.hw = s.hw ∧
      t.cmd.op k.toNat = some { o with sentAt := some s.hw.ticks } ∧
      t.cmd.out tr = s.cmd.out tr ++ [{ opcode := 0xE2, source := 0x10 + s.hw.cas.index, seq := x.eventSeq, reply := false, peer := x.peer
                                        payload := le 4 o.token ++ le 2 o.step ++ le 2 o.steps }]) ∧
    (∀ t, o.sentAt = some t → s.hw.ticks < t + 8000000 → exec (.stepProgress k) s = .next s) ∧
    (∀ tr x, s.cmd.ownerOf o = some (tr, x) → o.live = true → o.state = 0 → o.chunkAt + 8000000000 ≤ s.hw.ticks →
      ∃ t, exec (.uploadTimeout k) s = .next t ∧
      t.cmd.op k.toNat = some { o with state := 3, status := 0x07, result := [], doneAt := some s.hw.ticks, released := false, ending := none } ∧
      t.cmd.out tr = s.cmd.out tr ++
          [{ opcode := 0xE3, source := 0x10 + s.hw.cas.index, seq := x.eventSeq, reply := false, urgent := true, peer := x.peer
             payload := le 4 o.token ++ le 1 0x07 ++ le 4 0 }]) ∧
    (s.hw.ticks < o.chunkAt + 8000000000 → exec (.uploadTimeout k) s = .next s) ∧
    (∀ d, o.doneAt = some d → d + 8000000000 ≤ s.hw.ticks → ∃ t, exec (.resultRelease k) s = .next t ∧ t.hw = s.hw ∧
      t.cmd.op k.toNat = some { o with released := true } ∧ ∀ u, t.cmd.session u = s.cmd.session u ∧ t.cmd.out u = s.cmd.out u) ∧
    (∀ d, o.doneAt = some d → s.hw.ticks < d + 8000000000 → exec (.resultRelease k) s = .next s)

/-- A write, a clearing read, a latching read and the end of a poll act by the register's access code, its lock and the poll's terms (R9, R12,
R36, R41, R136, R495, R499). -/
def Obligations.RegisterRowsActByTheirAccessCodes : Prop :=
  ∀ s : State, s.hw.outbox = [] →
    (∀ (a : U32) (v : Word), a.toNat % 4 ≠ 0 ∨ regDesc a.toNat = none → exec (.registerWrite a v) s =
      .next { s with hw := { s.hw with ack := 0x05, ackData := le 2 16 } }) ∧
    (∀ (a : U32) (v : Word) (d : RegDesc), a.toNat % 4 = 0 → regDesc a.toNat = some d → a.toNat / 0x10000 ∈ [0x58, 0x60, 0x91, 0xA0] →
      (s.hw.dev.mode = .guard → d.rwl ≠ 0 → exec (.registerWrite a v) s =
        .next { s with hw := { s.hw with ack := 0x0A, ackData := le 4 a.toNat } }) ∧
      (s.hw.dev.mode ≠ .guard ∨ d.rwl = 0 → exec (.registerWrite a v) s = .next { s with hw := { s.hw with
        ack := 0, ackData := []
        regs := mset (wordOf (regReset a.toNat)) s.hw.regs a.toNat
          (wordOf ((clampWrite a.toNat v.toNat &&& (d.rw ||| d.rwl)) |||
            (s.hw.reg a.toNat &&& (0xFFFFFFFF ^^^ (d.rw ||| d.rwl)) &&& (0xFFFFFFFF ^^^ (v.toNat &&& d.w1c))))) } })) ∧
    (∀ (a : U32) (d : RegDesc), regDesc a.toNat = some d → d.rc ≠ 0 → a.toNat / 0x10000 ∈ [0x68, 0x70, 0x79] →
      exec (.rcRead a) s = .next { s with hw := { s.hw with
        regs := mset (wordOf (regReset a.toNat)) s.hw.regs a.toNat (wordOf (s.hw.reg a.toNat &&& (0xFFFFFFFF ^^^ d.rc))) } }) ∧
    (∀ a : U32, (∀ d, regDesc a.toNat = some d → d.rc = 0) → exec (.rcRead a) s = .next s) ∧
    exec (.latchingRead 0x00040010) s = .next { s with hw := { s.hw with clk := { s.hw.clk with latchHi := s.hw.clk.time.toNat / 2 ^ 32 } } } ∧
    (∀ tr x a m v due p, s.cmd.session tr = some x → x.wait = some (.poll a m v due, p) →
      ((s.readReg a).2 &&& m = v → exec (.regPollEnd tr) s = .next { (s.readReg a).1 with
        cmd := (s.cmd.setSession tr (some { x with wait := none })).answer tr { p with status := 0, payload := le 4 (s.readReg a).2 } }) ∧
      ((s.readReg a).2 &&& m ≠ v → due ≤ s.hw.ticks → exec (.regPollEnd tr) s = .next { (s.readReg a).1 with
        cmd := (s.cmd.setSession tr (some { x with wait := none })).answer tr { p with status := 0x07, payload := [] } }))

/-- A decision grants a shot only within every limit of every cell it lights, at most four in flight, never while inhibited (R64, R81, R87, R88,
R89, R90, R92, R101, R104, R105, R106). -/
def Obligations.ShotDecisionsObeyLantern : Prop :=
  ∀ (s : State) (b : Nat), s.hw.outbox = [] →
    ((s.hw.dev.mode ≠ .scan ∧ s.hw.dev.mode ≠ .guard ∧ s.hw.dev.mode ≠ .service) ∨ s.hw.bcn.inhibited = true →
      exec (.shotDecision b) s = .next s) ∧
    (∀ t, exec (.shotDecision b) s = .next t → ∀ k, (t.hw.bank k).inFlight = (s.hw.bank k).inFlight ∨
      (k = b ∧ (s.hw.bank b).inFlight.length < 4 ∧ s.hw.suppresses b = false ∧ ∃ x, (t.hw.bank b).inFlight = (s.hw.bank b).inFlight ++ [x] ∧
        ∀ w < 3, ∀ c ∈ x.cells,
          s.hw.lnt.used16 b w c + 16 * (reservedIn (s.hw.bank b).inFlight c + x.dq) ≤ 65536 * s.hw.lnt.limit b w)) ∧
    (s.hw.dev.mode ∈ [.scan, .guard, .service] → s.hw.held = false → s.hw.bcn.inhibited = false → b < 4 →
      (∀ g p, s.hw.bcn.source = 0 → s.hw.gridTarget b = some (g, p) → s.hw.crosses (s.hw.aheadOf b) g.aim 0 = true →
        exec (.shotDecision b) s = .next { s with hw :=
          ({ s.hw with tnd := { s.hw.tnd with grid := mset {} s.hw.tnd.grid b p } } : Hw).decideShot b g false }) ∧
      (∀ g, s.hw.bcn.source = 1 → s.hw.patternWait = s.hw → s.hw.patternTarget b = some g → s.hw.crosses s.hw.bcn.pattern.ahead g.aim 0 = true →
        let h := s.hw.decideShot b g true
        let given := decide ((s.hw.bank b).inFlight.length < (h.bank b).inFlight.length)
        exec (.shotDecision b) s = .next { s with hw := h.patternShot g (s.hw.driverOf b g.row) given }))

/-- Firing, polling, mapping, ramps and the close of a reference window do what their rules say (R81, R82, R84, R85, R86, R88, R94, R96, R97,
R101, R128). -/
def Obligations.EmissionRowsTakeEffect : Prop :=
  ∀ s : State, s.hw.outbox = [] → s.hw.awake 15 = true →
    (∀ b x r t, (s.hw.bank b).inFlight = x :: r → x.fireAt = some t → t ≤ s.hw.ticks → ∃ u, exec (.shotFire b) s = .next u ∧
      (u.hw.bank b).inFlight.map (·.num) = r.map (·.num) ∧ (u.hw.bank b).lastFire = some t ∧
      (u.hw.bank b).refOpen = (s.hw.bank b).refOpen ++ [x] ∧
      u.hw.lnt = { s.hw.lnt.book x with lastCur := mset 0 s.hw.lnt.lastCur x.bank x.cur } ∧
      u.hw.bcn.fire = (s.hw.pulse x t).bcn.fire ∧ u.cmd = s.cmd ∧ u.hw.tnd = s.hw.tnd ∧
      (b < 4 → u.hw.reg (0x000200A0 + 4 * b) = (s.hw.reg (0x000200A0 + 4 * b) + 1) % 2 ^ 32)) ∧
    (∀ b, (∀ x r, (s.hw.bank b).inFlight = x :: r → ∀ t, x.fireAt = some t → s.hw.ticks < t) → exec (.shotFire b) s = .next s) ∧
    (∀ a, a < 16 → tb (s.hw.drvReg a) 7 = true → mget 0 s.hw.bcn.pollDue a ≤ s.hw.ticks → s.hw.busGap 736 = true →
      (∀ r, ∃ u, exec (.driverPoll a (some r)) s = .next u ∧ (u.hw.driver a).silent = 0 ∧ (u.hw.driver a).status = r.status.toNat ∧
        (u.hw.driver a).faults = r.faults.toNat ∧ (u.hw.driver a).excl = (s.hw.driver a).excl ||| (r.faults.toNat &&& 0x16)) ∧
      ((s.hw.driver a).silent < 2 → ∃ u, exec (.driverPoll a none) s = .next u ∧ u.cmd = s.cmd ∧
        u.hw.driver a = { s.hw.driver a with silent := (s.hw.driver a).silent + 1 }) ∧
      ((s.hw.driver a).silent = 2 → s.hw.evt.table.length < 1024 → ∃ u, exec (.driverPoll a none) s = .next u ∧
        u.hw.driver a = { s.hw.driver a with silent := 3, excl := (s.hw.driver a).excl ||| 128 } ∧ u.hw.isRaised (fid srcBcn 2 27) = true)) ∧
    (∀ a, s.hw.busGap 384 = true →
      ((s.hw.driver a).clearDue = true → exec (.mapSend a) s =
        .next { s with hw := (s.hw.setDriver a { s.hw.driver a with clearDue := false }).busCommand (faultClearWord a) 400 }) ∧
      ((s.hw.driver a).clearDue = false → (s.hw.driver a).mapDue = true → exec (.mapSend a) s =
        .next { s with hw := (s.hw.setDriver a { s.hw.driver a with mapDue := false }).busCommand (mapWord a (tb (s.hw.drvReg a) 6)) 400 })) ∧
    (∀ a, ((s.hw.driver a).clearDue = false ∧ (s.hw.driver a).mapDue = false) ∨ s.hw.busGap 384 = false → exec (.mapSend a) s = .next s) ∧
    (s.hw.busGap 384 = false ∨ (s.hw.bcn.writes = [] ∧ ∀ r ∈ s.hw.bcn.pattern.ramps, r.due = false) → exec .rampUpdate s = .next s) ∧
    (∀ w l, s.hw.busGap 384 = true → s.hw.bcn.writes = w :: l →
      exec .rampUpdate s = .next { s with hw := ({ s.hw with bcn := { s.hw.bcn with writes := l } } : Hw).writeProfile w }) ∧
    (∀ r, s.hw.busGap 384 = true → s.hw.bcn.writes = [] → s.hw.bcn.pattern.ramps.find? (·.due) = some r →
      let c := r.next (mget 0 (s.hw.driver r.driver).cur r.profile)
      ∃ u, exec .rampUpdate s = .next u ∧ u.cmd = s.cmd ∧ mget 0 (u.hw.driver r.driver).cur r.profile = c ∧
        u.hw.bcn.pattern.ramps = if c = r.final then s.hw.bcn.pattern.ramps.filter (fun x => decide (x ≠ r))
          else s.hw.bcn.pattern.ramps.map (fun x => if x = r then { x with due := false } else x)) ∧
    (∀ b n, (s.hw.bank b).refOpen = [] → exec (.refWindowClose b n) s = .next s) ∧
    (∀ b n x r, (s.hw.bank b).refOpen = x :: r → x.plan + bits (s.hw.reg 0x00020080) 0 8 + bits (s.hw.reg 0x00020080) 8 8 ≤ s.hw.ticks → ∃ u,
      exec (.refWindowClose b n) s = .next u ∧ (u.hw.bank b).refOpen = r ∧ ∀ c < 16,
        let e := s.hw.emitter b x.row c
        let m := if s.hw.refK ≤ popCount 4 (n / 2 ^ (4 * s.hw.refGroup c)) then 0 else min 64 (e.misses + 1)
        u.hw.emitter b x.row c = if tb x.cols c = false then e
          else if tb s.hw.spd.lampUnfit (s.hw.refGroup c) = true then { e with fired := 0, misses := 0 }
          else { fired := min 64 (e.fired + 1), misses := m, opened := e.opened || decide (m = 64) })

/-- A seed waits for the next block, a reserved FIRE_MODE is refused, a driver of a block already served loses PRESENT, GUARD locks all (R12, R41,
R81, R82, R91). -/
def Obligations.EmissionRegistersByTheirRules : Prop :=
  ∀ s : State, s.hw.outbox = [] →
    (∀ b (v : Word), b < 4 → s.hw.dev.mode ≠ .guard → ∃ u, exec (.bcnCodeSeedWrite b v) s = .next u ∧ u.cmd = s.cmd ∧ u.hw.ack = 0 ∧
      u.hw.bank b = { s.hw.bank b with coding := { (s.hw.bank b).coding with
        seed := some (if v.toNat % 2 ^ 31 = 0 then Config.derivedSeed b % 2 ^ 31 else v.toNat % 2 ^ 31) } }) ∧
    (∀ b (v : Word), b < 4 → s.hw.dev.mode ≠ .guard → 
      let hw : Hw := if bits v.toNat 4 2 = 3 then { s.hw with ack := 0x05, ackData := [] } else s.hw.plainWrite (0x00020020 + 4 * b) v.toNat
      exec (.bcnBankWrite b v) s = .next { s with hw := hw }) ∧
    (∀ a (v : Word), a < 16 → s.hw.dev.mode ≠ .guard →
      let taken := ∃ k < a, tb (s.hw.drvReg k) 7 = true ∧ bits (s.hw.drvReg k) 0 4 = bits v.toNat 0 4
      (¬ taken → ∃ u, exec (.bcnDrvWrite a v) s = .next u ∧ u.cmd = s.cmd ∧
        u.hw.regs = (s.hw.plainWrite (0x00020040 + 4 * a) v.toNat).regs ∧ u.hw.driver a = { s.hw.driver a with mapDue := tb v.toNat 7 }) ∧
      (taken → ∃ u, exec (.bcnDrvWrite a v) s = .next u ∧ u.cmd = s.cmd ∧
        u.hw.regs = (s.hw.plainWrite (0x00020040 + 4 * a) (putBit v.toNat 7 false)).regs ∧ u.hw.driver a = { s.hw.driver a with mapDue := false })) ∧
    (∀ n (v : Word), s.hw.dev.mode = .guard →
      (n < 4 → exec (.bcnBankWrite n v) s = .next { s with hw := { s.hw with ack := 0x0A, ackData := le 4 (0x00020020 + 4 * n) } }) ∧
      (n < 16 → exec (.bcnDrvWrite n v) s = .next { s with hw := { s.hw with ack := 0x0A, ackData := le 4 (0x00020040 + 4 * n) } }) ∧
      (n < 4 → exec (.bcnCodeSeedWrite n v) s = .next { s with hw := { s.hw with ack := 0x0A, ackData := le 4 (0x00020010 + 4 * n) } }))

/-- Closing a bucket and changing the grid never lower what a cell counts but by its oldest bucket; a limit never exceeds its cap (R99, R100,
R101, R103, R104, R105, R107). -/
def Obligations.LedgerNeverForgetsEarly : Prop :=
  ∀ s : State, s.hw.outbox = [] → msorted s.hw.lnt.cells = true →
    (∀ w, s.hw.awake 5 = true → s.hw.lnt.running = true → w < 3 → mget 0 s.hw.lnt.bucketAt w + 100 * s.hw.lnt.window w ≤ s.hw.ticks → ∃ u,
      exec (.lntBucketClose w) s = .next u ∧ mget 0 u.hw.lnt.bucketAt w = s.hw.ticks ∧ u.cmd = s.cmd ∧ u.hw.bcn = s.hw.bcn ∧
      ∀ b < 4, ∀ c < 4096, mget {} u.hw.lnt.cells (cellIx b w c) = closeCell (s.hw.lnt.cap b w) (mget {} s.hw.lnt.cells (cellIx b w c)) ∧
        (0 < s.hw.lnt.cap b w → 16 * (mget {} s.hw.lnt.cells (cellIx b w c)).cur ≤
          s.hw.lnt.cap b w * (mget {} u.hw.lnt.cells (cellIx b w c)).buckets.headD 0)) ∧
    (∀ w, s.hw.lnt.running = false ∨ 3 ≤ w ∨ s.hw.ticks < mget 0 s.hw.lnt.bucketAt w + 100 * s.hw.lnt.window w →
      exec (.lntBucketClose w) s = .next s) ∧
    (∀ i (v : Word), i < 5 → s.hw.dev.mode = .config → ∃ u, exec (.lntGridWrite i v) s = .next u ∧ u.cmd = s.cmd ∧
      ∀ b < 4, ∀ w < 3, ∀ c < 4096, s.hw.lnt.used16 b w c ≤ u.hw.lnt.used16 b w c) ∧
    (∀ i (v : Word), i < 5 → s.hw.dev.mode ≠ .config →
      exec (.lntGridWrite i v) s = .next { s with hw := { s.hw with ack := 0x0A, ackData := le 4 (0x00028090 + 4 * i) } }) ∧
    (∀ i (v : Word), i < 12 → s.hw.dev.mode ≠ .guard → ∃ u, exec (.lntLimitWrite i v) s = .next u ∧ u.cmd = s.cmd ∧
      u.hw.lnt.limit (i / 3) (i % 3) = min v.toNat (s.hw.lnt.cap (i / 3) (i % 3))) ∧
    (∀ b x, s.hw.awake 15 = true → s.hw.lnt.running = true → b < 4 → mget 0 s.hw.lnt.xchkAt b ≤ s.hw.ticks → s.hw.monitorBad b = false →
      x * 65536 * 256 ≤ ((s.hw.reg (0x000280B0 + 4 * b) * mget 0 s.hw.lnt.lastCur b : Nat) : Int) * (256 + bits (s.hw.reg 0x000280A4) 24 8) →
      exec (.lntXchkSample b x 0) s = .next { s with hw := { s.hw with lnt := { s.hw.lnt with
        xchkAt := mset 0 s.hw.lnt.xchkAt b (s.hw.ticks + 800 * bits (s.hw.reg 0x000280A4) 8 16)
        invalid := putBit s.hw.lnt.invalid b false, above := mset 0 s.hw.lnt.above b 0 } } }) ∧
    (∀ b x q, s.hw.awake 15 = true → s.hw.lnt.running = true → b < 4 → mget 0 s.hw.lnt.xchkAt b ≤ s.hw.ticks → q ≠ 0 ∨ s.hw.monitorBad b = true →
      ∃ u, exec (.lntXchkSample b x q) s = .next u ∧ tb u.hw.lnt.invalid b = true ∧ u.hw.lnt.cells = s.hw.lnt.cells) ∧
    (∀ b x q, s.hw.lnt.running = false ∨ 4 ≤ b ∨ s.hw.ticks < mget 0 s.hw.lnt.xchkAt b → exec (.lntXchkSample b x q) s = .next s)

/-- A frame boundary that is due swaps the placement in; a placement is computed once a frame and handed over when it is ready (R60, R122, R198,
R202, R203, R207, R209, R210). -/
def Obligations.FramesAndPlacementsAdvance : Prop :=
  ∀ s : State, s.hw.outbox = [] → s.hw.awake 15 = true →
    (s.hw.framesRun = false → exec .frameBoundary s = .next (if s.hw.dev.mode = .config ∧ s.hw.tnd.unpinDue = true
      then { s with hw := { s.hw with tnd := { s.hw.tnd with pinned := [], pins := false, unpinDue := false } } } else s)) ∧
    (s.hw.framesRun = true → s.hw.boundaryDue = false → exec .frameBoundary s = .next s) ∧
    (s.hw.framesRun = true → s.hw.boundaryDue = true → ∃ u, exec .frameBoundary s = .next u ∧ u.pending = s.pending ∧ u.hw.pins = s.hw.pins) ∧
    (∀ p, s.hw.dev.mode = .scan → s.hw.framesRun = true → s.hw.boundaryDue = true → s.hw.isSecondary = false → s.hw.tnd.shadow = some p →
      (p.badChan = none → ∃ u, exec .frameBoundary s = .next u ∧ u.hw.tnd.active = some p ∧ u.hw.tnd.epoch = p.epoch ∧
        u.hw.tnd.frame = (if s.hw.tnd.firstFrame = true then s.hw.tnd.frame else (s.hw.tnd.frame + 1) % 2 ^ 32) ∧
        u.hw.tnd.frameOn = true ∧ u.hw.tnd.shadow = none) ∧
      (p.badChan ≠ none → (∀ q, s.hw.tnd.active = some q → q.epoch ≠ p.epoch) → s.hw.evt.table.length + 2 ≤ 1024 → ∃ u,
        exec .frameBoundary s = .next u ∧ u.hw.tnd.active = s.hw.tnd.active ∧ u.hw.tnd.faultFrozen = true ∧
        u.hw.isRaised (fid srcSpd 2 20) = true ∧ u.hw.isRaised (fid srcTnd 2 3) = true)) ∧
    (s.hw.framesRun = true → s.hw.tnd.frameOn = true → s.hw.tnd.cutDone = false →
      s.hw.tnd.frameTick + s.hw.framePeriod.1 ≤ s.hw.ticks + 1600000 ∨ s.hw.bcn.source = 1 → ∃ u, exec .placementCut s = .next u ∧
      u.hw.tnd.cutDone = true ∧ u.hw.tnd.computing = (s.hw.computePlacement false).2 ∧ u.cmd = s.cmd) ∧
    (s.hw.framesRun = false ∨ s.hw.tnd.frameOn = false ∨ s.hw.tnd.cutDone = true → exec .placementCut s = .next s) ∧
    (∀ p us, s.hw.tnd.computing = some p → ∃ u, exec (.placementReady us) s = .next u ∧
      u.hw.tnd = { s.hw.tnd with shadow := some p, computing := none, planTime := us % 65536 } ∧
      (p.unplaced ≠ 0 → p.unplaced ≠ ((s.hw.tnd.active.map (·.unplaced)).getD 0) → s.hw.evt.table.length < 1024 →
        u.hw.isRaised (fid srcTnd 2 1) = true)) ∧
    (∀ us, s.hw.tnd.computing = none → exec (.placementReady us) s = .next s)

/-- Trims, the bias supply, the masks and the table window of the array change as their rules say (R41, R111, R114, R116, R117, R118, R119, R120,
R126, R131, R470). -/
def Obligations.ArrayRowsTakeEffect : Prop :=
  ∀ s : State, s.hw.outbox = [] →
    (s.hw.awake 5 = true → (∀ t, s.hw.spd.trimAt = some t → t + 800000 * s.hw.trimPeriod ≤ s.hw.ticks) → ∃ u,
      exec .trimRecompute s = .next u ∧ u.hw.spd.trimAt = some s.hw.ticks ∧ ∀ r < 1153,
        let x := s.hw.trimOf r (if s.hw.trimFrozen = true then some (s.hw.region r).trim else none) s.hw.regionsHeld
        let y := u.hw.region r
        (s.hw.dev.mode ∈ [.scan, .guard, .service] → y.due = true ∧ y.state = (s.hw.region r).state ∧ (y.nextTrim, y.nextState, y.nextVex) = x) ∧
        (s.hw.dev.mode = .config → y.due = false ∧ (y.trim, y.state, y.vex) = x)) ∧
    (∀ t, s.hw.spd.trimAt = some t → s.hw.ticks < t + 800000 * s.hw.trimPeriod → exec .trimRecompute s = .next s) ∧
    (∀ mv, s.hw.awake 5 = true → (∀ t, s.hw.spd.hvAt = some t → t + 80000 ≤ s.hw.ticks) →
      let noted := { s.hw.spd with hvMeas := min 65535 mv, hvAt := some s.hw.ticks }
      (s.hw.hvInWindow mv = true → exec (.hvMeasUpdate mv) s =
        .next { s with hw := { s.hw with spd := { noted with hvInSince := some (s.hw.spd.hvInSince.getD s.hw.ticks) } } }) ∧
      (s.hw.hvInWindow mv = false → s.hw.spd.biasOn = false → exec (.hvMeasUpdate mv) s =
        .next { s with hw := { s.hw with spd := { noted with hvInSince := none } } }) ∧
      (s.hw.hvInWindow mv = false → s.hw.spd.biasOn = true → s.hw.evt.table.length + 2 ≤ 1024 → ∃ u, exec (.hvMeasUpdate mv) s = .next u ∧
        u.hw.dev.hvEnable = false ∧ u.hw.isRaised (fid srcSpd 3 2) = true ∧ ∀ r < 1153, (u.hw.region r).state = 3)) ∧
    (∀ mv t, s.hw.spd.hvAt = some t → s.hw.ticks < t + 80000 → exec (.hvMeasUpdate mv) s = .next s) ∧
    (∀ r t, s.hw.awake 5 = true → (s.hw.region r).offSince = some t → r < 1153 →
      (t + 800000000 < s.hw.ticks → s.hw.evt.table.length < 1024 → ∃ u, exec (.regionOfftargetTimeout r) s = .next u ∧
        u.hw.isRaised (fid srcSpd 1 4) = true ∧ u.hw.spd = s.hw.spd ∧ u.hw.dev = s.hw.dev) ∧
      (s.hw.ticks ≤ t + 800000000 → exec (.regionOfftargetTimeout r) s = .next s)) ∧
    (∀ r, (s.hw.region r).offSince = none → exec (.regionOfftargetTimeout r) s = .next s) ∧
    (s.hw.dev.mode = .config → ∃ u, exec .maskCommit s = .next u ∧ u.cmd = s.cmd ∧ u.hw.spd.maskActive = s.hw.spd.maskShadow ∧
      u.hw.spd.maskShadow = s.hw.spd.maskShadow ∧ u.hw.spd.maskPending = false ∧ u.hw.ack = 0) ∧
    (s.hw.dev.mode ∈ [.scan, .service] → ∃ u, exec .maskCommit s = .next u ∧ u.cmd = s.cmd ∧ u.hw.spd = { s.hw.spd with maskPending := true } ∧
      u.hw.ack = 0) ∧
    (s.hw.dev.mode ≠ .guard → ∃ u, exec .maskSave s = .next u ∧ u.cmd = s.cmd ∧ u.hw.pantry = { s.hw.pantry with mask := s.hw.spd.maskActive } ∧
      u.hw.spd = s.hw.spd ∧ u.hw.ack = 0) ∧
    (s.hw.dev.mode = .guard → exec .maskCommit s = .next { s with hw := { s.hw with ack := 0x0A, ackData := le 4 0x00030000 } } ∧
      exec .maskSave s = .next { s with hw := { s.hw with ack := 0x0A, ackData := le 4 0x00030000 } }) ∧
    (∀ w, s.hw.awake 5 = true → w < 36864 → s.hw.evt.table.length < 1024 → ∃ u, exec (.maskParityError w) s = .next u ∧
      u.hw.spd.maskActive = mset 0 s.hw.spd.maskActive w (mget 0 s.hw.pantry.mask w) ∧ u.hw.isRaised (fid srcSpd 1 12) = true) ∧
    (∀ i (v : Word), i < 256 →
      let table := bits (s.hw.reg 0x00030030) 16 4
      let ix := bits (s.hw.reg 0x00030030) 0 16 + i
      (s.hw.dev.mode ≠ .guard → table = 0 → ix < 36864 → ∃ u, exec (.spdTabWinWrite i v) s = .next u ∧ u.cmd = s.cmd ∧
        u.hw.spd = { s.hw.spd with maskShadow := mset 0 s.hw.spd.maskShadow ix v.toNat }) ∧
      (s.hw.dev.mode ≠ .guard → table = 2 → ix < 1153 → ∃ u, exec (.spdTabWinWrite i v) s = .next u ∧ u.cmd = s.cmd ∧
        (u.hw.region ix).enable = tb v.toNat 31 ∧ (u.hw.region ix).dtClass = bits v.toNat 29 2 ∧
        (s.hw.dev.mode = .config → (u.hw.region ix).dtForce = bits v.toNat 29 2) ∧
        (s.hw.dev.mode ∈ [.scan, .service] → (u.hw.region ix).dtForce = (s.hw.region ix).dtForce)) ∧
      (s.hw.dev.mode = .guard → table = 0 ∨ table = 2 →
        exec (.spdTabWinWrite i v) s = .next { s with hw := { s.hw with ack := 0x0A, ackData := le 4 (0x00030400 + 4 * i) } }))

/-- Zoom-in, close, peak finding and the table rows move a tile's buffers as their rules say (R41, R159, R162, R165, R167, R169, R170, R171,
R174). -/
def Obligations.TileRowsTakeEffect : Prop :=
  ∀ s : State, s.hw.outbox = [] →
    (s.hw.awake 15 = true →
      (∀ k i, s.hw.settled (k / 16) → (List.range 2).find? (fun i =>
          let h := ((s.hw.tile (k / 16)).chan (k % 16)).buf i
          decide (h.state = .accum) && !h.zoomed && (match h.zoomDue with | some w => decide (w ≤ s.hw.fineNow) | none => false)) = some i → ∃ u w,
        (((s.hw.tile (k / 16)).chan (k % 16)).buf i).zoomDue = some w ∧ exec (.zoomIn k) s = .next u ∧ u.cmd = s.cmd ∧
        ((u.hw.tile (k / 16)).chan (k % 16)).buf i = placeWindows w (((s.hw.tile (k / 16)).chan (k % 16)).buf i)) ∧
      (∀ k i, s.hw.settled (k / 16) → (List.range 2).find? (fun i =>
          let h := ((s.hw.tile (k / 16)).chan (k % 16)).buf i
          decide (h.state = .accum) && decide (h.nAcc ≤ h.assigned) && decide (h.closeDue ≤ s.hw.fineNow)) = some i → ∃ u,
        let h := ((s.hw.tile (k / 16)).chan (k % 16)).buf i
        exec (.histogramClose k) s = .next u ∧ u.cmd = s.cmd ∧ (u.hw.tile (k / 16)).closed = ((s.hw.tile (k / 16)).closed + 1) % 2 ^ 32 ∧
        ((u.hw.tile (k / 16)).chan (k % 16)).buf i =
          { h with state := .queued, closeTime := BitVec.ofNat 64 (ceilDiv h.closeDue 80), dead := s.hw.spd.dead.contains k }) ∧
      (∀ n p i, s.hw.settled n → (s.hw.tile n).peak = none → oldestQueued (s.hw.tile n) = some (p, i) → ∃ u,
        exec (.peakFindStart n) s = .next u ∧ u.cmd = s.cmd ∧ (u.hw.tile n).peak = some (p, i) ∧
        (u.hw.tile n).peakEnd = s.hw.ticks + 1500 ∧ (((u.hw.tile n).chan p).buf i).state = .peak) ∧
      (∀ n p i e, s.hw.settled n → (s.hw.tile n).peak = some (p, i) → (s.hw.tile n).peakEnd ≤ s.hw.ticks → ∃ u,
        exec (.peakFindDone n e) s = .next u ∧ (u.hw.tile n).peak = none ∧ ((u.hw.tile n).chan p).view = some i ∧
        (((u.hw.tile n).chan p).buf i).state = .done ∧
        (((u.hw.tile n).chan p).buf i).parity = ((((s.hw.tile n).chan p).buf i).parity || e) ∧
        (e = true → s.hw.evt.table.length < 1024 → u.hw.isRaised (fid (srcTile n) 1 12) = true)) ∧
      (∀ n e, s.hw.settled n → (s.hw.tile n).peak = none → exec (.peakFindDone n e) s = .next s)) ∧
    (∀ n (v : Word), n < 48 → s.hw.dev.mode ≠ .guard →
      (bits v.toNat 8 6 ≠ 0 → s.hw.dev.mode ≠ .service →
        exec (.tileCtlWrite n v) s = .next { s with hw := { s.hw with ack := 0x03, ackData := le 1 s.hw.dev.mode.code } }) ∧
      (bits v.toNat 8 6 = 0 ∨ s.hw.dev.mode = .service → tb v.toNat 0 = false →
        exec (.tileCtlWrite n v) s = .next { s with hw := s.hw.plainWrite (tileReg n 0) v.toNat })) ∧
    (∀ n, n < 48 → bits (s.hw.reg (tileReg n 0)) 8 6 = 0 → (s.hw.tile n).retired = false → (s.hw.tile n).retireDue = 0 →
      (s.hw.dev.mode ∈ [.scan, .service] → ∃ u, exec (.tileRetire n) s = .next u ∧ u.cmd = s.cmd ∧
        u.hw.tile n = { s.hw.tile n with retireDue := 3 }) ∧
      (s.hw.dev.mode = .config → s.hw.evt.table.length < 1024 → ∃ u, exec (.tileRetire n) s = .next u ∧
        u.hw.tile n = { s.hw.tile n with retired := true, cause := 3 } ∧ u.hw.isRaised (fid (srcTile n) 2 13) = true)) ∧
    (∀ n, n < 48 → bits (s.hw.reg (tileReg n 0x18)) 0 6 < tileTabWords (bits (s.hw.reg (tileReg n 0x18)) 16 2) →
      let next := putBits (s.hw.reg (tileReg n 0x18)) 0 6 (bits (s.hw.reg (tileReg n 0x18)) 0 6 + 1)
      exec (.tileTabDataRead n) s = .next { s with hw := s.hw.setReg (tileReg n 0x18) next }) ∧
    (s.hw.dev.mode ≠ .guard → ∃ u, exec .detTabCommit s = .next u ∧ u.cmd = s.cmd ∧ u.hw.det = { s.hw.det with pending := true } ∧ u.hw.ack = 0) ∧
    (s.hw.dev.mode = .guard → exec .detTabCommit s = .next { s with hw := { s.hw with ack := 0x0A, ackData := le 4 0x00500000 } } ∧
      ∀ n, n < 48 → (exec (.tileRetire n) s = .next { s with hw := { s.hw with ack := 0x0A, ackData := le 4 (tileReg n 0) } } ∧
        ∀ v, exec (.tileCtlWrite n v) s = .next { s with hw := { s.hw with ack := 0x0A, ackData := le 4 (tileReg n 0) } }))

/-- Fires pass the gate and start stops; conversions enter histograms; a shot edge pairs with its descriptor; DET judges the oldest DONE buffer
(R122, R123, R124, R125, R126, R140, R142, R143, R144, R154, R173, R363). -/
def Obligations.ShotEdgesPairAndHistogramsAreJudged : Prop :=
  ∀ s : State, s.hw.outbox = [] → s.hw.awake 15 = true →
    (∀ k pre cell at' after t, s.hw.trackOf k = some t → s.hw.armed t cell = true →
      let a := mget {} s.hw.spd.ambient k
      let g := mget {} s.hw.spd.gates k
      let r := g.fire t.k t.span cell at' 0
      let passes : Bool := r.2 && decide (t.k ≤ s.hw.nLive t)
      let c := (s.hw.tile (k / 16)).chan (k % 16)
      (s.hw.ticks < s.hw.spd.blankEnd → exec (.gateEvent k pre cell ⟨at', after⟩) s = .next { s with hw := s.hw.countFire k false }) ∧
      (s.hw.spd.blankEnd ≤ s.hw.ticks → g.openAt t.span at' = false → ∃ u, exec (.gateEvent k pre cell ⟨at', after⟩) s = .next u ∧ u.cmd = s.cmd ∧
        mget {} u.hw.spd.gates k = r.1 ∧ (mget {} u.hw.spd.ambient k).raw = min 0xFFFFFFFF (a.raw + 1) ∧
        (mget {} u.hw.spd.ambient k).pass = min 0xFFFFFFFF (a.pass + b2n passes) ∧
        (passes = false ∨ s.hw.onInjector k = true → u.hw.tiles = s.hw.tiles) ∧
        (passes = true → s.hw.onInjector k = false → s.hw.settled (k / 16) → c.retired = false → refuse c pre = none →
          (u.hw.tile (k / 16)).chan (k % 16) = startStop c pre (r.1.count (after.filter (fun x => s.hw.armed t x)))))) ∧
    (∀ k pre cell at' after, (∀ t, s.hw.trackOf k = some t → s.hw.armed t cell = false) →
      exec (.gateEvent k pre cell ⟨at', after⟩) s = .next s) ∧
    (∀ k v e m, s.hw.settled (k / 16) →
      let t := s.hw.tile (k / 16)
      let c := t.chan (k % 16)
      let freed := { c with busy := mset none c.busy v none, marked := c.marked.filter (fun x => decide (x ≠ v)) }
      (mget none c.busy v = none → exec (.vernierConversion k v e m) s = .next s) ∧
      (∀ pre n last, mget none c.busy v = some (pre, n, last) →
        (∀ x, m = some x → 1 ≤ x → x ≤ 82 → v ∉ c.marked →
          let stamp := stampOf 602 e x (s.hw.gainOf (k / 16) (k % 16) v)
          let fires := t.fires.filter (fun f => decide ((s.hw.trackAt k f.epoch).map (·.bank) = some f.bank))
          let depth := (fires.find? (fun f => decide (f.time < stamp))).elim 1 (fun f => ((s.hw.trackAt k f.epoch).map (·.depth)).getD 1)
          let min := max 1 (bits (s.hw.reg (tileReg (k / 16) 0)) 16 8)
          let entered := enterStop min s.hw.fineNow depth (skewInt (s.hw.reg (chanReg k 0))) fires stamp n last freed
          exec (.vernierConversion k v e m) s = .next { s with hw := s.hw.setTile (k / 16) (t.setChan (k % 16) entered) }) ∧
        (∀ x, m = some x → 1 ≤ x → x ≤ 82 → v ∈ c.marked → ∃ u, exec (.vernierConversion k v e m) s = .next u ∧ u.cmd = s.cmd ∧
          (u.hw.tile (k / 16)).chan (k % 16) = freed ∧ mget 0 u.hw.cal.events (4 * k + v) = mget 0 s.hw.cal.events (4 * k + v) + 1) ∧
        (∀ f, m = none ∨ m = some 0 ∨ (∃ x, m = some x ∧ 82 < x) → f = mget 0 c.vernFail v + 1 → f ≤ 16 → ∃ u,
          exec (.vernierConversion k v e m) s = .next u ∧ u.cmd = s.cmd ∧
          (u.hw.tile (k / 16)).chan (k % 16) = { freed with vernFail := mset 0 c.vernFail v f }))) ∧
    (∀ n v e c d r, s.hw.descs.drop (s.hw.tile n).taken = d :: r → d.missing = none → (∀ x, r.head? = some x → x.missing = none) →
      let stamp := stampOf 601 e c (s.hw.fireGain n v)
      let off : Int := (stamp / 80 : Nat) - ((d.fireAt : Int) + ((s.hw.clk.time.toNat : Int) - s.hw.ticks) + Config.treeDelay n)
      ((-2 : Int) ≤ off → off ≤ 2 → ∃ u, exec (.shotEdgeArrival n v e c) s = .next u ∧ (u.hw.tile n).taken = (s.hw.tile n).taken + 1 ∧
        (u.hw.tile n).fires =
          (d.shots.map (fun x => ({ bank := x.bank, time := stamp, num := x.num, epoch := x.epoch } : Fire)) ++ (s.hw.tile n).fires).take 40) ∧
      (off < -2 ∨ 2 < off → s.hw.tnd.active = none → s.hw.evt.table.length < 1024 → ∃ u, exec (.shotEdgeArrival n v e c) s = .next u ∧
        (u.hw.tile n).fires = (s.hw.tile n).fires ∧ u.hw.isRaised (fid (srcTile n) 3 11) = true)) ∧
    (∀ n v e c, s.hw.descs.drop (s.hw.tile n).taken = [] → exec (.shotEdgeArrival n v e c) s = .next s) ∧
    (∀ b n p i e, b < 4 → s.hw.oldestDone b = some (n, p, i) → ∃ u, exec (.detDone b e) s = .next u ∧
      let h := ((s.hw.tile n).chan p).buf i
      ((u.hw.tile n).chan p).buf i =
        { h with state := .idle, judged := true, returns := if e = true then [] else passing (s.hw.detEnv (16 * n + p) h) h } ∧
      ∀ n' p' i', (n', p', i') ≠ (n, p, i) → ((u.hw.tile n').chan p').buf i' = ((s.hw.tile n').chan p').buf i') ∧
    (∀ b e, s.hw.oldestDone b = none → exec (.detDone b e) s = .next s)

/-- NOP, HEARTBEAT, IDENT_GET, STATUS_GET, TIME_GET, SESSION_OPEN and SESSION_CLOSE do what their rows say (R32, R33, R34, R39, R73, R136, R412,
R458). -/
def Obligations.SessionCommandsAreServed : Prop :=
  ∀ (s : State) (h : Hdr),
    (∀ x, (s.Takes (.nop h) h x → s.Served (.nop h) h x s.accepted (ansOk [])) ∧
      (s.Takes (.heartbeat h) h x → s.Served (.heartbeat h) h x s.accepted (ansOk [])) ∧
      (s.Takes (.identGet h) h x → s.Served (.identGet h) h x s.accepted (ansOk (le 4 s.hw.identWord ++ le 4 s.hw.fwRunning ++
        le 4 (Config.features (s.hw.dev.codeRead.getD 0xF)) ++ le 1 s.hw.devices))) ∧
      (s.Takes (.statusGet h) h x → s.Served (.statusGet h) h x s.accepted (ansOk (le 1 s.hw.dev.mode.code ++ le 1 s.hw.wch.active ++
        le 1 s.hw.wch.epoch ++ le 4 s.hw.faultSummary ++ le 8 s.hw.clk.time.toNat))) ∧
      (s.Takes (.timeGet h) h x → s.Served (.timeGet h) h x s.accepted
        (ansOk (le 8 s.hw.clk.time.toNat ++ le 1 (if s.hw.clk.locked then 1 else 0))))) ∧
    (s.cmd.session h.tr = none → s.hw.hears h.tr = true → s.HeaderGood h false → s.hw.outbox = [] →
      exec (.nop h) s = .next (s.reply h 0x00 (ansOk [])) ∧
      exec (.identGet h) s = .next (s.reply h 0x03 (ansOk s.hw.identBytes)) ∧
      exec (.statusGet h) s = .next (s.reply h 0x04 (ansOk (le 1 s.hw.dev.mode.code ++ le 1 s.hw.wch.active ++ le 1 s.hw.wch.epoch ++
        le 4 s.hw.faultSummary ++ le 8 s.hw.clk.time.toNat)))) ∧
    (∀ (r : U8) (ms : U16), s.cmd.session h.tr = none → s.hw.hears h.tr = true → s.HeaderGood h false → s.hw.outbox = [] →
      s.hw.dev.mode ≠ .dormant → s.hw.wch.lost = false → ms = 0 ∨ (100 ≤ ms.toNat ∧ ms.toNat ≤ 60000) →
      (r = 1 ∨ ((r = 2 ∨ (r = 3 ∧ s.hw.serviceOpen = true)) ∧ s.hw.adminPort h.tr = true ∧ s.hw.adminOpenOk = true ∧
          s.cmd.adminTaken h.tr = false) →
        ∃ name < 256, ∃ y : Session, y.role = r.toNat ∧ y.heartbeat = (if ms = 0 then 10000 else ms.toNat) ∧ y.lastSeq = h.seq.toNat ∧
          y.lastSeen = s.hw.ticks ∧ y.wait = none ∧ y.held = [] ∧
          exec (.sessionOpen h r ms) s = .next (({ s with
            hw := { s.hw with free := s.hw.free + 1 }
            cmd := ({ s.cmd with sessNext := s.cmd.sessNext + 1 } : CmdSt).setSession h.tr (some y) } : State).reply h 0x01
              (ansOk (le 1 name ++ le 1 r.toNat ++ le 1 8)))) ∧
      (r = 2 → s.hw.adminPort h.tr = false ∨ s.hw.adminOpenOk = false →
        exec (.sessionOpen h r ms) s = .next (s.reply h 0x01 { status := 0x04 })) ∧
      (r = 2 → s.hw.adminPort h.tr = true → s.hw.adminOpenOk = true → s.cmd.adminTaken h.tr = true →
        exec (.sessionOpen h r ms) s = .next (s.reply h 0x01 { status := 0x02 }))) ∧
    (∀ x, s.Takes (.sessionClose h) h x → ∃ t, exec (.sessionClose h) s = .next t ∧ t.cmd.session h.tr = none ∧ t.pending = s.pending ∧
      (s.hw.dev.mode ≠ .service → x.number ≠ 0 → t.hw.regs = s.hw.regs ∧ t.hw.dev = s.hw.dev ∧
        t.cmd.out h.tr = (s.cmd.out h.tr).filter (fun p => p.reply) ++ [s.hw.replyTo 0x02 h (ansOk [])]))

/-- RESET_SOFT, MODE_GET, MODE_SET, GUARD_ARM, GUARD_ENTER, SLEEP, MODE_SET_AT, MODE_HISTORY, CASCADE_STATUS do what their rows say (R55, R57,
R58, R60, R62, R63, R70, R275, R391). -/
def Obligations.ModeCommandsAreServed : Prop :=
  ∀ (s : State) (h : Hdr) (x : Session),
    (s.Takes (.resetSoft h 0) h x → exec (.resetSoft h 0) s = .next ((resetTo (s.took h x) (islandAfter s 2) (strapsAfter s)
      { step := 1, startCause := 2 } s.hw.free).reply h 0x06 (ansOk []))) ∧
    (s.Takes (.resetSoft h 1) h x → exec (.resetSoft h 1) s = .next ((resetTo (s.took h x) (islandAfter s 2) (strapsAfter s)
      { mode := .dormant, step := 0, startCause := 2, wakeMask := 1, faultLow := true } s.hw.free).reply h 0x06 (ansOk []))) ∧
    (s.Takes (.modeGet h) h x → s.Served (.modeGet h) h x s.accepted
      (ansOk (le 1 s.hw.dev.mode.code ++ le 1 (match s.hw.dev.target with | some m => m.code | none => 0xFF)))) ∧
    (s.Takes (.modeHistory h) h x → s.hw.dev.history.length ≤ 16 → ∃ bytes : List Byte, bytes.length = 192 ∧
      bytes.take (12 * s.hw.dev.history.length) =
        s.hw.dev.history.flatMap (fun e => le 8 e.time.toNat ++ le 1 e.src.code ++ le 1 e.dst.code ++ le 2 e.cause) ∧
      s.Served (.modeHistory h) h x s.accepted (ansOk bytes)) ∧
    (∀ g : U8, s.Takes (.modeSet h g) h x → g.toNat = s.hw.dev.mode.code → s.Served (.modeSet h g) h x s.accepted (ansOk [])) ∧
    (∀ (g : U8) (m : Mode), s.Takes (.modeSet h g) h x → m ∈ [Mode.config, .scan, .service] → g.toNat = m.code → m ≠ s.hw.dev.mode →
      s.cmd.liveOps < 4 → (∀ o ∈ s.cmd.ops, o.owner.isSome = true) → s.Begins (.modeSet h g) h x
        { s.accepted with free := s.hw.free + 2, dev := { s.hw.dev with target := some m, sched := none } }
        { stepOp 0x21 [] [m.code] with holdAll := true }) ∧
    (∀ (a : U8) (crc : U32), s.Takes (.guardArm h a crc) h x → a.toNat < 8 → s.hw.sec.scopeD = none →
      (∀ code, s.hw.preGuard (decide (crc.toNat = s.hw.guardCrc)) true = some code →
        s.Served (.guardArm h a crc) h x s.accepted (ansPre code)) ∧
      (∀ code, s.hw.preGuard (decide (crc.toNat = s.hw.guardCrc)) true = none → s.hw.preArm a.toNat = some code →
        s.Served (.guardArm h a crc) h x s.accepted (ansPre code)) ∧
      (s.hw.preGuard (decide (crc.toNat = s.hw.guardCrc)) true = none → s.hw.preArm a.toNat = none → ∃ token < 2 ^ 32,
        s.Served (.guardArm h a crc) h x { s.accepted with
          free := s.hw.free + 1, kpr := { s.hw.kpr with arm := some (token, a.toNat, s.hw.ticks) } } (ansOk (le 4 token)))) ∧
    (∀ token crc : U32, s.Takes (.guardEnter h token crc) h x →
      (∀ code, s.hw.preGuard (decide (crc.toNat = s.hw.guardCrc)) (s.hw.tokenOk token.toNat) = some code →
        s.Served (.guardEnter h token crc) h x s.accepted (ansPre code)) ∧
      (s.hw.preGuard (decide (crc.toNat = s.hw.guardCrc)) (s.hw.tokenOk token.toNat) = none →
        exec (.guardEnter h token crc) s = .next (((s.took h x).hwStep (fun hw => hw.enterGuard)).reply h 0x23 (ansOk [])))) ∧
    (∀ m : U8, s.Takes (.sleep h m) h x → 1 ≤ m.toNat → m.toNat ≤ 3 → ∃ t, exec (.sleep h m) s = .next t ∧ t.hw.dev.mode = .dormant ∧
      t.hw.dev.wakeMask = m.toNat ∧ t.hw.dev.hvEnable = false ∧ t.cmd.session h.tr = none ∧ t.cmd.ops = []) ∧
    (∀ (g : U8) (time : U64) (m : Mode), s.Takes (.modeSetAt h g time) h x → g.toNat = m.code →
      (s.hw.dev.mode = .config ∧ m = .scan ∧ s.hw.preScan = none) ∨ (s.hw.dev.mode = .scan ∧ m = .config) →
      s.hw.clk.time.toNat + 800000 ≤ time.toNat → time.toNat ≤ s.hw.clk.time.toNat + 48000000000 →
      s.Served (.modeSetAt h g time) h x { s.accepted with dev := { s.hw.dev with sched := some (m, time) } } (ansOk [])) ∧
    (s.Takes (.cascadeStatus h) h x → ∃ (bytes : List Byte) (n : Nat), bytes.length = 32 ∧
      s.Served (.cascadeStatus h) h x { s.accepted with free := n } (ansOk bytes) ∧
      (s.hw.isSecondary = false → s.hw.cas.index = 0 → bytes.take 2 = le 1 1 ++ le 1 s.hw.dev.mode.code ∧ bytes[3]? = (le 1 s.hw.faultSummary)[0]? ∧
        ∀ i, s.hw.serves i = true → 1 ≤ i → i ≤ 3 → (bytes.drop (8 * i)).take 3 = le 1 1 ++ le 1 s.hw.dev.mode.code ++
            le 1 (if (s.hw.lane (3 + i)).state = .active then 1 else 0) ∧ ((bytes.drop (8 * i)).drop 4).take 4 = leInt 4 (s.hw.secd i).drift))

/-- REG_READ, REG_WRITE, REG_RMW, REG_POLL, REG_LIST_WRITE and BULK_READ read and write registers as their rows say (R9, R12, R31, R33, R36, R41,
R43, R45, R168, R445, R497). -/
def Obligations.RegisterCommandsAreServed : Prop :=
  ∀ (s : State) (h : Hdr) (x : Session),
    (∀ (b : U32) (n : U16), s.Takes (.regRead h b n) h x →
      (1 ≤ n.toNat → n.toNat ≤ (match h.tr with | .eth => 360 | _ => 1024) →
        (∀ i < n.toNat, badAddr (b.toNat + 4 * i) = false ∧ s.hw.readDenied h.role.toNat (b.toNat + 4 * i) = false) →
        let r := (s.took h x).readRegs (addrRun b.toNat n.toNat)
        exec (.regRead h b n) s = .next (r.1.drain.reply h 0x10 (ansOk r.2))) ∧
      (badAddr b.toNat = true → b.toNat / 0x10000 ≠ 0x98 → b.toNat / 0x10000 ≠ 0x90 → n = 1 →
        s.Served (.regRead h b n) h x s.accepted (ansBad 16))) ∧
    (∀ (b : U32) (vs : List U32), s.Takes (.regWrite h b vs) h x → vs ≠ [] →
      ((∀ i < vs.length, badAddr (b.toNat + 4 * i) = false ∧ s.accepted.locked (b.toNat + 4 * i) = false ∧
          s.cmd.held [srcOfAddr (b.toNat + 4 * i)] = false) →
        let r := (s.took h x).writeRegs (callerOf h (s.took h x).cmd) ((addrRun b.toNat vs.length).zip (vs.map (·.toNat))) 22
        (r.2.status = 0 → exec (.regWrite h b vs) s = .next (r.1.drain.reply h 0x11 r.2)) ∧
        (r.2.status ≠ 0 → 1 < vs.length → s.Served (.regWrite h b vs) h x s.accepted r.2)) ∧
      (badAddr b.toNat = true → vs.length = 1 → s.Served (.regWrite h b vs) h x s.accepted (ansBad 16))) ∧
    (∀ b m v : U32, s.Takes (.regRmw h b m v) h x → badAddr b.toNat = false → s.accepted.locked b.toNat = false →
        s.cmd.held [srcOfAddr b.toNat] = false →
      let old := (s.took h x).readReg b.toNat
      let new := ((BitVec.ofNat 32 old.2 &&& ~~~m) ||| (v &&& m)).toNat
      let r := old.1.writeReg (callerOf h (s.took h x).cmd) b.toNat new 24
      exec (.regRmw h b m v) s = .next (r.1.drain.reply h 0x12 (if r.2.status = 0 then ansOk (le 4 old.2 ++ le 4 new) else r.2))) ∧
    (∀ b m v us : U32, s.Takes (.regPoll h b m v us) h x → s.hw.readDenied h.role.toNat b.toNat = false → badAddr b.toNat = false →
      us.toNat ≤ 100000 → let r := (s.took h x).readReg b.toNat
      (r.2 &&& m.toNat = v.toNat → exec (.regPoll h b m v us) s = .next (r.1.drain.reply h 0x13 (ansOk (le 4 r.2)))) ∧
      (r.2 &&& m.toNat ≠ v.toNat → ∃ p, exec (.regPoll h b m v us) s =
        .next (r.1.drain.await h.tr (.poll b.toNat m.toNat v.toNat (s.hw.ticks + 800 * us.toNat)) p))) ∧
    (∀ l : List (U32 × U32), s.Takes (.regListWrite h l) h x → 1 ≤ l.length → l.length ≤ 255 →
      let r := (s.took h x).listWrite (callerOf h (s.took h x).cmd) l 0 18
      exec (.regListWrite h l) s = .next (r.1.drain.reply h 0x15 { status := r.2.2, data := le 2 r.2.1 }) ∧
      (∀ b v q, l = (b, v) :: q → badAddr b.toNat = true → s.Served (.regListWrite h l) h x s.accepted { status := 0x05, data := le 2 0 })) ∧
    (∀ b n : U32, s.Takes (.bulkRead h b n) h x → 0x10000000 ≤ b.toNat → b.toNat + n.toNat ≤ 0x14000000 → b.toNat < 0x14000000 → b.toNat % 4 = 0 →
      n.toNat % 4 = 0 → n.toNat ≤ 4194304 → s.cmd.held (windowTiles (b.toNat - 0x10000000) n.toNat) = false →
      s.Begins (.bulkRead h b n) h x { s.accepted with free := s.hw.free + 2 }
        (stepOp 0x14 (windowTiles (b.toNat - 0x10000000) n.toNat) [b.toNat, n.toNat])) ∧
    (∀ (a : U32) (d : RegDesc), a.toNat % 4 = 0 → a.toNat / 0x10000 = 0x58 → regDesc a.toNat = some d → d.rc = 0 →
      let put := fun (v : Nat) => wordOf ((clampWrite a.toNat v &&& (d.rw ||| d.rwl)) |||
        (s.hw.reg a.toNat &&& (0xFFFFFFFF ^^^ (d.rw ||| d.rwl)) &&& (0xFFFFFFFF ^^^ (v &&& d.w1c))))
      let stored := fun (v : Nat) => ({ s.accepted with
        ack := 0, ackData := [], regs := mset (wordOf (regReset a.toNat)) s.hw.regs a.toNat (put v) } : Hw)
      let free := s.hw.dev.mode ≠ .guard ∧ s.cmd.held [srcTnd] = false
      (s.Takes (.regRead h a 1) h x → s.Served (.regRead h a 1) h x s.accepted (ansOk (le 4 (s.accepted.peek a.toNat)))) ∧
      (∀ v : U32, s.Takes (.regWrite h a [v]) h x →
        (free → s.Served (.regWrite h a [v]) h x (stored v.toNat) (ansOk [])) ∧
        (s.hw.dev.mode = .guard → d.rwl ≠ 0 → s.Served (.regWrite h a [v]) h x s.accepted { status := 0x0A, data := le 4 a.toNat }) ∧
        (s.hw.dev.mode ≠ .guard → s.cmd.held [srcTnd] = true → s.Served (.regWrite h a [v]) h x s.accepted { status := 0x02 })) ∧
      (∀ m v : U32, s.Takes (.regRmw h a m v) h x → free →
        let new := ((BitVec.ofNat 32 (s.accepted.peek a.toNat) &&& ~~~m) ||| (v &&& m)).toNat
        s.Served (.regRmw h a m v) h x (stored new) (ansOk (le 4 (s.accepted.peek a.toNat) ++ le 4 new))) ∧
      (∀ m v us : U32, s.Takes (.regPoll h a m v us) h x → us.toNat ≤ 100000 → s.accepted.peek a.toNat &&& m.toNat = v.toNat →
        s.Served (.regPoll h a m v us) h x s.accepted (ansOk (le 4 (s.accepted.peek a.toNat)))) ∧
      (∀ v : U32, s.Takes (.regListWrite h [(a, v)]) h x → free →
        s.Served (.regListWrite h [(a, v)]) h x (stored v.toNat) (ansOk (le 2 1))))

/-- STEP_QUERY, STEP_LIST, STEP_ABORT and STEP_FETCH act on the operation their token names; a step makes progress and ends (R44, R46, R47, R48,
02 Stepped operations). -/
def Obligations.StepControlIsServed : Prop :=
  ∀ (s : State) (h : Hdr) (x : Session) (k : U32),
    (s.cmd.known k.toNat = none →
      (s.Takes (.stepQuery h k) h x → s.Served (.stepQuery h k) h x s.accepted (ansBad 16)) ∧
      (s.Takes (.stepAbort h k) h x → s.Served (.stepAbort h k) h x s.accepted (ansBad 16)) ∧
      (∀ o, s.Takes (.stepFetch h k o) h x → s.Served (.stepFetch h k o) h x s.accepted (ansBad 16))) ∧
    (s.Takes (.stepList h) h x → let l := (s.cmd.ops.filter (fun o => o.doneAt.isNone)).map (·.token)
      s.Served (.stepList h) h x s.accepted (ansOk (le 1 l.length ++ l.flatMap (le 4)))) ∧
    (∀ o : StepOp, s.cmd.op k.toNat = some o → o.released = false →
      (s.Takes (.stepQuery h k) h x →
        s.Served (.stepQuery h k) h x s.accepted (ansOk (le 1 o.opcode ++ le 2 o.step ++ le 2 o.steps ++ le 1 o.state))) ∧
      (s.Takes (.stepAbort h k) h x → o.doneAt = none → o.owner ≠ some (h.tr, x.number) →
        s.Served (.stepAbort h k) h x s.accepted { status := 0x04 }) ∧
      (s.Takes (.stepAbort h k) h x → o.doneAt = none → o.owner = some (h.tr, x.number) → o.state ≠ 0 → o.ending = none → ∃ t,
        exec (.stepAbort h k) s = .next t ∧ t.hw = s.accepted ∧ t.cmd.op k.toNat = some { o with state := 2, ending := some (0x02, []) }) ∧
      (∀ off : U32, s.Takes (.stepFetch h k off) h x → o.owner = some (h.tr, x.number) → o.doneAt ≠ none → off.toNat ≤ o.result.length →
        let part := (o.result.drop off.toNat).take (match h.tr with | .eth => 1440 | _ => 4096)
        ∃ t, exec (.stepFetch h k off) s = .next t ∧ t.hw = s.accepted ∧
          t.cmd.out h.tr = s.cmd.out h.tr ++ [s.hw.replyTo 0xC3 h (ansOk part)] ∧
          t.cmd.op k.toNat = some { o with released := decide (o.result.length ≤ off.toNat + part.length) }) ∧
      (∀ obs, o.doneAt = none → o.state ≠ 0 → o.ending = none → s.hw.wch.swapStep = false → obs.final = false → o.opcode ∉ [0x56, 0x60, 0x84] →
        exec (.steppedOpStep k obs) s =
          .next (s.counted k.toNat)) ∧
      (∀ obs, o.doneAt = none → o.state ≠ 0 → o.ending = none → obs.final = true → o.opcode ∉ [0x56, 0x60, 0x84] →
        exec (.steppedOpStep k obs) s =
          .next ((s.counted k.toNat).finalStep o obs).swapAfterStep) ∧
      (∀ obs st r, s.hw.wch.swapStep = false → o.doneAt = none → o.state ≠ 0 → o.ending = some (st, r) → o.opcode ∈ [0x14, 0x34, 0x46] →
          o.owner = some (h.tr, x.number) →
        s.cmd.session h.tr = some x → tb (s.hw.reg 0x00910000) 8 = false → ∃ t, exec (.steppedOpStep k obs) s = .next t ∧ t.hw = s.hw ∧
        t.cmd.op k.toNat = some { o with state := 3, status := st, result := r, doneAt := some s.hw.ticks, released := false, ending := none } ∧
        t.cmd.out h.tr = s.cmd.out h.tr ++
          [{ opcode := 0xE3, source := 0x10 + s.hw.cas.index, seq := x.eventSeq, reply := false, urgent := true, peer := x.peer
             payload := le 4 k.toNat ++ le 1 st ++ le 4 r.length ++ (if r.length ≤ 48 then pad4 r else []) }]) ∧
      (∀ obs, o.doneAt = none → o.state ≠ 0 → o.ending = none → s.hw.wch.swapStep = false → obs.final = true → o.opcode = 0x34 →
          o.owner.isSome = true →
        ∃ t, exec (.steppedOpStep k obs) s = .next t ∧ ∃ p, t.cmd.op k.toNat = some p ∧ p.status = 0 ∧ p.result = o.bytes ∧
          p.doneAt = some s.hw.ticks ∧ t.hw.regs = s.hw.regs ∧ t.hw.tnd = s.hw.tnd))

/-- The eight plan and placement commands do what their rows say (R47, R192, R201, R203, R206, R207, R209, R212). -/
def Obligations.PlanCommandsAreServed : Prop :=
  ∀ (s : State) (h : Hdr) (x : Session),
    (∀ (total : U32) (slot : U8) (data : List Byte), s.Takes (.planLoad h ⟨0, 0, total⟩ slot data) h x → data.length ≤ total.toNat → slot.toNat ≤ 3 →
      s.cmd.held [srcTnd] = false → s.cmd.liveOps < 4 → s.Begins (.planLoad h ⟨0, 0, total⟩ slot data) h x { s.accepted with free := s.hw.free + 2 }
        { stepOp 0x30 [srcTnd] [slot.toNat] with
          state := if data.length = total.toNat then 1 else 0, bytes := data, total := total.toNat }) ∧
    (∀ (ck : Chunk) (slot : U8) (data : List Byte) (o : StepOp), s.Takes (.planLoad h ck slot data) h x → ck.token ≠ 0 →
      s.cmd.op ck.token.toNat = some o → o.doneAt = none → o.state = 0 → o.opcode = 0x30 → o.owner = some (h.tr, x.number) →
      o.params = [slot.toNat] → ck.total.toNat = o.total → ck.offset.toNat = o.bytes.length → o.bytes.length + data.length ≤ o.total → ∃ t,
      exec (.planLoad h ck slot data) s = .next t ∧ t.hw = s.accepted ∧ t.cmd.op ck.token.toNat = some { o with
        bytes := o.bytes ++ data, chunkAt := s.hw.ticks, state := if o.bytes.length + data.length = o.total then 1 else 0 }) ∧
    (∀ (ck : Chunk) (slot : U8) (data : List Byte), s.Takes (.planLoad h ck slot data) h x → ck.token ≠ 0 → s.cmd.op ck.token.toNat = none →
      s.Served (.planLoad h ck slot data) h x s.accepted (ansBad 16)) ∧
    (∀ slot : U8, 3 < slot.toNat →
      (s.Takes (.planActivate h slot) h x → s.Served (.planActivate h slot) h x s.accepted (ansBad 16)) ∧
      (s.Takes (.planCheck h slot) h x → s.Served (.planCheck h slot) h x s.accepted (ansBad 16)) ∧
      (∀ o, s.Takes (.planGet h slot o) h x → s.Served (.planGet h slot o) h x s.accepted (ansBad 16))) ∧
    (∀ slot : U8, slot.toNat ≤ 3 → let plan := mget [] s.hw.tnd.slots slot.toNat
      (s.Takes (.planActivate h slot) h x → (s.hw.planVerdict plan).1 = 0 → s.Served (.planActivate h slot) h x { s.accepted with
        tnd := { s.hw.tnd with nextPlan := some (planInForce plan), nextSlot := slot.toNat, faultFrozen := false } }
        (ansOk (le 1 (s.hw.planEpoch (planInForce plan) slot.toNat)))) ∧
      (s.Takes (.planActivate h slot) h x → (s.hw.planVerdict plan).1 ≠ 0 →
        s.Served (.planActivate h slot) h x s.accepted (ansPre (0x0100 + (s.hw.planVerdict plan).1))) ∧
      (s.Takes (.planCheck h slot) h x →
          s.Served (.planCheck h slot) h x (if planSized plan then s.accepted else { s.accepted with free := s.hw.free + 1 })
        (ansOk (le 1 (s.hw.planVerdict plan).1 ++ le 4 (s.hw.planVerdict plan).2.1 ++ le 4 (s.hw.planVerdict plan).2.2))) ∧
      (∀ o : U32, s.Takes (.planGet h slot o) h x → o.toNat ≤ plan.length → s.Served (.planGet h slot o) h x s.accepted
        (ansOk ((plan.drop o.toNat).take (match h.tr with | .eth => 1440 | _ => 4096))))) ∧
    (s.Takes (.adaptFreeze h 1) h x →
      s.Served (.adaptFreeze h 1) h x { s.accepted with tnd := { s.hw.tnd with frozen := true } } (ansOk (le 1 s.hw.tnd.inForce))) ∧
    (s.Takes (.adaptFreeze h 0) h x → s.Served (.adaptFreeze h 0) h x
      { s.accepted with tnd := { s.hw.tnd with frozen := false, faultFrozen := false } } (ansOk (le 1 s.hw.tnd.inForce))) ∧
    (∀ e : U8, s.Takes (.placementRead h e) h x → s.cmd.held [srcTnd] = false →
      (∀ p, s.hw.tnd.history.find? (fun p => decide (p.epoch = e.toNat)) = some p → s.Begins (.placementRead h e) h x
        { s.accepted with free := s.hw.free + 2 } { stepOp 0x34 [srcTnd] [e.toNat] with bytes := placementBytes p }) ∧
      (s.hw.tnd.history.find? (fun p => decide (p.epoch = e.toNat)) = none → s.Served (.placementRead h e) h x s.accepted (ansBad 16))) ∧
    (∀ (r : U8) (f p : List Byte), s.Takes (.roiSet h r f) h x → r.toNat ≤ 15 → s.hw.tnd.nextPlan = some p →
      (roiChecks f 0).find? (fun e => !e.2) = none → s.Served (.roiSet h r f) h x { s.accepted with tnd := { s.hw.tnd with
        nextPlan := some (p.take (64 + 16 * r.toNat) ++ bytesAt f 0 16 ++ p.drop (80 + 16 * r.toNat)) } } (ansOk [])) ∧
    (∀ (r : U32) (p : List Byte), s.Takes (.frameRateSet h r) h x → s.hw.tnd.nextPlan = some p →
      (1000 ≤ r.toNat ∧ r.toNat ≤ 100000 → s.Served (.frameRateSet h r) h x
        { s.accepted with tnd := { s.hw.tnd with nextPlan := some (p.take 16 ++ le 4 r.toNat ++ p.drop 20) } } (ansOk [])) ∧
      (r.toNat < 1000 ∨ 100000 < r.toNat → s.Served (.frameRateSet h r) h x s.accepted (ansBad 16)))

/-- The eight emission and Lantern commands do what their rows say (R86, R92, R93, R95, R97, R104, R108). -/
def Obligations.EmissionCommandsAreServed : Prop :=
  ∀ (s : State) (h : Hdr) (x : Session),
    (∀ (p : U8) (l : List U64), s.Takes (.patternLoad h p l) h x → p.toNat ≤ 7 → 1 ≤ l.length → l.length ≤ 256 →
      (badStep l = none → s.Served (.patternLoad h p l) h x
        { s.accepted with bcn := { s.hw.bcn with programs := mset [] s.hw.bcn.programs p.toNat l } }
        (ansOk (le 4 (crc32c (l.flatMap (fun w => le 8 w.toNat)))))) ∧
      (∀ i, badStep l = some i → s.Served (.patternLoad h p l) h x s.accepted (ansBad (19 + 8 * i)))) ∧
    (∀ (p : U8) (n : U16), s.Takes (.patternRun h p n) h x → p.toNat ≤ 7 → mget [] s.hw.bcn.programs p.toNat ≠ [] →
      s.Served (.patternRun h p n) h x { s.accepted with
        bcn := { s.hw.bcn with pattern := { s.hw.bcn.pattern with armed := some (p.toNat, n.toNat) } } } (ansOk [])) ∧
    (s.Takes (.patternStop h) h x → s.Served (.patternStop h) h x { s.accepted with bcn := { s.hw.bcn with
      pattern := { s.hw.bcn.pattern with armed := none, stopDue := s.hw.bcn.pattern.running.isSome } } } (ansOk [])) ∧
    (∀ b : U8, s.Takes (.emitterStatus h b) h x →
      (b.toNat ≤ 3 → s.Served (.emitterStatus h b) h x s.accepted (ansOk (s.hw.emitterBytes b.toNat))) ∧
      (3 < b.toNat → s.Served (.emitterStatus h b) h x s.accepted (ansBad 16))) ∧
    (s.Takes (.pinTest h) h x → s.Begins (.pinTest h) h x { s.accepted with free := s.hw.free + 2 } (stepOp 0x44 [srcBcn] [])) ∧
    (∀ (b w : U8) (v : U32), s.Takes (.lanternLimit h b w v) h x → b.toNat ≤ 3 → w.toNat ≤ 2 →
      (v.toNat ≤ s.hw.lnt.cap b.toNat w.toNat → ∃ t, exec (.lanternLimit h b w v) s = .next t ∧ t.hw.lnt.limit b.toNat w.toNat = v.toNat ∧
        t.hw.lnt.cells = s.hw.lnt.cells) ∧
      (s.hw.lnt.cap b.toNat w.toNat < v.toNat → s.Served (.lanternLimit h b w v) h x s.accepted (ansBad 18))) ∧
    (∀ b w : U8, s.Takes (.lanternLedger h b w) h x → s.cmd.held [srcLnt] = false → b.toNat ≤ 3 → w.toNat ≤ 2 →
      s.Begins (.lanternLedger h b w) h x { s.accepted with free := s.hw.free + 2 } (stepOp 0x46 [srcLnt] [b.toNat, w.toNat])) ∧
    (∀ a : U8, s.Takes (.driverStatus h a) h x →
      (a.toNat ≤ 15 → s.Served (.driverStatus h a) h x s.accepted
        (ansOk (le 2 (s.hw.driver a.toNat).status ++ le 2 (s.hw.driver a.toNat).faults))) ∧
      (15 < a.toNat → s.Served (.driverStatus h a) h x s.accepted (ansBad 16)))

/-- AXIS_CONFIG, AXIS_COEF, AXIS_ENABLE, AXIS_STATUS, TIDE_SCAN, TIDE_READ, SIFTER_SET and SFD_READ do what their rows say (R286, R290, R292,
R296, R301, R309, R318, R329, R332, R334, R335). -/
def Obligations.SteeringCommandsAreServed : Prop :=
  ∀ (s : State) (h : Hdr) (x : Session),
    (∀ (a k : U8) (p : List Byte), s.Takes (.axisConfig h a k p) h x → a.toNat ≤ 3 → k.toNat ≤ 3 → s.hw.badAxisField a.toNat k.toNat p = none →
      ((s.hw.axis a.toNat).state = .off → let hw := s.accepted.configAxis a.toNat k.toNat p
        hw.axis a.toNat = { s.hw.axis a.toNat with kind := k.toNat, cfg := p.take 32 } ∧
        s.Served (.axisConfig h a k p) h x (if hw.budgetOk then hw else s.accepted) (if hw.budgetOk then ansOk [] else ansPre 0x0501)) ∧
      ((s.hw.axis a.toNat).state ≠ .off → s.Served (.axisConfig h a k p) h x s.accepted (ansPre 0x0503))) ∧
    (∀ (a l : U8) (c : List (List U32)), s.Takes (.axisCoef h a l c) h x → a.toNat ≤ 3 → l.toNat ≤ 1 → 1 ≤ c.length → c.length ≤ 8 →
      (s.hw.axis a.toNat).live = true → fitsTick (s.hw.tWorstOf (fun b => (s.hw.axis b).state) (fun b => if b = a.toNat then
        ((s.hw.axis a.toNat).loop (decide (l.toNat ≠ 1))).coefs.length + c.length else (s.hw.axis b).sections)) s.hw.period = true →
      let o := (s.hw.axis a.toNat).loop (decide (l.toNat = 1))
      s.Served (.axisCoef h a l c) h x (s.accepted.setAxis a.toNat ((s.hw.axis a.toNat).setLoop (decide (l.toNat = 1))
        { o with pending := some (c.map (fun r => r.map (fun v => v.toInt))), waited := 0, flagged := o.sat }))
        (ansOk (le 1 (if o.sat then 1 else 0)))) ∧
    (∀ (a l : U8) (c : List (List U32)), s.Takes (.axisCoef h a l c) h x → a.toNat ≤ 3 → l.toNat ≤ 1 → 1 ≤ c.length → c.length ≤ 8 →
      (s.hw.axis a.toNat).state = .off → ∃ t, exec (.axisCoef h a l c) s = .next t ∧
      ((t.hw.axis a.toNat).loop (decide (l.toNat = 1))).coefs = c.map (fun r => r.map (fun v => v.toInt)) ∧
      ((t.hw.axis a.toNat).loop (decide (l.toNat = 1))).hist = c.map (fun _ => (0, 0, 0, 0)) ∧ (t.hw.axis a.toNat).state = .off ∧
      (t.cmd.out h.tr).getLast? = some (s.hw.replyTo 0x51 h (ansOk (le 1 0)))) ∧
    (∀ a : U8, a.toNat ≤ 3 → (s.hw.axis a.toNat).kind = 0 → s.hw.dev.mode = .config →
      (∀ st : U8, st = 1 ∨ st = 2 → s.Takes (.axisEnable h a st) h x → s.Served (.axisEnable h a st) h x s.accepted (ansPre 0x0504)) ∧
      (s.Takes (.axisEnable h a 0) h x → s.Served (.axisEnable h a 0) h x s.accepted (ansOk []))) ∧
    (∀ a : U8, a.toNat ≤ 3 → (s.hw.axis a.toNat).kind ≠ 0 → s.hw.dev.mode = .config →
      ((s.hw.axis a.toNat).live = true → s.Takes (.axisEnable h a 1) h x → s.Served (.axisEnable h a 1) h x s.accepted (ansOk [])) ∧
      ((s.hw.axis a.toNat).state = .off → (s.hw.axis a.toNat).inner.coefs = [] → s.Takes (.axisEnable h a 1) h x →
        s.Served (.axisEnable h a 1) h x s.accepted (ansPre 0x0506)) ∧
      ((s.hw.axis a.toNat).state = .off → (s.hw.axis a.toNat).inner.coefs ≠ [] → (s.hw.axis a.toNat).outer.coefs ≠ [] →
        fitsTick (s.hw.tWorstOf (fun b => if b = a.toNat then .starting else (s.hw.axis b).state) (fun b => (s.hw.axis b).sections)) s.hw.period =
            true →
        s.Takes (.axisEnable h a 1) h x → ∃ t, exec (.axisEnable h a 1) s = .next t ∧ (t.hw.axis a.toNat).state = .starting ∧
        (t.hw.axis a.toNat).startAt = s.hw.ticks ∧ (t.cmd.out h.tr).getLast? = some (s.hw.replyTo 0x52 h (ansOk []))) ∧
      ((s.hw.axis a.toNat).live = true → s.Takes (.axisEnable h a 2) h x → ∃ t, exec (.axisEnable h a 2) s = .next t ∧
        (t.hw.axis a.toNat).state = .safe ∧ t.hw.preds = mset none s.hw.preds a.toNat none) ∧
      ((s.hw.axis a.toNat).state = .safe → s.Takes (.axisEnable h a 0) h x → ∃ t, exec (.axisEnable h a 0) s = .next t ∧
        (t.hw.axis a.toNat).state = .off)) ∧
    (∀ a : U8, s.Takes (.axisStatus h a) h x → a.toNat ≤ 3 → s.Served (.axisStatus h a) h x s.accepted (ansOk (leInt 4 (s.hw.axis a.toNat).theta ++
      leInt 4 (s.hw.axis a.toNat).outer.input ++ le 4 (s.hw.axis a.toNat).flags ++ le 1 (s.hw.axis a.toNat).missRun))) ∧
    (∀ (m : U32) (g : U64), s.Takes (.tideScan h m g) h x → (s.accepted.setScan m.toNat g.toNat).budgetOk = true → ∃ t,
      exec (.tideScan h m g) s = .next t ∧ t.hw.reg 0x00790008 = m.toNat ∧ t.hw.reg 0x0079000C = g.toNat % 2 ^ 32 ∧
      t.hw.reg 0x00790010 = g.toNat / 2 ^ 32 ∧ t.hw.pds = s.hw.pds ∧ t.hw.dev = s.hw.dev) ∧
    (∀ (m : U32) (g : U64), s.Takes (.tideScan h m g) h x → (s.accepted.setScan m.toNat g.toNat).budgetOk = false →
      s.Served (.tideScan h m g) h x s.accepted (ansPre 0x0501)) ∧
    (∀ m : U32, s.Takes (.tideRead h m) h x → ∃ t, exec (.tideRead h m) s = .next t ∧ (∀ i < 32, (t.hw.tin i).acc =
        if tb m.toNat i then {} else (s.hw.tin i).acc) ∧
      (t.cmd.out h.tr).getLast? = some (s.hw.replyTo 0x55 h (ansOk ((setBits 32 m.toNat).flatMap (fun i => (s.hw.tin i).acc.bytes))))) ∧
    (∀ (c m : U8) (n : U16) (d : List Byte) (total : U32), s.Takes (.sifterSet h ⟨0, 0, total⟩ c m n d) h x → d.length = total.toNat →
      s.cmd.held [srcSifter c.toNat] = false → s.cmd.liveOps < 4 → s.hw.sifterFirst c.toNat m.toNat n.toNat = none →
      s.Begins (.sifterSet h ⟨0, 0, total⟩ c m n d) h x { s.accepted with free := s.hw.free + 2 }
        { stepOp 0x56 [srcSifter c.toNat] ((le 1 c.toNat ++ le 1 m.toNat ++ le 2 n.toNat).map (·.toNat)) with
          state := 1, bytes := d, total := total.toNat }) ∧
    (∀ m : U32, s.Takes (.sfdRead h m) h x → s.Served (.sfdRead h m) h x s.accepted
      (ansOk ((setBits 32 m.toNat).flatMap (fun c => le 4 (s.hw.sftc c).amp ++ leInt 4 (s.hw.sftc c).phase))))

/-- A tick, a missed deadline, a start timeout, the sine of a resonant drive and a write of PERIOD move an axis as their rules say (R284, R289,
R291, R292, R299, R301). -/
def Obligations.AxisEventsTakeEffect : Prop :=
  ∀ s : State, s.hw.outbox = [] → s.hw.awake 12 = true →
    (s.hw.ticks < s.hw.pds.tickAt + s.hw.period → exec .pedestalTick s = .next s) ∧
    (s.hw.pds.tickAt + s.hw.period ≤ s.hw.ticks → (∀ a < 4, (s.hw.axis a).state = .off) → bits (s.hw.reg 0x0079001C) 0 2 = 0 → ∃ u,
      exec .pedestalTick s = .next u ∧ u.cmd = s.cmd ∧ u.hw.pds.tickAt = s.hw.pds.tickAt + s.hw.period ∧ u.hw.pds.tickN = s.hw.pds.tickN + 1 ∧
      u.hw.pds.dacs = s.hw.pds.dacs ∧ u.hw.preds = s.hw.preds ∧ ∀ a < 4, (u.hw.axis a).state = .off ∧ (u.hw.axis a).done = true) ∧
    (∀ a, a < 4 → (s.hw.axis a).live = true → (s.hw.axis a).done = false → s.hw.pds.tickAt + s.hw.period ≤ s.hw.ticks + 200 →
      (s.hw.axis a).missRun + 1 < (s.hw.axis a).missLimit → ∃ u, exec (.tickDeadline a) s = .next u ∧ u.cmd = s.cmd ∧
      u.hw.preds = s.hw.preds ∧ u.hw.pds.dacs = s.hw.pds.dacs ∧ u.hw.axis a = { s.hw.axis a with
        done := true, result := none, nextSet := none, got := none, got2 := none, sticky := (s.hw.axis a).sticky ||| 1
        missTotal := satAdd 0xFFFFFFFF (s.hw.axis a).missTotal 1, missRun := min 255 ((s.hw.axis a).missRun + 1) }) ∧
    (∀ a, (s.hw.axis a).done = true ∨ (s.hw.axis a).live = false → exec (.tickDeadline a) s = .next s) ∧
    (∀ a, a < 4 → (s.hw.axis a).state = .starting → (s.hw.axis a).startAt + (s.hw.axis a).startTo ≤ s.hw.ticks → s.hw.evt.table.length < 1024 →
      ∃ u, exec (.axisStartTimeout a) s = .next u ∧ (u.hw.axis a).state = .fault ∧ u.hw.isRaised (fid srcPds 2 4) = true ∧
        u.hw.dev.mode = s.hw.dev.mode) ∧
    (∀ a, (s.hw.axis a).state ≠ .starting ∨ s.hw.ticks < (s.hw.axis a).startAt + (s.hw.axis a).startTo → exec (.axisStartTimeout a) s = .next s) ∧
    (∀ a, (s.hw.axis a).kind ≠ 1 → exec (.resonantDacUpdate a) s = .next s) ∧
    (∀ a, a < 4 → (s.hw.axis a).kind = 1 → (s.hw.axis a).live = true → (s.hw.axis a).outKind ≤ 1 →
      let code := dacCode ((s.hw.axis a).reg 5) (sinAngle 1312 (s.hw.axis a).uForce ((s.hw.axis a).phiNow s.hw.ticks))
      exec (.resonantDacUpdate a) s = .next { s with hw := s.hw.driveDac a (s.hw.axis a) code 0 }) ∧
    (∀ v : Word, s.hw.dev.mode = .guard → exec (.pdsPeriodWrite v) s = .next { s with hw := { s.hw with ack := 0x0A, ackData := le 4 0x00780000 } }) ∧
    (∀ v : Word, s.hw.dev.mode ≠ .guard →
      ((∃ a < 4, (s.hw.axis a).state ≠ .off) → exec (.pdsPeriodWrite v) s = .next { s with hw := { s.hw with ack := 0x02, ackData := [] } }) ∧
      ((∀ a < 4, (s.hw.axis a).state = .off) → v.toNat % 2 ^ 20 < 3200 ∨ 800000 < v.toNat % 2 ^ 20 →
        exec (.pdsPeriodWrite v) s = .next { s with hw := { s.hw with ack := 0x05, ackData := [] } }) ∧
      ((∀ a < 4, (s.hw.axis a).state = .off) → 3200 ≤ v.toNat % 2 ^ 20 → v.toNat % 2 ^ 20 ≤ 800000 → ∃ u,
        exec (.pdsPeriodWrite v) s = .next u ∧ u.cmd = s.cmd ∧ u.hw.reg 0x00780000 = v.toNat % 2 ^ 20 ∧ u.hw.ack = 0 ∧
        u.hw.pds = { s.hw.pds with tickAt := s.hw.ticks }))

/-- Triggers, conversions, bursts, rotation, slice calibration and the Tide writes do what their rules say (R302, R305, R306, R307, R309, R310,
R314, R315, R317, R318, R319, R320). -/
def Obligations.TideRowsTakeEffect : Prop :=
  ∀ s : State, s.hw.outbox = [] →
    (∀ e, bits (s.hw.reg 0x0079001C) 0 2 = 0 ∨ bits (s.hw.reg 0x0079001C) 0 2 = 2 ∨ e % 2 ≠ bits (s.hw.reg 0x0079001C) 4 1 →
      exec (.tideTrigEdge e) s = .next s) ∧
    (∀ e, s.hw.awake 12 = true → bits (s.hw.reg 0x0079001C) 0 2 = 1 → e % 2 = bits (s.hw.reg 0x0079001C) 4 1 → s.hw.scanMask ≠ 0 →
        s.hw.tid.passOn = true →
      s.hw.tid.trigPend = false → s.hw.tid.trigAt ≠ some s.hw.ticks → exec (.tideTrigEdge e) s =
        .next { s with hw := { s.hw with tid := { s.hw.tid with trigAt := some s.hw.ticks, trigPend := true } } }) ∧
    (∀ k i inj due, s.hw.awake 12 = true → (s.hw.slice k).job = .discharge i inj due → k < 3 → due ≤ s.hw.ticks → s.hw.tid.halted = false →
      exec (.tideConversionStart k) s = .next { s with hw := s.hw.setSlice k { s.hw.slice k with
        job := .convert i inj (s.hw.gainNow i) s.hw.clk.time s.hw.ticks } }) ∧
    (∀ k, (s.hw.slice k).job = .idle → exec (.tideConversionStart k) s = .next s) ∧
    (∀ k raw o c ov b, s.hw.conversionDue k = false → exec (.tideConversionEnd k raw o c ⟨ov, b⟩) s = .next s) ∧
    (∀ k raw o c b, s.hw.awake 12 = true → s.hw.conversionDue k = true → exec (.tideConversionEnd k raw o c ⟨true, b⟩) s = .fault .clampOvercurrent) ∧
    (∀ k raw o c i inj g time tick, s.hw.awake 12 = true → (s.hw.slice k).job = .convert i inj g time tick → k < 3 → tick + 800 ≤ s.hw.ticks → ∃ u,
      exec (.tideConversionEnd k raw o c ⟨false, false⟩) s = .next u ∧ (u.hw.tin i).count = (s.hw.tin i).count + 1 ∧
      (u.hw.tin i).last = normal ((s.hw.slice k).correct g raw) g ∧
      (inj = false → c = false → s.hw.isIS = false → (∀ a < 4, (s.hw.axis a).live = false) → u.cmd = s.cmd ∧ u.hw.pds = s.hw.pds)) ∧
    (∀ k raw o c, s.hw.awake 12 = true → s.hw.conversionDue k = true →
      exec (.tideConversionEnd k raw o c ⟨false, true⟩) s = .next (s.hwStep (fun hw => (hw.sliceBroken k).endPass))) ∧
    (s.hw.ticks < s.hw.tid.toneAt ∨ s.hw.tonePeriod = 0 → exec .tideToneBurst s = .next s) ∧
    (s.hw.awake 12 = true → s.hw.tid.toneAt ≤ s.hw.ticks → s.hw.tonePeriod ≠ 0 → ∃ u, exec .tideToneBurst s = .next u ∧ u.cmd = s.cmd ∧
      u.hw.tid.toneAt = s.hw.ticks + s.hw.tonePeriod ∧ u.hw.tid.toneEnd = s.hw.ticks + toneTicks (s.hw.reg 0x00790018) ∧
      ∀ i < 32, tb u.hw.tid.toneMask i = (tb (s.hw.inReg i) 31 && !s.hw.oddOfPair i)) ∧
    (s.hw.tid.toneMask = 0 ∨ s.hw.ticks < s.hw.tid.toneEnd → exec .toneBurstEnd s = .next s) ∧
    (∀ i, s.hw.awake 12 = true → i < 32 → s.hw.tid.toneMask = 2 ^ i → s.hw.tid.toneEnd ≤ s.hw.ticks →
        s.hw.impBad i ((s.hw.sftc i).tone.result 1504).1 = false →
      ∃ u, exec .toneBurstEnd s = .next u ∧ u.cmd = s.cmd ∧ u.hw.tid.toneMask = 0 ∧ tb u.hw.tid.impFail i = false ∧
      (u.hw.sftc i).toneAmp = ((s.hw.sftc i).tone.result 1504).1) ∧
    (∀ k, s.hw.awake 12 = true → s.hw.tid.rotAt + 8000000 * max 1 (bits (s.hw.reg 0x00790000) 12 8) ≤ s.hw.ticks → s.hw.tid.rotStop = false →
        s.hw.tid.calOn = none →
      s.hw.tid.swap = none → s.hw.spare = some k → exec .tideRotation s = .next { s with hw := { s.hw with
        tid := { s.hw.tid with rotAt := s.hw.ticks, calOn := some k, calEnd := s.hw.ticks + s.hw.calTicks } } }) ∧
    (s.hw.ticks < s.hw.tid.rotAt + 8000000 * max 1 (bits (s.hw.reg 0x00790000) 12 8) → exec .tideRotation s = .next s) ∧
    (∀ o g, s.hw.tid.calOn = none → exec (.sliceCalDone o g) s = .next s) ∧
    (∀ o g k, s.hw.awake 12 = true → s.hw.tid.calOn = some k → k < s.hw.tid.slices.length → s.hw.tid.calEnd ≤ s.hw.ticks → calPasses o g = true →
      ∃ u, exec (.sliceCalDone o g) s = .next u ∧ u.hw.tid.calOn = none ∧ (u.hw.slice k).off = o.take 4 ∧ (u.hw.slice k).gc = g.take 4 ∧
        (u.hw.slice k).fails = 0 ∧ (u.hw.slice k).calAt = s.hw.ticks) ∧
    (∀ o g k, s.hw.awake 12 = true → s.hw.tid.calOn = some k → k < s.hw.tid.slices.length → s.hw.tid.calEnd ≤ s.hw.ticks → calPasses o g = false →
      s.hw.evt.table.length < 1024 → ∃ u, exec (.sliceCalDone o g) s = .next u ∧ u.hw.isRaised (fid srcTid 2 4) = true ∧ u.hw.tid.calOn = none ∧
        (u.hw.slice k).state = (if 3 ≤ (s.hw.slice k).fails + 1 then 3 else 2)) ∧
    (∀ v : Word, tb v.toNat 0 = true → ∃ u, exec (.tidSnap v) s = .next u ∧ u.cmd = s.cmd ∧
      ∀ i < 32, (u.hw.tin i).acc = {} ∧ (u.hw.tin i).snap = (s.hw.tin i).acc) ∧
    (∀ v : Word, s.hw.dev.mode ≠ .guard →
      ((∃ a < 4, (s.hw.axis a).live = true) → exec (.tidPairWrite v) s = .next { s with hw := { s.hw with ack := 0x02, ackData := [] } }) ∧
      ((∀ a < 4, (s.hw.axis a).live = false) →
        exec (.tidPairWrite v) s = .next { s with hw := s.hw.plainWrite 0x00790014 v.toNat }) ∧
      (badTid 0x18 v.toNat = true ∨ 800000 * bits v.toNat 22 10 < toneTicks v.toNat + 80000 →
        exec (.tidToneWrite v) s = .next { s with hw := { s.hw with ack := 0x05, ackData := [] } }) ∧
      (badTid 0x18 v.toNat = false → toneTicks v.toNat + 80000 ≤ 800000 * bits v.toNat 22 10 →
        exec (.tidToneWrite v) s = .next { s with hw := s.hw.plainWrite 0x00790018 v.toNat })) ∧
    (∀ v : Word, s.hw.dev.mode = .guard →
      exec (.tidPairWrite v) s = .next { s with hw := { s.hw with ack := 0x0A, ackData := le 4 0x00790014 } } ∧
      exec (.tidToneWrite v) s = .next { s with hw := { s.hw with ack := 0x0A, ackData := le 4 0x00790018 } })

/-- A slot takes its channel's sample once a frame, a read takes the oldest output, a parity error disables the channel (R325, R326, R331, R337,
R338, R339, R294). -/
def Obligations.SifterRowsTakeEffect : Prop :=
  ∀ s : State, s.hw.outbox = [] →
    (∀ c, s.hw.clk.time.toNat % 1024 < 32 * c ∨ (s.hw.sftc c).frame = some (s.hw.clk.time.toNat / 1024) → exec (.sifterSlot c) s = .next s) ∧
    (∀ c m, s.hw.awake 12 = true → c < 32 → 32 * c ≤ s.hw.clk.time.toNat % 1024 → (s.hw.sftc c).frame ≠ some (s.hw.clk.time.toNat / 1024) →
      (s.hw.tin c).sample = some m → (s.hw.tin c).count ≠ (s.hw.sftc c).lastN →
      let x := s.hw.detect c { s.hw.sftc c with
        frame := some (s.hw.clk.time.toNat / 1024), lastN := (s.hw.tin c).count, held := normal m.code m.range
        flags := (s.hw.sftc c).flags ||| sampleFlags m, missed := 0, stale := false }
      let y := x.step (s.hw.clk.time.toNat - s.hw.clk.time.toNat % 1024 + 32 * c)
      ((s.hw.sftc c).en = false → exec (.sifterSlot c) s = .next { s with hw := s.hw.setSftc c x }) ∧
      ((s.hw.sftc c).en = true → s.hw.oddOfPair c = false → y.2 = false → exec (.sifterSlot c) s = .next { s with hw := s.hw.setSftc c y.1 }) ∧
      ((s.hw.sftc c).en = true → s.hw.oddOfPair c = false → y.2 = true → ∃ u, exec (.sifterSlot c) s = .next u ∧
        u.hw.reg 0x007A0008 = s.hw.reg 0x007A0008 ||| 2 ^ c ∧ (u.hw.sftc c).fifo = y.1.fifo)) ∧
    (∀ c, c = s.hw.reg 0x007A000C % 32 →
      ((s.hw.sftc c).fifo = [] → exec .sftPopVal s = .next { s with hw := { s.hw with sft := { s.hw.sft with popMeta := 2 ^ 31, popTime := 0 } } }) ∧
      (∀ o r, (s.hw.sftc c).fifo = o :: r → ∃ u, exec .sftPopVal s = .next u ∧ u.cmd = s.cmd ∧ (u.hw.sftc c).fifo = r ∧
        u.hw.sft.popMeta = o.flags + r.length * 65536 + o.seq ∧ u.hw.sft.popTime = o.time)) ∧
    (∀ c, s.hw.awake 12 = true → c < 32 → s.hw.evt.table.length < 1024 → (∀ a < 4, (s.hw.axis a).live = false) →
        ∃ u, exec (.sifterParityError c) s = .next u ∧
      (u.hw.sftc c) = { s.hw.sftc c with en := false, broken := true } ∧ u.hw.isRaised (fid srcSft 2 3) = true) ∧
    (∀ c a, s.hw.awake 12 = true → c < 32 → a < 4 → (s.hw.axis a).live = true → (s.hw.axis a).kind = 1 → (s.hw.axis a).in1 = c → ∃ u,
      exec (.sifterParityError c) s = .next u ∧ (u.hw.axis a).state = .fault) ∧
    (∀ c (v : Word), c < 32 →
      (s.hw.dev.mode = .guard → exec (.sftChDetWrite c v) s =
        .next { s with hw := { s.hw with ack := 0x0A, ackData := le 4 (0x007A010C + 0x20 * c) } }) ∧
      (s.hw.dev.mode ≠ .guard → s.hw.ownsDet c = true →
        exec (.sftChDetWrite c v) s = .next { s with hw := { s.hw with ack := 0x02, ackData := [] } }) ∧
      (s.hw.dev.mode ≠ .guard → s.hw.ownsDet c = false →
        exec (.sftChDetWrite c v) s = .next { s with hw := s.hw.plainWrite (0x007A010C + 0x20 * c) v.toNat }))

/-- Time setting, PPS, loss of clock, Daymark's edges, intervals and gates, and temperatures do what their rules say (R134, R137, R138, R139,
R146, R147, R148, R149, R235, R322, R466). -/
def Obligations.ClockRowsTakeEffect : Prop :=
  ∀ s : State, s.hw.outbox = [] →
    (∀ hi : Word, s.hw.dev.mode ≠ .config → exec (.clkTimeSet hi) s =
      .next { s with hw := { s.hw with ack := 0x03, ackData := le 1 s.hw.dev.mode.code } }) ∧
    (∀ hi : Word, s.hw.dev.mode = .config → s.hw.dev.sched ≠ none →
      exec (.clkTimeSet hi) s = .next { s with hw := { s.hw with ack := 0x02, ackData := [] } }) ∧
    (∀ hi : Word, s.hw.dev.mode = .config → s.hw.dev.sched = none →
      let t : U64 := BitVec.ofNat 64 (hi.toNat * 2 ^ 32 + s.hw.clk.setLo)
      (tb (s.hw.reg 0x00040000) 8 = true → exec (.clkTimeSet hi) s = .next { s with hw := { s.hw with
        ack := 0, ackData := [], clk := { s.hw.clk with setArmed := some t } } }) ∧
      (tb (s.hw.reg 0x00040000) 8 = false → ∃ u, exec (.clkTimeSet hi) s = .next u ∧ u.hw.clk = { s.hw.clk with time := t, setArmed := none } ∧
        u.hw.ack = 0 ∧ u.hw.ticks = s.hw.ticks)) ∧
    (∀ v : Word, bits v.toNat 0 2 = 2 → s.hw.out.ptp = 2 → exec (.clkCtlWrite v) s =
      .next { s with hw := { s.hw with ack := 0x05, ackData := [] } }) ∧
    (∀ v : Word, bits v.toNat 0 2 = 1 ∨ (bits v.toNat 0 2 = 2 ∧ s.hw.out.ptp ≠ 2) → ∃ u, exec (.clkCtlWrite v) s = .next u ∧ u.cmd = s.cmd ∧
      u.hw.regs = (s.hw.plainWrite 0x00040000 v.toNat).regs ∧ u.hw.clk.time = s.hw.clk.time ∧
      (s.hw.ppsMode = 0 → u.hw.clk.ppsMissAt = s.hw.ticks + 1200000000 ∧ u.hw.clk.ppsQuiet = false) ∧
      (bits v.toNat 0 2 = 1 → s.hw.out.ptp ≠ 2 → u.hw.clk.term = 0)) ∧
    (∀ v : Word, bits v.toNat 0 2 = 0 → exec (.clkCtlWrite v) s = .next { s with hw := s.hw.plainWrite 0x00040000 v.toNat }) ∧
    (∀ r f, bits (s.hw.reg 0x00040000) 0 2 = 0 → exec (.ppsEdge r f) s = .next s) ∧
    (∀ r f, s.hw.awake 6 = true → bits (s.hw.reg 0x00040000) 0 2 = 1 ∨ bits (s.hw.reg 0x00040000) 0 2 = 2 → r ≠ tb (s.hw.reg 0x00040000) 4 →
      let err := ppsErr s.hw.clk.time.toNat (f % 80)
      let seen := ({ s.hw with clk := { s.hw.clk with
        ppsRef := some s.hw.ticks, ppsMissAt := s.hw.ticks + 1200000000, ppsQuiet := false, present := true, ppsStamp := s.hw.clk.time
        ppsFine := f % 80, ppsErr := err } } : Hw)
      (s.hw.clk.ppsRef = none → exec (.ppsEdge r f) s = .next { s with hw := { s.hw with clk := { s.hw.clk with ppsRef := some s.hw.ticks } } }) ∧
      (∀ p, s.hw.clk.ppsRef = some p → p + 799200000 ≤ s.hw.ticks → s.hw.ticks ≤ p + 800800000 → s.hw.clk.setArmed = none →
        (bits (s.hw.reg 0x00040000) 0 2 = 1 → s.hw.out.ptp ≠ 2 → exec (.ppsEdge r f) s =
          .next { s with hw := { seen with clk := { seen.clk with term := 0 } } }) ∧
        (bits (s.hw.reg 0x00040000) 0 2 = 2 → ∃ u, exec (.ppsEdge r f) s = .next u ∧ u.cmd = s.cmd ∧ u.hw.clk.ppsErr = err ∧
          u.hw.clk.integ = (s.hw.discipline err).clk.integ ∧ u.hw.clk.term = (s.hw.discipline err).clk.term ∧
          u.hw.clk.lockRun = s.hw.lockRun err s.hw.clk.lockRun)) ∧
      (∀ p, s.hw.clk.ppsRef = some p → p + 800800000 < s.hw.ticks → s.hw.clk.rejTimes = [] → ∃ u,
        exec (.ppsEdge r f) s = .next u ∧ u.cmd = s.cmd ∧ u.hw.clk.ppsRef = none ∧
        u.hw.clk.rejected = min 0xFFFF (s.hw.clk.rejected + 1) ∧ u.hw.clk.time = s.hw.clk.time)) ∧
    (s.hw.ticks < s.hw.clk.ppsMissAt ∨ (s.hw.ppsMode = 0 ∧ s.hw.clk.present = false) → exec .ppsTimeout s = .next s) ∧
    (s.hw.awake 6 = true → s.hw.clk.ppsMissAt ≤ s.hw.ticks → s.hw.ppsMode ≠ 0 ∨ s.hw.clk.present = true →
      ∃ u, exec .ppsTimeout s = .next u ∧ u.hw.clk.present = false ∧ u.hw.clk.locked = false ∧
        u.hw.clk.missing = min 0xFFFF (s.hw.clk.missing + 1) ∧ u.hw.clk.ppsMissAt = s.hw.ticks + 800000000 ∧
        (s.hw.clk.ppsQuiet = false → s.hw.evt.table.length < 1024 → u.hw.isRaised (fid srcClk 1 3) = true)) ∧
    (s.hw.clk.xtalOk = false → exec .crystalStop s = .next s) ∧ (s.hw.clk.refLock = false → exec .refPllUnlock s = .next s) ∧
    (s.hw.awake 6 = true → s.hw.evt.table.length < 1024 →
      (s.hw.clk.xtalOk = true → ∃ u, exec .crystalStop s = .next u ∧ u.hw.clk.xtalOk = false ∧ u.hw.clk.timeValid = false ∧
        u.hw.isRaised (fid srcClk 3 1) = true) ∧
      (s.hw.clk.refLock = true → ∃ u, exec .refPllUnlock s = .next u ∧ u.hw.clk.refLock = false ∧ u.hw.clk.timeValid = false ∧
        u.hw.isRaised (fid srcClk 3 2) = true)) ∧
    (∀ i r f, i < 4 → s.hw.dmkTakes i r = false → exec (.dmkEdge i r f) s = .next s) ∧
    (∀ i r f, s.hw.awake 6 = true → i < 4 → s.hw.dmkStamps i r = true → ∃ u, exec (.dmkEdge i r f) s = .next u ∧
      (u.hw.dmkIn i).stamped = true ∧ (u.hw.dmkIn i).time = s.hw.clk.time ∧ (u.hw.dmkIn i).tick = s.hw.ticks ∧
      ((s.hw.startSel = i ∧ s.hw.dmk.startBusy ≤ s.hw.ticks) → (u.hw.dmkIn i).fine = f % 320 ∧ (u.hw.dmkIn i).coarse = false)) ∧
    (∀ i r f, s.hw.awake 6 = true → i < 4 → s.hw.dmkTakes i r = true → (s.hw.dmkIn i).stamped = true →
      s.hw.ticks < (s.hw.dmkIn i).tick + 16 → ∃ u,
      exec (.dmkEdge i r f) s = .next u ∧ u.cmd = s.cmd ∧ u.hw.dmkIn i = { s.hw.dmkIn i with
        merged := min 0xFFFFFFFF ((s.hw.dmkIn i).merged + 1) } ∧ u.hw.pds = s.hw.pds) ∧
    (∃ u, exec .dmkIvArm s = .next u ∧ u.cmd = s.cmd ∧ u.hw.dmk.armed = true ∧ u.hw.dmk.ivStart = none ∧ u.hw.dmk.ivValid = false) ∧
    (s.hw.awake 6 = true → s.hw.dmk.armed = true → s.hw.dmk.ivDue ≤ s.hw.ticks → exec .dmkIvTimeout s =
      .next { s with hw := { s.hw with dmk := { s.hw.dmk with armed := false, ivStart := none, ivTimeout := true } } }) ∧
    (s.hw.dmk.armed = false ∨ s.hw.ticks < s.hw.dmk.ivDue → exec .dmkIvTimeout s = .next s) ∧
    (∀ i (v : Word), i < 4 → s.hw.ownsFreq i = false → tb v.toNat 0 = true → ∃ u, exec (.dmkFreqStart i v) s = .next u ∧
      u.cmd = s.cmd ∧ (u.hw.freqOf i).running = true ∧ (u.hw.freqOf i).n = 0 ∧ u.hw.ack = 0) ∧
    (∀ i (v : Word), i < 4 → s.hw.ownsFreq i = true →
      exec (.dmkFreqStart i v) s = .next { s with hw := { s.hw with ack := 0, ackData := [] } }) ∧
    (∀ i, (s.hw.freqOf i).running = false → exec (.dmkFreqGateEnd i) s = .next s) ∧
    (∀ i, s.hw.awake 6 = true → i < 4 → (s.hw.freqOf i).running = true → (s.hw.freqOf i).gateEnd ≤ s.hw.ticks → (s.hw.freqOf i).n ≤ 65536 →
      tb (s.hw.reg (0x00048020 + 4 * i)) 1 = false → s.hw.ownsFreq i = false → ∃ u, exec (.dmkFreqGateEnd i) s = .next u ∧ u.cmd = s.cmd ∧
      (u.hw.freqOf i).running = false ∧
      ((s.hw.freqOf i).n < 3 → (u.hw.freqOf i).period = 0 ∧ tb (u.hw.freqOf i).flags 29 = true) ∧
      let fine := (s.hw.freqOf i).anyCoarse = false ∧ (s.hw.startSel = i ∨ s.hw.stopSel = i)
      let f := s.hw.freqOf i
      let fit := if fine then fitGate f.n f.st f.snt f.stt (s.hw.prescale i) else fitGate f.n f.stc f.sntc f.sttc (s.hw.prescale i)
      (3 ≤ (s.hw.freqOf i).n → (u.hw.freqOf i).period = fit.1 ∧ (u.hw.freqOf i).resid = fit.2 ∧ tb (u.hw.freqOf i).flags 31 = true)) ∧
    (∀ l th, s.hw.dev.mode = .dormant ∨ s.hw.ticks < s.hw.tid.tempAt → exec (.tempConversion l th) s = .next s) ∧
    (∀ l th, s.hw.dev.mode ≠ .dormant → s.hw.dev.inReset = false → s.hw.dev.hotHold = false → s.hw.tid.tempAt ≤ s.hw.ticks →
      l.foldl max (l.headD 0) < 140 * 64 → ∃ u, exec (.tempConversion l th) s = .next u ∧ u.hw.tid.tempAt = s.hw.ticks + 800000 ∧
      ∀ j < 8, mget 0 u.hw.temps j = clampI (-32768) 32767 (l.getD j 0)) ∧
    (∀ v : Int, s.hw.dev.mode = .config → s.hw.dev.inReset = false → s.hw.dev.hotHold = false → s.hw.tid.tempAt ≤ s.hw.ticks → 140 * 64 ≤ v →
      ∃ u, exec (.tempConversion [v] []) s = .next u ∧ u.hw.dev.hotHold = true ∧ u.hw.dev.mode = .boot ∧ u.cmd = {})

/-- Flushing a point packet, sending a frame packet, the next link packet or datagram, and idle have the effect of their rules (R217, R225, R233,
R234, R244, R246, R261). -/
def Obligations.StreamRowsTakeEffect : Prop :=
  ∀ s : State, s.hw.outbox = [] →
    (∀ b, b < 4 → (s.hw.sub b).openCount = 0 ∨ s.hw.ticks < (s.hw.sub b).openAt + s.hw.flushTicks → exec (.pointPacketFlush b) s = .next s) ∧
    (∀ b, s.hw.awake 15 = true → b < 4 → (s.hw.sub b).openCount ≠ 0 → (s.hw.sub b).openAt + s.hw.flushTicks ≤ s.hw.ticks → ∃ u,
      exec (.pointPacketFlush b) s = .next u ∧ u.cmd = s.cmd ∧ (∀ c, c ≠ b → u.hw.sub c = s.hw.sub c) ∧ u.hw.sub b = { s.hw.sub b with
        packets := (s.hw.sub b).packets ++ [{ kind := 1, frame := (s.hw.sub b).openFrame, seq := (s.hw.sub b).seq, dev := s.hw.cas.index
                                              sub := b, count := (s.hw.sub b).openCount, time := s.hw.clk.time, last := false
                                              payload := (s.hw.sub b).openBytes }]
        seq := ((s.hw.sub b).seq + 1) % 2 ^ 32, openCount := 0, openBytes := [] }) ∧
    (s.hw.awake 15 = true → let m := s.hw.closeLast.latchStats
      (m.out.frames.find? (fun r => r.ended && r.latched) = none → exec .framePacketSend s = .next (s.hwStep (fun hw => hw.closeLast.latchStats))) ∧
      (∀ r, m.out.frames.find? (fun r => r.ended && r.latched) = some r → ∃ u, exec .framePacketSend s = .next u ∧
        u.hw.out.frames = m.out.frames.filter (fun x => decide (x.frame ≠ r.frame)) ∧
        u.hw.out.frameQ = m.out.frameQ ++ (setBits 8 (((List.range 4).filter (fun b => (m.sub b).packets.any (fun p =>
            decide (p.frame = r.frame)))).foldl (fun n b => n ||| 2 ^ m.subLane b) r.lanes)).map (fun l => (l,
          { kind := 2, frame := r.frame, seq := mget 0 m.out.frameSeq l, dev := m.cas.index, sub := 0xF0 + l, count := 1
            time := m.clk.time, last := true, payload := m.frameHeader r })))) ∧
    (∀ l, (s.hw.isEth = false ∨ 4 ≤ l) → (s.hw.lane l).state ≠ .active ∨ s.hw.ticks < (s.hw.lane l).exitAt ∨ (s.hw.lane l).sending s.hw.ticks = true →
      exec (.lpTransmit l) s = .next s) ∧
    (∀ l, l < 8 → (s.hw.isEth = false ∨ 4 ≤ l) → (s.hw.lane l).state = .active → (s.hw.lane l).exitAt ≤ s.hw.ticks →
      (s.hw.lane l).sending s.hw.ticks = false →
      (∀ p r, (s.hw.lane l).resend = p :: r → exec (.lpTransmit l) s =
        .next { s with hw := s.hw.setLane l { (s.hw.lane l).put p s.hw.ticks with resend := r, quietAt := s.hw.ticks } }) ∧
      ((s.hw.lane l).resend = [] → let d := ({ s with hw := { s.hw with free := s.hw.free + 1 } } : State)
        let next := (vcOrder (Config.freeNat s.hw.free)).findSome? (fun vc => (d.takeReady l vc).map (fun e => (vc, e)))
        (next = none → exec (.lpTransmit l) s = .next d) ∧
        (∀ vc body t, next = some (vc, body, t) →
          ((s.hw.lane l).takes body.size = true → exec (.lpTransmit l) s = .next { t with hw := t.hw.startLp l vc body }) ∧
          ((s.hw.lane l).takes body.size = false → exec (.lpTransmit l) s = .next d)))) ∧
    (∀ l p r, s.hw.isEth = false → s.hw.isSecondary = false → s.hw.hostLane = some l → (s.hw.lane l).state = .active →
      (s.hw.lane l).exitAt ≤ s.hw.ticks → (s.hw.lane l).resend = [] → (s.hw.lane l).moved = [] → (s.hw.lane l).takes (LpBody.command p).size = true →
      (s.hw.lane l).sending s.hw.ticks = false →
      s.cmd.outLink = p :: r → s.hw.bel.waiting = [] → mget [] s.hw.out.fwd 0 = [] → ∃ u, exec (.lpTransmit l) s = .next u ∧
        u.cmd = { s.cmd with outLink := r } ∧ (u.hw.lane l).txSeq = ((s.hw.lane l).txSeq + 1) % 4096 ∧
        (u.hw.lane l).unacked = (s.hw.lane l).unacked ++
            [{ seq := (s.hw.lane l).txSeq, vc := 0, body := .command p, len := (LpBody.command p).size }] ∧
        (∀ m, m ≠ l → u.hw.lane m = s.hw.lane m) ∧ u.hw.out = s.hw.out) ∧
    (∀ l, s.hw.isEth = true → l < 4 → (s.hw.lane l).lock = false → exec (.lpTransmit l) s = .next s) ∧
    (s.hw.isEth = true → (s.hw.lane 0).lock = true →
      (∀ p r mac, s.hw.out.ethOut = [] → s.hw.bel.waiting = [] → mget [] s.hw.out.fwd 0 = [] → s.cmd.outEth = p :: r →
        s.hw.hopMac p.peer.ip.toNat = some mac → ∃ u id, exec (.lpTransmit 0) s = .next u ∧ u.cmd = { s.cmd with outEth := r } ∧
        (u.hw.lane 0).frame = etherFrame mac (s.hw.portMac 0) 0x0800 (ipPacket (s.hw.reg 0x00600028) id 17 s.hw.out.netAddr p.peer.ip.toNat
          (udpPacket s.hw.out.netAddr p.peer.ip.toNat (bits (s.hw.reg 0x00680008) 0 16) p.peer.port.toNat p.bytes)))) ∧
    (∀ l, s.hw.isEth = true → l < 4 → (s.hw.lane l).lock = true →
      (∀ n r, s.hw.out.ethOut = (l, n) :: r → exec (.lpTransmit l) s =
        .next ({ s with hw := ({ s.hw with out := { s.hw.out with ethOut := r } } : Hw).sendOwn l n } : State).drain) ∧
      (s.sendAdmin l = none → ∀ body t, ((((s.takeFrame l).orElse (fun _ => if s.hw.hostLane = some l then s.takeForward 0 (fun k => decide (k =
          2)) else none)).orElse
          (fun _ => s.takePoint l)).orElse (fun _ => s.takeExport l)) = some (body, t) → exec (.lpTransmit l) s =
        .next (t.hwStep (fun hw => hw.sendUdp l hw.out.pointPort hw.streamDest.1 hw.streamDest.2 body.bytes (Hw.lostStream body))))) ∧
    (∀ l, let after := bits (s.hw.reg (0x00680040 + 4 * l)) 16 16
      ((s.hw.lane l).state ≠ .active ∨ after = 0 ∨ s.queued l = true ∨ (s.hw.lane l).unacked ≠ [] ∨
        s.hw.ticks < (s.hw.lane l).quietAt + 800 * after → exec (.idleEnter l) s = .next s) ∧
      (l < 8 → (s.hw.isEth = false ∨ 4 ≤ l) → (s.hw.lane l).state = .active → after ≠ 0 → s.queued l = false → (s.hw.lane l).unacked = [] →
        (s.hw.lane l).quietAt + 800 * after ≤ s.hw.ticks → ∃ u, exec (.idleEnter l) s = .next u ∧ u.hw.out = s.hw.out ∧
        u.hw.lane l = { s.hw.lane l with state := .idle, since := s.hw.ticks, reqOut := 6, heldAt := none })) ∧
    (∀ l, ((s.hw.lane l).state ≠ .idle ∨ s.queued l = false → exec (.idleExit l) s = .next s) ∧
      (l < 8 → (s.hw.lane l).state = .idle → s.queued l = true → ∃ u, exec (.idleExit l) s = .next u ∧ u.hw.out = s.hw.out ∧
        let x := (s.hw.lane l).lineTo ((s.hw.lane l).block ((s.hw.lane l).since + sfTicks (s.hw.lane l).rate 2))
        let exit := s.hw.ticks + sfTicks (s.hw.lane l).rate 4
        u.hw.lane l = { x with
          state := .active, since := s.hw.ticks, reqOut := 0, exitAt := exit, quietAt := s.hw.ticks, heldAt := none
          lineAt := (s.hw.lane l).block exit }))

/-- Codewords, LINK blocks, link packets, timeouts and margins of a lane do what their rules say (R240, R245, R246, R248, R254, R256, R257, R259,
R261). -/
def Obligations.LinkTrafficTakesEffect : Prop :=
  ∀ s : State, s.hw.outbox = [] →
    s.hw.awake 10 = true →
    (∀ l, l < 8 → (s.hw.isEth = false ∨ 4 ≤ l) → s.hw.fecDetect = false → (s.hw.lane l).state = .active → s.hw.injects l 1 = false →
      let y := ({ s.hw.lane l with rxCw := (s.hw.lane l).rxCw + 1 } : Lane)
      exec (.codewordReceive l 0) s = .next { s with hw := s.hw.setLane l y } ∧
      (∀ n, 1 ≤ n → n ≤ 7 → exec (.codewordReceive l n) s = .next { s with hw := (s.hw.setLane l y).stick (0x00680080 + 4 * l) n }) ∧
      (∀ n, 7 < n → (s.hw.lane l).badTimes = [] → ∃ u, exec (.codewordReceive l n) s = .next u ∧ u.cmd = s.cmd ∧
        u.hw.reg (0x006800A0 + 4 * l) = satAdd 0xFFFFFFFF (s.hw.reg (0x006800A0 + 4 * l)) 1 ∧
        u.hw.lane l = { y with badTimes := [s.hw.ticks], badCws := ((s.hw.lane l).rxCw :: (s.hw.lane l).badCws).take 64 }) ∧
      (∀ n, 7 < n → (s.hw.lane l).badTimes.length = 64 → (∀ t ∈ (s.hw.lane l).badTimes, s.hw.ticks < t + 800000) → s.hw.dev.mode = .config →
        s.hw.evt.table.length < 1023 → ∃ u, exec (.codewordReceive l n) s = .next u ∧ (u.hw.lane l).lost = true ∧
        (u.hw.lane l).state = .detect ∧ u.hw.dev.mode = .config)) ∧
    (∀ l w, 8 ≤ l ∨ (s.hw.lane l).state = .anchored ∨ (s.hw.lane l).state = .detect → exec (.linkBlockReceive l w) s = .next s) ∧
    (∀ l w, l < 8 → (s.hw.isEth = false ∨ 4 ≤ l) → (s.hw.lane l).state ∈ [LaneState.active, .idle, .step, .align] →
      (s.hw.injects l 2 = false → ∀ b, linkOf w = some b → exec (.linkBlockReceive l w) s = .next (s.hwStep (fun hw => hw.heedLink l b))) ∧
      (s.hw.injects l 2 = false → linkOf w = none → exec (.linkBlockReceive l w) s =
        .next (s.hwStep (fun hw => (hw.badCodeword l ((s.hw.lane l).rxCw - 1)).missLink l))) ∧
      (s.hw.injects l 2 = true → exec (.linkBlockReceive l w) s =
        .next (s.hwStep (fun hw => ((hw.injected l).badCodeword l ((s.hw.lane l).rxCw - 1)).missLink l)))) ∧
    (∀ l w b a p r, l < 8 → (s.hw.isEth = false ∨ 4 ≤ l) → (s.hw.lane l).state = .active → s.hw.injects l 2 = false → linkOf w = some b →
      b.nak = false → (s.hw.lane l).unacked = a ++ p :: r →
      p.seq = b.ack → (∀ q ∈ a, q.seq ≠ b.ack) → ∃ u, exec (.linkBlockReceive l w) s = .next u ∧ u.cmd = s.cmd ∧
        (u.hw.lane l).unacked = r ∧ (u.hw.lane l).replays = 0 ∧ (u.hw.lane l).missRun = 0 ∧ (u.hw.lane l).paused = b.pause &&& 0x3C ∧
        (u.hw.lane l).farIdle = decide (b.req = 6)) ∧
    (∀ l w b, l < 8 → (s.hw.isEth = false ∨ 4 ≤ l) → (s.hw.lane l).state = .active → s.hw.injects l 2 = false → linkOf w = some b →
      b.nak = true → (s.hw.lane l).unacked ≠ [] →
      (∀ q ∈ (s.hw.lane l).unacked, q.seq ≠ b.ack) → (s.hw.lane l).resend = [] → (s.hw.lane l).replays + 1 < s.hw.replayLimit → ∃ u,
        exec (.linkBlockReceive l w) s = .next u ∧ u.cmd = s.cmd ∧ (u.hw.lane l).resend = (s.hw.lane l).unacked ∧
        (u.hw.lane l).replays = (s.hw.lane l).replays + 1 ∧
        u.hw.reg (0x006800C0 + 4 * l) = satAdd 0xFFFFFFFF (s.hw.reg (0x006800C0 + 4 * l)) 1) ∧
    (∀ l, (s.hw.lane l).unacked = [] ∨ s.hw.ticks < (s.hw.lane l).ackAt + sfTicks (s.hw.lane l).rate s.hw.ackTimeout →
      exec (.ackTimeout l) s = .next s) ∧
    (∀ l, l < 8 → (s.hw.lane l).state = .active → (s.hw.lane l).unacked ≠ [] → (s.hw.lane l).replays + 1 < s.hw.replayLimit →
      (s.hw.lane l).ackAt + sfTicks (s.hw.lane l).rate s.hw.ackTimeout ≤ s.hw.ticks → ∃ u, exec (.ackTimeout l) s = .next u ∧ u.cmd = s.cmd ∧
        u.hw.lane l = { s.hw.lane l with
          resend := (s.hw.lane l).unacked, replays := (s.hw.lane l).replays + 1, ackAt := s.hw.ticks }) ∧
    (∀ l, (s.hw.lane l).farIdle = true → exec (.linkBlockMissed l) s = .next s) ∧
    (∀ l, l < 8 → (s.hw.isEth = false ∨ 4 ≤ l) → (s.hw.lane l).state = .active → (s.hw.lane l).farIdle = false →
      ((s.hw.lane l).missRun < 2 → exec (.linkBlockMissed l) s =
        .next { s with hw := s.hw.setLane l { s.hw.lane l with missRun := (s.hw.lane l).missRun + 1 } }) ∧
      (2 ≤ (s.hw.lane l).missRun → s.hw.dev.mode = .config → s.hw.evt.table.length < 1023 → ∃ u, exec (.linkBlockMissed l) s = .next u ∧
        (u.hw.lane l).lost = true ∧ (u.hw.lane l).state = .detect)) ∧
    (∀ l p, l < 8 → (s.hw.isEth = false ∨ 4 ≤ l) → (s.hw.lane l).state ∈ [LaneState.active, .idle, .step] →
      ((∃ w ∈ p.words, (s.hw.lane l).rxCw ≤ w) → exec (.lpReceive l p) s = .next s) ∧
      ((∀ w ∈ p.words, w < (s.hw.lane l).rxCw) → let q := readLp (descrambleAll p.blocks p.before)
        let fails := crcFails p q.1 (s.hw.lane l).badCws
        let clean := fails = [] ∧ ∀ w ∈ p.words, w ∉ (s.hw.lane l).badCws
        (clean → ∀ vc bytes, q.2 = some (vc, (s.hw.lane l).rxExpect, true, bytes) → exec (.lpReceive l p) s =
          .next { s with hw := s.hw.setLane l { s.hw.lane l with
            rxExpect := ((s.hw.lane l).rxExpect + 1) % 4096, nak := false, quietAt := s.hw.ticks } }) ∧
        (¬ clean ∨ q.2 = none ∨ (∃ vc seq ok bytes, q.2 = some (vc, seq, ok, bytes) ∧ (ok = false ∨ seq ≠ (s.hw.lane l).rxExpect)) →
          exec (.lpReceive l p) s = .next (s.hwStep (fun hw =>
            fails.foldl (fun h w => h.badCodeword l w) (hw.setLane l { s.hw.lane l with nak := true })))))) ∧
    (∀ l v, tb (s.hw.lane l).paused v = false ∨ s.hw.ticks ≤ mget 0 (s.hw.lane l).pausedAt v + 8000000 → exec (.pauseTimeout l v) s = .next s) ∧
    (∀ l v, l < 8 → tb (s.hw.lane l).paused v = true → mget 0 (s.hw.lane l).pausedAt v + 8000000 < s.hw.ticks → s.hw.evt.table.length < 1024 →
      ∃ u, exec (.pauseTimeout l v) s = .next u ∧ u.hw.isRaised (fid srcLnk 1 6) = true ∧ u.hw.lnk = s.hw.lnk) ∧
    (∀ l m, s.hw.marginLow ≤ m ∨ (s.hw.lane l).state ≠ .active → exec (.marginLow l m) s = .next s) ∧
    (∀ l m, l < 8 → (s.hw.lane l).state = .active → m < s.hw.marginLow → (s.hw.lane l).retrains = [] → ∃ u, exec (.marginLow l m) s = .next u ∧
      u.cmd = s.cmd ∧ u.hw.lane l = { s.hw.lane l with margin := m, retrains := [s.hw.ticks], reqOut := 5 } ∧
      u.hw.reg (0x006800E0 + 4 * l) = satAdd 0xFFFFFFFF (s.hw.reg (0x006800E0 + 4 * l)) 1) ∧
    (∀ l, l < 8 → exec (.retrain l) s = .next (if (s.hw.lane l).state = .active
      then { s with hw := s.hw.setLane l { (s.hw.lane l).retrainFrom s.hw.ticks with trainBlocks := s.hw.ticks + 800000 } } else s)) ∧
    (∀ l, s.hw.isEth = false ∨ (s.hw.lane l).lock = false → exec (.ethLockLoss l) s = .next s) ∧
    (∀ l, l < 4 → s.hw.isEth = true → (s.hw.lane l).lock = true → s.hw.dev.mode = .config → s.hw.evt.table.length < 1023 → ∃ u,
      exec (.ethLockLoss l) s = .next u ∧ (u.hw.lane l).lock = false ∧ (u.hw.lane l).lost = true) ∧
    (∀ l, s.hw.isEth = false ∨ (s.hw.lane l).lock = true → exec (.pcsBlockLock l) s = .next s) ∧
    (∀ l, l < 4 → s.hw.isEth = true → s.hw.laneOn l = true → (s.hw.lane l).lock = false → (s.hw.lane l).lost = true →
      ∃ u, exec (.pcsBlockLock l) s = .next u ∧ u.hw.lane l =
          { s.hw.lane l with lock := true, lost := false, rate := s.hw.targetRate, attempts := 0 } ∧
        u.hw.lnk.restored = true) ∧
    (∀ l, l < 4 → s.hw.isEth = true → s.hw.laneOn l = true → (s.hw.lane l).lock = false → (s.hw.lane l).lost = false →
      ∃ u, exec (.pcsBlockLock l) s = .next u ∧ u.cmd = s.cmd ∧
        u.hw = s.hw.setLane l { s.hw.lane l with lock := true, lost := false, rate := s.hw.targetRate, attempts := 0 })

/-- The states of a lane from DETECT to ACTIVE, its steps, retraining and tests follow their rules (R243, R249, R250, R251, R252, R258, R262,
R263). -/
def Obligations.LanesComeUpStepAndAreTested : Prop :=
  ∀ s : State, s.hw.outbox = [] → s.hw.awake 10 = true → ∀ l, l < 8 → let x := s.hw.lane l
    (x.state ≠ .detect → exec (.superframeLock l) s = .next s) ∧
    (x.state = .detect → ∃ u, exec (.superframeLock l) s = .next u ∧ u.hw.lane l = { x with state := .train, since := s.hw.ticks }) ∧
    (∀ a m t c, x.state ≠ .train ∨ s.hw.ticks < x.since + 800000 ∨ m < s.hw.marginOk → exec (.laneReady l ⟨a, m, t, c⟩) s = .next s) ∧
    (∀ a m t c, x.state = .train → x.since + 800000 ≤ s.hw.ticks → s.hw.marginOk ≤ m → ∃ u, exec (.laneReady l ⟨a, m, t, c⟩) s = .next u ∧
      (u.hw.lane l).state = .align ∧ (u.hw.lane l).margin = min 0xFFFF m ∧ (u.hw.lane l).reqOut = 4 ∧
      (u.hw.lane l).precTx = (decide (x.rate = 2) && tb a 0) ∧ (u.hw.lane l).precRx = (decide (x.rate = 2) && s.hw.wantsPrecoding l t c)) ∧
    (x.state ≠ .align ∨ s.hw.ticks < x.since + sfTicks x.rate 16 → exec (.alignComplete l) s = .next s) ∧
    (x.state = .align → x.since + sfTicks x.rate 16 ≤ s.hw.ticks → x.keepSeq = false ∨ x.replays + 1 < s.hw.replayLimit →
        ∃ u, exec (.alignComplete l) s = .next u ∧
      (u.hw.lane l).state = .active ∧ (u.hw.lane l).heldAt = none ∧ (u.hw.lane l).stepFrom = none ∧ (u.hw.lane l).keepSeq = false ∧
      (u.hw.lane l).lost = false ∧ (x.lost = true → l < 4 → u.hw.lnk.restored = true) ∧
      (x.keepSeq = false → (u.hw.lane l).txSeq = 0 ∧ (u.hw.lane l).rxExpect = 0 ∧ (u.hw.lane l).unacked = []) ∧
      (x.keepSeq = true → x.unacked ≠ [] → (u.hw.lane l).resend = x.unacked ∧ (u.hw.lane l).replays = x.replays + 1 ∧ (u.hw.lane l).txSeq = x.txSeq ∧
          (u.hw.lane l).rxExpect = x.rxExpect)) ∧
    (x.state = .active ∨ s.hw.ticks < x.lostAt + 240000000 → exec (.bringupTimeout l) s = .next s) ∧
    (x.state = .train → x.lost = false → x.stepFrom = none → x.lostAt + 240000000 ≤ s.hw.ticks → ∃ u, exec (.bringupTimeout l) s = .next u ∧
      (x.attempts < 2 → (u.hw.lane l).state = .detect ∧ (u.hw.lane l).rate = 0 ∧ (u.hw.lane l).attempts = x.attempts + 1) ∧
      (2 ≤ x.attempts → (u.hw.lane l).state = .anchored ∧ (u.hw.lane l).attempts = 0)) ∧
    (∀ m n, x.state ≠ .active → exec (.stepOffer l m n) s = .next s) ∧
    (∀ m n, x.state = .active → s.hw.dev.mode = .config → x.rate < 2 → x.rate < s.hw.targetRate → tb m (x.rate + 1) = true →
      (x.rate = 0 ∨ s.hw.fecDetect = false) → ∃ u,
      exec (.stepOffer l m n) s = .next u ∧ (u.hw.lane l).state = .step ∧ (u.hw.lane l).stepTo = some (x.rate + 1, (n + 16) % 256) ∧
      (u.hw.lane l).reqOut = 2) ∧
    (∀ m n, x.state = .active → s.hw.dev.mode = .scan → x.lostRate ≤ x.rate → exec (.stepOffer l m n) s =
      .next { s with hw := s.hw.setLane l { x with reqOut := 3 } }) ∧
    (∀ c n, x.offered = none → exec (.stepAccept l c n) s = .next s) ∧
    (∀ m n k, x.offered = some (m, n) → x.state = .active → tb m (x.rate + 1) = true → ∃ u, exec (.stepAccept l (x.rate + 1) k) s = .next u ∧
      (u.hw.lane l).state = .step ∧ (u.hw.lane l).stepTo = some (x.rate + 1, (n + 16) % 256) ∧ (u.hw.lane l).offered = none) ∧
    (x.stepTo = none → exec (.rateChange l) s = .next s) ∧
    (∀ c n, x.stepTo = some (c, n) → x.state = .step → (s.hw.sfc l + 256 - n) % 256 < 128 → ∃ u, exec (.rateChange l) s = .next u ∧
      (u.hw.lane l).state = .train ∧ (u.hw.lane l).rate = c ∧ (u.hw.lane l).stepFrom = some (x.stepFrom.getD x.rate) ∧
      (u.hw.lane l).heldAt = x.heldAt ∧ (u.hw.lane l).unacked = x.unacked) ∧
    (x.stepFrom = none ∨ x.state = .active ∨ s.hw.ticks < x.stepAt + 320000000 → exec (.stepTimeout l) s = .next s) ∧
    (∀ r, x.stepFrom = some r → x.state = .train → x.stepAt + 320000000 ≤ s.hw.ticks → ∃ u, exec (.stepTimeout l) s = .next u ∧
      (u.hw.lane l).state = .detect ∧ (u.hw.lane l).rate = r ∧ (u.hw.lane l).stepFrom = none) ∧
    (x.lost = false → exec (.laneRetrainTimeout l) s = .next s) ∧
    (x.lost = true → (s.hw.isEth = false ∨ 4 ≤ l) → x.state ≠ .active → x.state ≠ .test → x.lostAt + 800000000 ≤ s.hw.ticks → ∃ u,
      exec (.laneRetrainTimeout l) s = .next u ∧ (u.hw.lane l).state = .detect ∧ (u.hw.lane l).rate = 0 ∧
      (u.hw.lane l).attempts = x.attempts + 1 ∧ (u.hw.lane l).lost = true) ∧
    (∀ n e, s.hw.lnk.testOn = false ∨ s.hw.ticks < s.hw.lnk.testEnd → exec (.laneTestEnd l n e) s = .next s) ∧
    (∀ n e, s.hw.lnk.testOn = true → s.hw.lnk.testLane = l → s.hw.lnk.testEnd ≤ s.hw.ticks → s.hw.lnk.testCode / 16 ≠ 3 →
      (s.hw.isEth = false ∨ 4 ≤ l) → ∃ u, exec (.laneTestEnd l n e) s = .next u ∧ u.hw.lnk.testOn = false ∧
      u.hw.lnk.testBits = n % 2 ^ 64 ∧ u.hw.lnk.testErrs = e % 2 ^ 64 ∧ u.hw.lnk.testLock = true ∧ (u.hw.lane l).state = .detect) ∧
    (∀ n e, s.hw.lnk.testOn = true → s.hw.lnk.testLane = l → s.hw.lnk.testEnd ≤ s.hw.ticks → s.hw.lnk.testCode / 16 = 3 →
      ∃ u, exec (.laneTestEnd l n e) s = .next u ∧ u.hw.lnk.testOn = false ∧ u.hw.lnk.testErrs = 0 ∧ u.hw.lnk.testLock = false) ∧
    (∀ v : Word, s.hw.dev.mode = .config ∨ s.hw.dev.mode = .scan → exec (.lnkInjectGo v) s =
      .next { s with hw := { s.hw with ack := 0x03, ackData := le 1 s.hw.dev.mode.code } }) ∧
    (∀ v : Word, s.hw.dev.mode = .service → ∃ u, exec (.lnkInjectGo v) s = .next u ∧ u.cmd = s.cmd ∧ u.hw.ack = 0 ∧
      u.hw.reg 0x00680114 = v.toNat &&& 0x0703F0FF ∧
      u.hw.lnk.injEnd = s.hw.ticks + sfTicks (s.hw.lane (bits v.toNat 24 3)).rate (max 1 (bits v.toNat 0 8)))

/-- ARP, ICMP and PTP: what arrives is answered or remembered, what is due is sent, an unresolved destination is reported (R137, R139, R234,
R235). -/
def Obligations.NetworkRowsTakeEffect : Prop :=
  ∀ s : State, s.hw.outbox = [] → s.hw.awake 10 = true →
    (∀ ip x m, s.hw.isEth = false ∨ ip.toNat ≠ s.hw.out.netAddr → exec (.arpRequest ⟨ip, x, m⟩) s = .next s) ∧
    (∀ ip x m, s.hw.isEth = true → ip.toNat = s.hw.out.netAddr → ∃ u, exec (.arpRequest ⟨ip, x, m⟩) s = .next u ∧ u.cmd = s.cmd ∧
      u.hw.out.ethOut = s.hw.out.ethOut ++ [(0, .arp x.toNat (m % 2 ^ 48))] ∧ (u.hw.arpOf x).bind (·.mac) = some (m % 2 ^ 48)) ∧
    (∀ ip d, s.hw.isEth = false → exec (.icmpEcho ip d) s = .next s) ∧
    (∀ ip d, s.hw.isEth = true → exec (.icmpEcho ip d) s =
      .next { s with hw := { s.hw with out := { s.hw.out with ethOut := s.hw.out.ethOut ++ [(0, .echo ip.toNat d)] } } }) ∧
    (∀ ip m, ∃ u, exec (.arpReply ip m) s = .next u ∧ u.cmd = s.cmd ∧ u.hw.out.arp.length = s.hw.out.arp.length ∧ u.hw.evt = s.hw.evt ∧
      ∀ a, s.hw.arpOf ip = some a → u.hw.arpOf ip = some { a with mac := some (m % 2 ^ 48), since := s.hw.ticks, faulted := false }) ∧
    (∀ ip, s.hw.arpOf ip = none → exec (.arpRetry ip) s = .next s ∧ exec (.arpCacheExpiry ip) s = .next s ∧
      exec (.destUnresolvedTimeout ip) s = .next s) ∧
    (∀ ip a, s.hw.arpOf ip = some a →
      (a.mac ≠ none ∨ s.hw.ticks < a.asked + 80000000 → exec (.arpRetry ip) s = .next s) ∧
      (a.mac = none → a.asked + 80000000 ≤ s.hw.ticks → ∃ u, exec (.arpRetry ip) s = .next u ∧ u.cmd = s.cmd ∧
        u.hw.arpOf ip = some { a with asked := s.hw.ticks } ∧ u.hw.out.ethOut = s.hw.out.ethOut ++ [(a.port, .ask ip.toNat)]) ∧
      (a.mac = none ∨ s.hw.ticks < a.since + 48000000000 → exec (.arpCacheExpiry ip) s = .next s) ∧
      (a.mac ≠ none → a.since + 48000000000 ≤ s.hw.ticks → ∃ u, exec (.arpCacheExpiry ip) s = .next u ∧ u.cmd = s.cmd ∧
        u.hw.arpOf ip = none ∧ ∀ ip', ip' ≠ ip → u.hw.arpOf ip' = s.hw.arpOf ip') ∧
      (a.mac ≠ none ∨ a.faulted = true ∨ s.hw.ticks < a.since + 800000000 → exec (.destUnresolvedTimeout ip) s = .next s) ∧
      (a.mac = none → a.faulted = false → a.since + 800000000 ≤ s.hw.ticks → s.hw.evt.table.length < 1024 → ∃ u,
        exec (.destUnresolvedTimeout ip) s = .next u ∧ u.hw.isRaised (fid srcOut 1 3) = true ∧
        u.hw.arpOf ip = some { a with faulted := true })) ∧
    (∀ k o r, s.hw.out.ptp = 0 ∨ s.hw.isEth = false → exec (.ptpMessage k o r) s = .next s) ∧
    (s.hw.out.ptp ≠ 0 → s.hw.isEth = true →
      (∀ o r, exec (.ptpMessage 0 o r) s = .next { s with hw := { s.hw with out := { s.hw.out with ptpSeen := true } } }) ∧
      (∀ k o r, k ≠ 0 → s.hw.out.ptp = 1 → exec (.ptpMessage k o r) s =
        .next { s with hw := { s.hw with out := { s.hw.out with ptpSeen := true, ptpOfs := 64 * o } } }) ∧
      (∀ k o r, k ≠ 0 → s.hw.out.ptp = 2 → s.hw.dev.mode = .config → s.hw.dev.sched = none → 80 ≤ (64 * o).natAbs →
          ∃ u, exec (.ptpMessage k o r) s = .next u ∧
        u.hw.clk.time = BitVec.ofInt 64 ((s.hw.clk.time.toNat : Int) - Int.tdiv (64 * o) 80) ∧
        u.hw.out.ptpOfs = 64 * o - 80 * Int.tdiv (64 * o) 80) ∧
      (∀ k o r, k ≠ 0 → s.hw.out.ptp = 2 → s.hw.dev.mode ≠ .config ∨ (64 * o).natAbs < 80 → ∃ u, exec (.ptpMessage k o r) s = .next u ∧
        u.cmd = s.cmd ∧ u.hw.clk = (s.hw.discipline (64 * o)).clk ∧ u.hw.out.ptpOfs = 64 * o)) ∧
    (s.hw.out.ptpLost = none → (s.hw.out.ptp ≠ 2 ∨ s.hw.out.ptpLocked = false → exec .ptpLockLost s = .next s) ∧
      (s.hw.out.ptp = 2 → s.hw.out.ptpLocked = true → exec .ptpLockLost s = .next { s with hw := { s.hw with out := { s.hw.out with
        ptpLocked := false, ptpRun := 0, ptpLost := some s.hw.ticks } } })) ∧
    (∀ t, s.hw.out.ptpLost = some t → s.hw.out.ptp ≠ 2 ∨ s.hw.ticks < t + 1600000000 → exec .ptpLockLost s = .next s) ∧
    (∀ t, s.hw.out.ptpLost = some t → s.hw.out.ptp = 2 → t + 1600000000 ≤ s.hw.ticks → s.hw.evt.table.length < 1024 → ∃ u,
      exec .ptpLockLost s = .next u ∧ u.hw.isRaised (fid srcOut 1 4) = true ∧ u.hw.out.ptpLost = none ∧ u.hw.out.ptpLocked = false)

/-- CAS_TIME frames on a secondary; discovery, delays, forwarding, absence and frames sent on a primary (R269, R270, R271, R272, R274, R275, R278,
R279, R280). -/
def Obligations.CascadeRowsTakeEffect : Prop :=
  ∀ s : State, s.hw.outbox = [] →
    (s.hw.isSecondary = false → exec .casTimeSilence s = .next s ∧ (∀ t c, exec (.casTimeFrame t c) s = .next s) ∧
      (∀ a g r t, exec (.casAngleFrame a g r t) s = .next s) ∧ (∀ f t, exec (.casFrameFrame f t) s = .next s) ∧
      (∀ m t, exec (.casModeFrame m t) s = .next s) ∧ (∀ i c, exec (.casInhibitFrame i c) s = .next s) ∧
      (∀ i, exec (.casEchoFrame i) s = .next s)) ∧
    (s.hw.isSecondary = true → s.hw.awake 6 = true → s.hw.awake 11 = true → exec .casTimeSend s = .next s ∧
        (∀ l i d f t, exec (.discoveryPacket l i d f t) s = .next s) ∧
      (∀ i r, exec (.echoMeasure i r) s = .next s) ∧ (∀ i p, exec (.cascadeForward i p) s = .next s) ∧
      (∀ i, exec (.secondaryAbsent i) s = .next s) ∧
      (∀ t, exec (.casTimeFrame t false) s = .next { s with hw := s.hw.stick 0x00A0000C 1 }) ∧
      (∀ t : U64, s.hw.cas.timeSet = false → s.hw.clk.refLock = true → s.hw.clk.xtalOk = true → ∃ u, exec (.casTimeFrame t true) s = .next u ∧
          u.cmd = s.cmd ∧
        u.hw.clk = { s.hw.clk with time := BitVec.ofInt 64 (t.toNat + s.hw.myDelay), timeValid := true } ∧ u.hw.cas = { s.hw.cas with
          timeSet := true, timeOk := true, lastFrame := s.hw.ticks, silent := false }) ∧
      (∀ t : U64, s.hw.cas.timeSet = true → ((s.hw.clk.time.toNat : Int) - (t.toNat + s.hw.myDelay)).natAbs ≤ 2 →
        exec (.casTimeFrame t true) s = .next { s with hw := { s.hw with
          cas := { s.hw.cas with timeOk := true, lastFrame := s.hw.ticks, silent := false } } }) ∧
      (∀ t : U64, s.hw.cas.timeSet = true → s.hw.dev.mode = .config → 2 < ((s.hw.clk.time.toNat : Int) - (t.toNat + s.hw.myDelay)).natAbs → ∃ u,
        exec (.casTimeFrame t true) s = .next u ∧ u.hw.clk.time = BitVec.ofInt 64 (t.toNat + s.hw.myDelay) ∧ u.hw.cas.lastFrame = s.hw.ticks) ∧
      (∀ a g r (t : U64), a < 4 → ∃ u, exec (.casAngleFrame a g r t) s = .next u ∧ u.cmd = s.cmd ∧ u.hw.clk = s.hw.clk ∧
        mget none u.hw.preds a = some (g, r, ((s.hw.ticks : Int) - (t.toNat % 1024 : Nat) - s.hw.myDelay).toNat)) ∧
      (∀ f t, exec (.casFrameFrame f t) s = .next { s with hw := { s.hw with cas := { s.hw.cas with
        lastFrame := s.hw.ticks, silent := false, nextFrame := some (f.toNat, t.toNat % 2 ^ 32) } } }) ∧
      (∀ m t, exec (.casModeFrame m t) s = .next { s with hw := { s.hw with cas := { s.hw.cas with
        lastFrame := s.hw.ticks, silent := false, modeAt := some (m % 8, t.toNat) } } }) ∧
      (∀ i c, i < 4 → i ≠ s.hw.cas.index → s.hw.dev.mode = .scan → ∃ u, exec (.casInhibitFrame i c) s = .next u ∧ u.hw.dev.mode = .config) ∧
      (exec (.casEchoFrame s.hw.cas.index) s = .next { s with hw := { s.hw with cas := { s.hw.cas with
        lastFrame := s.hw.ticks, silent := false, edgeAt := some (s.hw.ticks + 256) } } }) ∧
      (s.hw.cas.timeSet = false ∨ s.hw.cas.silent = true ∨ s.hw.ticks < s.hw.cas.lastFrame + 16000 → exec .casTimeSilence s = .next s) ∧
      (s.hw.cas.timeSet = true → s.hw.cas.silent = false → s.hw.cas.lastFrame + 16000 ≤ s.hw.ticks → s.hw.evt.table.length < 1024 →
        s.hw.dev.mode = .config → ∃ u, exec .casTimeSilence s = .next u ∧ u.hw.isRaised (fid srcCas 3 3) = true ∧ u.hw.cas.timeOk = false)) ∧
    (s.hw.isSecondary = false → s.hw.awake 6 = true → s.hw.awake 11 = true →
      (s.hw.cas.found = false ∨ s.hw.ticks < s.hw.cas.sendAt → exec .casTimeSend s = .next s) ∧
      (s.hw.cas.found = true → s.hw.cas.sendAt ≤ s.hw.ticks → ∃ u, exec .casTimeSend s = .next u ∧ u.cmd = s.cmd ∧
        u.hw.cas.sendAt = s.hw.ticks + 8000 ∧ ∃ f ∈ u.hw.cas.outFrames, f.kind = 1) ∧
      (∀ i, 1 ≤ i → i ≤ 3 → s.hw.dev.mode = .boot →
        (∀ d f t : U32, d.toNat = s.hw.identWord → f.toNat = s.hw.fwRunning → ∃ u, exec (.discoveryPacket (i + 3) i d f t) s = .next u ∧
          u.cmd = s.cmd ∧ u.hw.cas.found = true ∧ u.hw.secd i = { s.hw.secd i with admitted := true, excluded := false, absent := false }) ∧
        (∀ j (d f t : U32), j ≠ i ∨ d.toNat ≠ s.hw.identWord ∨ f.toNat ≠ s.hw.fwRunning → s.hw.evt.table.length < 1024 → ∃ u,
          exec (.discoveryPacket (i + 3) j d f t) s = .next u ∧ (u.hw.secd i).admitted = false ∧ (u.hw.secd i).excluded = true ∧
          u.hw.isRaised (fid srcCas 2 1) = true)) ∧
      (∀ i r, 1 ≤ i → i ≤ 3 → (s.hw.secd i).admitted = true → (s.hw.secd i).absent = false →
        (r = none ∨ ∃ t, r = some t ∧ (echoDelay t < 0 ∨ 5120 < echoDelay t)) → s.hw.evt.table.length < 1024 → ∃ u,
          exec (.echoMeasure i r) s = .next u ∧ (u.hw.secd i).excluded = true ∧ u.hw.isRaised (fid srcCas 2 1) = true) ∧
      (∀ i t, 1 ≤ i → i ≤ 3 → (s.hw.secd i).admitted = true → (s.hw.secd i).absent = false → 0 ≤ echoDelay t → echoDelay t ≤ 5120 →
        (s.hw.dev.mode = .boot → s.hw.dev.startCause = 0 → (s.hw.secd i).echoes.length = 15 → ∃ u, exec (.echoMeasure i (some t)) s = .next u ∧
          u.cmd = s.cmd ∧ u.hw.secd i = { s.hw.secd i with echoes := [], drift := 0, delay := (roundOpen 1203
            (((echoDelay t :: (s.hw.secd i).echoes).foldl (fun a b => a + b) 0 : Int) / (16 : Rat))).toNat }) ∧
        (s.hw.dev.mode = .boot → s.hw.dev.startCause = 0 → (s.hw.secd i).echoes.length < 15 → ∃ u, exec (.echoMeasure i (some t)) s = .next u ∧
            u.cmd = s.cmd ∧
          u.hw.secd i = { s.hw.secd i with echoes := echoDelay t :: (s.hw.secd i).echoes }) ∧
        (s.hw.dev.mode = .config → (s.hw.secd i).rejoin = false → ∃ u, exec (.echoMeasure i (some t)) s = .next u ∧
          u.hw.secd i = { s.hw.secd i with drift := echoDelay t - (s.hw.secd i).delay })) ∧
      (∀ i p, s.hw.serves i = true → 2 ≤ p.kind → p.kind ≤ 4 → exec (.cascadeForward i p) s = .next (s.hwStep (cascadeStream i p))) ∧
      (∀ i p, s.hw.serves i = true → p.kind = 0 → p.opcode.toNat < 0xE0 →
        exec (.cascadeForward i p) s = .next { s with hw := s.hw.countForward i, cmd := s.cmd.replyFrom i p }) ∧
      (∀ i p, s.hw.serves i = true → p.kind = 0 → 0xE0 ≤ p.opcode.toNat → exec (.cascadeForward i p) s =
        .next (({ s with cmd := s.cmd.eventFrom i p } : State).hwStep (fun hw =>
          (hw.countForward i).stopOf i (if p.opcode.toNat < 0xE2 then recordsOf p.bytes else [])))) ∧
      (∀ i p, s.hw.serves i = false → exec (.cascadeForward i p) s = .next s) ∧
      (∀ i p, s.hw.serves i = true → p.kind = 1 →
        let l := mget 0 s.hw.out.routes (4 * i + field p.bytes 13 1 % 4)
        (s.hw.laneFill l + p.bytes.length ≤ 262144 → ∃ u, exec (.cascadeForward i p) s = .next u ∧ u.cmd = s.cmd ∧
          mget [] u.hw.out.fwd l = mget [] s.hw.out.fwd l ++ [(i, p)]) ∧
        (262144 < s.hw.laneFill l + p.bytes.length → s.hw.evt.table.length < 1024 → ∃ u, exec (.cascadeForward i p) s = .next u ∧
          u.hw.out.fwd = s.hw.out.fwd ∧ u.hw.out.fwdFault = true ∧
          u.hw.reg (0x00A00040 + 4 * i) = satAdd 0xFFFFFFFF (s.hw.reg (0x00A00040 + 4 * i)) (field p.bytes 14 2))) ∧
      (∀ i, (s.hw.secd i).lostAt = none ∨ (s.hw.secd i).absent = true ∨ (s.hw.lane (3 + i)).state = .active →
        exec (.secondaryAbsent i) s = .next s) ∧
      (∀ i t, 1 ≤ i → i ≤ 3 → (s.hw.secd i).lostAt = some t → (s.hw.secd i).admitted = true → (s.hw.secd i).absent = false →
        t + 800000000 ≤ s.hw.ticks → (s.hw.lane (3 + i)).state ≠ .active → s.hw.evt.table.length < 1024 → ∃ u,
          exec (.secondaryAbsent i) s = .next u ∧ (u.hw.secd i).absent = true ∧ u.hw.isRaised (fid srcCas 2 4) = true))

/-- The six camera opcodes do what their rows say (R47, R341, R344, R345, R347, R348, R349, R350). -/
def Obligations.CameraCommandsAreServed : Prop :=
  ∀ (s : State) (h : Hdr) (x : Session),
    (∀ (p l f : U8) (w g : U16) (r : U32), s.Takes (.camConfig h p l f w g r) h x →
      (1 < p.toNat → s.Served (.camConfig h p l f w g r) h x s.accepted (ansBad 16)) ∧
      (p.toNat ≤ 1 → (s.hw.port p.toNat).en = true → s.Served (.camConfig h p l f w g r) h x s.accepted ansBusy) ∧
      (p.toNat ≤ 1 → (s.hw.port p.toNat).en = false → ∀ o, badCam l.toNat f.toNat w.toNat g.toNat r.toNat = some o →
        s.Served (.camConfig h p l f w g r) h x s.accepted (ansBad o)) ∧
      (p.toNat ≤ 1 → (s.hw.port p.toNat).en = false → badCam l.toNat f.toNat w.toNat g.toNat r.toNat = none →
        s.Served (.camConfig h p l f w g r) h x (s.accepted.setPort p.toNat { s.hw.port p.toNat with
          lanes := l.toNat, format := f.toNat, width := w.toNat, height := g.toNat, rate := r.toNat }) (ansOk []))) ∧
    (∀ p : U8, p.toNat ≤ 1 → (s.hw.port p.toNat).state ≠ .offline →
      (s.Takes (.camEnable h p 1) h x → (s.hw.port p.toNat).en = true → s.Served (.camEnable h p 1) h x s.accepted (ansOk [])) ∧
      (s.Takes (.camEnable h p 1) h x → (s.hw.port p.toNat).en = false → s.Served (.camEnable h p 1) h x
        (s.accepted.setPort p.toNat { s.hw.port p.toNat with en := true, state := .waiting, quietAt := s.hw.ticks }) (ansOk [])) ∧
      (s.Takes (.camEnable h p 0) h x → ∃ t, exec (.camEnable h p 0) s = .next t ∧ t.hw.port p.toNat = { s.hw.port p.toNat with
        en := false, state := .disabled, inFrame := false, lines := [], received := 0, front := none, back := false } ∧
        (t.cmd.out h.tr).getLast? = some (s.hw.replyTo 0x91 h (ansOk [])))) ∧
    (∀ (p a d : U8) (b : List Byte) (k : Bool) (v : List Byte), p.toNat ≤ 1 → s.Takes (.cciXfer h p a d 0 b k v) h x →
      ((s.hw.port p.toNat).queue.length = 16 → s.Served (.cciXfer h p a d 0 b k v) h x s.accepted ansBusy) ∧
      ((s.hw.port p.toNat).queue.length < 16 → d.toNat ≤ 3 → s.Served (.cciXfer h p a d 0 b k v) h x
        (s.accepted.setPort p.toNat { s.hw.port p.toNat with queue := (s.hw.port p.toNat).queue ++
          [{ addr := a.toNat, bytes := b, delay := d.toNat, frame := ((s.hw.port p.toNat).frame + 1 + d.toNat) % 2 ^ 32 }] })
        (ansOk (le 4 (((s.hw.port p.toNat).frame + 1 + d.toNat) % 2 ^ 32))))) ∧
    (∀ (p a n : U8) (b : List Byte) (v : List Byte), p.toNat ≤ 1 → 1 ≤ n.toNat → n.toNat ≤ 32 →
      (s.Takes (.cciXfer h p a 0 n b false v) h x → s.Served (.cciXfer h p a 0 n b false v) h x s.accepted (ansPre 0x0901)) ∧
      (s.Takes (.cciXfer h p a 0 n b true v) h x → bits (s.hw.glzP p.toNat 0x1078) 0 2 = 0 → 8 < b.length + n.toNat →
        s.Served (.cciXfer h p a 0 n b true v) h x s.accepted { status := 0x07 }) ∧
      (s.Takes (.cciXfer h p a 0 n b true v) h x → bits (s.hw.glzP p.toNat 0x1078) 0 2 = 0 → b.length + n.toNat ≤ 8 →
        s.Served (.cciXfer h p a 0 n b true v) h x s.accepted (ansOk (bytesAt v 0 n.toNat ++ le 4 (s.hw.port p.toNat).frame)))) ∧
    (∀ p k : U8, s.Takes (.camStats h p k) h x → p.toNat ≤ 1 → k.toNat ≤ 3 → let y := (s.hw.port p.toNat).stats
      s.Served (.camStats h p k) h x s.accepted (ansOk (le 4 y.frame ++ le 2 y.settings ++ y.part k.toNat))) ∧
    (∀ (p : U8) (b : List Byte), s.Takes (.camMeshLoad h ⟨0, 0, 3072⟩ p b) h x → p.toNat ≤ 1 → b.length = 3072 →
      s.cmd.held [srcGlz p.toNat] = false → s.cmd.liveOps < 4 → s.Begins (.camMeshLoad h ⟨0, 0, 3072⟩ p b) h x
        { s.accepted with free := s.hw.free + 2 }
        { stepOp 0x94 [srcGlz p.toNat] [p.toNat] with state := 1, bytes := b, total := 3072 }) ∧
    (∀ (n : U32) (p : U8) (b : List Byte), s.Takes (.camMeshLoad h ⟨0, 0, n⟩ p b) h x → n ≠ 3072 → b.length ≤ n.toNat →
      s.cmd.held [srcGlz (p.toNat % 2)] = false → s.cmd.liveOps < 4 → s.Served (.camMeshLoad h ⟨0, 0, n⟩ p b) h x s.accepted (ansBad 24)) ∧
    (∀ p : U8, s.Takes (.camStatus h p) h x → p.toNat ≤ 1 → s.Served (.camStatus h p) h x s.accepted
      (ansOk (le 4 (s.hw.port p.toNat).frame ++ le 4 (s.hw.glzP p.toNat 0x1060) ++ le 4 (s.hw.glzP p.toNat 0x1064) ++
        le 1 (s.hw.port p.toNat).state.code)))

/-- Frames, lines, CCI writes, parity errors and the two register writes of a camera port do what their rules say (R342, R343, R344, R348, R350,
R354, R355). -/
def Obligations.CameraRowsTakeEffect : Prop :=
  ∀ s : State, s.hw.outbox = [] → ∀ p, p < 2 → let x := s.hw.port p
    (x.en = false → exec (.csiFrameStart p) s = .next s) ∧
    (s.hw.awake 13 = true →
    (x.en = true → x.state ≠ .offline → ∃ u, exec (.csiFrameStart p) s = .next u ∧ (u.hw.port p).frame = (x.frame + 1) % 2 ^ 32 ∧
      (u.hw.port p).sof = s.hw.clk.time ∧ (u.hw.port p).inFrame = true ∧ (u.hw.port p).lines = [] ∧ (u.hw.port p).state = .streaming ∧
      (x.inFrame = true → (u.hw.port p).stats = s.hw.buildStats p ∧
        (u.hw.port p).front = if x.received < x.height then none else some (s.hw.buildMap p))) ∧
    (x.en = true → x.state ≠ .offline → x.inFrame = false → x.pendingSet = [] → x.queue ≠ [] ∨ x.staged = none →
      exec (.csiFrameStart p) s = .next { s with hw := s.hw.setPort p { x with
        frame := (x.frame + 1) % 2 ^ 32, sof := s.hw.clk.time, sofTick := s.hw.ticks, quietAt := s.hw.ticks, inFrame := true
        lines := [], received := 0, back := true, state := .streaming } }) ∧
    (x.en = true → x.state ≠ .offline → x.inFrame = false → x.pendingSet = [] → x.queue = [] → ∀ n, x.staged = some n → ∃ u,
      exec (.csiFrameStart p) s = .next u ∧ u.cmd = s.cmd ∧ (u.hw.port p).expOfs = n ∧ (u.hw.port p).staged = none ∧
      (u.hw.port p).frame = (x.frame + 1) % 2 ^ 32) ∧
    (∀ l k, x.inFrame = false → exec (.csiLine p l k) s = .next s) ∧
    (∀ l, x.inFrame = true → l.length = x.width → x.received < x.height → exec (.csiLine p l true) s = .next { s with
      hw := s.hw.setPort p { x with received := x.received + 1
                                    lines := x.lines ++ [(s.hw.clk.time, l.map (· % 2 ^ bppOf x.format))] } }) ∧
    (∀ l, x.inFrame = true → l.length = x.width → x.height ≤ x.received → exec (.csiLine p l true) s = .next { s with
      hw := s.hw.setPort p { x with received := x.received + 1 } }) ∧
    (∀ l k, x.inFrame = true → k = false ∨ l.length ≠ x.width → ∃ u, exec (.csiLine p l k) s = .next u ∧ u.cmd = s.cmd ∧
      u.hw.glz = s.hw.glz ∧ bits (u.hw.glzP p 0x106C) 0 16 = min 0xFFFF (bits (s.hw.glzP p 0x106C) 0 16 + 1) ∧
      bits (u.hw.glzP p 0x106C) 16 16 = bits (s.hw.glzP p 0x106C) 16 16) ∧
    (x.inFrame = false → exec (.csiFrameEnd p) s = .next s ∧ exec (.csiFrameTimeout p) s = .next s) ∧
    (x.inFrame = true → x.received = x.height → let done : State := { s with hw := s.hw.setPort p { x with
        inFrame := false, lines := [], received := 0, front := some (s.hw.buildMap p), back := false, stats := s.hw.buildStats p
        lateBlank := false } }
      exec (.csiFrameEnd p) s = .next done ∧
      exec (.csiFrameTimeout p) s = .next (if x.sofTick + 2 * x.period ≤ s.hw.ticks then done else s)) ∧
    (x.inFrame = true → x.received < x.height → ∃ u, exec (.csiFrameEnd p) s = .next u ∧ (u.hw.port p).front = none ∧
      (u.hw.port p).stats = s.hw.buildStats p ∧ u.hw.glzP p 0x1060 = satAdd 0xFFFFFFFF (s.hw.glzP p 0x1060) 1 ∧
      u.hw.glzP p 0x1068 = x.frame % 2 ^ 32 ∧ u.hw.glzP p 0x1064 = s.hw.glzP p 0x1064) ∧
    (x.inFrame = true → x.height < x.received → ∃ u, exec (.csiFrameEnd p) s = .next u ∧ (u.hw.port p).front = some (s.hw.buildMap p) ∧
      (u.hw.port p).stats = s.hw.buildStats p ∧ u.hw.glzP p 0x1064 = satAdd 0xFFFFFFFF (s.hw.glzP p 0x1064) 1 ∧
      u.hw.glzP p 0x1068 = x.frame % 2 ^ 32 ∧ u.hw.glzP p 0x1060 = s.hw.glzP p 0x1060) ∧
    (x.en = false ∨ x.state = .noSignal ∨ s.hw.ticks < x.quietAt + 4 * x.period → exec (.camNoSignal p) s = .next s) ∧
    (x.en = true → x.state = .streaming ∨ x.state = .waiting → x.quietAt + 4 * x.period ≤ s.hw.ticks → s.hw.evt.table.length < 1024 → ∃ u,
      exec (.camNoSignal p) s = .next u ∧ u.hw.port p = { x with state := .noSignal } ∧ u.hw.isRaised (fid (srcGlz p) 1 1) = true) ∧
    (∀ a l, x.queue = [] → exec (.cciWriteIssue p a l) s = .next s) ∧
    (∀ w r l, x.queue = w :: r → x.state = .streaming → x.inFrame = false ∨ l = true → ∃ u, exec (.cciWriteIssue p true l) s = .next u ∧
      (u.hw.port p).queue = r ∧ (u.hw.port p).settings = (x.settings + 1) % 65536 ∧ (u.hw.port p).lateBlank = (l || x.lateBlank)) ∧
    (∀ w r, x.queue = w :: r → x.state ≠ .streaming ∨ (x.inFrame = false ∧ x.lateBlank = false) →
        exec (.cciWriteIssue p true false) s = .next { s with hw := s.hw.setPort p { x with
      queue := r, settings := (x.settings + 1) % 65536, staged := none, lateBlank := false
      pendingSet := x.pendingSet ++ [((x.settings + 1) % 65536, x.frame + 1 + w.delay, x.staged)] } }) ∧
    (∀ w r l, x.queue = w :: r → x.state ≠ .streaming ∨ x.inFrame = false → s.hw.evt.table.length < 1024 →
        ∃ u, exec (.cciWriteIssue p false l) s = .next u ∧
      u.hw.port p = { x with queue := r } ∧ u.hw.isRaised (fid (srcGlz p) 1 3) = true) ∧
    (∀ b, s.hw.evt.table.length < 1024 → ∃ u, exec (.glzMapParity p b) s = .next u ∧ u.hw.isRaised (fid (srcGlz p) 2 4) = true ∧
      u.hw.port p = (if b = 0 then { x with front := none } else { x with back := false }))) ∧
    (∀ v : Word, s.hw.dev.mode = .guard → ∀ a, a = 0x1010 ∨ a = 0x103C →
      exec (if a = 0x1010 then .glzPMapWrite p v else .glzPExpofsWrite p v) s =
        .next { s with hw := { s.hw with ack := 0x0A, ackData := le 4 (glzReg p a) } }) ∧
    (∀ v : Word, s.hw.dev.mode ≠ .guard →
      (∃ u, exec (.glzPExpofsWrite p v) s = .next u ∧ u.cmd = s.cmd ∧ u.hw.glzP p 0x103C = v.toNat % 2 ^ 24 ∧ u.hw.ack = 0 ∧
        u.hw.port p = { x with staged := some (v.toNat % 2 ^ 24) }) ∧
      (bits v.toNat 0 11 = 0 ∨ 1280 < bits v.toNat 0 11 ∨ bits v.toNat 16 11 = 0 ∨ 960 < bits v.toNat 16 11 →
        exec (.glzPMapWrite p v) s = .next { s with hw := { s.hw with ack := 0x05, ackData := [] } }) ∧
      (1 ≤ bits v.toNat 0 11 → bits v.toNat 0 11 ≤ 1280 → 1 ≤ bits v.toNat 16 11 → bits v.toNat 16 11 ≤ 960 → ∃ u,
        exec (.glzPMapWrite p v) s = .next u ∧ u.cmd = s.cmd ∧ u.hw.ack = 0 ∧ u.hw.glzP p 0x1010 = v.toNat &&& 0x07FF07FF ∧
        (v.toNat &&& 0x07FF07FF ≠ s.hw.glzP p 0x1010 → u.hw.port p = { x with front := none, back := false }) ∧
        (v.toNat &&& 0x07FF07FF = s.hw.glzP p 0x1010 → u.hw.port p = x)))

/-- The eight protection opcodes and the end of SAFE_ACK's self-test do what their rows say (R42, R60, R377, R392, R395, R400, R405). -/
def Obligations.GuardCommandsAreServed : Prop :=
  ∀ (s : State) (h : Hdr) (x : Session),
    (∀ (n : U32) (k : U8) (d : List Byte), s.Takes (.guardMapLoad h ⟨0, 0, n⟩ k d) h x → d.length ≤ n.toNat → s.cmd.held [srcKpr 0] = false →
      s.cmd.liveOps < 4 →
      (k.toNat ≤ 7 → s.Begins (.guardMapLoad h ⟨0, 0, n⟩ k d) h x { s.accepted with free := s.hw.free + 2 }
        { stepOp 0x70 [srcKpr 0] [k.toNat] with state := if d.length = n.toNat then 1 else 0, bytes := d, total := n.toNat }) ∧
      (7 < k.toNat → s.Served (.guardMapLoad h ⟨0, 0, n⟩ k d) h x s.accepted (ansBad 28))) ∧
    (∀ (k : U8) (o : U32), s.Takes (.guardMapRead h k o) h x →
      (7 < k.toNat → s.Served (.guardMapRead h k o) h x s.accepted (ansBad 16)) ∧
      (k.toNat ≤ 7 → (s.hw.kpr.map k.toNat).length < o.toNat → s.Served (.guardMapRead h k o) h x s.accepted (ansBad 17)) ∧
      (k.toNat ≤ 7 → o.toNat ≤ (s.hw.kpr.map k.toNat).length → s.Served (.guardMapRead h k o) h x s.accepted
        (ansOk (le 4 (s.hw.kpr.setCrc k.toNat) ++ ((s.hw.kpr.map k.toNat).drop o.toNat).take (payloadLimit h.tr - 4))))) ∧
    (∀ c : U32, s.Takes (.guardLeave h c) h x →
      (c.toNat ≠ s.hw.guardCrc → s.Served (.guardLeave h c) h x s.accepted (ansPre 0x0010)) ∧
      (c.toNat = s.hw.guardCrc → ∃ t, exec (.guardLeave h c) s = .next t ∧ t.hw.dev.mode = .config ∧ t.hw.kpr.lines = 0 ∧
        t.hw.kpr.frozen = 0 ∧ t.hw.bel.running = false ∧ t.hw.bcn.inhibited = true ∧
        (t.cmd.out h.tr).getLast? = some (s.hw.replyTo 0x72 h (ansOk [])))) ∧
    (∀ c : U16, s.Takes (.safeAck h c) h x →
      (s.hw.latchedBy c.toNat = none → s.Served (.safeAck h c) h x s.accepted (ansBad 16)) ∧
      (∀ f, s.hw.latchedBy c.toNat = some f → f.code % 1024 ≠ 10 → s.hw.kprCause f = true →
        s.Served (.safeAck h c) h x s.accepted (ansPre 0x0702)) ∧
      (∀ f, s.hw.latchedBy c.toNat = some f → f.code % 1024 = 10 ∨ s.hw.kprCause f = false → ∃ t y p, exec (.safeAck h c) s = .next t ∧
        t.hw = { s.accepted with kpr := { s.hw.kpr with safeSince := false } } ∧ t.cmd.session h.tr = some y ∧ y.wait = some (.safeAck c.toNat, p) ∧
            t.cmd.out h.tr = s.cmd.out h.tr)) ∧
    (s.Takes (.keeperStatus h) h x → s.Served (.keeperStatus h) h x s.accepted (ansOk s.hw.keeperStatus)) ∧
    (s.Takes (.bellStatus h) h x → s.Served (.bellStatus h) h x s.accepted (ansOk s.hw.bellStatus)) ∧
    (s.Takes (.safetyConfig h) h x → s.Served (.safetyConfig h) h x s.accepted (ansOk s.hw.safetyConfig)) ∧
    (∀ (c e : U32) (w : U8), s.Takes (.bellConfig h c e w) h x → s.hw.inCascade = false →
      (∀ o, s.hw.bellBad e.toNat w.toNat = some o → s.Served (.bellConfig h c e w) h x s.accepted (ansBad (16 + o))) ∧
      (s.hw.bellBad e.toNat w.toNat = none → ∃ t, exec (.bellConfig h c e w) s = .next t ∧ t.hw.reg 0x00890004 = c.toNat ∧
        t.hw.reg 0x00890008 = e.toNat ∧ bits (t.hw.reg 0x00890000) 0 1 = w.toNat ∧
        bits (t.hw.reg 0x00890000) 8 8 = bits (s.hw.reg 0x00890000) 8 8 ∧
            t.hw.bel = { s.hw.bel with src := if h.tr = .eth then x.peer else s.hw.bel.src } ∧
        (t.cmd.out h.tr).getLast? = some (s.hw.replyTo 0x75 h (ansOk [])))) ∧
    (∀ a b, (∀ t y, s.cmd.session t = some y → ∀ c p, y.wait ≠ some (.safeAck c, p)) → exec (.safeAckSelftestEnd a b) s = .next s) ∧
    (∀ a b t y c p f, s.hw.outbox = [] → s.cmd.session t = some y → y.wait = some (.safeAck c, p) →
      (∀ t' y', t' ≠ t → s.cmd.session t' = some y' → y'.wait = none) → s.hw.latchedBy c = some f → f.code % 1024 ≠ 10 →
      s.hw.kprCause f = false → s.hw.kpr.safeSince = false → ∃ u z, exec (.safeAckSelftestEnd a b) s = .next u ∧ u.cmd.session t = some z ∧
          z.wait = none ∧
        u.hw.kpr.latched = (if a && b && decide (s.hw.pins.readback = 0) then s.hw.kpr.latched.filter (fun x => decide (x ≠ f))
          else s.hw.kpr.latched) ∧
        (a = true → b = true → s.hw.pins.readback = 0 → s.hw.kpr.latched = [f] → u.hw.kpr.needRestart = 3) ∧
        (∃ q ∈ u.cmd.out t, q.tag = p.tag ∧ q.status = (if a && b && decide (s.hw.pins.readback = 0) then 0x00 else 0x06))) ∧
    (∀ a b t y c p f, s.hw.outbox = [] → s.cmd.session t = some y → y.wait = some (.safeAck c, p) →
      (∀ t' y', t' ≠ t → s.cmd.session t' = some y' → y'.wait = none) → s.hw.latchedBy c = some f → s.hw.kpr.safeSince = true →
      ∃ u z, exec (.safeAckSelftestEnd a b) s = .next u ∧ u.cmd.session t = some z ∧ z.wait = none ∧ u.hw.kpr.latched = s.hw.kpr.latched ∧
        ∃ q ∈ u.cmd.out t, q.tag = p.tag ∧ q.status = 0x06 ∧ q.payload = le 2 0x0702)

/-- The Keepers' samples, searches, tests, field select, restart, EDM, readback and analog inputs do what their rules say (R374, R376, R379, R380,
R381, R382, R383, R384, R385, R388, R389, R390). -/
def Obligations.KeeperRowsTakeEffect : Prop :=
  ∀ s : State, s.hw.outbox = [] →
    (∀ k c, k < 2 → (s.hw.keeper k).inbox = [] → exec (.keeperSample k c) s = .next s) ∧
    (∀ k c r l, k < 2 → (s.hw.keeper k).inbox = r :: l → s.hw.isIS = true → s.hw.awake 15 = true → s.hw.dev.mode ≠ .guard →
      exec (.keeperSample k c) s = .next { s with hw := s.hw.setKeeper k { s.hw.keeper k with inbox := l } }) ∧
    (∀ k c r l n g, k < 2 → (s.hw.keeper k).inbox = r :: l → s.hw.isIS = true → s.hw.awake 15 = true → s.hw.dev.mode = .guard →
        loadedSets s.hw.kpr = [n] →
      cellAt (s.hw.kpr.map n) r.h r.v = some g → g.j < 64 → g.i < 256 → ∃ u, exec (.keeperSample k c) s = .next u ∧
        (u.hw.keeper k).inbox = l ∧ ∀ f < 4, inField (s.hw.kpr.map n) f g = true →
          mget 0 (u.hw.keeper k).counts (guardKey n f g.j g.i) = (if s.hw.sampleValid r c [n] = false ∨ r.rets.any (occupies (s.hw.kpr.map n) g f)
            then min s.hw.kDepth (mget 0 (s.hw.keeper k).counts (guardKey n f g.j g.i) + 1) else 0)) ∧
    (∀ k, k < 2 → (s.hw.keeper k).searches = [] → exec (.clusterSearch k) s = .next s) ∧
    (∀ k n f j i l, k < 2 → s.hw.isIS = true → s.hw.awake 15 = true → (s.hw.keeper k).searches = (n, f, j, i) :: l →
        mapCluster (s.hw.kpr.map n) f = 1 →
      mget 0 (s.hw.keeper k).counts (guardKey n f j i) = s.hw.kDepth → ∃ u, exec (.clusterSearch k) s = .next u ∧
        tb (u.hw.keeper k).violated (4 * n + f) = true ∧ (u.hw.keeper k).searches = l ∧ u.hw.dev = s.hw.dev) ∧
    (∀ k c, k < 2 → s.hw.dev.mode ≠ .guard ∨ s.hw.ticks < mget s.hw.kpr.guardAt (s.hw.keeper k).base c + s.hw.tStale →
      exec (.keeperStale k c) s = .next s) ∧
    (∀ k c n g, k < 2 → s.hw.isIS = true → s.hw.awake 15 = true → s.hw.dev.mode = .guard → loadedSets s.hw.kpr = [n] →
        cellAt (s.hw.kpr.map n) (c % 65536) (c / 65536) = some g →
      g.j < 64 → g.i < 256 → mget s.hw.kpr.guardAt (s.hw.keeper k).base c + s.hw.tStale ≤ s.hw.ticks → ∃ u,
        exec (.keeperStale k c) s = .next u ∧ ∀ f < 4, inField (s.hw.kpr.map n) f g = true →
          mget 0 (u.hw.keeper k).counts (guardKey n f g.j g.i) = s.hw.kDepth) ∧
    (∀ k p, k < 2 → s.hw.ticks < (s.hw.keeper k).clockAt → exec (.keeperClockCheck k p) s = .next s) ∧
    (s.hw.isIS = true → s.hw.awake 3 = true →
    (∀ k p, k < 2 → (s.hw.keeper k).clockAt ≤ s.hw.ticks → 1000000 ≤ p → p ≤ 1600000 → exec (.keeperClockCheck k p) s =
      .next { s with hw := s.hw.setKeeper k { s.hw.keeper k with clockAt := s.hw.ticks + 80000, clockBad := false } }) ∧
    (∀ k, k < 2 → (s.hw.keeper k).selfAt ≤ s.hw.ticks → exec (.keeperSelftest k true) s =
      .next { s with hw := s.hw.setKeeper k { s.hw.keeper k with selfAt := s.hw.ticks + 8000000, selfBad := false } })) ∧
    (∀ k ok, k < 2 → s.hw.ticks < (s.hw.keeper k).selfAt → exec (.keeperSelftest k ok) s = .next s) ∧
    (s.hw.kpr.disagree = none → exec .keeperDisagree s = .next s) ∧
    (s.hw.isIS = true → s.hw.awake 15 = true → s.hw.dev.mode = .guard → s.hw.evt.table.length < 1024 →
      let faulted := fun (i : Instr) (f : FaultId) => ∃ u, exec i s = .next u ∧ u.hw.isRaised f = true ∧ f ∈ u.hw.kpr.latched ∧ u.hw.kpr.pairsOn = 0
      (∀ k p, k < 2 → (s.hw.keeper k).clockAt ≤ s.hw.ticks → p < 1000000 ∨ 1600000 < p → faulted (.keeperClockCheck k p) (fid (srcKpr k) 4 9)) ∧
      (∀ k, k < 2 → (s.hw.keeper k).selfAt ≤ s.hw.ticks → faulted (.keeperSelftest k false) (fid (srcKpr k) 4 10)) ∧
      (∀ t, s.hw.kpr.disagree = some t → t + 800000 < s.hw.ticks → faulted .keeperDisagree (fid (srcKpr 0) 4 2)) ∧
      (s.hw.fselValid = false → s.hw.kpr.fselAt + 8000000 < s.hw.ticks → faulted .fselInvalidTimeout (fid (srcKpr 0) 4 6)) ∧
      (s.hw.edmBad 0 = true → faulted (.edmCheck 0) (fid (srcKpr 0) 4 5)) ∧ (s.hw.edmBad 1 = true → faulted (.edmCheck 1) (fid (srcKpr 0) 4 5)) ∧
      (∀ l, l < 4 → s.hw.rbBad l = true → faulted (.readbackCheck l) (fid (srcKpr (l % 2)) 4 3)) ∧
      (∀ l a b, l < 4 → (a && b) = false → tb s.hw.kpr.lines l = true →
        let slot := 4 * (s.hw.ticks - s.hw.kpr.pulse0) / max 1 s.hw.tpPeriod
        slot % 4 = l → s.hw.kpr.pulseSlot ≤ slot → faulted (.testPulse l a b) (fid (srcKpr (l % 2)) 4 4)) ∧
      (∀ i, i < 32 → s.hw.tideNames i ≠ [] → max s.hw.kpr.guardAt (mget 0 s.hw.kpr.tideAt i) + 8000000 ≤ s.hw.ticks →
        faulted (.kprTideTimeout i) (fid (srcKpr 0) 4 8))) ∧
    (∀ a b, ∃ u, exec (.fselChange a b) s = .next u ∧ u.hw.pins.fselA = a % 8 ∧ u.hw.pins.fselB = b % 8 ∧ u.hw.kpr.set = s.hw.kpr.set ∧
      (s.hw.awake 3 = true → s.hw.fselValid = true → s.hw.pins.fselA ≠ a % 8 → u.hw.kpr.fselAt = s.hw.ticks)) ∧
    (s.hw.fselValid = false ∨ s.hw.ticks < s.hw.kpr.fselAt + s.hw.fselDeb → exec .fselDebounce s = .next s) ∧
    (s.hw.isIS = true → s.hw.awake 3 = true → s.hw.fselValid = true → s.hw.kpr.fselAt + s.hw.fselDeb ≤ s.hw.ticks →
        s.hw.kpr.loaded s.hw.pins.fselA = true → ∃ u,
      exec .fselDebounce s = .next u ∧ u.hw.kpr.set = s.hw.pins.fselA ∧ u.hw.dev = s.hw.dev) ∧
    (s.hw.fselValid = true ∨ s.hw.ticks ≤ s.hw.kpr.fselAt + 8000000 → exec .fselInvalidTimeout s = .next s) ∧
    (s.hw.awake 3 = false → exec .restartPress s = .next { s with hw := { s.hw with pins := { s.hw.pins with restart := true } } }) ∧
    (s.hw.awake 3 = true → exec .restartPress s = .next { s with hw := { s.hw with
      pins := { s.hw.pins with restart := true }, kpr := { s.hw.kpr with pressAt := some s.hw.ticks, pressDead := false } } }) ∧
    (∀ k, s.hw.awake 3 = false → exec (.restartRelease k) s = .next { s with hw := { s.hw with pins := { s.hw.pins with restart := false } } }) ∧
    (∀ k, s.hw.awake 3 = true → s.hw.kpr.pressAt = none ∨ s.hw.dev.mode ≠ .guard → exec (.restartRelease k) s = .next { s with hw := { s.hw with
      pins := { s.hw.pins with restart := false }, on := { s.hw.on with restartSeenOpen := true }
      kpr := { s.hw.kpr with pressAt := none, pressDead := false, stuck := false } } }) ∧
    (∀ k t p, s.hw.awake 3 = true → s.hw.dev.mode = .guard → s.hw.kpr.pressAt = some t → s.hw.kpr.pressDead = false → t + 80000000 ≤ s.hw.ticks →
      s.hw.ticks ≤ t + 4000000000 → s.hw.on.restartSeenOpen = true → k ≤ 10000 → p < 2 → tb s.hw.kpr.pairsOn p = false → s.hw.mayOn p = true →
      ∃ u, exec (.restartRelease k) s = .next u ∧ tb u.hw.kpr.pairsOn p = true ∧ u.hw.kpr.restarts = satAdd 0xFFFF s.hw.kpr.restarts 1) ∧
    (∀ t, s.hw.kpr.pressAt = some t → s.hw.kpr.pressDead = true ∨ s.hw.ticks ≤ t + 4000000000 → exec .restartStuck s = .next s) ∧
    (∀ t, s.hw.kpr.pressAt = some t → s.hw.kpr.pressDead = false → t + 4000000000 < s.hw.ticks → s.hw.isIS = true → s.hw.awake 3 = true →
      s.hw.evt.table.length < 1024 → ∃ u, exec .restartStuck s = .next u ∧ u.hw.kpr.pressDead = true ∧ u.hw.kpr.stuck = true ∧
          u.hw.isRaised (fid (srcKpr 0) 1 20) = true) ∧
    (∀ p, p < 2 → tb (s.hw.reg 0x00880000) (4 + p) = false ∨ tb s.hw.kpr.needRestart p = true → exec (.autoRestart p) s = .next s) ∧
    (∀ p t, p < 2 → mget none s.hw.kpr.condAt p = some t → tb (s.hw.reg 0x00880000) (4 + p) = true → tb s.hw.kpr.needRestart p = false →
      s.hw.isIS = true → s.hw.awake 15 = true → tb s.hw.kpr.pairsOn p = false → t + s.hw.tAuto ≤ s.hw.ticks → s.hw.mayOn p = true → ∃ u,
        exec (.autoRestart p) s = .next u ∧ tb u.hw.kpr.pairsOn p = true) ∧
    (∀ p, s.hw.edmBad p = false → exec (.edmCheck p) s = .next s) ∧ (∀ l, s.hw.rbBad l = false → exec (.readbackCheck l) s = .next s) ∧
    (∀ a b, ∃ u, exec (.edmInputChange a b) s = .next u ∧ u.hw.pins = { s.hw.pins with edm := b2n a + 2 * b2n b } ∧
      (s.hw.dev.mode ≠ .guard → u.hw.dev = s.hw.dev)) ∧
    (∀ n, ∃ u, exec (.safeReadbackChange n) s = .next u ∧ u.hw.pins = { s.hw.pins with readback := n % 16 } ∧ u.hw.dev = s.hw.dev ∧
      (s.hw.awake 3 = true → ∀ l < 4, mget 0 u.hw.kpr.rbAt l = if tb n l = tb s.hw.pins.readback l then mget 0 s.hw.kpr.rbAt l else s.hw.ticks)) ∧
    (∀ l a b, l < 4 → s.hw.dev.mode ≠ .guard ∨ tb s.hw.kpr.lines l = false → exec (.testPulse l a b) s = .next s) ∧
    (∀ l, l < 4 → s.hw.isIS = true → s.hw.awake 3 = true → s.hw.dev.mode = .guard → tb s.hw.kpr.lines l = true →
      let slot := 4 * (s.hw.ticks - s.hw.kpr.pulse0) / max 1 s.hw.tpPeriod
      slot % 4 = l → s.hw.kpr.pulseSlot ≤ slot → exec (.testPulse l true true) s = .next { s with hw := { s.hw with
        kpr := { s.hw.kpr with pulseSlot := slot + 1, pulseBad := putBit s.hw.kpr.pulseBad l false } } }) ∧
    (∀ i, i < 32 → s.hw.tideNames i = [] → exec (.kprTideTimeout i) s = .next s)

/-- A frame is built when it is due and the Keepers agree, a CONFIRM that passes is accepted, a missing one is told (R398, R399, R401, R402, R403,
R405). -/
def Obligations.BellRowsTakeEffect : Prop :=
  ∀ s : State, s.hw.outbox = [] →
    let mine := fun (f : List Byte) => s.hw.inCascade = false ∨ field f 0 4 = s.hw.reg 0x00890004
    (s.hw.bel.running = false → exec .bellFrameBuild s = .next s ∧ (∀ f, mine f → exec (.confirmReceive f) s = .next s) ∧
      exec .bellConfirmTimeout s = .next s) ∧
    (s.hw.bel.running = true → s.hw.bel.rebuildAt = none → s.hw.ticks < s.hw.bel.builtAt + s.hw.belPeriod →
      s.hw.bel.shown = (s.hw.belShow 0).take 5 → exec .bellFrameBuild s = .next s) ∧
    (s.hw.isIS = true → s.hw.awake 15 = true →
    (s.hw.bel.running = true → s.hw.bel.rebuildAt = none → s.hw.bel.builtAt + s.hw.belPeriod ≤ s.hw.ticks → s.hw.belAgree = true →
      s.hw.bel.waiting.length < 2 → ∃ u, exec .bellFrameBuild s = .next u ∧ u.cmd = s.cmd ∧
        u.hw.bel.waiting = s.hw.bel.waiting ++ [s.hw.bellBytes 1] ∧ u.hw.bel.seq = (s.hw.bel.seq + 1) % 2 ^ 32 ∧ u.hw.bel.builtAt = s.hw.ticks) ∧
    (∀ a b, s.hw.bel.running = true → s.hw.bel.rebuildAt = none → s.hw.bel.builtAt + s.hw.belPeriod ≤ s.hw.ticks → s.hw.belAgree = true →
      s.hw.bel.waiting = [a, b] → ∃ u, exec .bellFrameBuild s = .next u ∧ u.hw.bel.waiting = [b, s.hw.bellBytes 1] ∧
        u.hw.bel.superseded = satAdd 0xFFFFFFFF s.hw.bel.superseded 1) ∧
    (∀ t, s.hw.bel.running = true → s.hw.bel.rebuildAt = some t → t ≤ s.hw.ticks → s.hw.belAgree = false → ∃ u, exec .bellFrameBuild s = .next u ∧
      u.hw.bel.withheld = satAdd 0xFFFFFFFF s.hw.bel.withheld 1 ∧ u.hw.bel.rebuildAt = some (s.hw.ticks + 200000) ∧
      u.hw.bel.waiting = s.hw.bel.waiting ∧ u.hw.bel.seq = s.hw.bel.seq) ∧
    (∀ t, s.hw.bel.running = true → s.hw.bel.rebuildAt = some t → t ≤ s.hw.ticks → s.hw.belAgree = true → s.hw.bel.waiting.length < 2 →
      ∃ u, exec .bellFrameBuild s = .next u ∧ u.hw.bel.waiting = s.hw.bel.waiting ++ [s.hw.bellBytes s.hw.bellKind] ∧ u.hw.bel.rebuildAt = none ∧
        u.hw.bel.seq = (s.hw.bel.seq + 1) % 2 ^ 32) ∧
    (∀ f, s.hw.bel.running = true → mine f → s.hw.isEth = false → f.length = 64 → field f 60 4 ≠ bellCheck (f.take 60) → s.hw.bel.fails = [] →
      exec (.confirmReceive f) s = .next { s with hw := { s.hw with
        bel := { s.hw.bel with checkFail := satAdd 0xFFFFFFFF s.hw.bel.checkFail 1, fails := [s.hw.ticks] } } }) ∧
    (∀ f, s.hw.bel.running = true → mine f → s.hw.isEth = false → f.length = 64 → field f 60 4 = bellCheck (f.take 60) → s.hw.confirmOk f = true →
        ∃ u,
      exec (.confirmReceive f) s = .next u ∧ u.cmd = s.cmd ∧ u.hw.bel.connected = true ∧ u.hw.bel.sLast = some (field f 4 4) ∧
      u.hw.bel.timeLast = field f 8 8 ∧ u.hw.bel.received = (s.hw.bel.received + 1) % 2 ^ 32 ∧ u.hw.bel.confirmAt = s.hw.ticks) ∧
    (s.hw.bel.running = true → s.hw.bel.connected = true → s.hw.bel.confirmAt + 800 * s.hw.belExpect ≤ s.hw.ticks →
      s.hw.evt.table.length < 1024 → ∃ u, exec .bellConfirmTimeout s = .next u ∧ u.hw.bel.late = satAdd 0xFFFFFFFF s.hw.bel.late 1 ∧
        u.hw.bel.sLast = none ∧ u.hw.bel.confirmAt = s.hw.bel.confirmAt + 800 * max 1 s.hw.belExpect ∧
        u.hw.isRaised (fid srcBel 1 1) = true)) ∧
    (∀ f, s.hw.isEth = true ∨ f.length ≠ 64 → exec (.confirmReceive f) s = .next s) ∧
    (∀ f, mine f → field f 60 4 = bellCheck (f.take 60) → s.hw.confirmOk f = false → exec (.confirmReceive f) s = .next s) ∧
    (s.hw.bel.connected = false ∨ s.hw.ticks < s.hw.bel.confirmAt + 800 * s.hw.belExpect → exec .bellConfirmTimeout s = .next s)

/-- The counter, fault, event, logbook and self-test opcodes do what their rows say (R52, R53, R54, R78, R438, R442, R443, R445, R446, R448). -/
def Obligations.DiagnosticCommandsAreServed : Prop :=
  ∀ (s : State) (h : Hdr) (x : Session),
    (∀ (c : U8) (e : U16) (f : U32), s.Takes (.pmcConfig h c e f) h x →
      (63 < c.toNat → s.Served (.pmcConfig h c e f) h x s.accepted (ansBad 16)) ∧
      (c.toNat ≤ 63 → eventDefined e.toNat = false → s.Served (.pmcConfig h c e f) h x s.accepted (ansBad 17)) ∧
      (c.toNat ≤ 63 → eventDefined e.toNat = true → bits f.toNat 4 4 ≠ 0 → s.Served (.pmcConfig h c e f) h x s.accepted (ansBad 19)) ∧
      (c.toNat ≤ 63 → eventDefined e.toNat = true → bits f.toNat 4 4 = 0 → ∃ t, exec (.pmcConfig h c e f) s = .next t ∧
        bits (t.hw.pmcEvt c.toNat) 0 16 = e.toNat ∧ t.hw.pmcFlt c.toNat = f.toNat ∧ mget 0 t.hw.pmc.cnt c.toNat = 0 ∧
        tb t.hw.pmc.ovf c.toNat = false ∧ (∀ k, k ≠ c.toNat → mget 0 t.hw.pmc.cnt k = mget 0 s.hw.pmc.cnt k) ∧
        (t.cmd.out h.tr).getLast? = some (s.hw.replyTo 0xA0 h (ansOk [])))) ∧
    (s.Takes (.pmcFreeze h 1) h x → s.hw.pmc.snap = none → ∃ t, exec (.pmcFreeze h 1) s = .next t ∧
      t.hw.pmc = { s.hw.pmc with snap := some (s.hw.pmc.cnt, s.hw.pmc.ovf, s.hw.clk.time) } ∧ tb (t.hw.reg 0x00900000) 0 = true ∧
      (t.cmd.out h.tr).getLast? = some (s.hw.replyTo 0xA1 h (ansOk (le 8 s.hw.clk.time.toNat)))) ∧
    (∀ c o d, s.Takes (.pmcFreeze h 0) h x → s.hw.pmc.snap = some (c, o, d) → ∃ t, exec (.pmcFreeze h 0) s = .next t ∧
      t.hw.pmc = { s.hw.pmc with snap := none } ∧ tb (t.hw.reg 0x00900000) 0 = false ∧
      (t.cmd.out h.tr).getLast? = some (s.hw.replyTo 0xA1 h (ansOk (le 8 d.toNat)))) ∧
    (∀ a n : U8, s.Takes (.pmcRead h a n) h x → s.hw.readDenied x.role 0x00900000 = false → a.toNat + n.toNat ≤ 64 → a.toNat ≤ 63 →
      s.Served (.pmcRead h a n) h x s.accepted (ansOk (s.hw.pmcRead a.toNat n.toNat))) ∧
    (∀ o : U16, s.Takes (.faultList h o) h x →
      (s.hw.evt.table.length < o.toNat → s.Served (.faultList h o) h x s.accepted (ansBad 16)) ∧
      (o.toNat ≤ s.hw.evt.table.length → s.Served (.faultList h o) h x s.accepted
        (ansOk (s.hw.evt.listBytes o.toNat (payloadLimit h.tr))))) ∧
    (∀ (a : U8) (c : U16), s.Takes (.faultClear h a c) h x →
      (c ≠ 0xFFFF → 0xA000 ≤ c.toNat ∨ bits c.toNat 10 3 ≠ 0 → s.Served (.faultClear h a c) h x s.accepted (ansBad 17)) ∧
      (c = 0xFFFF ∨ (c.toNat < 0xA000 ∧ bits c.toNat 10 3 = 0) → ∃ t, exec (.faultClear h a c) s = .next t ∧ t.hw.dev.mode = s.hw.dev.mode ∧
        ∀ f : FaultId, f.src = a.toNat → c = 0xFFFF ∨ f.code = c.toNat → s.hw.clearable f = true → t.hw.isRaised f = false)) ∧
    (∀ (l : List Byte) (m : U8), s.Takes (.eventSubscribe h l m) h x →
      (4 < m.toNat → s.Served (.eventSubscribe h l m) h x s.accepted (ansBad 48)) ∧
      (m.toNat ≤ 4 → ∃ t y, exec (.eventSubscribe h l m) s = .next t ∧ t.hw = s.accepted ∧ t.cmd.session h.tr = some y ∧
        y.sources = some (field l 0 32) ∧ y.minClass = m.toNat ∧ y.role = x.role ∧
        (t.cmd.out h.tr).getLast? = some (s.hw.replyTo 0xA6 h (ansOk [])))) ∧
    (s.Takes (.logbookRead h) h x → s.Served (.logbookRead h) h x s.accepted (ansOk s.hw.logbook)) ∧
    (∀ m : U32, s.Takes (.bistRun h m) h x →
      (1024 ≤ m.toNat → s.Served (.bistRun h m) h x s.accepted (ansBad 16)) ∧
      (m.toNat < 1024 → s.Begins (.bistRun h m) h x { s.accepted with free := s.hw.free + 2 }
        (stepOp 0xA5 ((setBits 10 m.toNat).flatMap bistBlocks) (setBits 10 m.toNat))))

/-- Counter increments and writes, and the rows of Sector Lights, do what their rules say (R426, R428, R430, R431, R432, R433, R439, R440, R441,
R443, R444). -/
def Obligations.DiagnosticRowsTakeEffect : Prop :=
  ∀ s : State, s.hw.outbox = [] →
    (∀ (e : U16) i (a : U32) c m p n, s.hw.dev.mode = .dormant ∨ s.hw.dev.mode = .boot ∨ n = 0 ∨ 255 < n →
      exec (.pmcIncrement e i a c m p n) s = .next s) ∧
    (∀ (e : U16) i (a : U32) c m p n k, s.hw.awake 3 = true → s.hw.pmcCounts = true → e ≠ 0 → 1 ≤ n → n ≤ 255 → k < 64 →
      bits (s.hw.pmcEvt k) 0 16 = e.toNat → s.hw.pmcPasses k e.toNat i a.toNat c m p = true →
      (∀ j < 64, j ≠ k → bits (s.hw.pmcEvt j) 0 16 ≠ e.toNat) → ∃ u, exec (.pmcIncrement e i a c m p n) s = .next u ∧
        mget 0 u.hw.pmc.cnt k = (mget 0 s.hw.pmc.cnt k + n) % 2 ^ 48 ∧ (∀ j, j ≠ k → mget 0 u.hw.pmc.cnt j = mget 0 s.hw.pmc.cnt j) ∧
        (2 ^ 48 ≤ mget 0 s.hw.pmc.cnt k + n → tb u.hw.pmc.ovf k = true) ∧ (mget 0 s.hw.pmc.cnt k + n < 2 ^ 48 → u.hw.pmc.ovf = s.hw.pmc.ovf)) ∧
    (∀ i (v : Word), i < 64 → (∃ u, exec (.pmcCntWrite i false v) s = .next u ∧ u.cmd = s.cmd ∧ u.hw.ack = 0 ∧ u.hw.pmc.ovf = s.hw.pmc.ovf ∧
        mget 0 u.hw.pmc.cnt i = mget 0 s.hw.pmc.cnt i / 2 ^ 32 * 2 ^ 32 + v.toNat) ∧
      (∃ u, exec (.pmcCntWrite i true v) s = .next u ∧ u.cmd = s.cmd ∧ u.hw.ack = 0 ∧ u.hw.pmc.ovf = s.hw.pmc.ovf ∧
        mget 0 u.hw.pmc.cnt i = v.toNat % 65536 * 2 ^ 32 + mget 0 s.hw.pmc.cnt i % 2 ^ 32)) ∧
    (∀ i (v : Word), i < 64 → eventDefined (v.toNat % 65536) = false →
      exec (.pmcEvtWrite i false v) s = .next { s with hw := { s.hw with ack := 0x05, ackData := [] } }) ∧
    (∀ i (v : Word), i < 64 → eventDefined (v.toNat % 65536) = true → eventSafety (v.toNat % 65536) = false ∨ s.hw.isIS = true → ∃ u,
      exec (.pmcEvtWrite i false v) s = .next u ∧ u.cmd = s.cmd ∧ u.hw.ack = 0 ∧ u.hw.pmcEvt i = v.toNat &&& 0x0100FFFF ∧
      mget 0 u.hw.pmc.cnt i = 0 ∧ tb u.hw.pmc.ovf i = false) ∧
    (∀ v : Word, tb v.toNat 0 ≠ s.hw.matrix → (∃ c < 8, tb (s.hw.sltChan c) 31 = true) →
      exec (.sltCtlWrite v) s = .next { s with hw := { s.hw with ack := 0x02, ackData := [] } }) ∧
    (∀ v : Word, tb v.toNat 0 = s.hw.matrix → 15 ≤ bits v.toNat 8 8 → ∃ u, exec (.sltCtlWrite v) s = .next u ∧ u.cmd = s.cmd ∧ u.hw.ack = 0 ∧
      u.hw.sltCtl = v.toNat &&& 0xFFF1 ∧ u.hw.slt.testDue = (s.hw.slt.testDue || tb v.toNat 31) ∧
      u.hw.slt.scanAt = if v.toNat &&& 0xFFF1 = s.hw.sltCtl then s.hw.slt.scanAt else s.hw.ticks) ∧
    (∀ m, s.hw.slt.testDue = false → exec (.sltPintest m) s = .next s) ∧
    (s.hw.awake 3 = true → s.hw.slt.testDue = true → exec (.sltPintest 0) s =
        .next { s with hw := { s.hw with slt := { s.hw.slt with marks := 0, testDue := false } } }) ∧
    (∀ m, s.hw.awake 3 = true → s.hw.slt.testDue = true → m % 4096 ≠ 0 → s.hw.evt.table.length < 1024 → ∃ u, exec (.sltPintest m) s = .next u ∧
      u.hw.slt = { s.hw.slt with marks := m % 4096, testDue := false } ∧ u.hw.isRaised (fid srcSlt 1 2) = true) ∧
    (∀ i, s.hw.ledOn i = false ∨ s.hw.slotsOf i / 4096 ≤ (s.hw.led i).period → exec (.sltPeriod i) s = .next s) ∧
    (∀ i, s.hw.awake 3 = true → s.hw.ledOn i = true → (s.hw.led i).period < s.hw.slotsOf i / 4096 →
      let d := if tb (s.hw.ledReg i) 26 then s.hw.engineValue (bits (s.hw.ledReg i) 24 2) i else bits (s.hw.ledReg i) 0 12
      let q := min 16 ((s.hw.led i).quiet + 1)
      exec (.sltPeriod i) s = .next { s with hw := s.hw.setLed i { s.hw.led i with
        duty := d, period := s.hw.slotsOf i / 4096, quiet := q, status := if (s.hw.led i).status = 1 ∧ q = 16 then 0 else (s.hw.led i).status
        wave := if d = 0 then { runs := (s.hw.ledWave i 4096).runs } else s.hw.ledWave i 4096 } }) ∧
    (∀ i n v r, s.hw.ledOn i = false ∨ n < 1500 ∨ (s.hw.led i).duty = 0 ∨ s.hw.slt.testDue = true → exec (.sltRunEnd i n v r) s = .next s) ∧
    (∀ i n v, s.hw.awake 3 = true → s.hw.ledOn i = true → 1500 ≤ n → (s.hw.led i).duty ≠ 0 → s.hw.slt.testDue = false →
      ((s.hw.led i).status ≠ 2 → exec (.sltRunEnd i n v true) s = .next { s with hw := s.hw.setLed i { s.hw.led i with
        fails := 0, quiet := 0, status := 1 } }) ∧
      (v < 100 → (s.hw.led i).fails < 3 → exec (.sltRunEnd i n v false) s = .next { s with hw := s.hw.setLed i { s.hw.led i with
        fails := (s.hw.led i).fails + 1, quiet := 0 } }) ∧
      (v < 100 → (s.hw.led i).fails = 3 → (s.hw.led i).status ≠ 2 → s.hw.evt.table.length < 1024 → ∃ u, exec (.sltRunEnd i n v false) s = .next u ∧
        (u.hw.led i).status = 2 ∧ u.hw.isRaised (fid srcSlt 1 1) = true)) ∧
    (∀ e (v : Word), e < 4 → ∃ u, exec (.sltEngCfgWrite e v) s = .next u ∧ u.cmd = s.cmd ∧ u.hw.ack = 0 ∧
      u.hw.reg (0x008A0040 + 8 * e) = v.toNat &&& 0xC3FF0000 ∧ mget 0 u.hw.slt.engAt e = s.hw.ticks)

/-- The six access and firmware opcodes do what their rows say (R456, R459, R460, R461). -/
def Obligations.SecurityCommandsAreServed : Prop :=
  ∀ (s : State) (h : Hdr) (x : Session),
    (∀ k : U8, s.Takes (.secChallenge h k) h x →
      (k = 0 ∨ 3 < k.toNat → s.Served (.secChallenge h k) h x s.accepted (ansBad 16)) ∧
      (1 ≤ k.toNat → k.toNat ≤ 3 → ∃ l n, l.length = 32 ∧ s.Served (.secChallenge h k) h x { s.accepted with
        free := n, sec := { s.hw.sec with challenge := some { scope := k.toNat, nonce := l, since := s.hw.ticks } } } (ansOk l))) ∧
    (∀ (k : U8) (g : List Byte), s.Takes (.secResponse h k g) h x → 1 ≤ k.toNat → k.toNat ≤ 3 →
      (s.hw.standing = none → s.Served (.secResponse h k g) h x s.accepted (ansPre 0x0B07)) ∧
      (∀ c, s.hw.standing = some c → c.scope ≠ k.toNat → s.Served (.secResponse h k g) h x
        { s.accepted with sec := { s.hw.sec with challenge := none } } (ansPre 0x0B07)) ∧
      (∀ c, s.hw.standing = some c → c.scope = k.toNat →
        (s.hw.keyOpens k.toNat (ecdsaKeys g (s.hw.challengeHash c)) = none → s.Served (.secResponse h k g) h x
          { s.accepted with sec := { s.hw.sec with challenge := none } } ansDenied) ∧
        (∀ b, s.hw.keyOpens k.toNat (ecdsaKeys g (s.hw.challengeHash c)) = some b → s.Served (.secResponse h k g) h x { s.accepted with
          sec := { s.hw.sec with
            challenge := none
            service := if tb k.toNat 0 then some (b, x.number) else s.hw.sec.service
            scopeD := if tb k.toNat 1 then some (b, x.number) else s.hw.sec.scopeD }
          pantry := { s.hw.pantry with password := { s.hw.pantry.password with
            fails := if tb k.toNat 0 then 0 else s.hw.pantry.password.fails } } } (ansOk [])))) ∧
    (∀ g : List Byte, s.Takes (.secPassword h g) h x → let p := s.hw.pantry.password
      (tb s.hw.policy 0 = false ∨ p.isSet = false → s.Served (.secPassword h g) h x s.accepted (ansPre 0x0B08)) ∧
      (tb s.hw.policy 0 = true → p.isSet = true → s.hw.pwTries ≤ p.fails → s.Served (.secPassword h g) h x s.accepted ansDenied) ∧
      (tb s.hw.policy 0 = true → p.isSet = true → p.fails < s.hw.pwTries → s.hw.pwHash p.salt g = p.hash →
        s.Served (.secPassword h g) h x { s.accepted with
          sec := { s.hw.sec with service := some (3, x.number) }, pantry := { s.hw.pantry with password := { p with fails := 0 } } } (ansOk [])) ∧
      (tb s.hw.policy 0 = true → p.isSet = true → p.fails < s.hw.pwTries → s.hw.pwHash p.salt g ≠ p.hash →
        s.hw.evt.table.length < 1023 → ∃ t y q, exec (.secPassword h g) s = .next t ∧
          t.hw.pantry.password = { p with fails := p.fails + 1 } ∧ t.hw.sec = s.hw.sec ∧ t.hw.isRaised (fid srcSec 1 1) = true ∧
          (s.hw.pwTries ≤ p.fails + 1 → t.hw.isRaised (fid srcSec 1 2) = true) ∧
          t.cmd.session h.tr = some y ∧ y.wait = some (.denied (s.hw.ticks + s.hw.pwDelay), q) ∧ q.status = 0x04 ∧ q.tag = h.tag.toNat)) ∧
    (∀ (n : U32) (d : List Byte), s.Takes (.fwUpdate h ⟨0, 0, n⟩ d) h x → d.length ≤ n.toNat → s.cmd.held [srcSec] = false →
      s.cmd.liveOps < 4 →
      (d.length < 256 → s.Served (.fwUpdate h ⟨0, 0, n⟩ d) h x s.accepted (ansBad (28 + d.length))) ∧
      (256 ≤ d.length → s.hw.fwTrial = true → s.Served (.fwUpdate h ⟨0, 0, n⟩ d) h x s.accepted (ansPre 0x0B06)) ∧
      (256 ≤ d.length → s.hw.fwTrial = false → s.hw.fwHeader (d.take 256) = none → s.Begins (.fwUpdate h ⟨0, 0, n⟩ d) h x
        { s.accepted with
          free := s.hw.free + 2, pantry := { s.hw.pantry with fw := mset [] s.hw.pantry.fw (1 - s.hw.sec.slot) [] } }
        { stepOp 0xB3 [srcSec] [] with state := if d.length = n.toNat then 1 else 0, bytes := d, total := n.toNat }) ∧
      (∀ k, 256 ≤ d.length → s.hw.fwTrial = false → s.hw.fwHeader (d.take 256) = some k → s.hw.evt.table.length < 1024 →
        ∃ t, exec (.fwUpdate h ⟨0, 0, n⟩ d) s = .next t ∧ t.hw.isRaised (fid srcSec 1 4) = true ∧
          mget [] t.hw.pantry.fw (1 - s.hw.sec.slot) = [] ∧
          ∃ o ∈ t.cmd.ops, o.opcode = 0xB3 ∧ o.doneAt = none ∧ o.state = 2 ∧ o.ending = some (0x06, le 2 k))) ∧
    (s.Takes (.fwStatus h) h x → s.Served (.fwStatus h) h x s.accepted
      (ansOk (le 4 s.hw.fwRunning ++ le 4 s.hw.fwStaged ++ le 4 s.hw.svnNow))) ∧
    (s.Takes (.secClose h) h x → ∃ t, exec (.secClose h) s = .next t ∧
      (∀ b n, s.hw.sec.service = some (b, n) → t.hw.sec.service = if n = x.number then none else some (b, n)) ∧
      (∀ b n, s.hw.sec.scopeD = some (b, n) → t.hw.sec.scopeD = if n = x.number then none else some (b, n)) ∧
      (s.hw.dev.mode ≠ .service → t.hw.dev.mode = s.hw.dev.mode) ∧
      (s.hw.dev.mode = .service → t.hw.dev.mode = if t.hw.serviceOpen then .service else .config) ∧
      (t.cmd.out h.tr).getLast? = some (s.hw.replyTo 0xB5 h (ansOk [])))

/-- Programming a fuse, the password registers and the challenge's lapse do what their rules say (R450, R452, R459, R460). -/
def Obligations.SecurityRowsTakeEffect : Prop :=
  ∀ s : State, s.hw.outbox = [] →
    ((∀ c, s.hw.sec.challenge = some c → s.hw.ticks < c.since + 48000000000) → exec .challengeExpiry s = .next s) ∧
    (∀ c, s.hw.awake 3 = true → s.hw.sec.challenge = some c → c.since + 48000000000 ≤ s.hw.ticks →
      exec .challengeExpiry s = .next { s with hw := { s.hw with sec := { s.hw.sec with challenge := none } } }) ∧
    ((∀ b n, s.hw.sec.service = some (b, n) → b ≠ 1 ∧ b ≠ 2) →
      exec .passwordCommit s = .next { s with hw := { s.hw with ack := 0x04, ackData := [] } } ∧
      exec .passwordClear s = .next { s with hw := { s.hw with ack := 0x04, ackData := [] } }) ∧
    (∀ b n, s.hw.sec.service = some (b, n) → b = 1 ∨ b = 2 →
      (∃ l k, l.length = 16 ∧ exec .passwordCommit s = .next { s with hw := { s.hw with
        ack := 0, ackData := [], free := k, pantry := { s.hw.pantry with password := { s.hw.pantry.password with
          isSet := true, salt := l,
          hash := s.hw.pwHash l ((List.range 4).flatMap (fun j => le 4 (mget 0 s.hw.sec.pwSet j))) } } } }) ∧
      exec .passwordClear s = .next { s with hw := { s.hw with ack := 0, ackData := [], pantry := { s.hw.pantry with
        password := { s.hw.pantry.password with isSet := false, salt := [], hash := [] } } } }) ∧
    (∀ r : Word, s.hw.dev.mode ≠ .service →
      exec (.fuseProgram r) s = .next { s with hw := { s.hw with ack := 0x03, ackData := le 1 s.hw.dev.mode.code } }) ∧
    (∀ r : Word, s.hw.dev.mode = .service → (∀ t x, s.cmd.session t = some x → x.role < 3) →
      exec (.fuseProgram r) s = .next { s with hw := { s.hw with ack := 0x04, ackData := [] } }) ∧
    (∀ (r : Word) t x, s.hw.dev.mode = .service → s.cmd.session t = some x → 3 ≤ x.role →
      let w := s.hw.reg 0x00980020 % 256
      let d := s.hw.reg 0x00980024
      (isOr2 w = false → mget 0 s.hw.pantry.fuses w ≠ 0 →
        exec (.fuseProgram r) s = .next { s with hw := { s.hw with ack := 0x06, ackData := le 2 0x0B02 } }) ∧
      (isOr2 w = true ∨ mget 0 s.hw.pantry.fuses w = 0 → s.hw.fuseProtected w = true →
        exec (.fuseProgram r) s = .next { s with hw := { s.hw with ack := 0x06, ackData := le 2 0x0B04 } }) ∧
      (isOr2 w = false → mget 0 s.hw.pantry.fuses w = 0 → s.hw.fuseProtected w = false → r.toNat = d → ∃ u,
        exec (.fuseProgram r) s = .next u ∧ u.cmd = s.cmd ∧ u.hw.ack = 0 ∧ mget 0 u.hw.pantry.fuses w = d ∧
        ∀ v, v ≠ w → v < 248 → mget 0 u.hw.pantry.fuses v = mget 0 s.hw.pantry.fuses v) ∧
      (isOr2 w = true → w ≠ 1 → s.hw.fuseProtected w = false → s.hw.evt.table.length < 1024 →
        r.toNat ≠ mget 0 s.hw.pantry.fuses w ||| or2Fuses d → ∃ u, exec (.fuseProgram r) s = .next u ∧ u.hw.ack = 0x06 ∧
        u.hw.ackData = le 2 0x0B05 ∧ mget 0 u.hw.pantry.fuses w = r.toNat ∧ u.hw.isRaised (fid srcSec 3 3) = true))

/-- The six calibration opcodes, the automatic run and CAL_BOOT_MASK do what their rows say (R352, R357, R361, R362, R366, R367, R368, R369). -/
def Obligations.CalibrationCommandsAreServed : Prop :=
  ∀ (s : State) (h : Hdr) (x : Session),
    (∀ m : U32, s.Takes (.calRun h m) h x →
      (s.hw.calAllowed m.toNat = false → s.Served (.calRun h m) h x s.accepted { status := 0x03, data := le 1 s.hw.dev.mode.code }) ∧
      (s.hw.calAllowed m.toNat = true → s.cmd.liveOps < 4 → s.cmd.held (calHolds m.toNat) = false →
        (m.toNat = 0 ∨ 512 ≤ m.toNat → s.Served (.calRun h m) h x s.accepted (ansBad 16)) ∧
        (1 ≤ m.toNat → m.toNat < 512 → s.cmd.calRuns = false → s.Begins (.calRun h m) h x
          ((fun hw : Hw => if (setBits 9 m.toNat).head? = some 2 then hw.trimHold true else hw) { s.accepted with
            free := s.hw.free + 2
            cal := { s.hw.cal with
              queue := setBits 9 m.toNat, outcome := [], staged := [], tRun := s.hw.tDie, tQ := s.hw.tDie, running := m.toNat, qAt := s.hw.ticks
              events := [] }
            tid := { s.hw.tid with fgCal := decide ((setBits 9 m.toNat).head? = some 5) } }) (stepOp 0x60 (calHolds m.toNat) [m.toNat, 1])) ∧
        (∀ o, 1 ≤ m.toNat → m.toNat < 512 → s.cmd.ops = [o] → o.opcode = 0x60 → o.owner = none → o.doneAt = none → o.state = 1 →
          o.ending = none → o.released = false → ∃ t p, exec (.calRun h m) s = .next t ∧ t.hw.cal = s.hw.cal ∧
          t.cmd.ops = [{ o with state := 2, ending := some (0x02, []) }, p] ∧ p.opcode = 0x60 ∧ p.owner = some (h.tr, x.number) ∧
          p.params = [m.toNat, 0] ∧ p.doneAt = none ∧
          (t.cmd.out h.tr).getLast? = some (s.hw.replyTo 0x60 h { status := 0x01, data := le 4 p.token })))) ∧
    (s.Takes (.calStatus h) h x → s.Served (.calStatus h) h x s.accepted (ansOk s.hw.calStatusBytes)) ∧
    (∀ k : U8, s.Takes (.calSetRead h k) h x → s.cmd.held [srcCal] = false →
      (7 < k.toNat ∨ s.hw.setAt k.toNat = none → s.Served (.calSetRead h k) h x s.accepted (ansBad 16)) ∧
      (∀ c, k.toNat ≤ 7 → s.hw.setAt k.toNat = some c → s.Begins (.calSetRead h k) h x { s.accepted with free := s.hw.free + 2 }
        { stepOp 0x62 [srcCal] [k.toNat] with bytes := c.bytes })) ∧
    (∀ (p : U8) (a b : List U32), s.Takes (.calCamera h p a b) h x → let g := (a ++ b).map (fun v => v.toInt)
      let c := cameraCheck (s.hw.port p.toNat).width (s.hw.port p.toNat).height g
      (1 < p.toNat → s.Served (.calCamera h p a b) h x s.accepted (ansBad 16)) ∧
      (p.toNat ≤ 1 → c ≠ 0 → s.Served (.calCamera h p a b) h x s.accepted (ansOk (le 1 c))) ∧
      (p.toNat ≤ 1 → c = 0 → ∃ t y, exec (.calCamera h p a b) s = .next t ∧ (t.hw.port p.toNat).geom = g ∧
        t.hw.port (1 - p.toNat) = s.hw.port (1 - p.toNat) ∧ t.hw.pantry.global = some y ∧ mget [] y.geom p.toNat = g ∧
        (t.cmd.out h.tr).getLast? = some (s.hw.replyTo 0x63 h (ansOk [0])))) ∧
    (s.Takes (.calFactory h) h x →
      ((∀ i < 8, s.hw.setAt i = none) → s.Served (.calFactory h) h x s.accepted (ansPre 0x0608)) ∧
      (∀ j < 8, s.hw.setAt j ≠ none → ∃ t c, exec (.calFactory h) s = .next t ∧ (∃ i < 8, s.hw.setAt i = some c) ∧
        (∀ i < 8, ∀ d, s.hw.setAt i = some d → (c.temp - 1600).natAbs ≤ (d.temp - 1600).natAbs) ∧ t.hw.pantry.factory = some c ∧
        t.hw.pantry.factoryGlobal = some s.hw.globalsNow ∧ t.hw.pantry.sets = s.hw.pantry.sets ∧
        (t.cmd.out h.tr).getLast? = some (s.hw.replyTo 0x64 h (ansOk [])))) ∧
    (∀ d e : U8, s.Takes (.calTrigger h d e) h x →
      (d = 0 → s.Served (.calTrigger h d e) h x s.accepted (ansBad 16)) ∧
      (d ≠ 0 → 1 < e.toNat → s.Served (.calTrigger h d e) h x s.accepted (ansBad 17)) ∧
      (d ≠ 0 → e.toNat ≤ 1 → ∃ t, exec (.calTrigger h d e) s = .next t ∧ bits (t.hw.reg 0x00800000) 24 8 = d.toNat ∧
        bits (t.hw.reg 0x00800000) 16 1 = e.toNat ∧ t.hw.cal = s.hw.cal ∧ t.hw.pantry = s.hw.pantry ∧
        (∀ a, a ≠ 0x00800000 → t.hw.reg a = s.hw.reg a) ∧ (t.cmd.out h.tr).getLast? = some (s.hw.replyTo 0x65 h (ansOk [])))) ∧
    (s.cmd.calRuns = true → exec .calAutoStart s = .next s) ∧
    (s.hw.cal.bootDue = false → s.hw.dev.mode = .guard ∨ tb (s.hw.reg 0x00800000) 16 = false → exec .calAutoStart s = .next s) ∧
    (s.hw.cal.bootDue = true → s.hw.dev.mode ≠ .config → exec .calAutoStart s = .next s) ∧
    (∀ m, s.hw.awake 15 = true → s.cmd.calRuns = false → s.cmd.held (calHolds m) = false → m ≠ 0 →
      (s.hw.cal.bootDue = true ∧ s.hw.dev.mode = .config ∧ m = s.hw.reg 0x00800030 % 512) ∨
      (s.hw.cal.bootDue = false ∧ s.hw.dev.mode ≠ .guard ∧ tb (s.hw.reg 0x00800000) 16 = true ∧ m = s.hw.calDueNow) →
      ∃ u o, exec .calAutoStart s = .next u ∧ o ∈ u.cmd.ops ∧ o.opcode = 0x60 ∧ o.owner = none ∧ o.params = [m, 1] ∧ o.doneAt = none ∧
        (s.cmd.issued.length < 2 ^ 32 - 2 → o.token ≠ 0 ∧ o.token ∉ s.cmd.issued) ∧ o.holds = (if s.hw.cal.bootDue then [0x1FF] else []) ∧
        u.hw.cal.bootDue = false ∧ u.hw.cal.queue = setBits 9 m ∧ u.hw.cal.tRun = s.hw.tDie ∧ u.hw.cal.result = s.hw.cal.result) ∧
    (∀ v : Word, s.hw.outbox = [] →
      (s.hw.dev.mode = .guard → exec (.calBootMaskWrite v) s = .next { s with hw := { s.hw with ack := 0x0A, ackData := le 4 0x00800030 } }) ∧
      (s.hw.dev.mode ≠ .guard → (∃ q ∈ [2, 4, 7, 8], tb v.toNat q = true) →
        exec (.calBootMaskWrite v) s = .next { s with hw := { s.hw with ack := 0x05, ackData := [] } }) ∧
      (s.hw.dev.mode ≠ .guard → (∀ q ∈ [2, 4, 7, 8], tb v.toNat q = false) → ∃ u, exec (.calBootMaskWrite v) s = .next u ∧
        u.cmd = s.cmd ∧ u.hw.ack = 0 ∧ u.hw.reg 0x00800030 = v.toNat % 512 ∧ ∀ a, a ≠ 0x00800030 → u.hw.reg a = s.hw.reg a))

/-- The output, network and lane opcodes do what their rows say (R228, R229, R235, R237, R249, R253, R262, R265). -/
def Obligations.OutputAndLaneCommandsAreServed : Prop :=
  ∀ (s : State) (h : Hdr) (x : Session),
    (∀ (n : U8) (o : U32), s.Takes (.streamConfig h n o) h x →
      (n = 0 ∨ 3 < n.toNat → s.Served (.streamConfig h n o) h x s.accepted (ansBad 16)) ∧
      (∀ i < 4, 1 ≤ n.toNat → n.toNat ≤ 3 → bits (o.toNat &&& 0xFC00FEEC) (8 * i) 8 ≠ 0 →
        (∀ j < i, bits (o.toNat &&& 0xFC00FEEC) (8 * j) 8 = 0) → s.Served (.streamConfig h n o) h x s.accepted (ansBad (17 + i))) ∧
      (1 ≤ n.toNat → n.toNat ≤ 3 → o.toNat &&& 0xFC00FEEC = 0 → ∃ t, exec (.streamConfig h n o) s = .next t ∧
        bits (t.hw.reg 0x00600000) 12 2 = n.toNat ∧ bits (t.hw.reg 0x00600000) 16 10 = max 10 (min 1000 (bits o.toNat 16 10)) ∧
        bits (t.hw.reg 0x00600000) 8 1 = bits o.toNat 8 1 ∧ bits (t.hw.reg 0x00600000) 4 1 = bits o.toNat 4 1 ∧
        bits (t.hw.reg 0x00600000) 0 2 = bits o.toNat 0 2 ∧ (∀ a, a ≠ 0x00600000 → t.hw.reg a = s.hw.reg a) ∧
        t.hw.out = { s.hw.out with streamSrc := if h.tr = .eth then x.peer else s.hw.out.streamSrc } ∧
            (t.cmd.out h.tr).getLast? = some (s.hw.replyTo 0x80 h (ansOk [])))) ∧
    (∀ l : List U16, s.Takes (.exportSelect h l) h x →
      (256 < l.length → s.Served (.exportSelect h l) h x s.accepted (ansBad 16)) ∧
      (∀ a k b, l = a ++ k :: b → l.length ≤ 256 → (∀ j ∈ a, s.hw.exportable j.toNat = true) → s.hw.exportable k.toNat = false →
        s.Served (.exportSelect h l) h x s.accepted (ansBad (18 + 2 * a.length))) ∧
      (l.length ≤ 256 → (∀ j ∈ l, s.hw.exportable j.toNat = true) →
        (s.hw.exportPlacement = none → s.Served (.exportSelect h l) h x s.accepted (ansPre 0x0001)) ∧
        (∀ p, s.hw.exportPlacement = some p → s.hw.isSecondary = true → ∃ t, exec (.exportSelect h l) s = .next t ∧
          t.hw.out.list = l.map (fun k => (k.toNat, true)) ∧
          (t.cmd.out h.tr).getLast? = some (s.hw.replyTo 0x81 h (ansOk (le 2 l.length)))) ∧
        (∀ p, s.hw.exportPlacement = some p → s.hw.isSecondary = false → let load := fun (i : Nat) (a : List Nat) =>
            ((a.filter (fun k => decide (i = 0 ∨ k / 768 = i))).map (s.hw.expLoad p)).sum
          ∃ t a b, exec (.exportSelect h l) s = .next t ∧ l.map (fun k => k.toNat) = a ++ b ∧
          t.hw.out.list = a.map (fun k => (k, true)) ++ b.map (fun k => (k, false)) ∧
          (∀ i, (i = 0 ∨ ∃ k ∈ a, k / 768 = i) → load i a ≤ s.hw.spareExport p i) ∧
          (∀ k ∈ b.head?, ∃ i, (i = 0 ∨ i = k / 768) ∧ s.hw.spareExport p i < load i (a ++ [k])) ∧
          (t.cmd.out h.tr).getLast? = some (s.hw.replyTo 0x81 h (ansOk (le 2 a.length)))))) ∧
    (∀ (a m g : U32) (p q : U16) (n : U8), s.Takes (.netConfig h a m g p q n) h x →
      (2 < n.toNat ∨ n = 2 ∧ bits (s.hw.reg 0x00040000) 0 2 = 2 → s.Served (.netConfig h a m g p q n) h x s.accepted (ansBad 32)) ∧
      (n.toNat ≤ 2 → n ≠ 2 ∨ bits (s.hw.reg 0x00040000) 0 2 ≠ 2 → ∃ t, exec (.netConfig h a m g p q n) s = .next t ∧
        t.hw.out = { s.hw.out with
          netAddr := a.toNat, netMask := m.toNat, netGate := g.toNat, pointPort := p.toNat, ptp := n.toNat
          ptpSeen := s.hw.out.ptpSeen && decide (n ≠ 0), ptpLocked := s.hw.out.ptpLocked && decide (n = 2)
          ptpRun := if n = 2 then s.hw.out.ptpRun else 0, ptpLost := if n = 2 then s.hw.out.ptpLost else none } ∧
        t.hw.clk = { s.hw.clk with term := if n ≠ 2 ∧ s.hw.out.ptp = 2 ∧ s.hw.ppsMode = 1 then 0 else s.hw.clk.term } ∧
        t.hw.reg 0x00680008 = q.toNat ∧ (t.cmd.out h.tr).getLast? = some (s.hw.replyTo 0x86 h (ansOk [])))) ∧
    (∀ l p r f d : U8, s.Takes (.laneConfig h l p r f d) h x →
      (∀ k, badProfile l.toNat p.toNat r.toNat f.toNat d.toNat = some k → s.Served (.laneConfig h l p r f d) h x s.accepted (ansBad k)) ∧
      (badProfile l.toNat p.toNat r.toNat f.toNat d.toNat = none → ∃ t w, exec (.laneConfig h l p r f d) s = .next t ∧
        t.hw.pantry.lnkProfile = some w ∧ bits w 0 8 = l.toNat ∧ bits w 8 3 = r.toNat ∧ bits w 12 1 = p.toNat ∧ bits w 16 2 = f.toNat ∧
        bits w 24 1 = d.toNat ∧ t.hw.lnk = { s.hw.lnk with cfg := putBit s.hw.lnk.cfg 24 (decide (d = 1)) } ∧
        (t.cmd.out h.tr).getLast? = some (s.hw.replyTo 0x82 h (ansOk [])))) ∧
    (s.Takes (.laneStatus h) h x → s.Served (.laneStatus h) h x s.accepted (ansOk ((List.range 8).flatMap (fun l =>
      le 1 (s.hw.lane l).state.code ++ le 1 (s.hw.lane l).rate ++ le 2 (min 0xFFFF (s.hw.lane l).margin) ++
      le 4 (s.hw.reg (0x006800A0 + 4 * l)))))) ∧
    (∀ r : U8, s.Takes (.laneStepUp h r) h x →
      (s.hw.isEth = true → s.Served (.laneStepUp h r) h x s.accepted { status := 0x03, data := le 1 s.hw.dev.mode.code }) ∧
      (s.hw.isEth = false → 2 < r.toNat ∨ (r.toNat = 2 ∧ s.hw.fecDetect = true) ∨ (∀ l < 4, s.hw.laneOn l = true → r.toNat ≤ (s.hw.lane l).rate) →
        s.Served (.laneStepUp h r) h x s.accepted (ansBad 16)) ∧
      (∀ l < 4, s.hw.isEth = false → r.toNat ≤ 2 → (r.toNat = 2 → s.hw.fecDetect = false) → s.hw.laneOn l = true → (s.hw.lane l).rate < r.toNat →
        s.Begins (.laneStepUp h r) h x { s.accepted with free := s.hw.free + 2 }
          (stepOp 0x84 [srcLnk] [r.toNat, (s.hw.lane 0).rate, (s.hw.lane 1).rate, (s.hw.lane 2).rate, (s.hw.lane 3).rate]))) ∧
    (∀ (l c : U8) (n : U32), s.Takes (.laneTest h l c n) h x →
      (7 < l.toNat → s.Served (.laneTest h l c n) h x s.accepted (ansBad 16)) ∧
      (l.toNat ≤ 7 → let port := s.hw.isEth && decide (l.toNat < 4)
        let rate := if port then 0 else (s.hw.lane l.toNat).rate
        let anchored := if port then !s.hw.laneOn l.toNat else decide ((s.hw.lane l.toNat).state = .anchored)
        (badTest c.toNat rate = true → s.Served (.laneTest h l c n) h x s.accepted (ansBad 17)) ∧
        (badTest c.toNat rate = false →
          (n.toNat < 1 ∨ 3600000 < n.toNat → s.Served (.laneTest h l c n) h x s.accepted (ansBad 18)) ∧
          (1 ≤ n.toNat → n.toNat ≤ 3600000 →
            (anchored = true → s.Served (.laneTest h l c n) h x s.accepted (ansPre 0x0200)) ∧
            (anchored = false → s.hw.lastLane h.tr l.toNat = true →
              s.Served (.laneTest h l c n) h x s.accepted (ansPre 0x0201)) ∧
            (anchored = false → s.hw.lastLane h.tr l.toNat = false → tb s.hw.streamMask l.toNat = true →
              s.hw.degrade = false → s.Served (.laneTest h l c n) h x s.accepted (ansPre 0x0202)) ∧
            (∀ m < 4, anchored = false → m ≠ l.toNat → s.hw.laneUp m = true → tb s.hw.streamMask l.toNat = false →
              ∃ t o, exec (.laneTest h l c n) s = .next t ∧ o ∈ t.cmd.ops ∧ o.opcode = 0x85 ∧ o.holds = [srcLnk] ∧
                o.params = [l.toNat] ∧ o.doneAt = none ∧ (port = false → (t.hw.lane l.toNat).state = .test) ∧ t.hw.lnk.testOn = true ∧
                t.hw.lnk.testLane = l.toNat ∧ t.hw.lnk.testCode = c.toNat ∧ t.hw.lnk.testEnd = s.hw.ticks + 800000 * n.toNat ∧
                (t.cmd.out h.tr).getLast? = some (s.hw.replyTo 0x85 h { status := 0x01, data := le 4 o.token }))))))

/-- Heartbeats, failures, epochs, promotion and planned swaps of the Watch units follow their rules (R411, R412, R414, R415, R416, R417, R419,
R421, R422, R423). -/
def Obligations.WatchRowsTakeEffect : Prop :=
  ∀ s : State, s.hw.outbox = [] → s.hw.watchRuns = true → let w := s.hw.wch
    (∀ u < 2, 1 ≤ (w.unit u).state → (w.unit u).state ≤ 5 →
      exec (.watchHeartbeat u) s = .next { s with hw := { s.hw with wch := w.setUnit u { w.unit u with beat := s.hw.ticks } } }) ∧
    (∀ u, (w.unit u).state = 0 ∨ 6 ≤ (w.unit u).state → exec (.watchHeartbeat u) s = .next s) ∧
    (∀ u, s.hw.ticks < (w.unit u).beat + 248000 → exec (.watchFailDeclare u false) s = .next s) ∧
    (∀ u b, (w.unit u).state < 2 → exec (.watchFailDeclare u b) s = .next s) ∧
    (∀ u < 2, ∀ b, u ≠ w.active → 2 ≤ (w.unit u).state → (w.unit u).state ≤ 5 → (w.unit u).failAt = [] →
      b = true ∨ (w.unit u).beat + 248000 ≤ s.hw.ticks → s.hw.evt.table.length < 1024 → ∃ t, exec (.watchFailDeclare u b) s = .next t ∧
        (t.hw.wch.unit u).state = 0 ∧ (t.hw.wch.unit u).fails = satAdd 0xFF (w.unit u).fails 1 ∧ t.hw.wch.active = w.active ∧
        t.hw.wch.copy = none ∧ t.hw.isRaised (fid srcWch 2 2) = true) ∧
    (∀ u < 2, ∀ b, u = w.active → (w.unit (1 - u)).state = 3 ∨ (w.unit (1 - u)).state = 4 → 2 ≤ (w.unit u).state → (w.unit u).state ≤ 5 →
      (w.unit u).failAt = [] → b = true ∨ (w.unit u).beat + 248000 ≤ s.hw.ticks → s.hw.evt.table.length < 1000 →
      ∃ t, exec (.watchFailDeclare u b) s = .next t ∧
        t.hw.wch.active = 1 - u ∧ (t.hw.wch.unit (1 - u)).state = 5 ∧ (t.hw.wch.unit u).state = 0 ∧ t.hw.isRaised (fid srcWch 2 1) = true ∧
        t.hw.wch.journal = 0 ∧ t.hw.dev.mode = s.hw.dev.mode ∧ t.hw.tiles = s.hw.tiles ∧
        (w.copy = none → ∀ i y, s.cmd.session i = some y → ∃ z, t.cmd.session i = some z ∧ z.number = y.number ∧ z.role = y.role ∧
          z.lastSeq = y.lastSeq ∧ z.wait = none ∧ z.held = [])) ∧
    (∀ u < 2, ∀ b, u = w.active → (w.unit (1 - u)).state < 3 ∨ 4 < (w.unit (1 - u)).state → 2 ≤ (w.unit u).state → (w.unit u).state ≤ 5 →
      b = true ∨ (w.unit u).beat + 248000 ≤ s.hw.ticks → ∃ t, exec (.watchFailDeclare u b) s = .next t ∧ t.hw.wch.lost = true ∧
        (∀ i, t.cmd.session i = none) ∧ t.cmd.ops = [] ∧ t.mirror = {}) ∧
    (∀ u, (w.unit u).state ≠ 0 ∨ s.hw.ticks < (w.unit u).since + 8000000 → exec (.watchRestart u) s = .next s) ∧
    (∀ u < 2, (w.unit u).state = 0 → 0 < (w.unit u).fails → (w.unit u).since + 8000000 ≤ s.hw.ticks → exec (.watchRestart u) s =
      .next { s with hw := { s.hw with
        wch := w.setUnit u { w.unit u with state := 1, since := s.hw.ticks, beat := s.hw.ticks } } }) ∧
    (∀ u b, (w.unit u).state ≠ 1 ∨ s.hw.ticks < (w.unit u).since + 24000000 → exec (.watchSelftestDone u b) s = .next s) ∧
    (∀ u < 2, (w.unit u).state = 1 → (w.unit u).since + 24000000 ≤ s.hw.ticks →
      exec (.watchSelftestDone u true) s = .next { s with hw := { s.hw with
        wch := w.setUnit u { w.unit u with state := 2, since := s.hw.ticks, beat := s.hw.ticks } } } ∧
      (s.hw.evt.table.length < 1024 → ∃ t, exec (.watchSelftestDone u false) s = .next t ∧ (t.hw.wch.unit u).state = 6 ∧
        t.hw.isRaised (fid srcWch 2 5) = true)) ∧
    (w.waiting = true ∨ (s.hw.ticks < w.nextAt ∧ w.journal = 0) → exec .epochBoundary s = .next s) ∧
    (w.waiting = false → w.nextAt ≤ s.hw.ticks → w.copy = none → w.swap = none → 2 ≤ w.standby.state → w.standby.state ≤ 4 →
      exec .epochBoundary s = .next { s with
        hw := { s.hw with wch := { w with
          copy := some s.hw.ticks, waiting := false, journal := 0, nextAt := s.hw.ticks + s.hw.epochTicks, swapStep := false } }
        mirror := { s.mirror with copying := some s.image } }) ∧
    (∀ c, w.waiting = false → w.nextAt ≤ s.hw.ticks → w.copy = none → w.swap = some c → w.standby.promotable = true →
      s.transits = false → s.stepping = true → exec .epochBoundary s = .next { s with
        hw := { s.hw with wch := { w with
          copy := some s.hw.ticks, waiting := false, journal := 0, nextAt := s.hw.ticks + s.hw.epochTicks, swapStep := true } }
        mirror := { s.mirror with copying := some s.image } }) ∧
    (∀ c, w.waiting = false → w.nextAt ≤ s.hw.ticks → w.copy = some c → w.stretches.length < 16 →
      ∃ l, exec .epochBoundary s = .next { s with hw := { s.hw with wch := { w with waiting := true, stretches := l } } }) ∧
    (∀ c, w.waiting = false → w.nextAt ≤ s.hw.ticks → w.copy = none → w.swap = some c → w.standby.promotable = true →
      s.transits = false → s.stepping = false → ∃ t, exec .epochBoundary s = .next t ∧ t.hw.wch.active = 1 - w.active ∧ (w.active < 2 →
        (t.hw.wch.unit (1 - w.active)).state = 5 ∧ (t.hw.wch.unit w.active).state = 3) ∧ t.hw.wch.swap = none ∧
        t.hw.wch.epoch = (w.epoch + 1) % 2 ^ 32 ∧ t.cmd.ops = s.cmd.ops ∧ t.mirror.sealed = some s.image) ∧
    (w.copy = none → exec .epochSeal s = .next s) ∧
    (∀ c, w.copy = some c → w.waiting = false → ∃ t, exec .epochSeal s = .next t ∧ t.cmd = s.cmd ∧ t.hw.wch.copy = none ∧
      t.hw.wch.epoch = (w.epoch + 1) % 2 ^ 32 ∧ t.mirror.sealed = s.mirror.copying ∧ t.hw.wch.active = w.active ∧
      t.hw.wch.standby.state = if w.standby.state = 2 then (if w.standby.wasActive then 4 else 3) else w.standby.state) ∧
    (w.standby.state ≠ 4 ∨ w.swap ≠ none → exec .takeBack s = .next s) ∧
    (w.standby.state = 4 → w.swap = none → w.standby.since + 80000000 * min 600 (max 1 (bits (s.hw.reg 0x0001000C) 0 10)) ≤ s.hw.ticks →
      exec .takeBack s = .next { s with hw := { s.hw with wch := { w with swap := some 1 } } }) ∧
    (w.standby.promotable = false → exec .rehearse s = .next { s with hw := { s.hw with ack := 0x06, ackData := le 2 0x0A01 } }) ∧
    (w.standby.promotable = true → w.swap ≠ none →
      exec .rehearse s = .next { s with hw := { s.hw with ack := 0x06, ackData := le 2 0x0A02 } }) ∧
    (w.standby.promotable = true → w.swap = none →
      exec .rehearse s = .next { s with hw := { s.hw with ack := 0, ackData := [], wch := { w with swap := some 2 } } })

/-- A scheduled transition and one announced in a cascade happen at their tick, unless a condition has failed (R57, R59, R62, R63, R275). -/
def Obligations.ScheduledTransitionsHappenAtTheirTick : Prop :=
  ∀ s : State, s.hw.outbox = [] →
    (s.hw.dev.sched = none → exec .modeSetAtTick s = .next s) ∧
    (∀ m t, s.hw.dev.sched = some (m, t) → s.hw.clk.time.toNat < t.toNat → exec .modeSetAtTick s = .next s) ∧
    (∀ m t, s.hw.awake 15 = true → s.hw.dev.sched = some (m, t) → t.toNat ≤ s.hw.clk.time.toNat →
      (s.hw.dev.mode = .config → m = .scan → s.hw.preScan = none → ∃ u, exec .modeSetAtTick s = .next u ∧ u.hw.dev.mode = .scan ∧
        u.hw.dev.sched = none ∧ u.hw.dev.lastCause = 1 ∧ u.hw.bcn.inhibited = false) ∧
      (∀ c, s.hw.dev.mode = .config → m = .scan → s.hw.preScan = some c → ∃ u r l, exec .modeSetAtTick s = .next u ∧
        u.hw.dev = { s.hw.dev with sched := none } ∧ u.hw.bcn = s.hw.bcn ∧ mget [] u.hw.evt.recent srcDev = r :: l ∧ 0xE000 ≤ r.code ∧
        r.payload = le 2 c) ∧
      (s.hw.dev.mode = .scan → m = .config → ∃ u, exec .modeSetAtTick s = .next u ∧ u.hw.dev.mode = .config ∧ u.hw.dev.sched = none ∧
        u.hw.dev.lastCause = 1 ∧ u.hw.bcn.inhibited = true) ∧
      (s.hw.dev.mode ≠ .config → s.hw.dev.mode ≠ .scan →
        exec .modeSetAtTick s = .next { s with hw := { s.hw with dev := { s.hw.dev with sched := none } } })) ∧
    (s.hw.cas.modeAt = none → exec .cascadeModeTick s = .next s) ∧
    (∀ c t, s.hw.cas.modeAt = some (c, t) → s.hw.clk.time.toNat < t → exec .cascadeModeTick s = .next s) ∧
    (∀ c t, s.hw.awake 15 = true → s.hw.cas.modeAt = some (c, t) → t ≤ s.hw.clk.time.toNat →
      (c = 3 ∨ c = 4 → s.hw.classRaised 3 = true →
        exec .cascadeModeTick s = .next { s with hw := { s.hw with cas := { s.hw.cas with modeAt := none } } }) ∧
      (c = 3 → s.hw.dev.mode = .config → s.hw.classRaised 3 = false → ∃ u, exec .cascadeModeTick s = .next u ∧ u.hw.dev.mode = .scan ∧
        u.hw.cas.modeAt = none ∧ u.hw.bcn.inhibited = false) ∧
      (c = 2 → s.hw.dev.mode = .scan ∨ s.hw.dev.mode = .guard → ∃ u, exec .cascadeModeTick s = .next u ∧ u.hw.dev.mode = .config ∧
        u.hw.cas.modeAt = none ∧ u.hw.bcn.inhibited = true) ∧
      (c = 2 → s.hw.dev.mode = .config →
        exec .cascadeModeTick s = .next { s with hw := { s.hw with cas := { s.hw.cas with modeAt := none } } }))

/-- A cell is governed by the enabled region entry of highest priority that holds it, on a tie the lower index, else by the header (R193). -/
def Obligations.CellsAreGovernedByPriority : Prop :=
  ∀ (p : List Byte) (h v : Nat),
    let prio := fun i => field (roiAt p i) 10 1
    let holds := fun i => prio i ≠ 0 ∧ field (roiAt p i) 0 2 ≤ h ∧ h ≤ field (roiAt p i) 2 2 ∧ field (roiAt p i) 4 2 ≤ v ∧ v ≤ field (roiAt p i) 6 2
    (∀ i, governor p h v = some i ↔ i < 16 ∧ holds i ∧ ∀ j < 16, holds j → j ≠ i → prio j < prio i ∨ (prio j = prio i ∧ i < j)) ∧
    (governor p h v = none ↔ ∀ j < 16, ¬ holds j) ∧
    (∀ i, governor p h v = some i → govPrio p (governor p h v) = prio i) ∧
    (governor p h v = none → govPrio p (governor p h v) = 0 ∧ govSpp p (governor p h v) = field p 20 2 ∧
      govHdiv p (governor p h v) = field p 22 1 % 16 ∧ govVsub p (governor p h v) = field p 22 1 / 16 ∧ govShape p (governor p h v) = field p 26 1)

/-- The fault_summary of STATUS_GET is DEV_BOOT_STATUS in BOOT, elsewhere one bit for each class with a fault raised (R73). -/
def Obligations.FaultSummaryIsWhatStatusGetCarries : Prop :=
  ∀ (s : State) (h : Hdr), ∃ n : Nat,
    (s.hw.dev.mode = .boot → n = (s.hw.readReg 0x0000000C).2) ∧
    (s.hw.dev.mode ≠ .boot → n < 2 ^ 5 ∧ ∀ c < 5, (tb n c = true ↔ ∃ e ∈ s.hw.evt.table, e.raised = true ∧ e.id.cls = c)) ∧
    (∀ x, s.Hears (.statusGet h) h x → h.role.toNat ≤ x.role → s.hw.wch.lost = false → s.hw.dev.mode ≠ .dormant →
      ∃ a : List Byte, a.length = 3 ∧ s.Served (.statusGet h) h x s.accepted (ansOk (a ++ le 4 n ++ le 8 s.hw.clk.time.toNat))) ∧
    (s.cmd.session h.tr = none → s.hw.hears h.tr = true → s.HeaderGood h false → s.hw.outbox = [] → h.tr = .spi →
      ∃ a : List Byte, a.length = 3 ∧ exec (.statusGet h) s = .next (s.reply h 0x04 (ansOk (a ++ le 4 n ++ le 8 s.hw.clk.time.toNat))))

/-- A read of CLK_TIME_LO latches the count for CLK_TIME_HI; TIME_GET returns the whole count at once (R136). -/
def Obligations.DeviceTimeReadsWhole : Prop :=
  ∀ s : State,
    (s.hw.outbox = [] → ∃ t, exec (.latchingRead 0x00040010) s = .next t ∧ t.hw.clk.latchHi = s.hw.clk.time.toNat / 2 ^ 32 ∧
      t.hw.clk.time = s.hw.clk.time ∧ t.cmd = s.cmd) ∧
    (s.hw.readReg 0x00040010).2 = s.hw.clk.time.toNat % 2 ^ 32 ∧
    (s.hw.readReg 0x00040010).1.clk.latchHi = s.hw.clk.time.toNat / 2 ^ 32 ∧
    (∀ k : Hw, k.clk.latchHi = (s.hw.readReg 0x00040010).1.clk.latchHi → (k.readReg 0x00040014).2 = s.hw.clk.time.toNat / 2 ^ 32 ∧
      (k.readReg 0x00040014).1.clk.latchHi = k.clk.latchHi) ∧
    (∀ a, a ≠ 0x00040010 → (s.hw.readReg a).1.clk.latchHi = s.hw.clk.latchHi) ∧
    (∀ h x, s.Takes (.timeGet h) h x → ∃ b : Byte, s.Served (.timeGet h) h x s.accepted (ansOk (le 8 s.hw.clk.time.toNat ++ [b])))

/-- An event of an island that is stopped changes nothing; the Keepers and Bell are stopped on a device that is no AG7680-IS (R2, R56, R68, R401). -/
def Obligations.StoppedIslandsIgnoreEvents : Prop :=
  ∀ (c : Instr) (s : State),
    (∀ n, islandOf c = some n → s.hw.awake n = false → exec c s = .next s) ∧
    (keeperEvent c = true → s.hw.isIS = false → exec c s = .next s) ∧
    (s.hw.dev.mode = .dormant ∨ s.hw.held = true → ∀ n, s.hw.awake n = false) ∧
    (s.hw.dev.mode = .boot → ∀ n, s.hw.dev.step < n → s.hw.awake n = false)
end

