-- ==== Sys2Proof/Laws/Serve.lean ====
section
/-! SUPPORT. What serving a host command comes to when nothing refuses it; deliveries of an empty outbox; sessions by transport. -/

namespace Sys2Proof.Machine

/-! ### Sessions by transport -/

@[simp] theorem CmdSt.session_setSession (c : CmdSt) (t : Transport) (x : Option Session) : (c.setSession t x).session t = x := by
  cases t <;> rfl

theorem CmdSt.session_setSession_ne (c : CmdSt) {t u : Transport} (x : Option Session) (h : u ≠ t) : (c.setSession t x).session u = c.session u := by
  cases t <;> cases u <;> first | rfl | exact absurd rfl h

@[simp] theorem CmdSt.setSession_setSession (c : CmdSt) (t : Transport) (x y : Option Session) :
    (c.setSession t x).setSession t y = c.setSession t y := by cases t <;> rfl

@[simp] theorem CmdSt.out_setSession (c : CmdSt) (t u : Transport) (x : Option Session) : (c.setSession t x).out u = c.out u := by
  cases t <;> cases u <;> rfl

@[simp] theorem CmdSt.ops_setSession (c : CmdSt) (t : Transport) (x : Option Session) : (c.setSession t x).ops = c.ops := by cases t <;> rfl
@[simp] theorem CmdSt.issued_setSession (c : CmdSt) (t : Transport) (x : Option Session) : (c.setSession t x).issued = c.issued := by cases t <;> rfl

@[simp] theorem CmdSt.out_setOut (c : CmdSt) (t : Transport) (l : List Packet) : (c.setOut t l).out t = l := by cases t <;> rfl
@[simp] theorem CmdSt.session_setOut (c : CmdSt) (t u : Transport) (l : List Packet) : (c.setOut t l).session u = c.session u := by
  cases t <;> cases u <;> rfl
@[simp] theorem CmdSt.ops_setOut (c : CmdSt) (t : Transport) (l : List Packet) : (c.setOut t l).ops = c.ops := by cases t <;> rfl
@[simp] theorem CmdSt.session_push (c : CmdSt) (t u : Transport) (p : Packet) : (c.push t p).session u = c.session u := by
  simp [CmdSt.push]

@[simp] theorem CmdSt.held_setSession (c : CmdSt) (t : Transport) (x : Option Session) (b : List Nat) :
    (c.setSession t x).held b = c.held b := by simp [CmdSt.held]
@[simp] theorem CmdSt.liveOps_setSession (c : CmdSt) (t : Transport) (x : Option Session) : (c.setSession t x).liveOps = c.liveOps := by
  simp [CmdSt.liveOps]

@[simp] theorem State.putSession_hw (s : State) (t : Transport) (x : Option Session) : (s.putSession t x).hw = s.hw := rfl
@[simp] theorem State.putSession_cmd (s : State) (t : Transport) (x : Option Session) : (s.putSession t x).cmd = s.cmd.setSession t x := rfl
@[simp] theorem State.took_cmd (s : State) (h : Hdr) (x : Session) :
    (s.took h x).cmd = s.cmd.setSession h.tr (some ((x.heard s.hw.ticks).accept h)) := rfl
@[simp] theorem State.took_dev (s : State) (h : Hdr) (x : Session) : (s.took h x).hw.dev = s.hw.dev := rfl
@[simp] theorem State.took_outbox (s : State) (h : Hdr) (x : Session) : (s.took h x).hw.outbox = s.hw.outbox := rfl

/-! ### Deliveries -/

/-- With nothing to deliver, delivering changes nothing. -/
theorem State.drain_quiet (s : State) (h : s.hw.outbox = []) : s.drain = s := by
  have e : ∀ t : State, t.hw.outbox = [] → ({ t with hw := { t.hw with outbox := [] } } : State) = t := by
    intro t ht
    rcases t with ⟨p, hw, c, m⟩
    rcases hw
    simp_all
  have g : ∀ n, ∀ t : State, t.hw.outbox = [] → drainGo n t = t := by
    intro n
    induction n with
    | zero => intro t ht; exact e t ht
    | succ n ih => intro t ht; simp only [drainGo, ht, List.foldl_nil, e t ht]; exact ih t ht
  exact g 3 s h

/-- Nothing is left to deliver after delivering. -/
theorem drainGo_outbox (n : Nat) (s : State) : (drainGo n s).hw.outbox = [] := by
  induction n generalizing s with
  | zero => rfl
  | succ n ih => exact ih _

@[simp] theorem State.drain_outbox (s : State) : s.drain.hw.outbox = [] := drainGo_outbox 3 s

/-! ### A command that is served -/

/-- The header checks of step 3 find nothing wrong. -/
theorem Hw.badHeader_good {s : State} {h : Hdr} {wide : Bool} (g : s.HeaderGood h wide) : s.hw.badHeader h wide false = none := by
  have h1 := g.version
  have h2 := g.flags
  have h3 := g.rest
  have h4 := g.padding
  have h0 := g.opcode
  have h5 := g.here
  have h6 := g.device
  have h7 := g.alone
  have h8 : ¬ (wide = true ∧ s.hw.inCascade = true ∧ s.hw.cas.index ≠ 0) := by
    rintro ⟨a, b, _⟩
    simp [h7 a] at b
  simp only [Hw.badHeader, h0, h1, h3, h4, h5, h6, Nat.not_le.mpr h2]
  simp [h8]

/-- Steps 5 to 9 refuse nothing. -/
theorem State.judge_ready {s : State} {h : Hdr} {sp : Spec} {n : Nat} {x : Session} (r : s.Ready h sp n x) :
    (s.took h x).judge sp (callerOf h (s.took h x).cmd) = none := by
  obtain ⟨m1, m2, m3⟩ := r.mode
  obtain ⟨r1, r2⟩ := r.role
  have hs : ¬ ((s.hw.noSafety = true) ∧ (sp.fused = true ∨ safetyOp sp.op = true)) := by
    intro ⟨a, b⟩
    have := r.fitted a
    simp_all
  have hf := r.free
  have hl := r.slots
  have hu := r.up
  have hm : sp.modes.contains s.hw.dev.mode = true := by simpa using m1
  have e0 : (s.took h x).hw.noSafety = s.hw.noSafety := rfl
  have e2 : (s.took h x).hw.wch.lost = s.hw.wch.lost := rfl
  have e5 : ((x.heard s.hw.ticks).accept h).role = x.role := rfl
  have hk : ¬ (sp.stepped = true ∧ 4 ≤ s.cmd.liveOps) := by
    intro ⟨a, b⟩
    have := hl a
    omega
  have hr : ¬ (x.role < h.role.toNat ∨ h.role.toNat < sp.role) := by omega
  unfold State.judge State.gate
  simp only [callerOf, e0, e2, e5, State.took_dev, State.took_cmd, CmdSt.session_setSession, CmdSt.held_setSession,
    CmdSt.liveOps_setSession, hf, hu, m2, m3, hm, if_neg hs, if_neg hk]
  simp [hr]

/-- A command that arrives runs on what its acceptance left. -/
theorem State.serve_arrives {s : State} {i : Instr} {h : Hdr} {x : Session} {sp : Spec} {params : List Byte} {body : Caller → State → State × Ans}
    (r : s.Arrives h sp.wide params.length x) (hop : sp.op ≠ 0x01) : s.serve i h sp params body = (s.took h x).run h sp params body := by
  obtain ⟨i1, i2, i3⟩ := r.idle
  have hb : (s.took h x).hw.badHeader h sp.wide false = none := by
    have g := r.header
    exact Hw.badHeader_good (s := s.took h x) ⟨g.version, g.flags, g.rest, g.padding, g.opcode, g.here, g.device, g.alone⟩
  have hf : x.accepted.find? (fun e => !s.hw.relays h.tr && decide (e.seq = h.seq.toNat ∧ e.tag = h.tag.toNat)) = none := by
    rw [List.find?_eq_none]
    intro e he
    have := List.find?_eq_none.mp r.fresh e he
    simp_all
  have hh : h.subaddr.toNat = (s.took h x).hw.cas.index := r.header.here
  unfold State.serve
  rw [if_neg (by simp [r.hears]), if_neg (Nat.not_lt.mpr r.fits), r.sess]
  simp only [i3, reduceCtorEq, if_false, hop, hf]
  rw [if_pos (Or.inl r.next)]
  unfold State.intake
  rw [hb]
  have o : ¬ 8 ≤ ((x.heard s.hw.ticks).accept h).outstanding := by
    simpa [Session.outstanding, Session.heard, Session.accept, i1, i2, i3, b2n] using r.room
  have w : ((x.heard s.hw.ticks).accept h).wait = none := i1
  have d : ((x.heard s.hw.ticks).accept h).held = [] := i2
  simp only [State.start, hh, if_true, if_false, State.took_cmd, CmdSt.session_setSession, hop, o, w, d]
  simp

/-- A refused command only replies. -/
theorem State.run_refused {s : State} {h : Hdr} {sp : Spec} {params : List Byte} {body : Caller → State → State × Ans} {a : Ans}
    (hq : s.hw.outbox = []) (hj : s.judge sp (callerOf h s.cmd) = some a) (hw : a.wait = none) :
    s.run h sp params body = s.reply h sp.op a := by
  unfold State.run State.perform
  rw [hj]
  simp only [hw, State.drain_quiet s hq]

/-- A command that is ready runs on what its acceptance left. -/
theorem State.serve_ready {s : State} {h : Hdr} {sp : Spec} {x : Session} {i : Instr} {params : List Byte} {body : Caller → State → State × Ans}
    (r : s.Ready h sp params.length x) (hop : sp.op ≠ 0x01) : s.serve i h sp params body = (s.took h x).run h sp params body :=
  State.serve_arrives r.toArrives hop

/-- The command of a row that is none of a cascade's, or of a device that stands alone: its meaning, then the reply. -/
theorem State.run_ready {s : State} {h : Hdr} {sp : Spec} {x : Session} {params : List Byte} {body : Caller → State → State × Ans} {t : State}
    {a : Ans} (r : s.Ready h sp params.length x) (hb : body (callerOf h (s.took h x).cmd) (s.took h x) = (t, a)) (hw : a.wait = none)
    (ha : t.hw.inCascade = false ∨ sp.wide = false ∨ sp.alone = true) :
    (s.took h x).run h sp params body = t.drain.reply h sp.op a := by
  have e : (s.took h x).perform h sp params body = (t, a) := by
    unfold State.perform
    rw [State.judge_ready r]
    simp only [hb]
    split
    · rename_i c
      rcases ha with e | e | e
      · simp [State.casJoin, e]
      · simp_all
      · simp_all
    · rfl
  unfold State.run
  rw [e]
  simp [hw]

/-- A served command: acceptance, meaning, reply. -/
theorem State.serve_done {s : State} {h : Hdr} {sp : Spec} {x : Session} {i : Instr} {params : List Byte} {body : Caller → State → State × Ans}
    {t : State} {a : Ans} (r : s.Ready h sp params.length x) (hop : sp.op ≠ 0x01)
    (hb : body (callerOf h (s.took h x).cmd) (s.took h x) = (t, a)) (hw : a.wait = none)
    (ha : t.hw.inCascade = false ∨ sp.wide = false ∨ sp.alone = true) :
    s.serve i h sp params body = t.drain.reply h sp.op a := by
  rw [State.serve_ready r hop, State.run_ready r hb hw ha]

/-- A command whose meaning leaves nothing to deliver. -/
theorem State.serve_still {s : State} {h : Hdr} {sp : Spec} {x : Session} {i : Instr} {params : List Byte} {body : Caller → State → State × Ans}
    {t : State} {a : Ans} (r : s.Ready h sp params.length x) (hop : sp.op ≠ 0x01)
    (hb : body (callerOf h (s.took h x).cmd) (s.took h x) = (t, a)) (hw : a.wait = none)
    (ha : t.hw.inCascade = false ∨ sp.wide = false ∨ sp.alone = true) (hq : t.hw.outbox = []) :
    s.serve i h sp params body = t.reply h sp.op a := by
  rw [State.serve_done r hop hb hw ha, State.drain_quiet t hq]

/-- A command that only reads: acceptance and reply are all it changes. -/
theorem State.serve_read {s : State} {h : Hdr} {sp : Spec} {x : Session} {i : Instr} {params : List Byte} {body : Caller → State → State × Ans}
    {a : Ans} (r : s.Ready h sp params.length x) (hop : sp.op ≠ 0x01)
    (hb : body (callerOf h (s.took h x).cmd) (s.took h x) = (s.took h x, a)) (hw : a.wait = none) :
    s.serve i h sp params body = (s.took h x).reply h sp.op a :=
  State.serve_still r hop hb hw
    (by rcases e : sp.wide with _ | _
        · exact Or.inr (Or.inl rfl)
        · exact Or.inl (r.header.alone e)) r.quiet

end Sys2Proof.Machine
end

