-- ==== Sys2Proof/Laws/Commands.lean ====
section
/-! SUPPORT. Every host command is served by its row: the one fact the claims about all of them rest on. -/

namespace Sys2Proof.Machine

/-- A host command comes to the checks of R31 with its row and its parameters; only its meaning is its own. -/
theorem exec_serves (c : Instr) (h : Hdr) (e : hdrOf c = some h) :
    ∃ body, ∀ s, exec c s = .next (s.serve c h (rowOf c) (paramsOf c) body) := by
  cases c <;> simp only [hdrOf, reduceCtorEq, Option.some.injEq] at e <;> subst e <;> exact ⟨_, fun _ => rfl⟩

/-- The row of a host command carries its opcode. -/
theorem rowOf_op (c : Instr) (h : Hdr) (e : hdrOf c = some h) : (rowOf c).op = opOf c := by
  cases c <;> simp only [hdrOf, reduceCtorEq, Option.some.injEq] at e <;> rfl

/-- A command that is taken: what its meaning makes of the accepted state is what is left beside acceptance and the reply. -/
theorem State.served_of {s : State} {c : Instr} {h : Hdr} {x : Session} {body : Caller → State → State × Ans} {hw : Hw} {a : Ans}
    (t : s.Takes c h x) (hop : opOf c ≠ 0x01) (he : exec c s = .next (s.serve c h (rowOf c) (paramsOf c) body))
    (hb : body (callerOf h (s.took h x).cmd) (s.took h x) = ({ s.took h x with hw := hw }, a)) (hq : hw.outbox = []) (hw' : a.wait = none)
    (ha : hw.inCascade = false ∨ (rowOf c).wide = false ∨ (rowOf c).alone = true) : s.Served c h x hw a := by
  have ho := rowOf_op c h t.1
  unfold State.Served
  rw [he, State.serve_still t.2 (ho ▸ hop) hb hw' ha hq, ho]

/-- A command that is taken and only answers. -/
theorem State.served_read {s : State} {c : Instr} {h : Hdr} {x : Session} {body : Caller → State → State × Ans} {a : Ans}
    (t : s.Takes c h x) (hop : opOf c ≠ 0x01) (he : exec c s = .next (s.serve c h (rowOf c) (paramsOf c) body))
    (hb : body (callerOf h (s.took h x).cmd) (s.took h x) = (s.took h x, a)) (hw' : a.wait = none) : s.Served c h x s.accepted a :=
  State.served_of t hop he hb t.2.quiet hw'
    (by rcases e : (rowOf c).wide with _ | _
        · exact Or.inr (Or.inl rfl)
        · exact Or.inl (t.2.header.alone e))

/-- A command that is taken and starts a stepped operation. -/
theorem State.begins_of {s : State} {c : Instr} {h : Hdr} {x : Session} {body : Caller → State → State × Ans} {hw : Hw} {o : StepOp}
    (t : s.Takes c h x) (hop : opOf c ≠ 0x01) (he : exec c s = .next (s.serve c h (rowOf c) (paramsOf c) body))
    (hb : body (callerOf h (s.took h x).cmd) (s.took h x) = ({ s.took h x with hw := hw } : State).begin (callerOf h (s.took h x).cmd) o)
    (hq : hw.outbox = []) (ht : hw.ticks = s.hw.ticks) (ha : hw.inCascade = false ∨ (rowOf c).wide = false ∨ (rowOf c).alone = true) :
    s.Begins c h x { hw with free := hw.free + 2 } o := by
  have ho := rowOf_op c h t.1
  have hc : (s.took h x).cmd.ops = s.cmd.ops := by simp
  have hi : (s.took h x).cmd.issued = s.cmd.issued := by simp
  have hn : (callerOf h (s.took h x).cmd).session = x.number := by simp [callerOf, Session.accept, Session.heard]
  refine ⟨freshToken (Config.freeNat hw.free) s.cmd.issued, Config.freeNat (hw.free + 1) % 65536, ?_⟩
  rw [he, State.serve_still t.2 (ho ▸ hop) (t := _) (a := _) hb rfl ha hq, ho]
  simp only [hn, hc, hi, ht]
  rfl

end Sys2Proof.Machine
end

