-- ==== Sys2Proof/Laws/Deliver.lean ====
section
/-! SUPPORT. What a step of the hardware changes besides the effect of its function: the delivery of its signals touches the command side,
the event log and the count of free values. -/

namespace Sys2Proof.Machine

/-- Two states of the hardware that differ at most in what an end of a stepped operation logs. -/
def Hw.LogOnly (a b : Hw) : Prop := ∃ l h w n, b = { a with free := n, evt := { a.evt with log := l, head := h, wraps := w } }

theorem Hw.LogOnly.refl (a : Hw) : a.LogOnly a := ⟨a.evt.log, a.evt.head, a.evt.wraps, a.free, rfl⟩
theorem Hw.LogOnly.trans {a b c : Hw} (x : a.LogOnly b) (y : b.LogOnly c) : a.LogOnly c := by
  obtain ⟨l, h, w, n, rfl⟩ := x
  obtain ⟨l', h', w', n', rfl⟩ := y
  exact ⟨l', h', w', n', rfl⟩

theorem Hw.logStep_logOnly (a : Hw) (p : List Byte) : a.LogOnly (a.logStep p) := by
  unfold Hw.logStep
  split
  · exact ⟨_, _, _, _, rfl⟩
  · exact .refl a

theorem State.finishOp_logOnly (s : State) (k st : Nat) (r : List Byte) : s.hw.LogOnly (s.finishOp k st r).hw := by
  unfold State.finishOp
  split
  · exact .refl _
  · dsimp only
    split
    · exact Hw.logStep_logOnly _ _
    · exact .refl _

theorem State.endOp_logOnly (s : State) (k st : Nat) (r : List Byte) : s.hw.LogOnly (s.endOp k st r).hw := by
  unfold State.endOp
  split
  · exact .refl _
  · split
    · exact .refl _
    · split
      · exact State.finishOp_logOnly _ _ _ _
      · exact .refl _

theorem State.foldOps_logOnly (l : List StepOp) (f : State → StepOp → State) (hf : ∀ (t : State) (o : StepOp), t.hw.LogOnly (f t o).hw) (s : State) :
    s.hw.LogOnly (l.foldl f s).hw := by
  induction l generalizing s with
  | nil => exact .refl _
  | cons o l ih => exact (hf s o).trans (ih _)

/-- The signals that neither close a transport nor reset the device. -/
def Signal.mild : Signal → Bool
  | .transportDown _ => false
  | .deviceReset => false
  | _ => true

theorem State.signal_logOnly (s : State) (x : Signal) (h : x.mild = true) : s.hw.LogOnly (s.signal x).hw := by
  cases x with
  | record r =>
    unfold State.signal
    dsimp only
    split
    · refine State.foldOps_logOnly _ _ (fun t o => ?_) _
      split
      · exact State.endOp_logOnly _ _ _ _
      · exact .refl _
    · exact .refl _
  | modeLeft =>
    refine State.foldOps_logOnly _ _ (fun t o => ?_) _
    split
    · exact State.endOp_logOnly _ _ _ _
    · exact .refl _
  | stopInTransition =>
    refine State.foldOps_logOnly _ _ (fun t o => ?_) _
    split
    · exact State.endOp_logOnly _ _ _ _
    · exact .refl _
  | transportDown t => simp [Signal.mild] at h
  | laneBack t => exact .refl _
  | deviceReset => simp [Signal.mild] at h

theorem State.signals_logOnly (l : List Signal) (h : ∀ x ∈ l, x.mild = true) (s : State) : s.hw.LogOnly (l.foldl State.signal s).hw := by
  induction l generalizing s with
  | nil => exact .refl _
  | cons x l ih => exact (State.signal_logOnly s x (h x (by simp))).trans (ih (fun y hy => h y (by simp [hy])) _)

/-- Delivery of mild signals leaves the hardware as it is but for the event log, the count of free values and the outbox. -/
theorem State.drain_logOnly (s : State) (h : ∀ x ∈ s.hw.outbox, x.mild = true) : Hw.LogOnly { s.hw with outbox := [] } s.drain.hw := by
  unfold State.drain
  have h1 := State.signals_logOnly s.hw.outbox h { s with hw := { s.hw with outbox := [] } }
  have step : ∀ n (t : State), t.hw.outbox = [] → Hw.LogOnly t.hw (drainGo n t).hw := by
    intro n
    induction n with
    | zero => intro t ht; exact ⟨t.hw.evt.log, t.hw.evt.head, t.hw.evt.wraps, t.hw.free, by rw [drainGo]; simp [← ht]⟩
    | succ n ih =>
      intro t ht
      rw [drainGo]
      simp only [ht, List.foldl_nil]
      have : ({ t with hw := { t.hw with outbox := [] } } : State) = t := by rw [← ht]
      rw [this]
      exact ih t ht
  have h2 : (s.hw.outbox.foldl State.signal { s with hw := { s.hw with outbox := [] } }).hw.outbox = [] := by
    obtain ⟨_, _, _, _, e⟩ := h1
    rw [e]
  exact h1.trans (step 2 _ h2)

/-- A step of the hardware whose function leaves nothing to deliver. -/
theorem State.hwStep_quiet (s : State) (f : Hw → Hw) (h : (f s.hw).outbox = []) : s.hwStep f = { s with hw := f s.hw } :=
  State.drain_quiet _ h

/-- A step of the hardware that hands over mild signals: its function, then what delivery logs. -/
theorem State.hwStep_logOnly (s : State) (f : Hw → Hw) (h : ∀ x ∈ (f s.hw).outbox, x.mild = true) :
    Hw.LogOnly { f s.hw with outbox := [] } (s.hwStep f).hw :=
  State.drain_logOnly { s with hw := f s.hw } h

end Sys2Proof.Machine
end

