-- ==== Sys2Proof/Laws/Faults.lean ====
section
/-! SUPPORT. What raising and recording a fault changes. -/

namespace Sys2Proof.Machine

/-- An event record changes the event state and is handed to Watch. -/
theorem Hw.post_shape (hw : Hw) (src code : Nat) (p : List Byte) (b : Bool) :
    ∃ r l h w, hw.post src code p b = { hw with
      outbox := hw.outbox ++ [.record r]
      evt := { hw.evt with
        seq := mset 0 hw.evt.seq src ((mget 0 hw.evt.seq src + 1) % 2 ^ 24)
        recent := mset [] hw.evt.recent src ((r :: mget [] hw.evt.recent src).take 64)
        log := l, head := h, wraps := w } } := by
  unfold Hw.post logRecord
  cases b <;> exact ⟨_, _, _, _, rfl⟩

/-- A recorded fault: its table entry, and a record. -/
theorem Hw.recordFault_shape (hw : Hw) (f : FaultId) (x : List Byte) :
    ∃ r e, hw.recordFault f x = { hw with evt := e, outbox := hw.outbox ++ [.record r] } ∧ e.table = (raiseEntry f hw.clk.time hw.evt).table := by
  obtain ⟨r, l, h, w, e⟩ := Hw.post_shape { hw with evt := raiseEntry f hw.clk.time hw.evt } f.src f.code
    (le 2 ((raiseEntry f hw.clk.time hw.evt).count f) ++ le 1 1 ++ x) (decide (bits (hw.reg 0x00910000) 0 3 ≤ f.cls))
  exact ⟨r, _, e, rfl⟩

/-- The fault table holds a fault that has just been raised, while it has room. -/
theorem raiseEntry_raised (f : FaultId) (t : U64) (e : EvtSt) (h : e.table.length < 1024 ∨ e.table.any (fun x => decide (x.id = f)) = true) :
    (raiseEntry f t e).table.any (fun x => decide (x.id = f) && x.raised) = true := by
  unfold raiseEntry
  split
  · rename_i a
    obtain ⟨x, hx, hf⟩ := List.any_eq_true.mp a
    refine List.any_eq_true.mpr ⟨_, List.mem_map.mpr ⟨x, hx, rfl⟩, ?_⟩
    simp_all
  · rename_i a
    rcases h with h | h
    · rw [if_pos h]
      simp
    · exact absurd h a

/-- A fault that is raised stays raised when another is raised. -/
theorem raiseEntry_keeps (f g : FaultId) (t : U64) (e : EvtSt) (h : e.table.any (fun x => decide (x.id = g) && x.raised) = true) :
    (raiseEntry f t e).table.any (fun x => decide (x.id = g) && x.raised) = true := by
  obtain ⟨x, hx, hg⟩ := List.any_eq_true.mp h
  unfold raiseEntry
  split
  · refine List.any_eq_true.mpr ⟨_, List.mem_map.mpr ⟨x, hx, rfl⟩, ?_⟩
    split <;> simp_all
  · split
    · exact List.any_eq_true.mpr ⟨x, by simp [hx], hg⟩
    · exact h

theorem Hw.isRaised_recordFault (hw : Hw) (f : FaultId) (x : List Byte) (h : hw.evt.table.length < 1024) : (hw.recordFault f x).isRaised f = true := by
  obtain ⟨r, e, q, qt⟩ := Hw.recordFault_shape hw f x
  rw [q]
  unfold Hw.isRaised
  dsimp only
  rw [qt]
  exact raiseEntry_raised f _ _ (Or.inl h)

/-- A fault of class INFO, WARN or DEGRADE is only recorded. -/
theorem Hw.raise_mild (hw : Hw) (f : FaultId) (x : List Byte) (h : f.cls < 3) : hw.raise f x = hw.recordFault f x := by
  unfold Hw.raise
  rw [if_neg (by omega), if_neg (by omega)]

/-- Such a fault changes the event state alone and hands a record to Watch. -/
theorem Hw.raise_shape (hw : Hw) (f : FaultId) (x : List Byte) (h : f.cls < 3) :
    ∃ r e, hw.raise f x = { hw with evt := e, outbox := hw.outbox ++ [.record r] } ∧ e.table = (raiseEntry f hw.clk.time hw.evt).table := by
  rw [Hw.raise_mild hw f x h]
  exact Hw.recordFault_shape hw f x

theorem Hw.stopEffect_boot (hw : Hw) (src : Nat) (x : List Byte) (m : hw.dev.mode = .boot) :
    hw.stopEffect src x = { hw with dev := { hw.dev with sched := none, stopFails := hw.dev.stopFails + 1 } } := by
  unfold Hw.stopEffect
  simp only [m]

theorem Hw.casInhibit_shape (hw : Hw) (src : Nat) (f : FaultId) (b : Bool) : ∃ c, hw.casInhibit src f b = { hw with cas := c } := by
  unfold Hw.casInhibit Hw.casQueue
  split
  · exact ⟨_, rfl⟩
  · exact ⟨hw.cas, rfl⟩

/-- A STOP fault in BOOT: recorded, perhaps announced to a cascade, and the step that runs has failed (Table 3.5). -/
theorem Hw.raise_boot (hw : Hw) (f : FaultId) (x : List Byte) (h : f.cls = 3) (m : hw.dev.mode = .boot) :
    ∃ r e c, hw.raise f x = { hw with evt := e, outbox := hw.outbox ++ [.record r], cas := c
                                      dev := { hw.dev with sched := none, stopFails := hw.dev.stopFails + 1 } } ∧
      e.table = (raiseEntry f hw.clk.time hw.evt).table := by
  obtain ⟨r, e, q, qt⟩ := Hw.recordFault_shape hw f x
  have hi := Hw.casInhibit_shape (hw.recordFault f x) 0 f ((hw.recordFault f x).inPinnedPath f.src (axisOf x))
  obtain ⟨c, hc⟩ := hi
  refine ⟨r, e, c, ?_, qt⟩
  unfold Hw.raise
  rw [if_pos h]
  dsimp only
  rw [hc, q]
  exact Hw.stopEffect_boot { hw with evt := e, outbox := hw.outbox ++ [.record r], cas := c } f.src x m

end Sys2Proof.Machine
end

