-- ==== Sys2Proof/Laws/Ops.lean ====
section
/-! SUPPORT. The laws of sparse arrays: what is read after a write, and the canonical form every operation keeps. -/

namespace Sys2Proof.Machine

variable {V : Type}

theorem mget_filter_ne (d : V) (m : SMap V) (i j : Nat) (h : i ≠ j) : mget d (mdel m i) j = mget d m j := by
  induction m with
  | nil => rfl
  | cons e r ih =>
    obtain ⟨k, v⟩ := e
    unfold mdel at ih ⊢
    by_cases hk : k = i
    · subst hk
      simp only [List.filter, bne_self_eq_false, mget, if_neg h, ih]
    · simp only [List.filter, mget, ih, (bne_iff_ne (a := k) (b := i)).mpr hk]

theorem mget_mdel_same (d : V) (m : SMap V) (i : Nat) : mget d (mdel m i) i = d := by
  induction m with
  | nil => rfl
  | cons e r ih =>
    obtain ⟨k, v⟩ := e
    unfold mdel at ih ⊢
    by_cases hk : k = i
    · subst hk
      simp only [List.filter, bne_self_eq_false, ih]
    · simp only [List.filter, (bne_iff_ne (a := k) (b := i)).mpr hk, mget, if_neg hk, ih]

theorem mget_mins_same (d : V) (m : SMap V) (i : Nat) (v : V) (h : ∀ e ∈ m, e.1 ≠ i) : mget d (mins m i v) i = v := by
  induction m with
  | nil => simp [mins, mget]
  | cons e r ih =>
    obtain ⟨k, w⟩ := e
    have hk : k ≠ i := h (k, w) (by simp)
    simp only [mins]
    split
    · simp [mget]
    · simp only [mget, if_neg hk]
      exact ih (fun e he => h e (by simp [he]))

theorem mget_mins_ne (d : V) (m : SMap V) (i j : Nat) (v : V) (h : i ≠ j) : mget d (mins m i v) j = mget d m j := by
  induction m with
  | nil => simp [mins, mget, h]
  | cons e r ih =>
    obtain ⟨k, w⟩ := e
    simp only [mins]
    split
    · simp [mget, h]
    · simp only [mget, ih]

theorem mdel_keys (m : SMap V) (i : Nat) : ∀ e ∈ mdel m i, e.1 ≠ i := by
  intro e he
  simpa using (List.mem_filter.mp he).2

/-- A read after a write to the same place gives the value written. -/
@[simp] theorem mget_mset_same [DecidableEq V] (d : V) (m : SMap V) (i : Nat) (v : V) : mget d (mset d m i v) i = v := by
  unfold mset
  split
  · rename_i h
    rw [mget_mdel_same, h]
  · exact mget_mins_same d _ i v (mdel_keys m i)

/-- A write leaves every other place alone. -/
theorem mget_mset_ne [DecidableEq V] (d : V) (m : SMap V) (i j : Nat) (v : V) (h : i ≠ j) : mget d (mset d m i v) j = mget d m j := by
  unfold mset
  split
  · exact mget_filter_ne d m i j h
  · rw [mget_mins_ne d _ i j v h, mget_filter_ne d m i j h]

@[simp] theorem mget_mupd_same [DecidableEq V] (d : V) (m : SMap V) (i : Nat) (f : V → V) : mget d (mupd d m i f) i = f (mget d m i) :=
  mget_mset_same d m i _
theorem mget_mupd_ne [DecidableEq V] (d : V) (m : SMap V) (i j : Nat) (f : V → V) (h : i ≠ j) : mget d (mupd d m i f) j = mget d m j :=
  mget_mset_ne d m i j _ h

/-! ### The canonical form -/

/-- Keys strictly rising, as a proposition. -/
theorem msorted_iff (m : SMap V) : msorted m = true ↔ m.Pairwise (fun a b => a.1 < b.1) := by
  induction m with
  | nil => simp [msorted]
  | cons e r ih =>
    obtain ⟨k, v⟩ := e
    cases r with
    | nil => simp [msorted]
    | cons e' r =>
      obtain ⟨k', v'⟩ := e'
      simp only [msorted, Bool.and_eq_true, decide_eq_true_eq, ih]
      constructor
      · rintro ⟨h1, h2⟩
        refine List.pairwise_cons.mpr ⟨?_, h2⟩
        intro a ha
        rcases List.mem_cons.mp ha with rfl | ha
        · exact h1
        · exact Nat.lt_trans h1 ((List.pairwise_cons.mp h2).1 a ha)
      · intro h
        exact ⟨(List.pairwise_cons.mp h).1 (k', v') (by simp), (List.pairwise_cons.mp h).2⟩

theorem mdel_sorted (m : SMap V) (i : Nat) (h : m.Pairwise (fun a b => a.1 < b.1)) : (mdel m i).Pairwise (fun a b => a.1 < b.1) :=
  h.filter _

theorem mins_mem (m : SMap V) (i : Nat) (v : V) (e) (h : e ∈ mins m i v) : e = (i, v) ∨ e ∈ m := by
  induction m with
  | nil => simpa [mins] using h
  | cons a r ih =>
    obtain ⟨k, w⟩ := a
    simp only [mins] at h
    split at h
    · simpa using h
    · rcases List.mem_cons.mp h with h | h
      · simp [h]
      · rcases ih h with h | h
        · exact Or.inl h
        · exact Or.inr (by simp [h])

theorem mins_sorted (m : SMap V) (i : Nat) (v : V) (h : m.Pairwise (fun a b => a.1 < b.1)) (n : ∀ e ∈ m, e.1 ≠ i) :
    (mins m i v).Pairwise (fun a b => a.1 < b.1) := by
  induction m with
  | nil => simp [mins]
  | cons a r ih =>
    obtain ⟨k, w⟩ := a
    obtain ⟨h1, h2⟩ := List.pairwise_cons.mp h
    simp only [mins]
    split
    · rename_i hik
      refine List.pairwise_cons.mpr ⟨?_, h⟩
      intro b hb
      rcases List.mem_cons.mp hb with rfl | hb
      · exact hik
      · exact Nat.lt_trans hik (h1 b hb)
    · rename_i hik
      have hk : k ≠ i := n (k, w) (by simp)
      refine List.pairwise_cons.mpr ⟨?_, ih h2 (fun e he => n e (by simp [he]))⟩
      intro b hb
      rcases mins_mem r i v b hb with rfl | hb
      · show k < i
        omega
      · exact h1 b hb

/-- The canonical form of an array whose unlisted keys all read as `d` is kept by every write. -/
theorem mset_wf [DecidableEq V] (d : V) (m : SMap V) (i : Nat) (v : V) (h : mwf (fun _ => d) m = true) : mwf (fun _ => d) (mset d m i v) = true := by
  simp only [mwf, Bool.and_eq_true, msorted_iff, List.all_eq_true, decide_eq_true_eq] at h ⊢
  obtain ⟨h1, h2⟩ := h
  unfold mset
  split
  · exact ⟨mdel_sorted m i h1, fun e he => h2 e (List.mem_filter.mp he).1⟩
  · rename_i hv
    refine ⟨mins_sorted _ i v (mdel_sorted m i h1) (mdel_keys m i), ?_⟩
    intro e he
    rcases mins_mem _ i v e he with rfl | he
    · exact hv
    · exact h2 e (List.mem_filter.mp he).1

/-- The register file, whose unlisted words read as the Reset columns say, is kept canonical by a write of its own default. -/
theorem mset_wf_at [DecidableEq V] (d : Nat → V) (m : SMap V) (i : Nat) (v : V) (h : mwf d m = true) : mwf d (mset (d i) m i v) = true := by
  simp only [mwf, Bool.and_eq_true, msorted_iff, List.all_eq_true, decide_eq_true_eq] at h ⊢
  obtain ⟨h1, h2⟩ := h
  unfold mset
  split
  · exact ⟨mdel_sorted m i h1, fun e he => h2 e (List.mem_filter.mp he).1⟩
  · rename_i hv
    refine ⟨mins_sorted _ i v (mdel_sorted m i h1) (mdel_keys m i), ?_⟩
    intro e he
    rcases mins_mem _ i v e he with rfl | he
    · exact hv
    · exact h2 e (List.mem_filter.mp he).1

end Sys2Proof.Machine
end

