-- ==== Sys2Proof/Laws/State.lean ====
section
/-! SUPPORT. What each named update of the state leaves in each field it can be asked for, so that no later proof unfolds an update; the maps
after reset are in canonical form. -/

namespace Sys2Proof.Machine

/-! ### Acceptance and replies -/

@[simp] theorem State.putSession_pending (s : State) (t : Transport) (x : Option Session) : (s.putSession t x).pending = s.pending := rfl
@[simp] theorem State.putSession_mirror (s : State) (t : Transport) (x : Option Session) : (s.putSession t x).mirror = s.mirror := rfl
@[simp] theorem State.took_pending (s : State) (h : Hdr) (x : Session) : (s.took h x).pending = s.pending := rfl
@[simp] theorem State.took_mirror (s : State) (h : Hdr) (x : Session) : (s.took h x).mirror = s.mirror := rfl
@[simp] theorem State.took_hw (s : State) (h : Hdr) (x : Session) : (s.took h x).hw = s.accepted := rfl
@[simp] theorem State.accepted_regs (s : State) : s.accepted.regs = s.hw.regs := rfl
@[simp] theorem State.accepted_dev (s : State) : s.accepted.dev = s.hw.dev := rfl
@[simp] theorem State.accepted_ticks (s : State) : s.accepted.ticks = s.hw.ticks := rfl
@[simp] theorem State.accepted_free (s : State) : s.accepted.free = s.hw.free := rfl
@[simp] theorem State.accepted_outbox (s : State) : s.accepted.outbox = s.hw.outbox := rfl
@[simp] theorem State.accepted_pantry (s : State) : s.accepted.pantry = s.hw.pantry := rfl
@[simp] theorem State.accepted_clk (s : State) : s.accepted.clk = s.hw.clk := rfl
@[simp] theorem State.reply_pending (s : State) (h : Hdr) (op : Nat) (a : Ans) : (s.reply h op a).pending = s.pending := rfl
@[simp] theorem State.reply_hw (s : State) (h : Hdr) (op : Nat) (a : Ans) : (s.reply h op a).hw = s.hw := rfl
@[simp] theorem State.reply_mirror (s : State) (h : Hdr) (op : Nat) (a : Ans) : (s.reply h op a).mirror = s.mirror := rfl

/-! ### The register file -/

@[simp] theorem Hw.setReg_regs (w : Hw) (a v : Nat) : (w.setReg a v).regs = mset (wordOf (regReset a)) w.regs a (wordOf v) := rfl
@[simp] theorem Hw.setReg_ticks (w : Hw) (a v : Nat) : (w.setReg a v).ticks = w.ticks := rfl
@[simp] theorem Hw.setReg_free (w : Hw) (a v : Nat) : (w.setReg a v).free = w.free := rfl
@[simp] theorem Hw.setReg_outbox (w : Hw) (a v : Nat) : (w.setReg a v).outbox = w.outbox := rfl
@[simp] theorem Hw.setReg_dev (w : Hw) (a v : Nat) : (w.setReg a v).dev = w.dev := rfl
@[simp] theorem Hw.setReg_evt (w : Hw) (a v : Nat) : (w.setReg a v).evt = w.evt := rfl
@[simp] theorem Hw.setReg_clk (w : Hw) (a v : Nat) : (w.setReg a v).clk = w.clk := rfl
@[simp] theorem Hw.setReg_lnk (w : Hw) (a v : Nat) : (w.setReg a v).lnk = w.lnk := rfl
@[simp] theorem Hw.setReg_pantry (w : Hw) (a v : Nat) : (w.setReg a v).pantry = w.pantry := rfl
@[simp] theorem Hw.setReg_pins (w : Hw) (a v : Nat) : (w.setReg a v).pins = w.pins := rfl

/-- A word written is read back at its address. -/
@[simp] theorem Hw.reg_setReg_same (w : Hw) (a v : Nat) : (w.setReg a v).reg a = (wordOf v).toNat := by
  simp [Hw.reg, Hw.setReg, mget_mset_same]

/-- A write leaves every other register alone. -/
theorem Hw.reg_setReg_ne (w : Hw) (a b v : Nat) (h : a ≠ b) : (w.setReg a v).reg b = w.reg b := by
  unfold Hw.reg Hw.setReg mset
  split
  · exact congrArg _ (mget_filter_ne _ _ _ _ h)
  · exact congrArg _ ((mget_mins_ne _ _ _ _ _ h).trans (mget_filter_ne _ _ _ _ h))

/-! ### The arrays of the blocks: the element written is read back, every other is left alone -/

@[simp] theorem Hw.bank_setBank (w : Hw) (b : Nat) (k : BeaconBank) : (w.setBank b k).bank b = k := by simp [Hw.bank, Hw.setBank]
@[simp] theorem Hw.driver_setDriver (w : Hw) (a : Nat) (d : Driver) : (w.setDriver a d).driver a = d := by simp [Hw.driver, Hw.setDriver]
@[simp] theorem Hw.tile_setTile (w : Hw) (n : Nat) (t : Tile) : (w.setTile n t).tile n = t := by simp [Hw.tile, Hw.setTile]
@[simp] theorem Tile.chan_setChan (t : Tile) (p : Nat) (c : Chan) : (t.setChan p c).chan p = c := by simp [Tile.chan, Tile.setChan]
@[simp] theorem Chan.buf_setBuf (c : Chan) (i : Nat) (h : Hist) : (c.setBuf i h).buf i = h := by simp [Chan.buf, Chan.setBuf]
@[simp] theorem Hw.region_setRegion (w : Hw) (r : Nat) (x : Region) : (w.setRegion r x).region r = x := by simp [Hw.region, Hw.setRegion]
@[simp] theorem Hw.lane_setLane (w : Hw) (l : Nat) (x : Lane) : (w.setLane l x).lane l = x := by simp [Hw.lane, Hw.setLane]
@[simp] theorem Hw.sub_setSub (w : Hw) (b : Nat) (x : OutSub) : (w.setSub b x).sub b = x := by simp [Hw.sub, Hw.setSub]
@[simp] theorem Hw.secd_setSecd (w : Hw) (i : Nat) (x : Secondary) : (w.setSecd i x).secd i = x := by simp [Hw.secd, Hw.setSecd]
@[simp] theorem Hw.axis_setAxis (w : Hw) (a : Nat) (x : Axis) : (w.setAxis a x).axis a = x := by simp [Hw.axis, Hw.setAxis]
@[simp] theorem Hw.tin_setTin (w : Hw) (i : Nat) (x : TidInput) : (w.setTin i x).tin i = x := by simp [Hw.tin, Hw.setTin]
@[simp] theorem Hw.sftc_setSftc (w : Hw) (c : Nat) (x : SftChan) : (w.setSftc c x).sftc c = x := by simp [Hw.sftc, Hw.setSftc]
@[simp] theorem Hw.port_setPort (w : Hw) (p : Nat) (x : GlzPort) : (w.setPort p x).port p = x := by simp [Hw.port, Hw.setPort]

theorem Hw.bank_setBank_ne (w : Hw) (b c : Nat) (k : BeaconBank) (h : b ≠ c) : (w.setBank b k).bank c = w.bank c := mget_mset_ne _ _ _ _ _ h
theorem Hw.driver_setDriver_ne (w : Hw) (a b : Nat) (d : Driver) (h : a ≠ b) : (w.setDriver a d).driver b = w.driver b :=
  mget_mset_ne _ _ _ _ _ h
theorem Hw.tile_setTile_ne (w : Hw) (n m : Nat) (t : Tile) (h : n ≠ m) : (w.setTile n t).tile m = w.tile m := mget_mset_ne _ _ _ _ _ h
theorem Tile.chan_setChan_ne (t : Tile) (p q : Nat) (c : Chan) (h : p ≠ q) : (t.setChan p c).chan q = t.chan q := mget_mset_ne _ _ _ _ _ h
theorem Chan.buf_setBuf_ne (c : Chan) (i j : Nat) (x : Hist) (h : i ≠ j) : (c.setBuf i x).buf j = c.buf j := mget_mset_ne _ _ _ _ _ h
theorem Hw.lane_setLane_ne (w : Hw) (l m : Nat) (x : Lane) (h : l ≠ m) : (w.setLane l x).lane m = w.lane m := mget_mset_ne _ _ _ _ _ h
theorem Hw.sub_setSub_ne (w : Hw) (b c : Nat) (x : OutSub) (h : b ≠ c) : (w.setSub b x).sub c = w.sub c := mget_mset_ne _ _ _ _ _ h
theorem Hw.secd_setSecd_ne (w : Hw) (i j : Nat) (x : Secondary) (h : i ≠ j) : (w.setSecd i x).secd j = w.secd j := mget_mset_ne _ _ _ _ _ h
theorem Hw.axis_setAxis_ne (w : Hw) (a b : Nat) (x : Axis) (h : a ≠ b) : (w.setAxis a x).axis b = w.axis b := mget_mset_ne _ _ _ _ _ h
theorem Hw.tin_setTin_ne (w : Hw) (i j : Nat) (x : TidInput) (h : i ≠ j) : (w.setTin i x).tin j = w.tin j := mget_mset_ne _ _ _ _ _ h
theorem Hw.sftc_setSftc_ne (w : Hw) (c d : Nat) (x : SftChan) (h : c ≠ d) : (w.setSftc c x).sftc d = w.sftc d := mget_mset_ne _ _ _ _ _ h
theorem Hw.port_setPort_ne (w : Hw) (p q : Nat) (x : GlzPort) (h : p ≠ q) : (w.setPort p x).port q = w.port q := mget_mset_ne _ _ _ _ _ h

/-! ### The register file's canonical form -/

/-- The register file lists no word that equals what its address reads as unlisted, and its addresses rise. -/
def Hw.regsWf (w : Hw) : Bool := mwf (fun a => wordOf (regReset a)) w.regs

/-- Every store of a register word keeps the canonical form. -/
theorem Hw.setReg_regsWf (w : Hw) (a v : Nat) (h : w.regsWf = true) : (w.setReg a v).regsWf = true :=
  mset_wf_at (fun a => wordOf (regReset a)) w.regs a (wordOf v) h

/-- It holds after reset. -/
theorem State.reset_regsWf : State.reset.hw.regsWf = true := rfl

end Sys2Proof.Machine
end

