-- ==== Sys2Proof/WellFormed.lean ====
section
/-! DEFINITION. Which commands are well formed: lists of the length their opcode gives, indexes within their range. -/

namespace Sys2Proof

/-- Whether a command is well formed. The machine gives every command a meaning; an index out of its range changes nothing. -/
def Instr.wellFormed (i : Instr) : Bool :=
  match i with
  | .nop _ => true
  | .sessionOpen _ _ _ => true
  | .sessionClose _ => true
  | .identGet _ => true
  | .statusGet _ => true
  | .timeGet _ => true
  | .resetSoft _ _ => true
  | .heartbeat _ => true
  | .regRead _ _ _ => true
  | .regWrite _ _ vals => decide (vals.length < 65536)
  | .regRmw _ _ _ _ => true
  | .regPoll _ _ _ _ _ => true
  | .bulkRead _ _ _ => true
  | .regListWrite _ entries => decide (entries.length < 65536)
  | .modeGet _ => true
  | .modeSet _ _ => true
  | .guardArm _ _ _ => true
  | .guardEnter _ _ _ => true
  | .sleep _ _ => true
  | .modeSetAt _ _ _ => true
  | .modeHistory _ => true
  | .planLoad _ _ _ _ => true
  | .planActivate _ _ => true
  | .planGet _ _ _ => true
  | .adaptFreeze _ _ => true
  | .placementRead _ _ => true
  | .roiSet _ _ fields => decide (fields.length = 16)
  | .frameRateSet _ _ => true
  | .planCheck _ _ => true
  | .patternLoad _ _ steps => decide (steps.length < 65536)
  | .patternRun _ _ _ => true
  | .patternStop _ => true
  | .emitterStatus _ _ => true
  | .pinTest _ => true
  | .lanternLimit _ _ _ _ => true
  | .lanternLedger _ _ _ => true
  | .driverStatus _ _ => true
  | .axisConfig _ _ _ params => decide (params.length = 32)
  | .axisCoef _ _ _ coefs => decide (coefs.length < 256 ∧ coefs.all (fun l => decide (l.length = 5)) = true)
  | .axisEnable _ _ _ => true
  | .axisStatus _ _ => true
  | .tideScan _ _ _ => true
  | .tideRead _ _ => true
  | .sifterSet _ _ _ _ _ _ => true
  | .sfdRead _ _ => true
  | .calRun _ _ => true
  | .calStatus _ => true
  | .calSetRead _ _ => true
  | .calCamera _ _ intrinsics extrinsic => decide (intrinsics.length = 9 ∧ extrinsic.length = 12)
  | .calFactory _ => true
  | .calTrigger _ _ _ => true
  | .guardMapLoad _ _ _ _ => true
  | .guardMapRead _ _ _ => true
  | .guardLeave _ _ => true
  | .safeAck _ _ => true
  | .keeperStatus _ => true
  | .bellConfig _ _ _ _ => true
  | .bellStatus _ => true
  | .safetyConfig _ => true
  | .streamConfig _ _ _ => true
  | .exportSelect _ channels => decide (channels.length < 65536)
  | .laneConfig _ _ _ _ _ _ => true
  | .laneStatus _ => true
  | .laneStepUp _ _ => true
  | .laneTest _ _ _ _ => true
  | .netConfig _ _ _ _ _ _ _ => true
  | .cascadeStatus _ => true
  | .camConfig _ _ _ _ _ _ _ => true
  | .camEnable _ _ _ => true
  | .cciXfer _ _ _ _ _ bytes _ _ => decide (bytes.length < 256)
  | .camStats _ _ _ => true
  | .camMeshLoad _ _ _ _ => true
  | .camStatus _ _ => true
  | .pmcConfig _ _ _ _ => true
  | .pmcFreeze _ _ => true
  | .pmcRead _ _ _ => true
  | .faultList _ _ => true
  | .faultClear _ _ _ => true
  | .bistRun _ _ => true
  | .eventSubscribe _ sources _ => decide (sources.length = 32)
  | .logbookRead _ => true
  | .secChallenge _ _ => true
  | .secResponse _ _ signature => decide (signature.length = 64)
  | .secPassword _ password => decide (password.length = 16)
  | .fwUpdate _ _ _ => true
  | .fwStatus _ => true
  | .secClose _ => true
  | .stepQuery _ _ => true
  | .stepAbort _ _ => true
  | .stepList _ => true
  | .stepFetch _ _ _ => true
  | .packetDiscarded _ => true
  | .crcError _ _ _ _ => true
  | .spiShiftOut _ => true
  | .sessionHeartbeatTimeout _ => true
  | .steppedOpStep _ _ => true
  | .stepProgress _ => true
  | .uploadTimeout _ => true
  | .resultRelease _ => true
  | .eventsLost _ => true
  | .powerUp => true
  | .resetNLow _ => true
  | .resetNRise _ => true
  | .coreSupplyFault _ => true
  | .wakeEdge _ => true
  | .lane0WakeActivity _ _ => true
  | .crystalStop => true
  | .refPllUnlock => true
  | .bootStepComplete _ => true
  | .bootStepTimeout _ => true
  | .modeSetAtTick => true
  | .shotDecision bank => decide (bank < 4)
  | .shotFire bank => decide (bank < 4)
  | .driverPoll address _ => decide (address < 16)
  | .mapSend address => decide (address < 16)
  | .rampUpdate => true
  | .refWindowClose bank _ => decide (bank < 4)
  | .bcnCodeSeedWrite bank _ => decide (bank < 4)
  | .bcnDrvWrite address _ => decide (address < 16)
  | .bcnBankWrite bank _ => decide (bank < 4)
  | .lntBucketClose window => decide (window < 3)
  | .lntXchkSample bank _ _ => decide (bank < 4)
  | .lntGridWrite index _ => decide (index < 5)
  | .lntLimitWrite index _ => decide (index < 12)
  | .frameBoundary => true
  | .placementCut => true
  | .placementReady _ => true
  | .trimRecompute => true
  | .hvMeasUpdate _ => true
  | .regionOfftargetTimeout region => decide (region < 1153)
  | .maskCommit => true
  | .maskSave => true
  | .maskParityError word => decide (word < 36864)
  | .spdTabWinWrite index _ => decide (index < 256)
  | .gateEvent channel _ cell fire => decide (channel < 768 ∧ cell < 64) && fire.after.all (fun c => decide (c < 64))
  | .vernierConversion channel vernier _ _ => decide (channel < 768 ∧ vernier < 2)
  | .shotEdgeArrival tile vernier _ _ => decide (tile < 48 ∧ vernier < 2)
  | .zoomIn channel => decide (channel < 768)
  | .histogramClose channel => decide (channel < 768)
  | .peakFindStart tile => decide (tile < 48)
  | .peakFindDone tile _ => decide (tile < 48)
  | .detDone bank _ => decide (bank < 4)
  | .tileCtlWrite tile _ => decide (tile < 48)
  | .tileRetire tile => decide (tile < 48)
  | .tileTabDataRead tile => decide (tile < 48)
  | .detTabCommit => true
  | .pointPacketFlush sub => decide (sub < 4)
  | .framePacketSend => true
  | .lpTransmit lane => decide (lane < 8)
  | .lpReceive lane lp => decide (lane < 8 ∧ lp.before < 2 ^ 58 ∧ lp.words.length = lp.blocks.length) &&
    lp.blocks.all (fun b => decide (b.2 < 2 ^ 128))
  | .codewordReceive lane _ => decide (lane < 8)
  | .linkBlockReceive lane payload => decide (lane < 8 ∧ payload < 2 ^ 128)
  | .linkBlockMissed lane => decide (lane < 8)
  | .ackTimeout lane => decide (lane < 8)
  | .superframeLock lane => decide (lane < 8)
  | .laneReady lane _ => decide (lane < 8)
  | .alignComplete lane => decide (lane < 8)
  | .bringupTimeout lane => decide (lane < 8)
  | .stepOffer lane _ _ => decide (lane < 8)
  | .stepAccept lane _ _ => decide (lane < 8)
  | .rateChange lane => decide (lane < 8)
  | .stepTimeout lane => decide (lane < 8)
  | .laneRetrainTimeout lane => decide (lane < 8)
  | .marginLow lane _ => decide (lane < 8)
  | .retrain lane => decide (lane < 8)
  | .idleEnter lane => decide (lane < 8)
  | .idleExit lane => decide (lane < 8)
  | .pauseTimeout lane vc => decide (lane < 8 ∧ vc < 8)
  | .laneTestEnd lane _ _ => decide (lane < 8)
  | .lnkInjectGo _ => true
  | .ethLockLoss port => decide (port < 4)
  | .arpRetry _ => true
  | .arpReply _ mac => decide (mac < 2 ^ 48)
  | .arpCacheExpiry _ => true
  | .destUnresolvedTimeout _ => true
  | .icmpEcho _ _ => true
  | .ptpMessage _ _ _ => true
  | .ptpLockLost => true
  | .discoveryPacket lane index _ _ _ => decide (lane < 8 ∧ index < 4)
  | .casTimeSend => true
  | .casTimeFrame _ _ => true
  | .casAngleFrame axis _ _ _ => decide (axis < 4)
  | .casFrameFrame _ _ => true
  | .casModeFrame _ _ => true
  | .casInhibitFrame _ _ => true
  | .casEchoFrame index => decide (index < 4)
  | .cascadeModeTick => true
  | .echoMeasure index _ => decide (index < 4)
  | .casTimeSilence => true
  | .cascadeForward index _ => decide (index < 4)
  | .secondaryAbsent index => decide (index < 4)
  | .pedestalTick => true
  | .tickDeadline axis => decide (axis < 4)
  | .axisStartTimeout axis => decide (axis < 4)
  | .resonantDacUpdate axis => decide (axis < 4)
  | .pdsPeriodWrite _ => true
  | .tideTrigEdge _ => true
  | .tideConversionStart slice => decide (slice < 3)
  | .tideConversionEnd slice _ _ _ _ => decide (slice < 3)
  | .tideToneBurst => true
  | .toneBurstEnd => true
  | .tideRotation => true
  | .sliceCalDone _ _ => true
  | .tempConversion sensors thermistors => decide (sensors.length = 8 ∧ thermistors.length ≤ 4)
  | .tidSnap _ => true
  | .tidPairWrite _ => true
  | .tidToneWrite _ => true
  | .sifterSlot channel => decide (channel < 32)
  | .sftPopVal => true
  | .sftChDetWrite channel _ => decide (channel < 32)
  | .sifterParityError channel => decide (channel < 32)
  | .dmkEdge input _ _ => decide (input < 4)
  | .dmkIvArm => true
  | .dmkIvTimeout => true
  | .dmkFreqStart input _ => decide (input < 4)
  | .dmkFreqGateEnd input => decide (input < 4)
  | .ppsEdge _ _ => true
  | .ppsTimeout => true
  | .clkTimeSet _ => true
  | .clkCtlWrite _ => true
  | .csiFrameStart port => decide (port < 2)
  | .csiLine port pixels _ => decide (port < 2 ∧ pixels.all (fun p => decide (p < 65536)) = true)
  | .csiFrameEnd port => decide (port < 2)
  | .csiFrameTimeout port => decide (port < 2)
  | .camNoSignal port => decide (port < 2)
  | .cciWriteIssue port _ _ => decide (port < 2)
  | .glzMapParity port _ => decide (port < 2)
  | .glzPExpofsWrite port _ => decide (port < 2)
  | .glzPMapWrite port _ => decide (port < 2)
  | .calAutoStart => true
  | .calBootMaskWrite _ => true
  | .keeperSample keeper _ => decide (keeper < 2)
  | .clusterSearch keeper => decide (keeper < 2)
  | .keeperStale keeper _ => decide (keeper < 2)
  | .keeperClockCheck keeper _ => decide (keeper < 2)
  | .keeperSelftest keeper _ => decide (keeper < 2)
  | .keeperDisagree => true
  | .fselChange a b => decide (a < 8 ∧ b < 8)
  | .fselDebounce => true
  | .fselInvalidTimeout => true
  | .restartRelease _ => true
  | .restartStuck => true
  | .autoRestart pair => decide (pair < 2)
  | .edmCheck pair => decide (pair < 2)
  | .readbackCheck line => decide (line < 4)
  | .testPulse line _ _ => decide (line < 4)
  | .kprTideTimeout input => decide (input < 32)
  | .bellFrameBuild => true
  | .confirmReceive bytes => decide (bytes.length < 65536)
  | .bellConfirmTimeout => true
  | .epochBoundary => true
  | .epochSeal => true
  | .watchHeartbeat unit => decide (unit < 2)
  | .watchFailDeclare unit _ => decide (unit < 2)
  | .watchRestart unit => decide (unit < 2)
  | .watchSelftestDone unit _ => decide (unit < 2)
  | .takeBack => true
  | .rehearse => true
  | .sltCtlWrite _ => true
  | .sltPintest _ => true
  | .sltPeriod led => decide (led < 32)
  | .sltRunEnd led _ _ _ => decide (led < 32)
  | .sltEngCfgWrite engine _ => decide (engine < 4)
  | .pmcIncrement _ _ _ _ _ _ _ => true
  | .pmcCntWrite index _ _ => decide (index < 64)
  | .pmcEvtWrite index _ _ => decide (index < 64)
  | .fuseProgram _ => true
  | .passwordCommit => true
  | .passwordClear => true
  | .challengeExpiry => true
  | .rcRead _ => true
  | .latchingRead _ => true
  | .registerWrite _ _ => true
  | .restartPress => true
  | .edmInputChange _ _ => true
  | .safeReadbackChange lines => decide (lines < 16)
  | .pcsBlockLock port => decide (port < 4)
  | .arpRequest ask => decide (ask.mac < 2 ^ 48)
  | .regPollEnd _ => true
  | .safeAckSelftestEnd _ _ => true

end Sys2Proof
end

