-- ==== Sys2Proof/Tests/Slice0.lean ====
section
/-! SUPPORT. Tests: ill-formed commands, the spec's worked examples, and for every statement a concrete case that meets its hypotheses. -/

open Sys2Proof Sys2Proof.Machine

namespace Sys2Proof.Tests

set_option Elab.async false
set_option linter.unusedVariables false

/-! ### Small states -/

/-- A host's session on SPI and the header of its next command. -/
def se : Session := { number := 1, role := 3, heartbeat := 10000, lastSeq := 0, lastSeen := 90000000000 }
def hd : Hdr := { tr := .spi, tag := 7, role := 3, seq := 1 }

/-- The hardware in a mode, 125 s after reset. -/
def w0 (m : Mode) : Hw := { ticks := 100000000000, dev := { mode := m }, clk := { time := 0x123456789A, refLock := true } }

/-- A device in CONFIG, or in a given mode, with that session open; its hardware changed by `f`. -/
def up : State := { hw := w0 .config, cmd := { spi := some se, sessNext := 2 } }
def upIn (m : Mode) (f : Hw → Hw := id) : State := { hw := f (w0 m), cmd := up.cmd }
def upTo (f : Hw → Hw) : State := upIn .config f

/-- Whether a command of that header is taken for that session, as a computation. -/
def takesB (s : State) (c : Instr) (h : Hdr := hd) (x : Session := se) : Bool :=
  decide (hdrOf c = some h) && s.hw.hears h.tr && decide ((paramsOf c).length ≤ payloadLimit h.tr) && decide (s.cmd.session h.tr = some x) &&
  decide (h.seq.toNat = (x.lastSeq + 1) % 65536) && (x.accepted.find? (fun e => decide (e.seq = h.seq.toNat ∧ e.tag = h.tag.toNat))).isNone &&
  x.wait.isNone && x.held.isEmpty && x.resume.isNone && decide (x.away.length < 8) && decide (h.version = 1) && decide (h.flags.toNat < 4) && decide (h.reserved = 0) &&
  h.padBad.isNone && h.opcode.isNone && decide (h.subaddr.toNat = s.hw.cas.index) && decide (s.hw.cas.index < 4) && (!(rowOf c).wide || !s.hw.inCascade) &&
  s.hw.outbox.isEmpty && (!s.hw.noSafety || (!(rowOf c).fused && !safetyOp (rowOf c).op)) && decide ((rowOf c).role ≤ h.role.toNat) &&
  decide (h.role.toNat ≤ x.role) && decide (s.hw.dev.mode ∈ (rowOf c).modes) && decide (s.hw.dev.mode ≠ .dormant) &&
  decide (s.hw.dev.mode ≠ .boot) && !s.hw.wch.lost && !s.cmd.held (rowOf c).writes && (!(rowOf c).stepped || decide (s.cmd.liveOps < 4))

theorem takes_of {s : State} {c : Instr} {h : Hdr} {x : Session} (e : takesB s c h x = true) : s.Takes c h x := by
  simp only [takesB, Bool.and_eq_true, decide_eq_true_eq, Option.isNone_iff_eq_none, List.isEmpty_iff, Bool.or_eq_true, Bool.not_eq_true',
    and_assoc] at e
  obtain ⟨h1, h2, h3, h4, h5, h6, h7, h8, h9, h10, h11, h12, h13, h14, h15, h16, h17, h18, h19, h20, h21, h22, h23, h24, h25, h26, h27, h28⟩ := e
  refine ⟨h1, ⟨⟨h2, h3, h4, h5, h6, ⟨h7, h8, h9⟩, h10, ⟨h11, h12, h13, h14, h15, h16, h17, ?_⟩, h19⟩, ?_, ⟨h21, h22⟩, ⟨h23, h24, h25⟩, h26, h27, ?_⟩⟩
  · intro w; simpa [w] using h18
  · intro w; simpa [w] using h20
  · intro w; simpa [w] using h28

/-- A plan of one cell in bank 0, and its placement on channel 0. -/
def plan1 : List Byte :=
  [1, 0, 1, 0, 1, 0, 0, 1, 0, 0, 0, 0, 0, 0, 0, 0x80, 0xE8, 3, 0, 0, 1, 0, 0x11, 0, 8, 8, 0, 0x11, 0, 1, 0, 0, 0, 0, 0, 0, 1, 0, 0, 0] ++
    List.replicate 32 0
def placed1 : Placement := { plan := planInForce plan1, tracks := [(0, { row := 0, nAcc := 2, k := 1, shape := 0 })], grid := [(0, 2)] }
/-- An AG7680-IS in a mode, and a guard map of one cell, P0 with FAR 10 cm (Tables 18.1 to 18.3). -/
def isIn (m : Mode) (f : Hw → Hw := id) : State := upIn m (fun w => f { w with dev := { w.dev with codeRead := some 0 } })
def map1 : List Byte :=
  [1, 1, 1, 0, 1, 1, 0, 0, 0, 0, 1, 0, 1, 1, 1, 1, 0xFF, 0xFF, 0xFF, 0xFF, 1, 0] ++ List.replicate 10 0 ++ [0, 0, 0, 0, 0, 0, 10, 0, 0, 0, 0, 0, 0, 0]

/-- Blocks as a sender scrambles them, from a register. -/
def scrambleAll : List Block → Nat → List Block
  | [], _ => []
  | b :: r, s => (b.1, (scramble 128 b.2 s 0).1) :: scrambleAll r (scramble 128 b.2 s 0).2

/-- The same device with lane `l` in a state given, or with its lanes in the Ethernet personality. -/
def lanes (l : Nat) (x : Lane) : State := upTo (fun w => w.setLane l x)
def ethUp (f : Hw → Hw := id) : State := upTo (fun w => f { w with lnk := { w.lnk with cfg := putBit w.lnk.cfg 12 true } })

/-- What a check asks of the state a command leaves, and the last packet queued on a transport. -/
def nx (c : Instr) (s : State) (p : State → Bool) : Bool := match exec c s with | .next u => p u | _ => false
def last (u : State) (t : Transport) : Option Packet := (u.cmd.out t).getLast?

/-! ### The spec's worked examples and the check values of its standard codes -/

/-- 02_commands_and_events.md, the example of R29 to R31: the command of 28 bytes without its CRC, and its reply. -/
def user : State :=
  { hw := { w0 .config with dev := { mode := .config, codeRead := some 0 } },
    cmd := { spi := some { number := 1, role := 1, heartbeat := 10000, lastSeq := 6, lastSeen := 90000000000 }, sessNext := 2 } }
theorem test_example_command : (packetBytes 0x10 0x42 0 1 7 0 0 0 (le 4 0 ++ le 2 1)).take 24 =
    [0x5C, 0xA5, 0x01, 0x10, 0x42, 0x00, 0x00, 0x01, 0x06, 0x00, 0x07, 0, 0, 0, 0, 0, 0, 0, 0, 0, 1, 0, 0, 0] := by decide +kernel
theorem test_example_reply :
    (nx (.regRead { tr := .spi, tag := 0x42, role := 1, seq := 7 } 0 1) user (fun t => (last t .spi).any (fun p =>
      decide (p.bytes.length = 24 ∧ p.bytes.take 20 =
        [0x5C, 0xA5, 0x01, 0x10, 0x42, 0x00, 0x10, 0x01, 0x04, 0x00, 0x07, 0x00, 0x01, 0, 0, 0, 0x00, 0xB0, 0x80, 0x76])))) = true := by
  decide +kernel
/-- The check values of CRC-32C, of Bell's CRC-32 and of SHA-256 as their definitions publish them. -/
theorem test_crc32c_check : crc32c [0x31, 0x32, 0x33, 0x34, 0x35, 0x36, 0x37, 0x38, 0x39] = 0xE3069283 := by decide +kernel
theorem test_bell_check : bellCheck [0x31, 0x32, 0x33, 0x34, 0x35, 0x36, 0x37, 0x38, 0x39] = 0x1697D06A := by decide +kernel
theorem test_sha256_abc : sha256 [0x61, 0x62, 0x63] =
    be 32 0xba7816bf8f01cfea414140de5dae2223b00361a396177a9cb410ff61f20015ad := by decide +kernel
/-- 02_commands_and_events.md: F.BCN.012, a WARN fault, has SRC 0x04 and CODE 0x200C. -/
theorem test_fault_code : fid srcBcn 1 12 = { src := 0x04, code := 0x200C } := by decide
/-- 05_spad_array.md, the example of R114 in region 454: code 109 at 55 °C, 200 at −40 °C, 42 at 125 °C; OK, VEX_ACT 150. -/
def spd454 (breakdown : Nat) : SpdSt :=
  { hvMeas := 26000, biasOn := true, breakdown := [(454, breakdown + 150 * 2 ^ 16)], regions := [(454, { enable := true })] }
def region454 (celsius : Int) (breakdown : Nat) : Hw :=
  { w0 .scan with temps := [(1, 64 * celsius)], spd := spd454 breakdown }
theorem test_trim_example : sensorOf 454 = 1 ∧ (region454 55 20850).trimOf 454 none false = (109, 0, 150) ∧
    ((region454 (-40) 20850).trimOf 454 none false).1 = 200 ∧
    ((region454 125 20850).trimOf 454 none false).1 = 42 ∧
    ((region454 125 21600).trimOf 454 none false).2.1 = 1 := by decide +kernel
/-- 06_time_base_and_tdc.md, the example of a target at 50 m: SKEW 14,540 is 227 and 12 / 64 fine steps; the stamp of n = 13 at edge
1,000,270 with G = 1.0 is 80,021,587. -/
theorem test_skew_example : skewInt 14540 = 227 ∧ skewFrac 14540 = 12 := by decide
theorem test_stamp_example : stampOf 0 1000270 13 0x8000 = 80021587 := by decide +kernel
/-- 17_calibration.md, the example of R365: SKEW 14,564 and G_v 0x8031 between sets at 25 and 45 °C. -/
theorem test_interpolate_example :
    (interpolate [{ temp := 1600, skew := [(500, 14540)] }, { temp := 2880, skew := [(500, 14620)] }] 1984 (fun c => ((mget 0 c.skew 500 : Nat) : Int)),
     interpolate [{ temp := 1600, vgain := [(0, 0x8000)] }, { temp := 2880, vgain := [(0, 0x80A4)] }] 1984 (fun c => ((mget 0 c.vgain 0 : Nat) : Int))) =
      (14564, 0x8031) := by decide +kernel
/-- 10_point_output.md, the example of R228: of 40 channels of 523.0 Mb/s, 30 fit 16,117.4 Mb/s; of 648.8 Mb/s each, 24. -/
theorem test_export_example :
    ((fitExports (fun _ => 522977280) true (List.range 40) (fun _ => 16117400000)).filter (fun e => e.2)).length = 30 ∧
    ((fitExports (fun _ => 648806400) true (List.range 40) (fun _ => 16117400000)).filter (fun e => e.2)).length = 24 := by decide +kernel
/-- 15_sifter.md, the example of R329: 200 taps on a BALANCED channel fit its budget, 465 do not. -/
theorem test_fir_example : preset 1 = (3, 1, 64) ∧ firFits 3 3 1 0 200 = true ∧ firFits 3 3 1 0 465 = false := by decide
/-- 11_serial_lanes.md, R239 to R244: a codeword has the value 0 at the generator's roots; one wrong symbol shows; a LINK block and a
packet are read back; what one end scrambles the other descrambles. -/
theorem test_codeword : isCodeword ([5, 1000, 3] ++ rsParity [5, 1000, 3]) = true ∧
    isCodeword ([5, 1000, 2] ++ rsParity [5, 1000, 3]) = false := by decide +kernel
theorem test_link_block : linkOf (LinkBlock.payload { ack := 0xABC, nak := true, pause := 0x3C, req := 5, arg := 0x77, sfc := 0xE1 }) =
    some { ack := 0xABC, nak := true, pause := 0x3C, req := 5, arg := 0x77, sfc := 0xE1 } := by decide +kernel
theorem test_link_packet : (readLp (lpBlocks 3 0x123 [1, 2, 3, 4, 5])).2 = some (3, 0x123, true, [1, 2, 3, 4, 5]) := by decide +kernel
theorem test_scrambler : descrambleAll (scrambleAll (lpBlocks 3 0x123 [1, 2, 3]) 0x155) 0x155 = lpBlocks 3 0x123 [1, 2, 3] := by
  decide +kernel

/-! ### Ill-formed commands -/

theorem test_illformed_address_16 : ([
    (.driverPoll 16 none, .driverPoll 15 none), (.mapSend 16, .mapSend 15), (.bcnDrvWrite 16 0, .bcnDrvWrite 15 0)] : List (Instr × Instr)).all
      (fun e => !e.1.wellFormed && e.2.wellFormed) = true := by
  decide +kernel
theorem test_illformed_axis_4 : ([
    (.casAngleFrame 4 0 0 0, .casAngleFrame 3 0 0 0), (.tickDeadline 4, .tickDeadline 3), (.axisStartTimeout 4, .axisStartTimeout 3),
    (.resonantDacUpdate 4, .resonantDacUpdate 3)] : List (Instr × Instr)).all
      (fun e => !e.1.wellFormed && e.2.wellFormed) = true := by
  decide +kernel
theorem test_illformed_bank_4 : ([
    (.shotDecision 4, .shotDecision 3), (.shotFire 4, .shotFire 3), (.refWindowClose 4 0, .refWindowClose 3 0),
    (.bcnCodeSeedWrite 4 0, .bcnCodeSeedWrite 3 0), (.bcnBankWrite 4 0, .bcnBankWrite 3 0), (.lntXchkSample 4 0 0, .lntXchkSample 3 0 0),
    (.detDone 4 true, .detDone 3 true)] : List (Instr × Instr)).all
      (fun e => !e.1.wellFormed && e.2.wellFormed) = true := by
  decide +kernel
theorem test_illformed_channel_32 : ([
    (.sifterSlot 32, .sifterSlot 31), (.sftChDetWrite 32 0, .sftChDetWrite 31 0), (.sifterParityError 32, .sifterParityError 31)] : List (Instr × Instr)).all
      (fun e => !e.1.wellFormed && e.2.wellFormed) = true := by
  decide +kernel
theorem test_illformed_channel_768 : ([
    (.zoomIn 768, .zoomIn 767), (.histogramClose 768, .histogramClose 767)] : List (Instr × Instr)).all
      (fun e => !e.1.wellFormed && e.2.wellFormed) = true := by
  decide +kernel
theorem test_illformed_engine_4 : ([
    (.sltEngCfgWrite 4 0, .sltEngCfgWrite 3 0)] : List (Instr × Instr)).all
      (fun e => !e.1.wellFormed && e.2.wellFormed) = true := by
  decide +kernel
theorem test_illformed_index_4 : ([
    (.casEchoFrame 4, .casEchoFrame 3), (.echoMeasure 4 none, .echoMeasure 3 none),
    (.cascadeForward 4 { kind := 0, opcode := 0, tag := 0, seq := 0, status := 0, bytes := [] }, .cascadeForward 3 { kind := 0, opcode := 0, tag := 0, seq := 0, status := 0, bytes := [] }),
    (.secondaryAbsent 4, .secondaryAbsent 3)] : List (Instr × Instr)).all
      (fun e => !e.1.wellFormed && e.2.wellFormed) = true := by
  decide +kernel
theorem test_illformed_index_5 : ([
    (.lntGridWrite 5 0, .lntGridWrite 4 0)] : List (Instr × Instr)).all
      (fun e => !e.1.wellFormed && e.2.wellFormed) = true := by
  decide +kernel
theorem test_illformed_index_12 : ([
    (.lntLimitWrite 12 0, .lntLimitWrite 11 0)] : List (Instr × Instr)).all
      (fun e => !e.1.wellFormed && e.2.wellFormed) = true := by
  decide +kernel
theorem test_illformed_index_64 : ([
    (.pmcCntWrite 64 true 0, .pmcCntWrite 63 true 0), (.pmcEvtWrite 64 true 0, .pmcEvtWrite 63 true 0)] : List (Instr × Instr)).all
      (fun e => !e.1.wellFormed && e.2.wellFormed) = true := by
  decide +kernel
theorem test_illformed_index_256 : ([
    (.spdTabWinWrite 256 0, .spdTabWinWrite 255 0)] : List (Instr × Instr)).all
      (fun e => !e.1.wellFormed && e.2.wellFormed) = true := by
  decide +kernel
theorem test_illformed_input_4 : ([
    (.dmkEdge 4 true 0, .dmkEdge 3 true 0), (.dmkFreqStart 4 0, .dmkFreqStart 3 0), (.dmkFreqGateEnd 4, .dmkFreqGateEnd 3)] : List (Instr × Instr)).all
      (fun e => !e.1.wellFormed && e.2.wellFormed) = true := by
  decide +kernel
theorem test_illformed_input_32 : ([
    (.kprTideTimeout 32, .kprTideTimeout 31)] : List (Instr × Instr)).all
      (fun e => !e.1.wellFormed && e.2.wellFormed) = true := by
  decide +kernel
theorem test_illformed_keeper_2 : ([
    (.keeperSample 2 true, .keeperSample 1 true), (.clusterSearch 2, .clusterSearch 1), (.keeperStale 2 0, .keeperStale 1 0),
    (.keeperClockCheck 2 0, .keeperClockCheck 1 0), (.keeperSelftest 2 true, .keeperSelftest 1 true)] : List (Instr × Instr)).all
      (fun e => !e.1.wellFormed && e.2.wellFormed) = true := by
  decide +kernel
theorem test_illformed_lane_8 : ([
    (.lpTransmit 8, .lpTransmit 7), (.codewordReceive 8 0, .codewordReceive 7 0), (.linkBlockMissed 8, .linkBlockMissed 7),
    (.ackTimeout 8, .ackTimeout 7), (.superframeLock 8, .superframeLock 7), (.laneReady 8 ⟨0, 0, 0, 0⟩, .laneReady 7 ⟨0, 0, 0, 0⟩),
    (.alignComplete 8, .alignComplete 7), (.bringupTimeout 8, .bringupTimeout 7), (.stepOffer 8 0 0, .stepOffer 7 0 0),
    (.stepAccept 8 0 0, .stepAccept 7 0 0), (.rateChange 8, .rateChange 7), (.stepTimeout 8, .stepTimeout 7),
    (.laneRetrainTimeout 8, .laneRetrainTimeout 7), (.marginLow 8 0, .marginLow 7 0), (.retrain 8, .retrain 7), (.idleEnter 8, .idleEnter 7),
    (.idleExit 8, .idleExit 7), (.laneTestEnd 8 0 0, .laneTestEnd 7 0 0)] : List (Instr × Instr)).all
      (fun e => !e.1.wellFormed && e.2.wellFormed) = true := by
  decide +kernel
theorem test_illformed_led_32 : ([
    (.sltPeriod 32, .sltPeriod 31), (.sltRunEnd 32 0 0 true, .sltRunEnd 31 0 0 true)] : List (Instr × Instr)).all
      (fun e => !e.1.wellFormed && e.2.wellFormed) = true := by
  decide +kernel
theorem test_illformed_line_4 : ([
    (.readbackCheck 4, .readbackCheck 3), (.testPulse 4 true true, .testPulse 3 true true)] : List (Instr × Instr)).all
      (fun e => !e.1.wellFormed && e.2.wellFormed) = true := by
  decide +kernel
theorem test_illformed_lines_16 : ([
    (.safeReadbackChange 16, .safeReadbackChange 15)] : List (Instr × Instr)).all
      (fun e => !e.1.wellFormed && e.2.wellFormed) = true := by
  decide +kernel
theorem test_illformed_pair_2 : ([
    (.autoRestart 2, .autoRestart 1), (.edmCheck 2, .edmCheck 1)] : List (Instr × Instr)).all
      (fun e => !e.1.wellFormed && e.2.wellFormed) = true := by
  decide +kernel
theorem test_illformed_port_2 : ([
    (.csiFrameStart 2, .csiFrameStart 1), (.csiFrameEnd 2, .csiFrameEnd 1), (.csiFrameTimeout 2, .csiFrameTimeout 1),
    (.camNoSignal 2, .camNoSignal 1), (.cciWriteIssue 2 true true, .cciWriteIssue 1 true true), (.glzMapParity 2 0, .glzMapParity 1 0),
    (.glzPExpofsWrite 2 0, .glzPExpofsWrite 1 0), (.glzPMapWrite 2 0, .glzPMapWrite 1 0)] : List (Instr × Instr)).all
      (fun e => !e.1.wellFormed && e.2.wellFormed) = true := by
  decide +kernel
theorem test_illformed_port_4 : ([
    (.ethLockLoss 4, .ethLockLoss 3), (.pcsBlockLock 4, .pcsBlockLock 3)] : List (Instr × Instr)).all
      (fun e => !e.1.wellFormed && e.2.wellFormed) = true := by
  decide +kernel
theorem test_illformed_region_1153 : ([
    (.regionOfftargetTimeout 1153, .regionOfftargetTimeout 1152)] : List (Instr × Instr)).all
      (fun e => !e.1.wellFormed && e.2.wellFormed) = true := by
  decide +kernel
theorem test_illformed_slice_3 : ([
    (.tideConversionStart 3, .tideConversionStart 2),
    (.tideConversionEnd 3 0 true true ⟨false, false⟩, .tideConversionEnd 2 0 true true ⟨false, false⟩)] : List (Instr × Instr)).all
      (fun e => !e.1.wellFormed && e.2.wellFormed) = true := by
  decide +kernel
theorem test_illformed_sub_4 : ([
    (.pointPacketFlush 4, .pointPacketFlush 3)] : List (Instr × Instr)).all
      (fun e => !e.1.wellFormed && e.2.wellFormed) = true := by
  decide +kernel
theorem test_illformed_tile_48 : ([
    (.peakFindStart 48, .peakFindStart 47), (.peakFindDone 48 true, .peakFindDone 47 true), (.tileCtlWrite 48 0, .tileCtlWrite 47 0),
    (.tileRetire 48, .tileRetire 47), (.tileTabDataRead 48, .tileTabDataRead 47)] : List (Instr × Instr)).all
      (fun e => !e.1.wellFormed && e.2.wellFormed) = true := by
  decide +kernel
theorem test_illformed_unit_2 : ([
    (.watchHeartbeat 2, .watchHeartbeat 1), (.watchFailDeclare 2 true, .watchFailDeclare 1 true), (.watchRestart 2, .watchRestart 1),
    (.watchSelftestDone 2 true, .watchSelftestDone 1 true)] : List (Instr × Instr)).all
      (fun e => !e.1.wellFormed && e.2.wellFormed) = true := by
  decide +kernel
theorem test_illformed_window_3 : ([
    (.lntBucketClose 3, .lntBucketClose 2)] : List (Instr × Instr)).all
      (fun e => !e.1.wellFormed && e.2.wellFormed) = true := by
  decide +kernel
theorem test_illformed_word_36864 : ([
    (.maskParityError 36864, .maskParityError 36863)] : List (Instr × Instr)).all
      (fun e => !e.1.wellFormed && e.2.wellFormed) = true := by
  decide +kernel
theorem test_illformed_lengths : ([(.roiSet hd 0 [], .roiSet hd 0 (List.replicate 16 0)),
    (.axisConfig hd 0 0 (List.replicate 33 0), .axisConfig hd 0 0 (List.replicate 32 0)),
    (.axisCoef hd 0 0 [[1, 2, 3, 4]], .axisCoef hd 0 0 [[1, 2, 3, 4, 5]]),
    (.calCamera hd 0 (List.replicate 12 0) (List.replicate 9 0), .calCamera hd 0 (List.replicate 9 0) (List.replicate 12 0)),
    (.eventSubscribe hd (List.replicate 31 0) 0, .eventSubscribe hd (List.replicate 32 0) 0),
    (.secResponse hd 1 (List.replicate 63 0), .secResponse hd 1 (List.replicate 64 0)),
    (.secPassword hd (List.replicate 17 0), .secPassword hd (List.replicate 16 0)),
    (.tempConversion (List.replicate 7 0) [], .tempConversion (List.replicate 8 0) (List.replicate 4 0)),
    (.tempConversion (List.replicate 8 0) (List.replicate 5 0), .tempConversion (List.replicate 8 0) [])] : List (Instr × Instr)).all
      (fun e => !e.1.wellFormed && e.2.wellFormed) = true := by decide +kernel
theorem test_illformed_long (h : Hdr) (n : Nat) (e : 65536 ≤ n) : (Instr.regWrite h 0 (List.replicate n 0)).wellFormed = false ∧
    (Instr.regListWrite h (List.replicate n (0, 0))).wellFormed = false ∧ (Instr.patternLoad h 0 (List.replicate n 0)).wellFormed = false ∧
    (Instr.exportSelect h (List.replicate n 0)).wellFormed = false ∧ (Instr.axisCoef h 0 0 (List.replicate n [])).wellFormed = false ∧
    (Instr.confirmReceive (List.replicate n 0)).wellFormed = false := by
  simp [Instr.wellFormed, e]; omega
theorem test_illformed_pairs : ([(.gateEvent 768 0 0 ⟨0, []⟩, .gateEvent 767 0 63 ⟨0, [63]⟩), (.gateEvent 0 0 64 ⟨0, []⟩, .gateEvent 0 0 0 ⟨0, []⟩),
    (.gateEvent 0 0 0 ⟨0, [1, 64]⟩, .gateEvent 0 0 0 ⟨0, [1]⟩), (.vernierConversion 768 0 0 none, .vernierConversion 767 1 0 none),
    (.vernierConversion 0 2 0 none, .vernierConversion 0 0 0 none), (.shotEdgeArrival 48 0 0 0, .shotEdgeArrival 47 1 0 0),
    (.shotEdgeArrival 0 2 0 0, .shotEdgeArrival 0 0 0 0),
    (.lpReceive 8 ⟨0, [], []⟩, .lpReceive 7 ⟨2 ^ 58 - 1, [(true, 2 ^ 128 - 1)], [0]⟩),
    (.lpReceive 0 ⟨2 ^ 58, [], []⟩, .lpReceive 0 ⟨0, [], []⟩), (.lpReceive 0 ⟨0, [], [0]⟩, .lpReceive 0 ⟨0, [(true, 0)], [0]⟩),
    (.lpReceive 0 ⟨0, [(true, 2 ^ 128)], [0]⟩, .lpReceive 0 ⟨0, [(false, 0)], [0]⟩),
    (.linkBlockReceive 8 0, .linkBlockReceive 7 0), (.linkBlockReceive 0 (2 ^ 128), .linkBlockReceive 0 (2 ^ 128 - 1)),
    (.pauseTimeout 8 0, .pauseTimeout 7 7), (.pauseTimeout 0 8, .pauseTimeout 0 0), (.arpReply 0 (2 ^ 48), .arpReply 0 (2 ^ 48 - 1)),
    (.arpRequest ⟨0, 0, 2 ^ 48⟩, .arpRequest ⟨0, 0, 0⟩), (.discoveryPacket 8 0 0 0 0, .discoveryPacket 7 3 0 0 0),
    (.discoveryPacket 0 4 0 0 0, .discoveryPacket 0 0 0 0 0), (.csiLine 2 [] true, .csiLine 1 [65535] true),
    (.csiLine 0 [65536] true, .csiLine 0 [] true), (.fselChange 8 0, .fselChange 7 7), (.fselChange 0 8, .fselChange 0 0),
    (.cciXfer hd 0 0 0 0 (List.replicate 256 0) true [], .cciXfer hd 0 0 0 0 (List.replicate 255 0) true [])] : List (Instr × Instr)).all
      (fun e => !e.1.wellFormed && e.2.wellFormed) = true := by decide +kernel

/-! ### States that meet the hypotheses of the statements -/

theorem witness_StepRunsFrontCommand : [
    (let s := ({ up with pending := [.nop hd, .powerUp] } : State);
     decide (s.pending = [.nop hd, .powerUp]))].all id = true := by decide +kernel

theorem witness_EmptyQueuePassesATick : [
    (decide (up.pending = [] ∧ up.cmd.late = []) && !up.hw.injecting &&
         [Transport.spi, .link, .eth].all (fun t => (up.cmd.session t).all (fun x => x.wait.isNone && x.held.isEmpty))),
    (let x := ({ se with held := [.nop hd] } : Session);
     let s := ({ up with cmd := { up.cmd with spi := some x } } : State);
     decide (s.pending = [] ∧ s.cmd.spi = some x ∧ x.wait = none ∧ x.held = [.nop hd] ∧ hdrOf (.nop hd) = some hd))].all id = true := by decide +kernel

theorem witness_ExecKeepsTheQueue : [
    ((match exec (.nop hd) { up with pending := [.powerUp] } with | .next t => decide (t.pending = [.powerUp]) | _ => false))].all id = true := by decide +kernel

theorem witness_StepKeepsNothingUndelivered : [
    (decide (up.hw.outbox = []) && (match step { up with pending := [.crystalStop] } with | .next _ => true | _ => false))].all id = true := by decide +kernel

theorem up_sound : up.Sound := by
  constructor
  · constructor
    · intro t u x y; cases t <;> cases u <;> simp [up, CmdSt.session]
    · decide
    · intro t x; cases t <;> simp [up, CmdSt.session, se, Session.outstanding, b2n]; rintro rfl; decide
    · intro t x; cases t <;> simp [up, CmdSt.session, se]; rintro rfl; decide
    · intro t; cases t <;> decide
    · intro t x w p; cases t <;> simp [up, CmdSt.session, se]; rintro rfl; simp
    · intro t x e p; cases t <;> simp [up, CmdSt.session, se]; rintro rfl; simp
    · simp [up]
  · simp [up, Mirror.images]
theorem witness_StepKeepsWatchSound : up.Sound ∧ ∃ t, step up = .next t := ⟨up_sound, _, rfl⟩

def running : State := { up with cmd := { up.cmd with issued := [5], ops := [{ token := 5, opcode := 0x44, owner := some (.spi, 1) }] } }
theorem witness_StepKeepsTokensUnique : running.TokensUnique ∧ ∃ t, step running = .next t ∧ t.cmd.issued.length + 1 < 2 ^ 32 := by
  refine ⟨⟨by decide, by decide, by decide, by decide, by simp [running, up, Mirror.images]⟩, _, rfl, ?_⟩
  decide +kernel

theorem witness_UnsessionedCommandIsDenied : [
    (let s := ({ hw := w0 .config } : State);
     let c := Instr.modeGet hd;
     decide (hdrOf c = some hd) && !noSession (opOf c) && s.hw.hears .spi && decide ((paramsOf c).length ≤ 4096) && (s.cmd.session .spi).isNone &&
         (s.hw.badHeader hd (rowOf c).wide false).isNone && !s.hw.relays .spi && s.hw.outbox.isEmpty && !s.hw.noSafety)].all id = true := by decide +kernel

theorem witness_RetransmissionExecutesNothing : [
    (let e := ({ seq := 1, tag := 7, reply := some { opcode := 0x20, tag := 7, seq := 1, payload := [2, 0xFF] } } : Cached);
     let x := ({ se with lastSeq := 1, accepted := [e] } : Session);
     let s := ({ up with cmd := { up.cmd with spi := some x } } : State);
     let c := Instr.modeGet hd;
     decide (hdrOf c = some hd ∧ opOf c ≠ 0x01) && s.hw.hears .spi && !s.hw.relays .spi && decide (s.cmd.session .spi = some x ∧ x.resume ≠ some 1 ∧
         x.accepted.find? (fun e => decide (e.seq = 1 ∧ e.tag = 7)) = some e)),
    (let e := ({ seq := 1, tag := 7, reply := some { opcode := 0x20, tag := 7, seq := 1, payload := [2, 0xFF] } } : Cached);
     let e2 := ({ seq := 1, tag := 7 } : Cached);
     let x2 := ({ se with lastSeq := 1, accepted := [e2] } : Session);
     let s2 := ({ up with cmd := { up.cmd with spi := some x2 } } : State);
     decide (s2.cmd.session .spi = some x2 ∧ x2.accepted.find? (fun e => decide (e.seq = 1 ∧ e.tag = 7)) = some e2))].all id = true := by decide +kernel

theorem witness_SequenceErrorIsRefused : [
    (let g := ({ hd with seq := 2 } : Hdr);
     let c := Instr.modeGet g;
     decide (hdrOf c = some g ∧ opOf c ≠ 0x01 ∧ g.opcode = none) && !up.hw.relays .spi && up.hw.hears .spi && decide (up.cmd.session .spi = some se ∧
         se.resume ≠ some 2 ∧ se.accepted = [] ∧ g.version = 1 ∧ g.seq.toNat ≠ (se.lastSeq + 1) % 65536)),
    (let g := ({ hd with seq := 0xFFFF } : Hdr);
     decide (g.seq.toNat ≠ (se.lastSeq + 1) % 65536))].all id = true := by decide +kernel

theorem witness_NinthOutstandingIsBusy : [
    (let x := ({ se with held := List.replicate 8 (.nop { hd with seq := 0 }) } : Session);
     let s := ({ up with cmd := { up.cmd with spi := some x } } : State);
     decide (s.cmd.session .spi = some x ∧ x.resume = none ∧ x.accepted.find? (fun e => decide (e.seq = 1 ∧ e.tag = 7)) = none ∧
         hd.seq.toNat = (x.lastSeq + 1) % 65536 ∧ 8 ≤ x.outstanding)),
    (let y := ({ se with held := [.nop { hd with seq := 0 }] } : Session);
     let z := ({ up with cmd := { up.cmd with spi := some y } } : State);
     decide (z.cmd.session .spi = some y ∧ y.resume = none ∧ y.accepted = [] ∧ y.outstanding < 8 ∧ (y.wait.isSome ∨ y.held ≠ [])))].all id = true := by decide +kernel

theorem witness_UnheardOrOversizePacketIsDropped : [
    (let c := Instr.modeGet { hd with tr := .link };
     decide (hdrOf c = some { hd with tr := .link }) && !up.hw.hears .link),
    (let l := (List.replicate 4097 (0 : Byte));
     let d := Instr.planLoad hd ⟨0, 0, 9000⟩ 0 l;
     up.hw.hears .spi && decide (4096 < (paramsOf d).length))].all id = true := by decide +kernel

theorem witness_RefusalsComeInOrder : [
    (let c := Instr.keeperStatus hd;
     let s := upTo (fun w => { w with dev := { w.dev with codeRead := some 1 } });
     decide (opOf c ≠ 0x01 ∧ hdrOf c = some hd) && decide (s.cmd.session .spi = some se) && s.hw.noSafety && ((rowOf c).fused ||
         safetyOp (opOf c))),
    (let x := ({ se with role := 2 } : Session);
     let z := ({ up with cmd := { up.cmd with spi := some x } } : State);
     !z.hw.noSafety && decide (x.role < hd.role.toNat)),
    (let g := ({ hd with role := 1 } : Hdr);
     let d := Instr.modeSet g 3;
     takesB up (.modeGet g) g && decide (g.role.toNat < (rowOf d).role)),
    (let t := upIn .scan;
     let e := Instr.axisConfig hd 0 0 [];
     decide ((rowOf e).role ≤ hd.role.toNat ∧ hd.role.toNat ≤ se.role ∧ t.hw.dev.mode ∉ (rowOf e).modes) && !t.hw.wch.lost),
    (let o := ({ token := 5, opcode := 0x44, owner := some (.spi, 1), holds := [srcBcn] } : StepOp);
     let b := ({ up with cmd := { up.cmd with ops := [o], issued := [5] } } : State);
     let k := Instr.pinTest hd;
     decide (b.hw.dev.mode ∈ (rowOf k).modes) && b.cmd.held (rowOf k).writes),
    (let o := ({ token := 5, opcode := 0x44, owner := some (.spi, 1), holds := [srcBcn] } : StepOp);
     let k := Instr.pinTest hd;
     let q := ({ up with cmd := { up.cmd with ops := List.replicate 4 { o with holds := [] } } } : State);
     (rowOf k).stepped && decide (4 ≤ q.cmd.liveOps)),
    (let v := upIn .boot;
     decide (v.hw.dev.mode = .boot ∧ v.hw.dev.halted = false ∧ opOf (.modeGet hd) ∉ [0x00, 0x03, 0x04]) && !v.hw.wch.lost)].all id = true := by decide +kernel

theorem witness_ProtectiveOpcodesNeedTheFeature : [
    (let s := upTo (fun w => { w with dev := { w.dev with codeRead := some 2 } });
     takesB up (.guardArm hd 0 0) && decide (opOf (.guardArm hd 0 0) = 0x22 ∧ s.hw.dev.codeRead = some 2)),
    (takesB up (.safetyConfig hd) && decide (opOf (.safetyConfig hd) = 0x77)),
    (takesB up (.guardMapLoad hd ⟨0, 0, 0⟩ 0 []) && decide (opOf (.guardMapLoad hd ⟨0, 0, 0⟩ 0 []) = 0x70))].all id = true := by decide +kernel

theorem witness_ResetCausesStartBoot : [
    (let s := upTo (fun w => { w with dev := { w.dev with hotHold := true }, on := { w.on with heldLog := [[1]] }, pins := { w.pins with fselA := 3 } });
     decide (s.hw.dev.inReset = false ∧ 10000 ≤ 10000)),
    (let s := upTo (fun w => { w with dev := { w.dev with hotHold := true }, on := { w.on with heldLog := [[1]] }, pins := { w.pins with fselA := 3 } });
     decide (s.hw.outbox = [] ∧ 1999 < 2000)),
    (let r := upTo (fun w => { w with dev := { w.dev with inReset := true } });
     decide (r.hw.outbox = [] ∧ r.hw.dev.inReset = true)),
    (let u := up;
     !u.hw.held && decide (10 < 11)),
    (let u := up;
     decide (u.hw.outbox = [] ∧ 10 ≤ 10)),
    (let d := upIn .dormant (fun w => { w with dev := { w.dev with wakeMask := 3 } });
     decide (d.hw.dev.mode = .dormant ∧ d.hw.held = false) && tb d.hw.dev.wakeMask 0),
    (let d := upIn .dormant (fun w => { w with dev := { w.dev with wakeMask := 3 } });
     decide (d.hw.outbox = [] ∧ 999 < 1000)),
    (let d := upIn .dormant (fun w => { w with dev := { w.dev with wakeMask := 3 } });
     tb d.hw.dev.wakeMask 1 && decide (100 < 101)),
    (let d := upIn .dormant (fun w => { w with dev := { w.dev with wakeMask := 3 } });
     decide (d.hw.outbox = [] ∧ 49 < 50)),
    (let u := up;
     decide (u.hw.outbox = [] ∧ u.hw.dev.mode ≠ .dormant))].all id = true := by decide +kernel

theorem witness_BootStepsEndByTheirPolicies : [
    (let s := upIn .boot (fun w => { w with dev := { w.dev with step := 1, attempt := 1 }, pantry := { w.pantry with boot := { w.pantry.boot with start := 65535 } } });
     let o := ({ ok := true } : BootObs);
     decide (s.hw.outbox = [] ∧ s.hw.dev.mode = .boot ∧ s.hw.dev.halted = false ∧ s.hw.held = false ∧ s.hw.evt.table.length < 1024 ∧
         s.hw.dev.step = 1 ∧ o.ok = true ∧ s.hw.dev.stopFails = 0)),
    (let s := upIn .boot (fun w => { w with dev := { w.dev with step := 1, attempt := 1 }, pantry := { w.pantry with boot := { w.pantry.boot with start := 65535 } } });
     let f := ({ ok := false } : BootObs);
     decide (s.hw.dev.step = 1 ∧ f.ok = false)),
    (let s2 := upIn .boot (fun w => { w with dev := { w.dev with step := 2, attempt := 1 } });
     s2.hw.stepLate true && decide (s2.hw.dev.step = 2 ∧ s2.hw.dev.attempt < 2)),
    (let f := ({ ok := false } : BootObs);
     let e2 := upIn .boot (fun w => { w with dev := { w.dev with step := 2, attempt := 1, stepAt := w.ticks - 4000000 } });
     !e2.hw.stepLate (e2.hw.lanesMissing f.items)),
    (let s3 := upIn .boot (fun w => { w with dev := { w.dev with step := 2, attempt := 2 } });
     s3.hw.stepLate true && decide (s3.hw.dev.step = 2 ∧ s3.hw.dev.attempt = 2)),
    (let o := ({ ok := true } : BootObs);
     let s6 := upIn .boot (fun w => { w with dev := { w.dev with step := 6, stepAt := w.ticks - 8000000 }, cas := { w.cas with index := 2 } });
     decide (s6.hw.dev.step = 6 ∧ s6.hw.dev.stopFails = 0 ∧ s6.hw.held = false) && !s6.hw.stepLate false && o.ok)].all id = true := by decide +kernel

theorem witness_PacketEventsOfTheTransports : [
    (let s := up;
     s.hw.hears .spi),
    (let s := up;
     !s.hw.hears .link),
    (let p := ({ opcode := 0x20, payload := [2, 0xFF] } : Packet);
     let q := ({ up with cmd := { up.cmd with outSpi := [p, { p with opcode := 0 }] } } : State);
     decide (q.cmd.outSpi = p :: [{ p with opcode := 0 }] ∧ q.hw.held = false ∧ 20 + (pad4 p.payload).length = 24)),
    (let s := up;
     decide (s.cmd.outSpi = [])),
    (let p := ({ opcode := 0x20, payload := [2, 0xFF] } : Packet);
     let q := ({ up with cmd := { up.cmd with outSpi := [p, { p with opcode := 0 }] } } : State);
     q.dataReady && decide (q.hw.dev.inReset = false ∧ q.hw.dev.mode ≠ .dormant)),
    (let p := ({ opcode := 0x20, payload := [2, 0xFF] } : Packet);
     let x := ({ se with lastSeen := 92000000000 } : Session);
     let t := ({ up with cmd := { up.cmd with spi := some x, outSpi := [p, { p with reply := false }] } } : State);
     decide (t.hw.outbox = [] ∧ t.cmd.session .spi = some x ∧ x.lastSeen + 800000 * x.heartbeat ≤ t.hw.ticks) &&
         (List.range 8).all (fun l => decide ((t.hw.lane l).heldAt = none))),
    (let y := ({ se with lastSeen := 92000000001 } : Session);
     let r := ({ up with cmd := { up.cmd with spi := some y } } : State);
     decide (r.cmd.session .spi = some y ∧ r.hw.ticks < y.lastSeen + 800000 * y.heartbeat)),
    (let z := ({ se with lost := [(4, 3)], eventSeq := 65535 } : Session);
     let m := ({ up with cmd := { up.cmd with spi := some z } } : State);
     decide (m.cmd.session .spi = some z ∧ z.lost ≠ [] ∧ m.cmd.ordinary .spi < 224)),
    (let s := up;
     decide (se.lost = [] ∧ s.cmd.session .spi = some se))].all id = true := by decide +kernel

theorem witness_SteppedOperationEvents : [
    (let o := ({ token := 5, opcode := 0x44, owner := some (.spi, 1), step := 3, steps := 9, sentAt := some 99992000000 } : StepOp);
     let s := ({ up with cmd := { up.cmd with ops := [o], issued := [5] } } : State);
     decide (s.cmd.op 5 = some o ∧ s.cmd.ownerOf o = some (.spi, se) ∧ o.live = true ∧ o.state ≠ 0 ∧ o.sentAt = some 99992000000 ∧
         99992000000 + 8000000 ≤ s.hw.ticks ∧ s.cmd.ordinary .spi < 224)),
    (let o := ({ token := 5, opcode := 0x44, owner := some (.spi, 1), step := 3, steps := 9, sentAt := some 99992000000 } : StepOp);
     let s := ({ up with cmd := { up.cmd with ops := [o], issued := [5] } } : State);
     let e := ({ o with sentAt := some 99992000001 } : StepOp);
     let v := ({ s with cmd := { s.cmd with ops := [e] } } : State);
     decide (v.cmd.op 5 = some e ∧ v.hw.ticks < 99992000001 + 8000000)),
    (let o := ({ token := 5, opcode := 0x44, owner := some (.spi, 1), step := 3, steps := 9, sentAt := some 99992000000 } : StepOp);
     let s := ({ up with cmd := { up.cmd with ops := [o], issued := [5] } } : State);
     let u := ({ o with state := 0, opcode := 0x30, holds := [srcTnd], chunkAt := 92000000000 } : StepOp);
     let s2 := ({ s with cmd := { s.cmd with ops := [u] } } : State);
     decide (s2.cmd.op 5 = some u ∧ s2.cmd.ownerOf u = some (.spi, se) ∧ u.live = true ∧ u.state = 0 ∧ u.chunkAt + 8000000000 ≤ s2.hw.ticks)),
    (let o := ({ token := 5, opcode := 0x44, owner := some (.spi, 1), step := 3, steps := 9, sentAt := some 99992000000 } : StepOp);
     let s := ({ up with cmd := { up.cmd with ops := [o], issued := [5] } } : State);
     let u := ({ o with state := 0, opcode := 0x30, holds := [srcTnd], chunkAt := 92000000000 } : StepOp);
     let u2 := ({ u with chunkAt := 92000000001 } : StepOp);
     let s3 := ({ s with cmd := { s.cmd with ops := [u2] } } : State);
     decide (s3.cmd.op 5 = some u2 ∧ s3.hw.ticks < u2.chunkAt + 8000000000)),
    (let o := ({ token := 5, opcode := 0x44, owner := some (.spi, 1), step := 3, steps := 9, sentAt := some 99992000000 } : StepOp);
     let s := ({ up with cmd := { up.cmd with ops := [o], issued := [5] } } : State);
     let f := ({ o with state := 3, doneAt := some 92000000000, result := [1] } : StepOp);
     let s4 := ({ s with cmd := { s.cmd with ops := [f] } } : State);
     decide (s4.cmd.op 5 = some f ∧ f.doneAt = some 92000000000 ∧ 92000000000 + 8000000000 ≤ s4.hw.ticks)),
    (let o := ({ token := 5, opcode := 0x44, owner := some (.spi, 1), step := 3, steps := 9, sentAt := some 99992000000 } : StepOp);
     let s := ({ up with cmd := { up.cmd with ops := [o], issued := [5] } } : State);
     let f := ({ o with state := 3, doneAt := some 92000000000, result := [1] } : StepOp);
     let f2 := ({ f with doneAt := some 92000000001 } : StepOp);
     let s5 := ({ s with cmd := { s.cmd with ops := [f2] } } : State);
     decide (s5.cmd.op 5 = some f2 ∧ s5.hw.ticks < 92000000001 + 8000000000))].all id = true := by decide +kernel

theorem witness_RegisterRowsActByTheirAccessCodes : [
    (let s := up;
     decide (s.hw.outbox = [] ∧ (2 : U32).toNat % 4 ≠ 0) && (regDesc 0x00001FFC).isNone),
    (let s := up;
     (regDesc 0x00580000).isSome && decide ((0x00580000 : U32).toNat / 0x10000 ∈ [0x58, 0x60, 0x91, 0xA0] ∧ s.hw.dev.mode ≠ .guard)),
    (let g := upIn .guard;
     decide (g.hw.dev.mode = .guard) && (regDesc 0x00580008).any (fun e => decide (e.rwl ≠ 0))),
    (decide (0x006800A0 / 0x10000 ∈ [0x68, 0x70, 0x79]) && (regDesc 0x006800A0).any (fun e => decide (e.rc ≠ 0))),
    ((regDesc 0x00580000).all (fun e => decide (e.rc = 0))),
    (let p := ({ opcode := 0x13, tag := 7, seq := 1 } : Packet);
     let x := ({ se with wait := some (.poll 0x0004000C 0 0 1, p), accepted := [{ seq := 1, tag := 7 }] } : Session);
     let t := ({ up with cmd := { up.cmd with spi := some x } } : State);
     decide (t.cmd.session .spi = some x ∧ x.wait = some (.poll 0x0004000C 0 0 1, p)) && decide ((t.readReg 0x0004000C).2 &&& 0 = 0)),
    (let p := ({ opcode := 0x13, tag := 7, seq := 1 } : Packet);
     let y := ({ se with wait := some (.poll 0x0004000C 1 2 100000000000, p), accepted := [{ seq := 1, tag := 7 }] } : Session);
     let v := ({ up with cmd := { up.cmd with spi := some y } } : State);
     decide (v.cmd.session .spi = some y ∧ (v.readReg 0x0004000C).2 &&& 1 ≠ 2 ∧ 100000000000 ≤ v.hw.ticks))].all id = true := by decide +kernel

theorem witness_ShotDecisionsObeyLantern : [
    (let s := up;
     decide (s.hw.outbox = [] ∧ s.hw.dev.mode ≠ .scan ∧ s.hw.dev.mode ≠ .guard ∧ s.hw.dev.mode ≠ .service)),
    (let i := upIn .scan (fun w => { w with bcn := { w.bcn with inhibited := true, source := 0 } });
     decide (i.hw.bcn.inhibited = true)),
    (let g := upIn .scan (fun w => ({ w with bcn := { w.bcn with source := 0 }, tnd := { w.tnd with active := some placed1 } } : Hw).setReg 0x00020004 0x10);
     (match exec (.shotDecision 0) g with | .next _ => true | _ => false)),
    (let g := upIn .scan (fun w => ({ w with bcn := { w.bcn with source := 0 }, tnd := { w.tnd with active := some placed1 } } : Hw).setReg 0x00020004 0x10);
     decide (g.hw.dev.mode = .scan ∧ g.hw.held = false ∧ g.hw.bcn.inhibited = false ∧ 0 < 4 ∧ g.hw.bcn.source = 0) &&
         (g.hw.gridTarget 0).any (fun e => g.hw.crosses (g.hw.aheadOf 0) e.1.aim 0)),
    (let p := upIn .scan (fun w => ({ w with bcn := { w.bcn with source := 1, programs := mset [] w.bcn.programs 2 [BitVec.ofNat 64 (0x1 * 2 ^ 60 + 2 * 2 ^ 58 + 5)], pattern := { w.bcn.pattern with running := some 2 } }, tnd := { w.tnd with active := some placed1 } } : Hw).setReg 0x00020004 0x10);
     decide (p.hw.dev.mode = .scan ∧ p.hw.held = false ∧ p.hw.bcn.inhibited = false ∧ 2 < 4 ∧ p.hw.bcn.source = 1 ∧ p.hw.patternWait = p.hw) &&
         (p.hw.patternTarget 2).any (fun e => p.hw.crosses p.hw.bcn.pattern.ahead e.aim 0))].all id = true := by decide +kernel

theorem witness_EmissionRowsTakeEffect : [
    (let x := ({ num := 1, bank := 2, row := 3, profile := 0, cols := 1, pw := 0, slot := 0, driver := 0, dq := 5, cells := [7], fireAt := some 100000000000, cur := 9 } : Shot);
     let s := upIn .scan (fun w => w.setBank 2 { w.bank 2 with inFlight := [x] });
     decide (s.hw.outbox = [] ∧ s.hw.awake 15 = true ∧ (s.hw.bank 2).inFlight = [x] ∧ x.fireAt = some 100000000000 ∧ 100000000000 ≤ s.hw.ticks)),
    (let x := ({ num := 1, bank := 2, row := 3, profile := 0, cols := 1, pw := 0, slot := 0, driver := 0, dq := 5, cells := [7], fireAt := some 100000000000, cur := 9 } : Shot);
     let s := upIn .scan (fun w => w.setBank 2 { w.bank 2 with inFlight := [x] });
     decide ((s.hw.bank 3).inFlight = [])),
    (let d := upTo (fun w => (w.setReg (0x00020040 + 4 * 15) 0x80).setDriver 15 { silent := 1 });
     decide (15 < 16 ∧ mget 0 d.hw.bcn.pollDue 15 ≤ d.hw.ticks ∧ d.hw.busGap 736 = true ∧ (d.hw.driver 15).silent < 2 ∧
         d.hw.evt.table.length < 1024) && tb (d.hw.drvReg 15) 7),
    (let d2 := upTo (fun w => (w.setReg 0x00020040 0x80).setDriver 0 { silent := 2 });
     decide ((d2.hw.driver 0).silent = 2) && tb (d2.hw.drvReg 0) 7),
    (let m := upTo (fun w => w.setDriver 4 { mapDue := true });
     decide (m.hw.busGap 384 = true ∧ (m.hw.driver 4).clearDue = false ∧ (m.hw.driver 4).mapDue = true)),
    (let m2 := upTo (fun w => w.setDriver 4 { clearDue := true });
     decide (m2.hw.busGap 384 = true ∧ (m2.hw.driver 4).clearDue = true)),
    (let m := upTo (fun w => w.setDriver 4 { mapDue := true });
     decide ((m.hw.driver 5).mapDue = false ∧ (m.hw.driver 5).clearDue = false)),
    (let r := ({ driver := 1, profile := 2, final := 50, every := 1, step := 20, due := true } : Ramp);
     let q := upTo (fun w => ({ w with bcn := { w.bcn with pattern := { w.bcn.pattern with ramps := [r] } } } : Hw).setDriver 1 { cur := [(2, 40)] });
     decide (q.hw.busGap 384 = true ∧ q.hw.bcn.writes = [] ∧ q.hw.bcn.pattern.ramps.find? (·.due) = some r)),
    (let z := ({ driver := 3, profile := 1, cur := 9, cols := 2 } : ProfileWrite);
     let q3 := upTo (fun w => { w with bcn := { w.bcn with writes := [z] } });
     decide (q3.hw.busGap 384 = true ∧ q3.hw.bcn.writes = [z])),
    (let r := ({ driver := 1, profile := 2, final := 50, every := 1, step := 20, due := true } : Ramp);
     let q2 := upTo (fun w => ({ w with bcn := { w.bcn with busUntil := w.ticks + 1, pattern := { w.bcn.pattern with ramps := [r] } } } : Hw));
     decide (q2.hw.busGap 384 = false)),
    (decide ((up.hw.bank 1).refOpen = [])),
    (let x := ({ num := 1, bank := 2, row := 3, profile := 0, cols := 1, pw := 0, slot := 0, driver := 0, dq := 5, cells := [7], fireAt := some 100000000000, cur := 9 } : Shot);
     let y := ({ x with cols := 0x8001, plan := 5 } : Shot);
     let v := upIn .scan (fun w => { w with spd := { w.spd with lampUnfit := 2 } }.setBank 1 { w.bank 1 with refOpen := [y, x] });
     decide ((v.hw.bank 1).refOpen = [y, x] ∧ y.plan + bits (v.hw.reg 0x00020080) 0 8 + bits (v.hw.reg 0x00020080) 8 8 ≤ v.hw.ticks))].all id = true := by decide +kernel

theorem witness_EmissionRegistersByTheirRules : [
    (decide (3 < 4 ∧ up.hw.outbox = [] ∧ up.hw.dev.mode ≠ .guard)),
    (decide (bits 0x30 4 2 = 3 ∧ bits 0x20 4 2 ≠ 3)),
    (let t := upTo (fun w => w.setReg 0x00020040 0x8F);
     decide (15 < 16 ∧ up.hw.dev.mode ≠ .guard) && tb (t.hw.drvReg 0) 7 && decide (bits (t.hw.drvReg 0) 0 4 = bits 0x8F 0 4)),
    (let w := upIn .guard;
     decide (w.hw.dev.mode = .guard ∧ 3 < 4))].all id = true := by decide +kernel

theorem witness_LedgerNeverForgetsEarly : [
    (let s := upTo (fun w => { w with lnt := { w.lnt with running := true, capsValid := true, caps := List.replicate 12 (65536 * 4), windows := [800, 8000, 80000], cells := [(cellIx 3 2 4095, { cur := 70, buckets := [5] })], bucketAt := [(2, 100000000000 - 100 * 80000)] } });
     decide (s.hw.outbox = [] ∧ msorted s.hw.lnt.cells = true ∧ s.hw.awake 5 = true ∧ s.hw.lnt.running = true ∧ 2 < 3 ∧
         mget 0 s.hw.lnt.bucketAt 2 + 100 * s.hw.lnt.window 2 ≤ s.hw.ticks ∧ 0 < s.hw.lnt.cap 3 2)),
    (decide (3 ≤ 3) && decide (up.hw.lnt.running = false)),
    (let s := upTo (fun w => { w with lnt := { w.lnt with running := true, capsValid := true, caps := List.replicate 12 (65536 * 4), windows := [800, 8000, 80000], cells := [(cellIx 3 2 4095, { cur := 70, buckets := [5] })], bucketAt := [(2, 100000000000 - 100 * 80000)] } });
     decide (4 < 5 ∧ s.hw.dev.mode = .config)),
    (let t := upIn .scan;
     decide (t.hw.dev.mode ≠ .config)),
    (let s := upTo (fun w => { w with lnt := { w.lnt with running := true, capsValid := true, caps := List.replicate 12 (65536 * 4), windows := [800, 8000, 80000], cells := [(cellIx 3 2 4095, { cur := 70, buckets := [5] })], bucketAt := [(2, 100000000000 - 100 * 80000)] } });
     decide (11 < 12 ∧ s.hw.dev.mode ≠ .guard)),
    (let s := upTo (fun w => { w with lnt := { w.lnt with running := true, capsValid := true, caps := List.replicate 12 (65536 * 4), windows := [800, 8000, 80000], cells := [(cellIx 3 2 4095, { cur := 70, buckets := [5] })], bucketAt := [(2, 100000000000 - 100 * 80000)] } });
     decide (3 < 4 ∧ s.hw.awake 15 = true ∧ s.hw.monitorBad 3 = false ∧ mget 0 s.hw.lnt.xchkAt 3 ≤ s.hw.ticks ∧
         (0 : Int) * 65536 * 256 ≤ ((s.hw.reg (0x000280B0 + 12) * mget 0 s.hw.lnt.lastCur 3 : Nat) : Int) * (256 + bits (s.hw.reg 0x000280A4) 24 8))),
    (decide (3 < 4 ∧ (2 : Nat) ≠ 0)),
    (decide (4 ≤ 4) && decide (up.hw.lnt.running = false))].all id = true := by decide +kernel

theorem witness_FramesAndPlacementsAdvance : [
    (let s := upTo (fun w => { w with tnd := { w.tnd with unpinDue := true, pinned := [3], pins := true } });
     decide (s.hw.outbox = [] ∧ s.hw.awake 15 = true ∧ s.hw.framesRun = false ∧ s.hw.dev.mode = .config ∧ s.hw.tnd.unpinDue = true)),
    (let a := upIn .scan (fun w => { w with bcn := { w.bcn with source := 0 }, tnd := { w.tnd with plan := some plan1, nextPlan := some plan1, active := some placed1, frameOn := true, frameTick := w.ticks } });
     decide (a.hw.framesRun = true ∧ a.hw.boundaryDue = false)),
    (let b := upIn .scan (fun w => { w with bcn := { w.bcn with source := 0 }, tnd := { w.tnd with plan := some plan1, nextPlan := some plan1, frameOn := true } });
     decide (b.hw.framesRun = true ∧ b.hw.boundaryDue = true)),
    (let b2 := upIn .scan (fun w => { w with bcn := { w.bcn with source := 0 }, tnd := { w.tnd with plan := some plan1, nextPlan := some plan1, frameOn := true, shadow := some placed1 } });
     decide (b2.hw.dev.mode = .scan ∧ b2.hw.framesRun = true ∧ b2.hw.boundaryDue = true ∧ b2.hw.isSecondary = false ∧
         b2.hw.tnd.shadow = some placed1 ∧ placed1.badChan = none)),
    (let bad := ({ placed1 with epoch := 3, tracks := [(256, { row := 0, nAcc := 2, k := 1, shape := 1, x0 := 1 })] } : Placement);
     let b3 := upIn .scan (fun w => { w with bcn := { w.bcn with source := 0 }, tnd := { w.tnd with plan := some plan1, nextPlan := some plan1, frameOn := true, active := some placed1, shadow := some bad } });
     decide (b3.hw.framesRun = true ∧ b3.hw.boundaryDue = true ∧ b3.hw.isSecondary = false ∧ b3.hw.tnd.shadow = some bad ∧ bad.badChan ≠ none ∧
         placed1.epoch ≠ bad.epoch ∧ b3.hw.tnd.active = some placed1 ∧ b3.hw.evt.table.length + 2 ≤ 1024)),
    (let b := upIn .scan (fun w => { w with bcn := { w.bcn with source := 0 }, tnd := { w.tnd with plan := some plan1, nextPlan := some plan1, frameOn := true } });
     decide (b.hw.tnd.frameOn = true ∧ b.hw.tnd.cutDone = false ∧ b.hw.tnd.frameTick + b.hw.framePeriod.1 ≤ b.hw.ticks + 1600000)),
    (decide (up.hw.framesRun = false)),
    (let c := upIn .scan (fun w => { w with tnd := { w.tnd with computing := some placed1 } });
     decide (c.hw.tnd.computing = some placed1 ∧ placed1.unplaced = 0)),
    (let f := upIn .scan (fun w => { w with tnd := { w.tnd with computing := some { placed1 with unplaced := 7 } } });
     decide (f.hw.tnd.computing = some { placed1 with unplaced := 7 } ∧ f.hw.tnd.active = none ∧ f.hw.evt.table.length < 1024)),
    (decide (up.hw.tnd.computing = none))].all id = true := by decide +kernel

theorem witness_ArrayRowsTakeEffect : [
    (let s := upIn .scan (fun w => { w with spd := { w.spd with biasOn := true, hvInSince := some 99999200000 } });
     decide (s.hw.outbox = [] ∧ s.hw.awake 5 = true ∧ s.hw.spd.trimAt = none)),
    (decide (up.hw.awake 5 = true ∧ up.hw.dev.mode = .config ∧ up.hw.spd.trimAt = none)),
    (let d := upTo (fun w => { w with spd := { w.spd with trimAt := some w.ticks, hvAt := some w.ticks } });
     decide (d.hw.spd.trimAt = some d.hw.ticks ∧ d.hw.spd.hvAt = some d.hw.ticks ∧ d.hw.ticks < d.hw.ticks + 800000 * d.hw.trimPeriod)),
    (decide (up.hw.awake 5 = true ∧ up.hw.spd.hvAt = none) && up.hw.hvInWindow up.hw.hvLow),
    (!up.hw.hvInWindow (up.hw.hvHigh + 1) && decide (up.hw.spd.biasOn = false)),
    (let b := upTo (fun w => { w with spd := { w.spd with biasOn := true }, dev := { w.dev with hvEnable := true } });
     !b.hw.hvInWindow 0 && decide (b.hw.spd.biasOn = true ∧ b.hw.awake 5 = true ∧ b.hw.evt.table.length + 2 ≤ 1024)),
    (let r := upTo (fun w => w.setRegion 1152 { w.region 1152 with offSince := some 99199999999 });
     decide (r.hw.awake 5 = true ∧ (r.hw.region 1152).offSince = some 99199999999 ∧ 99199999999 + 800000000 < r.hw.ticks ∧
         r.hw.evt.table.length < 1024)),
    (let r2 := upTo (fun w => w.setRegion 1152 { w.region 1152 with offSince := some 99200000000 });
     decide ((r2.hw.region 1152).offSince = some 99200000000 ∧ r2.hw.ticks ≤ 99200000000 + 800000000)),
    (decide ((up.hw.region 0).offSince = none)),
    (let c0 := upTo (fun w => { w with spd := { w.spd with maskShadow := [(7, 3)], maskPending := true } });
     decide (c0.hw.dev.mode = .config)),
    (let s := upIn .scan (fun w => { w with spd := { w.spd with biasOn := true, hvInSince := some 99999200000 } });
     decide (s.hw.dev.mode = .scan)),
    (let m := upTo (fun w => { w with spd := { w.spd with maskActive := [(5, 9)] } });
     decide (m.hw.dev.mode ≠ .guard)),
    (let g := upIn .guard;
     decide (g.hw.dev.mode = .guard ∧ g.hw.outbox = [])),
    (let p := upTo (fun w => { w with pantry := { w.pantry with mask := [(36863, 3)] } });
     decide (36863 < 36864 ∧ p.hw.awake 5 = true ∧ p.hw.evt.table.length < 1024)),
    (let t := upTo (fun w => w.setReg 0x00030030 (36864 - 256));
     decide (255 < 256 ∧ bits (t.hw.reg 0x00030030) 16 4 = 0 ∧ bits (t.hw.reg 0x00030030) 0 16 + 255 < 36864 ∧ t.hw.dev.mode ≠ .guard)),
    (let y := upTo (fun w => w.setReg 0x00030030 (0x20000 + 1152 - 255));
     decide (255 < 256 ∧ bits (y.hw.reg 0x00030030) 16 4 = 2 ∧ bits (y.hw.reg 0x00030030) 0 16 + 255 < 1153 ∧ y.hw.dev.mode = .config)),
    (let y2 := upIn .scan (fun w => w.setReg 0x00030030 0x20000);
     decide (bits (y2.hw.reg 0x00030030) 16 4 = 2 ∧ y2.hw.dev.mode = .scan)),
    (let g := upIn .guard;
     decide (bits (g.hw.reg 0x00030030) 16 4 = 0 ∧ g.hw.dev.mode = .guard))].all id = true := by decide +kernel

theorem witness_TileRowsTakeEffect : [
    (let h := ({ state := .accum, zoomDue := some 6000000000000, nAcc := 2, assigned := 2, closeDue := 6000000000000 } : Hist);
     let z := upIn .scan (fun w => w.setTile 47 ((w.tile 47).setChan 15 (((w.tile 47).chan 15).setBuf 1 h)));
     decide (z.hw.outbox = [] ∧ z.hw.awake 15 = true ∧ z.hw.descs = [] ∧ ((List.range 2).find? (fun i => let h := ((z.hw.tile 47).chan 15).buf i;
     decide (h.state = .accum) && !h.zoomed && (match h.zoomDue with | some w => decide (w ≤ z.hw.fineNow) | none => false))) = some 1)),
    (let h := ({ state := .accum, zoomDue := some 6000000000000, nAcc := 2, assigned := 2, closeDue := 6000000000000 } : Hist);
     let z := upIn .scan (fun w => w.setTile 47 ((w.tile 47).setChan 15 (((w.tile 47).chan 15).setBuf 1 h)));
     decide (((List.range 2).find? (fun i => let h := ((z.hw.tile 47).chan 15).buf i;
     decide (h.state = .accum) && decide (h.nAcc ≤ h.assigned) && decide (h.closeDue ≤ z.hw.fineNow))) = some 1)),
    (let h := ({ state := .accum, zoomDue := some 6000000000000, nAcc := 2, assigned := 2, closeDue := 6000000000000 } : Hist);
     let q := upIn .scan (fun w => w.setTile 47 ((w.tile 47).setChan 15 (((w.tile 47).chan 15).setBuf 1 { h with state := .queued })));
     decide (q.hw.descs = [] ∧ (q.hw.tile 47).peak = none ∧ oldestQueued (q.hw.tile 47) = some (15, 1))),
    (let h := ({ state := .accum, zoomDue := some 6000000000000, nAcc := 2, assigned := 2, closeDue := 6000000000000 } : Hist);
     let k := upIn .scan (fun w => w.setTile 47 { (w.tile 47).setChan 15 (((w.tile 47).chan 15).setBuf 1 { h with state := .peak }) with peak := some (15, 1), peakEnd := 100000000000 });
     decide (k.hw.descs = [] ∧ (k.hw.tile 47).peak = some (15, 1) ∧ (k.hw.tile 47).peakEnd ≤ k.hw.ticks ∧ k.hw.evt.table.length < 1024)),
    (decide (up.hw.descs = [] ∧ (up.hw.tile 0).peak = none ∧ up.hw.awake 15 = true)),
    (decide (47 < 48 ∧ bits 0x100 8 6 ≠ 0 ∧ up.hw.dev.mode ≠ .service ∧ up.hw.dev.mode ≠ .guard)),
    (decide (bits 0xFF0000 8 6 = 0)),
    (let c := upIn .scan;
     decide (c.hw.dev.mode = .scan ∧ bits (c.hw.reg (tileReg 47 0)) 8 6 = 0 ∧ (c.hw.tile 47).retired = false ∧ (c.hw.tile 47).retireDue = 0)),
    (decide (up.hw.dev.mode = .config ∧ bits (up.hw.reg (tileReg 47 0)) 8 6 = 0 ∧ (up.hw.tile 47).retired = false ∧ (up.hw.tile 47).retireDue = 0 ∧
         up.hw.evt.table.length < 1024)),
    (let t := upTo (fun w => w.setReg (tileReg 47 0x18) 31);
     decide (bits (t.hw.reg (tileReg 47 0x18)) 0 6 < tileTabWords (bits (t.hw.reg (tileReg 47 0x18)) 16 2))),
    (decide (up.hw.dev.mode ≠ .guard)),
    (let g := upIn .guard;
     decide (g.hw.dev.mode = .guard))].all id = true := by decide +kernel

/-- A state whose tree delay, whatever it is, puts the edge of tile 0 on the announced tick. -/
def edgeAt (fire : Nat) : State :=
  { hw := { ticks := Config.treeDelay 0, dev := { mode := .scan }, descs := [{ shots := [], fireAt := fire }] } }
theorem witness_shot_edge (f : Nat) : (edgeAt f).hw.outbox = [] ∧ (edgeAt f).hw.awake 15 = true ∧
    (edgeAt f).hw.descs = [{ shots := [], fireAt := f }] ∧ ((edgeAt f).hw.tile 0).taken = 0 ∧ (edgeAt f).hw.tnd.active = none ∧
    ((stampOf 601 1000 0 ((edgeAt f).hw.fireGain 0 0) / 80 : Nat) : Int) -
      ((f : Int) + (((edgeAt f).hw.clk.time.toNat : Int) - (edgeAt f).hw.ticks) + Config.treeDelay 0) = 1000 - f := by
  have e : stampOf 601 1000 0 ((edgeAt f).hw.fireGain 0 0) = 80000 := by
    show stampOf 601 1000 0 ((edgeAt 0).hw.fireGain 0 0) = 80000
    decide +kernel
  refine ⟨rfl, rfl, rfl, rfl, rfl, ?_⟩
  rw [e]
  show ((1000 : Nat) : Int) - ((f : Int) + ((0 : Int) - (Config.treeDelay 0 : Int)) + Config.treeDelay 0) = 1000 - f
  omega
theorem witness_ShotEdgesPairAndHistogramsAreJudged : [
    (let s := upIn .scan (fun w => { w with spd := { w.spd with biasOn := true, regions := [(regionOf 0 0, { state := 0 })] }, tnd := { w.tnd with active := some placed1 } });
     decide (s.hw.outbox = [] ∧ s.hw.awake 15 = true ∧ s.hw.descs = [] ∧ s.hw.spd.blankEnd ≤ s.hw.ticks ∧ s.hw.onInjector 0 = false) &&
         (s.hw.trackOf 0).any (fun t => s.hw.armed t 0 && decide ((({} : Gate).openAt t.span 6) = false ∧ t.k ≤ s.hw.nLive t ∧
         ((({} : Gate).fire t.k t.span 0 6 0).2) = true))),
    (let o := upTo (fun w => { w with spd := { w.spd with biasOn := true, blankEnd := w.ticks + 1, regions := [(regionOf 0 0, { state := 0 })] }, tnd := { w.tnd with active := some placed1 } });
     decide (o.hw.ticks < o.hw.spd.blankEnd) && (o.hw.trackOf 0).any (fun t => o.hw.armed t 0)),
    (let s := upIn .scan (fun w => { w with spd := { w.spd with biasOn := true, regions := [(regionOf 0 0, { state := 0 })] }, tnd := { w.tnd with active := some placed1 } });
     decide (s.hw.trackOf 767 = none)),
    (decide (up.hw.descs = [] ∧ mget none ((up.hw.tile 47).chan 15).busy 1 = none)),
    (let b := upIn .scan (fun w => w.setTile 47 ((w.tile 47).setChan 15 { (w.tile 47).chan 15 with busy := [(1, some (400, 2, false))] }));
     decide (b.hw.descs = [] ∧ mget none ((b.hw.tile 47).chan 15).busy 1 = some (400, 2, false) ∧ 82 ≤ 82 ∧ 1 ∉ ((b.hw.tile 47).chan 15).marked)),
    (let b2 := upIn .scan (fun w => w.setTile 47 ((w.tile 47).setChan 15 { (w.tile 47).chan 15 with busy := [(1, some (400, 2, false))], marked := [1] }));
     decide (1 ∈ ((b2.hw.tile 47).chan 15).marked ∧ (1 : Nat) ≤ 82)),
    (let b := upIn .scan (fun w => w.setTile 47 ((w.tile 47).setChan 15 { (w.tile 47).chan 15 with busy := [(1, some (400, 2, false))] }));
     decide ((83 : Nat) > 82 ∧ mget 0 ((b.hw.tile 47).chan 15).vernFail 1 + 1 ≤ 16)),
    (decide (up.hw.descs = [])),
    (let f := upIn .scan (fun w => w.setTile 47 ((w.tile 47).setChan 15 (((w.tile 47).chan 15).setBuf 1 { state := .done })));
     decide (f.hw.outbox = [] ∧ 3 < 4 ∧ f.hw.oldestDone 3 = some (47, 15, 1)))].all id = true := by decide +kernel

theorem witness_SessionCommandsAreServed : [
    (let s := up;
     takesB s (.nop hd)),
    (let s := up;
     takesB s (.heartbeat hd)),
    (let s := up;
     takesB s (.identGet hd)),
    (let s := up;
     takesB s (.statusGet hd)),
    (let s := up;
     takesB s (.timeGet hd)),
    (let n := ({ hw := w0 .config } : State);
     decide (n.cmd.session .spi = none ∧ n.hw.outbox = [] ∧ n.hw.dev.mode ≠ .dormant ∧ n.hw.wch.lost = false) && n.hw.hears .spi &&
         (n.hw.badHeader hd false false).isNone),
    (decide ((60000 : U16).toNat ≤ 60000 ∧ 100 ≤ (100 : U16).toNat)),
    (let m := ({ hw := { w0 .config with dev := { mode := .config, codeRead := some 0 } } } : State);
     m.hw.adminPort .spi && m.hw.adminOpenOk && !m.cmd.adminTaken .spi),
    (let m := ({ hw := { w0 .config with dev := { mode := .config, codeRead := some 0 } } } : State);
     let t := ({ m with cmd := { link := some { se with role := 2 } } } : State);
     t.hw.adminPort .spi && t.hw.adminOpenOk && t.cmd.adminTaken .spi),
    (let q := ({ hw := { w0 .config with sec := { fused := [(86, 0x22)] } } } : State);
     !q.hw.adminPort .spi || !q.hw.adminOpenOk),
    (let s := up;
     takesB s (.sessionClose hd))].all id = true := by decide +kernel

theorem witness_ModeCommandsAreServed : [
    (let s := up;
     takesB s (.resetSoft hd 0)),
    (let s := up;
     takesB s (.resetSoft hd 1)),
    (let s := up;
     takesB s (.modeGet hd)),
    (let h := ({ time := 5, src := .config, dst := .scan, cause := 1 } : ModeEntry);
     let hs := upTo (fun w => { w with dev := { w.dev with history := List.replicate 16 h } });
     takesB hs (.modeHistory hd) && decide (hs.hw.dev.history.length ≤ 16)),
    (let s := up;
     takesB s (.modeSet hd 2) && decide ((2 : U8).toNat = s.hw.dev.mode.code)),
    (let s := up;
     takesB s (.modeSet hd 3) && decide (Mode.scan ∈ [Mode.config, .scan, .service] ∧ (3 : U8).toNat = Mode.scan.code ∧ Mode.scan ≠ s.hw.dev.mode ∧
         s.cmd.liveOps < 4 ∧ s.cmd.ops = [])),
    (let s := up;
     takesB s (.guardArm hd 7 0) && decide ((7 : U8).toNat < 8 ∧ s.hw.sec.scopeD = none ∧
         s.hw.preGuard (decide ((0 : U32).toNat = s.hw.guardCrc)) true = some 0x0001)),
    (let s := up;
     takesB s (.guardEnter hd 1 0) && decide (s.hw.preGuard (decide ((0 : U32).toNat = s.hw.guardCrc)) (s.hw.tokenOk 1) = some 0x0001)),
    (let r := upTo (fun w => ({ w with tnd := { w.tnd with nextPlan := some plan1 }, spd := { w.spd with biasOn := true, hvMeas := w.hvLow }, pins := { w.pins with fselB := 7 }, kpr := { w.kpr with arm := some (9, 0, 99200000001) } } : Hw).setReg 0x00880010 0xFFFF |>.setAxis 0 { w.axis 0 with state := .run });
     let crc := (BitVec.ofNat 32 r.hw.guardCrc);
     takesB r (.guardArm hd 3 crc) && decide (r.hw.preGuard (decide (crc.toNat = r.hw.guardCrc)) true = none ∧ r.hw.preArm 3 = some 0x0701)),
    (let r := upTo (fun w => ({ w with tnd := { w.tnd with nextPlan := some plan1 }, spd := { w.spd with biasOn := true, hvMeas := w.hvLow }, pins := { w.pins with fselB := 7 }, kpr := { w.kpr with arm := some (9, 0, 99200000001) } } : Hw).setReg 0x00880010 0xFFFF |>.setAxis 0 { w.axis 0 with state := .run });
     let crc := (BitVec.ofNat 32 r.hw.guardCrc);
     takesB r (.guardArm hd 0 crc) && decide (r.hw.preArm 0 = none)),
    (let r := upTo (fun w => ({ w with tnd := { w.tnd with nextPlan := some plan1 }, spd := { w.spd with biasOn := true, hvMeas := w.hvLow }, pins := { w.pins with fselB := 7 }, kpr := { w.kpr with arm := some (9, 0, 99200000001) } } : Hw).setReg 0x00880010 0xFFFF |>.setAxis 0 { w.axis 0 with state := .run });
     let crc := (BitVec.ofNat 32 r.hw.guardCrc);
     takesB r (.guardEnter hd 9 crc) && decide (r.hw.preGuard (decide (crc.toNat = r.hw.guardCrc)) (r.hw.tokenOk 9) = none)),
    (let s := up;
     takesB s (.sleep hd 3) && decide (1 ≤ (3 : U8).toNat ∧ (3 : U8).toNat ≤ 3)),
    (let g := upIn .scan;
     takesB g (.modeSetAt hd 2 (0x123456789A + 800000)) && decide ((2 : U8).toNat = Mode.config.code ∧ g.hw.dev.mode = .scan ∧
         g.hw.clk.time.toNat + 800000 ≤ (0x123456789A + 800000 : U64).toNat ∧ (0x123456789A + 800000 : U64).toNat ≤ g.hw.clk.time.toNat + 48000000000)),
    (let s := up;
     takesB s (.cascadeStatus hd)),
    (let pr := upTo (fun w => (w.setSecd 3 { admitted := true, drift := 0 - 2 }).setLane 6 { state := .active });
     takesB pr (.cascadeStatus hd) && decide (pr.hw.isSecondary = false ∧ pr.hw.cas.index = 0 ∧ pr.hw.serves 3 = true))].all id = true := by decide +kernel

theorem witness_RegisterCommandsAreServed : [
    (let s := up;
     decide ((0x00580000 : U32).toNat % 4 = 0 ∧ (0x00580000 : U32).toNat / 0x10000 = 0x58) && (regDesc 0x00580000).any (fun d => decide (d.rc = 0)) &&
         takesB s (.regRead hd 0x00580000 1)),
    (let s := up;
     takesB s (.regRead hd 0x00580000 2) && (List.range 2).all (fun i => !badAddr (0x00580000 + 4 * i) &&
         !s.hw.readDenied hd.role.toNat (0x00580000 + 4 * i))),
    (let s := up;
     takesB s (.regRead hd 0x1FFC 1) && badAddr 0x1FFC),
    (let s := up;
     takesB s (.regWrite hd 0x00580000 [5]) && decide (s.hw.dev.mode ≠ .guard) && !s.cmd.held [srcTnd]),
    (let g := upIn .guard;
     decide (g.hw.dev.mode = .guard) && (regDesc 0x00580008).any (fun d => decide (d.rwl ≠ 0)) && takesB g (.regWrite hd 0x00580008 [1])),
    (let o := ({ token := 5, opcode := 0x34, owner := some (.spi, 1), holds := [srcTnd] } : StepOp);
     let b := ({ up with cmd := { up.cmd with ops := [o], issued := [5] } } : State);
     takesB b (.regWrite hd 0x00580000 [1]) && b.cmd.held [srcTnd]),
    (let s := up;
     takesB s (.regWrite hd 2 [1]) && badAddr 2),
    (let s := up;
     takesB s (.regRmw hd 0x00580000 15 5)),
    (let s := up;
     takesB s (.regPoll hd 0x00580000 0 0 100000) && decide ((100000 : U32).toNat ≤ 100000 ∧ s.accepted.peek 0x00580000 &&& 0 = 0)),
    (let s := up;
     takesB s (.regPoll hd 0x00580000 0 1 0) && decide (s.accepted.peek 0x00580000 &&& 0 ≠ 1)),
    (let s := up;
     takesB s (.regListWrite hd [(0x00580000, 1)]) && takesB s (.regListWrite hd ((2, 1) :: List.replicate 254 (2, 1))) && badAddr 2),
    (let s := up;
     takesB s (.bulkRead hd 0x10000000 4) && decide (0x10000000 ≤ (0x10000000 : U32).toNat) && !s.cmd.held (windowTiles 0 4)),
    (let s := up;
     takesB s (.bulkRead hd 0x13FFFFFC 4) && decide (0x13FFFFFC + 4 ≤ 0x14000000))].all id = true := by decide +kernel

theorem witness_StepControlIsServed : [
    (let s := up;
     takesB s (.stepQuery hd 9) && takesB s (.stepAbort hd 9) && takesB s (.stepFetch hd 9 0) && (s.cmd.known 9).isNone),
    (let o := ({ token := 9, opcode := 0x34, owner := some (.spi, 1), step := 2, steps := 6 } : StepOp);
     let b := ({ up with cmd := { up.cmd with ops := [o], issued := [9] } } : State);
     takesB b (.stepList hd)),
    (let o := ({ token := 9, opcode := 0x34, owner := some (.spi, 1), step := 2, steps := 6 } : StepOp);
     let b := ({ up with cmd := { up.cmd with ops := [o], issued := [9] } } : State);
     decide (b.cmd.op 9 = some o ∧ o.released = false) && takesB b (.stepQuery hd 9)),
    (let o := ({ token := 9, opcode := 0x34, owner := some (.spi, 1), step := 2, steps := 6 } : StepOp);
     let p := ({ o with owner := some (.link, 3) } : StepOp);
     let c := ({ up with cmd := { up.cmd with ops := [p], issued := [9] } } : State);
     takesB c (.stepAbort hd 9) && decide (c.cmd.op 9 = some p ∧ p.doneAt = none ∧ p.owner ≠ some (.spi, 1))),
    (let o := ({ token := 9, opcode := 0x34, owner := some (.spi, 1), step := 2, steps := 6 } : StepOp);
     let b := ({ up with cmd := { up.cmd with ops := [o], issued := [9] } } : State);
     takesB b (.stepAbort hd 9) && decide (o.owner = some (.spi, 1) ∧ o.state ≠ 0 ∧ o.ending = none ∧ o.doneAt = none)),
    (let o := ({ token := 9, opcode := 0x34, owner := some (.spi, 1), step := 2, steps := 6 } : StepOp);
     let f := ({ o with state := 3, doneAt := some 5, result := [7, 1, 2] } : StepOp);
     let d := ({ up with cmd := { up.cmd with ops := [f], issued := [9] } } : State);
     takesB d (.stepFetch hd 9 1) && decide (d.cmd.op 9 = some f ∧ f.released = false ∧ f.owner = some (.spi, 1) ∧ f.doneAt ≠ none ∧
         (1 : U32).toNat ≤ f.result.length)),
    (let o := ({ token := 9, opcode := 0x34, owner := some (.spi, 1), step := 2, steps := 6 } : StepOp);
     let b := ({ up with cmd := { up.cmd with ops := [o], issued := [9] } } : State);
     let n := ({ final := false } : StepObs);
     decide (b.cmd.op 9 = some o ∧ o.doneAt = none ∧ o.state ≠ 0 ∧ o.ending = none ∧ n.final = false ∧ o.opcode ∉ [0x56, 0x60, 0x84])),
    (let o := ({ token := 9, opcode := 0x34, owner := some (.spi, 1), step := 2, steps := 6 } : StepOp);
     let e := ({ o with ending := some (2, [1, 2]), state := 2 } : StepOp);
     let g := ({ up with cmd := { up.cmd with ops := [e], issued := [9] } } : State);
     decide (g.cmd.op 9 = some e ∧ e.ending = some (2, [1, 2]) ∧ e.opcode ∈ [0x14, 0x34, 0x44, 0x46] ∧ e.owner = some (.spi, se.number) ∧
         g.cmd.session .spi = some se) && !tb (g.hw.reg 0x00910000) 8),
    (let o := ({ token := 9, opcode := 0x34, owner := some (.spi, 1), step := 2, steps := 6 } : StepOp);
     let y := ({ final := true } : StepObs);
     let z := ({ o with bytes := [1, 2, 3] } : StepOp);
     let v := ({ up with cmd := { up.cmd with ops := [z], issued := [9] } } : State);
     decide (v.cmd.op 9 = some z ∧ y.final = true ∧ z.opcode = 0x34 ∧ z.owner.isSome = true)),
    (let o := ({ token := 9, opcode := 0x34, owner := some (.spi, 1), step := 2, steps := 6 } : StepOp);
     let y := ({ final := true } : StepObs);
     let w := ({ o with opcode := 0x14 } : StepOp);
     let q := ({ up with cmd := { up.cmd with ops := [w], issued := [9] } } : State);
     decide (q.cmd.op 9 = some w ∧ w.doneAt = none ∧ w.state ≠ 0 ∧ w.ending = none ∧ y.final = true ∧ w.opcode ∉ [0x56, 0x60, 0x84]))].all id = true := by decide +kernel

theorem witness_PlanCommandsAreServed : [
    (let s := up;
     let c0 := (⟨0, 0, 3⟩ : Chunk);
     takesB s (.planLoad hd c0 3 [1, 2]) && !s.cmd.held [srcTnd] && decide ((3 : U8).toNat ≤ 3 ∧ 2 ≤ (3 : U32).toNat)),
    (let o := ({ token := 9, opcode := 0x30, owner := some (.spi, 1), state := 0, holds := [srcTnd], params := [3], bytes := [1], total := 4 } : StepOp);
     let b := ({ up with cmd := { up.cmd with ops := [o], issued := [9] } } : State);
     let ck := (⟨9, 1, 4⟩ : Chunk);
     takesB b (.planLoad hd ck 3 [2, 3, 4]) && decide (ck.token ≠ 0 ∧ b.cmd.op ck.token.toNat = some o ∧ o.doneAt = none ∧ o.state = 0 ∧
         o.opcode = 0x30 ∧ o.owner = some (.spi, se.number) ∧ o.params = [(3 : U8).toNat] ∧ ck.total.toNat = o.total ∧ ck.offset.toNat = o.bytes.length ∧
         o.bytes.length + 3 ≤ o.total)),
    (let s := up;
     let ck := (⟨9, 1, 4⟩ : Chunk);
     takesB s (.planLoad hd ck 3 [2]) && decide (ck.token ≠ 0 ∧ s.cmd.op ck.token.toNat = none)),
    (let s := up;
     takesB s (.planActivate hd 4) && takesB s (.planCheck hd 4) && takesB s (.planGet hd 4 0) && decide (3 < (4 : U8).toNat)),
    (let p := upTo (fun w => { w with tnd := { w.tnd with slots := [(3, plan1)] } });
     takesB p (.planActivate hd 3) && takesB p (.planCheck hd 3) && takesB p (.planGet hd 3 72) &&
         decide ((p.hw.planVerdict (mget [] p.hw.tnd.slots 3)).1 = 0 ∧ (72 : U32).toNat ≤ (mget [] p.hw.tnd.slots 3).length)),
    (let s := up;
     takesB s (.planActivate hd 0) && decide ((s.hw.planVerdict (mget [] s.hw.tnd.slots 0)).1 ≠ 0)),
    (let s := up;
     takesB s (.adaptFreeze hd 1) && takesB s (.adaptFreeze hd 0)),
    (let p := upTo (fun w => { w with tnd := { w.tnd with slots := [(3, plan1)] } });
     let q := upTo (fun w => { w with tnd := { w.tnd with history := [{ placed1 with epoch := 255 }], nextPlan := some (planInForce plan1) } });
     takesB q (.placementRead hd 255) && !q.cmd.held [srcTnd] &&
         decide (q.hw.tnd.history.find? (fun p => decide (p.epoch = (255 : U8).toNat)) = some { placed1 with epoch := 255 })),
    (let s := up;
     let p := upTo (fun w => { w with tnd := { w.tnd with slots := [(3, plan1)] } });
     takesB s (.placementRead hd 1) && decide (s.hw.tnd.history.find? (fun p => decide (p.epoch = 1)) = none)),
    (let q := upTo (fun w => { w with tnd := { w.tnd with history := [{ placed1 with epoch := 255 }], nextPlan := some (planInForce plan1) } });
     let f := ([0, 0, 0, 0, 0, 0, 0, 0, 1, 0, 15, 0x11, 0xFF, 0, 0, 0] : List Byte);
     takesB q (.roiSet hd 15 f) && decide ((15 : U8).toNat ≤ 15 ∧ q.hw.tnd.nextPlan = some (planInForce plan1) ∧
         (roiChecks f 0).find? (fun e => !e.2) = none)),
    (let q := upTo (fun w => { w with tnd := { w.tnd with history := [{ placed1 with epoch := 255 }], nextPlan := some (planInForce plan1) } });
     takesB q (.frameRateSet hd 1000) && takesB q (.frameRateSet hd 100000) && takesB q (.frameRateSet hd 999) &&
         takesB q (.frameRateSet hd 100001) && decide (1000 ≤ (1000 : U32).toNat ∧ 100000 < (100001 : U32).toNat))].all id = true := by decide +kernel

theorem witness_EmissionCommandsAreServed : [
    (let s := up;
     takesB s (.patternLoad hd 7 [0xF000000000000000]) && decide ((7 : U8).toNat ≤ 7 ∧ badStep [0xF000000000000000] = none)),
    (let s := up;
     takesB s (.patternLoad hd 7 [0xE000000000000000]) && decide (badStep [0xE000000000000000] = some 0)),
    (let p := upTo (fun w => { w with bcn := { w.bcn with programs := [(7, [0xF000000000000000])] } });
     takesB p (.patternRun hd 7 3) && decide (mget [] p.hw.bcn.programs 7 ≠ [])),
    (let s := up;
     takesB s (.patternStop hd)),
    (let s := up;
     takesB s (.emitterStatus hd 3) && takesB s (.emitterStatus hd 4)),
    (let s := up;
     takesB s (.pinTest hd)),
    (let l := upTo (fun w => { w with lnt := { w.lnt with running := true, capsValid := true, caps := List.replicate 12 1000, windows := [800, 8000, 80000] } });
     takesB l (.lanternLimit hd 3 2 1000) && takesB l (.lanternLimit hd 3 2 1001) && decide ((1000 : U32).toNat ≤ l.hw.lnt.cap 3 2 ∧
         l.hw.lnt.cap 3 2 < (1001 : U32).toNat)),
    (let s := up;
     takesB s (.lanternLedger hd 3 2) && !s.cmd.held [srcLnt]),
    (let s := up;
     takesB s (.driverStatus hd 15) && takesB s (.driverStatus hd 16))].all id = true := by decide +kernel

theorem witness_SteeringCommandsAreServed : [
    (let s := up;
     let cfg := ([0xFF, 0xFF, 0xFF, 0xFF, 3, 1, 1, 1, 0, 0, 0, 0, 0, 0, 0, 0, 1, 0, 1, 0, 0, 0, 0, 0, 0, 0, 1, 0, 0, 0, 0, 0] : List Byte);
     takesB s (.axisConfig hd 3 0 cfg) && decide ((3 : U8).toNat ≤ 3 ∧ s.hw.badAxisField 3 0 cfg = none ∧ (s.hw.axis 3).state = .off) &&
         (s.accepted.setAxis 3 { s.hw.axis 3 with kind := 0, cfg := cfg.take 32 }).budgetOk),
    (let cfg := ([0xFF, 0xFF, 0xFF, 0xFF, 3, 1, 1, 1, 0, 0, 0, 0, 0, 0, 0, 0, 1, 0, 1, 0, 0, 0, 0, 0, 0, 0, 1, 0, 0, 0, 0, 0] : List Byte);
     let a := upTo (fun w => w.setAxis 3 { w.axis 3 with kind := 3, state := .run, cfg := cfg });
     takesB a (.axisConfig hd 3 0 cfg) && decide ((a.hw.axis 3).state ≠ .off ∧ a.hw.badAxisField 3 0 cfg = none)),
    (let s := up;
     takesB s (.axisCoef hd 3 1 [[1, 2, 3, 4, 0xFFFFFFFF]]) && decide ((s.hw.axis 3).state = .off)),
    (let s := up;
     takesB s (.axisEnable hd 3 1) && takesB s (.axisEnable hd 3 2) && takesB s (.axisEnable hd 3 0) && decide ((s.hw.axis 3).kind = 0 ∧
         s.hw.dev.mode = .config)),
    (let cfg := ([0xFF, 0xFF, 0xFF, 0xFF, 3, 1, 1, 1, 0, 0, 0, 0, 0, 0, 0, 0, 1, 0, 1, 0, 0, 0, 0, 0, 0, 0, 1, 0, 0, 0, 0, 0] : List Byte);
     let a := upTo (fun w => w.setAxis 3 { w.axis 3 with kind := 3, state := .run, cfg := cfg });
     takesB a (.axisEnable hd 3 1) && takesB a (.axisEnable hd 3 2) && decide ((a.hw.axis 3).kind ≠ 0 ∧ (a.hw.axis 3).live = true)),
    (let cfg := ([0xFF, 0xFF, 0xFF, 0xFF, 3, 1, 1, 1, 0, 0, 0, 0, 0, 0, 0, 0, 1, 0, 1, 0, 0, 0, 0, 0, 0, 0, 1, 0, 0, 0, 0, 0] : List Byte);
     let f := upTo (fun w => w.setAxis 3 { w.axis 3 with kind := 3, cfg := cfg });
     takesB f (.axisEnable hd 3 1) && decide ((f.hw.axis 3).state = .off ∧ (f.hw.axis 3).inner.coefs = [] ∧ (f.hw.axis 3).kind ≠ 0)),
    (let cfg := ([0xFF, 0xFF, 0xFF, 0xFF, 3, 1, 1, 1, 0, 0, 0, 0, 0, 0, 0, 0, 1, 0, 1, 0, 0, 0, 0, 0, 0, 0, 1, 0, 0, 0, 0, 0] : List Byte);
     let g := upTo (fun w => w.setAxis 3 { w.axis 3 with kind := 3, state := .safe, cfg := cfg });
     takesB g (.axisEnable hd 3 0) && decide ((g.hw.axis 3).state = .safe)),
    (let cfg := ([0xFF, 0xFF, 0xFF, 0xFF, 3, 1, 1, 1, 0, 0, 0, 0, 0, 0, 0, 0, 1, 0, 1, 0, 0, 0, 0, 0, 0, 0, 1, 0, 0, 0, 0, 0] : List Byte);
     let a := upTo (fun w => w.setAxis 3 { w.axis 3 with kind := 3, state := .run, cfg := cfg });
     takesB a (.axisStatus hd 3)),
    (let s := up;
     takesB s (.tideScan hd 0xFFFFFFFF 5) && (s.accepted.setScan 0xFFFFFFFF 5).budgetOk),
    (let cfg := ([0xFF, 0xFF, 0xFF, 0xFF, 3, 1, 1, 1, 0, 0, 0, 0, 0, 0, 0, 0, 1, 0, 1, 0, 0, 0, 0, 0, 0, 0, 1, 0, 0, 0, 0, 0] : List Byte);
     let a := upTo (fun w => w.setAxis 3 { w.axis 3 with kind := 3, state := .run, cfg := cfg });
     let i := upTo (fun w => ([0, 1, 2,
         3].foldl (fun (v : Hw) a => v.setAxis a { kind := 2, state := .run, cfg := [0, 2] }) w).setReg 0x00780000 3200);
     takesB i (.tideScan hd 0xFFFFFFFF 0) && !(i.accepted.setScan 0xFFFFFFFF 0).budgetOk),
    (let s := up;
     takesB s (.tideRead hd 0x80000001)),
    (let s := up;
     takesB s (.sifterSet hd ⟨0, 0, 4⟩ 31 0 1 [0, 0, 0, 64]) && !s.cmd.held [srcSifter 31] && (s.hw.sifterFirst 31 0 1).isNone),
    (let s := up;
     takesB s (.sfdRead hd 0x80000001)),
    (let cfg := ([0xFF, 0xFF, 0xFF, 0xFF, 3, 1, 1, 1, 0, 0, 0, 0, 0, 0, 0, 0, 1, 0, 1, 0, 0, 0, 0, 0, 0, 0, 1, 0, 0, 0, 0, 0] : List Byte);
     let a := upTo (fun w => w.setAxis 3 { w.axis 3 with kind := 3, state := .run, cfg := cfg });
     let cw := ([[1, 2, 3, 4, 5]] : List (List U32));
     takesB a (.axisCoef hd 3 1 [[1, 2, 3, 4, 5]]) && decide ((a.hw.axis 3).live = true) &&
         fitsTick (a.hw.tWorstOf (fun b => (a.hw.axis b).state) (fun b => if b = 3 then ((a.hw.axis 3).loop false).coefs.length + cw.length else (a.hw.axis b).sections)) a.hw.period),
    (let cfg := ([0xFF, 0xFF, 0xFF, 0xFF, 3, 1, 1, 1, 0, 0, 0, 0, 0, 0, 0, 0, 1, 0, 1, 0, 0, 0, 0, 0, 0, 0, 1, 0, 0, 0, 0, 0] : List Byte);
     let on := upTo (fun w => w.setAxis 3 { w.axis 3 with kind := 3, cfg := cfg, inner := { coefs := [[1, 2, 3, 4, 5]] }, outer := { coefs := [[1, 2, 3, 4, 5]] } });
     takesB on (.axisEnable hd 3 1) && decide ((on.hw.axis 3).kind ≠ 0 ∧ (on.hw.axis 3).state = .off ∧ (on.hw.axis 3).inner.coefs ≠ [] ∧
         (on.hw.axis 3).outer.coefs ≠ []) &&
         fitsTick (on.hw.tWorstOf (fun b => if b = 3 then .starting else (on.hw.axis b).state) (fun b => (on.hw.axis b).sections)) on.hw.period)].all id = true := by decide +kernel

theorem witness_AxisEventsTakeEffect : [
    (let s := upTo (fun w => { w with pds := { w.pds with tickAt := w.ticks - w.period + 1 } });
     decide (s.hw.outbox = [] ∧ s.hw.ticks < s.hw.pds.tickAt + s.hw.period)),
    (let t := upTo (fun w => { w with pds := { w.pds with tickAt := w.ticks - w.period } });
     decide (t.hw.pds.tickAt + t.hw.period ≤ t.hw.ticks ∧ bits (t.hw.reg 0x0079001C) 0 2 = 0) &&
         [0,1,2,3].all (fun a => decide ((t.hw.axis a).state = .off))),
    (let x := ({ kind := 3, state := .run, done := false, missRun := 1, cfg := [0xFF, 0xFF, 0xFF, 0xFF, 3, 1, 3] } : Axis);
     let d := upTo (fun w => ({ w with pds := { w.pds with tickAt := w.ticks + 200 - w.period } } : Hw).setAxis 3 x);
     decide ((d.hw.axis 3).live = true ∧ (d.hw.axis 3).done = false ∧ d.hw.pds.tickAt + d.hw.period ≤ d.hw.ticks + 200 ∧
         (d.hw.axis 3).missRun + 1 < (d.hw.axis 3).missLimit)),
    (decide ((up.hw.axis 0).done = true)),
    (let x := ({ kind := 3, state := .run, done := false, missRun := 1, cfg := [0xFF, 0xFF, 0xFF, 0xFF, 3, 1, 3] } : Axis);
     let st := upTo (fun w => w.setAxis 3 { x with state := .starting, startAt := w.ticks });
     decide ((st.hw.axis 3).state = .starting ∧ (st.hw.axis 3).startAt + (st.hw.axis 3).startTo ≤ st.hw.ticks ∧ st.hw.evt.table.length < 1024)),
    (decide ((up.hw.axis 3).state ≠ .starting ∧ (up.hw.axis 3).kind ≠ 1)),
    (let r := upTo (fun w => w.setAxis 3 { kind := 1, state := .run, cfg := [0] });
     decide ((r.hw.axis 3).kind = 1 ∧ (r.hw.axis 3).live = true ∧ (r.hw.axis 3).outKind = 0)),
    (let g := upIn .guard;
     decide (g.hw.dev.mode = .guard)),
    (let r := upTo (fun w => w.setAxis 3 { kind := 1, state := .run, cfg := [0] });
     decide ((r.hw.axis 3).state ≠ .off ∧ r.hw.dev.mode ≠ .guard)),
    ([0,1,2,3].all (fun a => decide ((up.hw.axis a).state = .off)) && decide ((3199 : Word).toNat % 2 ^ 20 < 3200 ∧
         800000 < (800001 : Word).toNat % 2 ^ 20 ∧ 3200 ≤ (3200 : Word).toNat % 2 ^ 20 ∧ (800000 : Word).toNat % 2 ^ 20 ≤ 800000))].all id = true := by decide +kernel

theorem witness_TideRowsTakeEffect : [
    (decide (up.hw.outbox = [] ∧ bits (up.hw.reg 0x0079001C) 0 2 = 0)),
    (let s := upTo (fun w => (({ w with tid := { w.tid with passOn := true } } : Hw).setReg 0x0079001C 0x11).setReg 0x00790008 1);
     decide (bits (s.hw.reg 0x0079001C) 0 2 = 1 ∧ 1 % 2 = bits (s.hw.reg 0x0079001C) 4 1 ∧ s.hw.scanMask ≠ 0 ∧ s.hw.tid.passOn = true ∧
         s.hw.tid.trigPend = false ∧ s.hw.tid.trigAt ≠ some s.hw.ticks)),
    (let s := upTo (fun w => (({ w with tid := { w.tid with passOn := true } } : Hw).setReg 0x0079001C 0x11).setReg 0x00790008 1);
     decide (0 % 2 ≠ bits (s.hw.reg 0x0079001C) 4 1)),
    (let d := upTo (fun w => w.setSlice 2 { w.slice 2 with job := .discharge 31 true 100000000000 });
     decide ((d.hw.slice 2).job = .discharge 31 true 100000000000 ∧ 100000000000 ≤ d.hw.ticks ∧ d.hw.tid.halted = false)),
    (decide ((up.hw.slice 0).job = .idle ∧ up.hw.conversionDue 0 = false)),
    (let c := upTo (fun w => w.setSlice 2 { w.slice 2 with job := .convert 31 false 1 5 (100000000000 - 800) });
     decide (c.hw.awake 12 = true) && c.hw.conversionDue 2),
    (let c := upTo (fun w => w.setSlice 2 { w.slice 2 with job := .convert 31 false 1 5 (100000000000 - 800) });
     decide (c.hw.isIS = false ∧ (c.hw.slice 2).job = .convert 31 false 1 5 (100000000000 - 800) ∧ 2 < 3 ∧
         (100000000000 - 800) + 800 ≤ c.hw.ticks)),
    (let tz := upTo (fun w => w.setReg 0x00790018 0);
     decide (tz.hw.tonePeriod = 0)),
    (let t := upTo (fun w => (({ w with tid := { w.tid with toneAt := w.ticks } } : Hw).setReg (0x00790100 + 4 * 31) 0x80000000).setReg 0x00790018 (4 * 2 ^ 16 + 500 + 2 ^ 22));
     decide (t.hw.tid.toneAt ≤ t.hw.ticks ∧ t.hw.tonePeriod ≠ 0)),
    (decide (up.hw.tid.toneMask = 0)),
    (let e := upTo (fun w => { w with tid := { w.tid with toneMask := 2 ^ 31, toneEnd := w.ticks } });
     decide (e.hw.tid.toneMask = 2 ^ 31 ∧ e.hw.tid.toneEnd ≤ e.hw.ticks ∧ e.hw.impBad 31 ((e.hw.sftc 31).tone.result 1504).1 = false)),
    (decide (up.hw.tid.rotAt + 8000000 * max 1 (bits (up.hw.reg 0x00790000) 12 8) ≤ up.hw.ticks ∧ up.hw.tid.rotStop = false ∧
         up.hw.tid.calOn = none ∧ up.hw.tid.swap = none ∧ up.hw.spare = some 2)),
    (let ro := upTo (fun w => { w with tid := { w.tid with rotAt := w.ticks } });
     decide (ro.hw.ticks < ro.hw.tid.rotAt + 8000000 * max 1 (bits (ro.hw.reg 0x00790000) 12 8) ∧ ro.hw.tid.calOn = none)),
    (let k := upTo (fun w => { w with tid := { w.tid with calOn := some 2, calEnd := w.ticks } });
     decide (k.hw.tid.calOn = some 2 ∧ 2 < k.hw.tid.slices.length ∧ k.hw.tid.calEnd ≤ k.hw.ticks ∧ calPasses [33] [] = false ∧
         k.hw.evt.table.length < 1024)),
    (let k2 := upTo (fun w => { w with tid := { w.tid with calOn := some 2, calEnd := w.ticks } });
     decide (k2.hw.tid.calOn = some 2 ∧ calPasses [32, 0, 0, 0] [32768, 32768, 32768, 32768] = true)),
    (decide (tb 1 0 = true)),
    (let r := upTo (fun w => w.setAxis 3 { kind := 3, state := .run });
     decide ((r.hw.axis 3).live = true ∧ r.hw.dev.mode ≠ .guard)),
    ([0,1,2,3].all (fun a => !(up.hw.axis a).live) && badTid 0x18 0 && !badTid 0x18 (2 ^ 22 + 4 * 2 ^ 16 + 2 ^ 10 + 500) &&
         decide (toneTicks (2 ^ 22 + 4 * 2 ^ 16 + 2 ^ 10 + 500) + 80000 ≤ 800000 * bits (2 ^ 22 + 4 * 2 ^ 16 + 2 ^ 10 + 500) 22 10)),
    (let g := upIn .guard;
     decide (g.hw.dev.mode = .guard))].all id = true := by decide +kernel

theorem witness_SifterRowsTakeEffect : [
    (let s := upTo (fun w => { w with clk := { w.clk with time := 1024 * 7 + 32 * 31 } });
     decide (s.hw.outbox = [] ∧ up.hw.clk.time.toNat % 1024 < 32 * 31)),
    (let q := upTo (fun w => (({ w with clk := { w.clk with time := 1024 * 7 + 32 * 31 } } : Hw).setTin 31 { sample := some { code := 100, range := 1, time := 5 }, count := 9 }));
     decide (32 * 31 ≤ q.hw.clk.time.toNat % 1024 ∧ (q.hw.sftc 31).frame ≠ some (q.hw.clk.time.toNat / 1024) ∧ (q.hw.sftc 31).en = false ∧
         (q.hw.tin 31).count ≠ (q.hw.sftc 31).lastN) && !tb q.hw.tid.toneMask 31 && (q.hw.trackWord 31).isNone && (q.hw.tin 31).sample.isSome),
    (let m := (({ code := 100, range := 1, time := 5 } : Sample));
     let qe := upTo (fun w => (({ w with clk := { w.clk with time := 1024 * 7 + 32 * 31 } } : Hw).setTin 31 { sample := some { code := 100, range := 1, time := 5 }, count := 9 }).setSftc 31 { w.sftc 31 with en := true });
     let dx := (qe.hw.detect 31 { qe.hw.sftc 31 with frame := some 7, lastN := 9, held := normal 100 1, flags := (qe.hw.sftc 31).flags ||| sampleFlags m, missed := 0, stale := false });
     decide (qe.hw.awake 12 = true ∧ (qe.hw.sftc 31).en = true ∧ qe.hw.oddOfPair 31 = false ∧ (dx.step (1024 * 7 + 32 * 31)).2 = false)),
    (decide ((up.hw.sftc (up.hw.reg 0x007A000C % 32)).fifo = [])),
    (let f := upTo (fun w => w.setSftc 0 { w.sftc 0 with fifo := [{ value := 5, time := 77, flags := 2 ^ 24, seq := 3 }, { value := 6, time := 78, flags := 0, seq := 4 }] });
     decide ((f.hw.sftc (f.hw.reg 0x007A000C % 32)).fifo.length = 2)),
    (decide (31 < 32 ∧ up.hw.evt.table.length < 1024) && [0,1,2,3].all (fun a => !(up.hw.axis a).live)),
    (let a := upTo (fun w => w.setAxis 3 { kind := 1, state := .run, cfg := [31] });
     decide ((a.hw.axis 3).live = true ∧ (a.hw.axis 3).kind = 1 ∧ (a.hw.axis 3).in1 = 31)),
    (let g := upIn .guard;
     decide (g.hw.dev.mode = .guard)),
    (let a := upTo (fun w => w.setAxis 3 { kind := 1, state := .run, cfg := [31] });
     decide (a.hw.dev.mode ≠ .guard) && a.hw.ownsDet 31 && !up.hw.ownsDet 31)].all id = true := by decide +kernel

theorem witness_ClockRowsTakeEffect : [
    (let g := upIn .scan;
     decide (g.hw.outbox = [] ∧ g.hw.dev.mode ≠ .config)),
    (let c := upTo (fun w => { w with dev := { w.dev with sched := some (.scan, 9) } });
     decide (c.hw.dev.mode = .config ∧ c.hw.dev.sched ≠ none)),
    (let p := upTo (fun w => ({ w with clk := { w.clk with setLo := 77 } } : Hw).setReg 0x00040000 0x100);
     decide (p.hw.dev.mode = .config ∧ p.hw.dev.sched = none) && tb (p.hw.reg 0x00040000) 8),
    (decide (up.hw.dev.mode = .config ∧ up.hw.dev.sched = none) && !tb (up.hw.reg 0x00040000) 8),
    (let t := upTo (fun w => { w with out := { w.out with ptp := 2 } });
     decide (bits 2 0 2 = 2 ∧ t.hw.out.ptp = 2)),
    (decide (bits 1 0 2 = 1 ∧ up.hw.out.ptp ≠ 2 ∧ up.hw.ppsMode = 0)),
    (decide (bits 0x10 0 2 = 0)),
    (let z := upTo (fun w => w.setReg 0x00040000 0);
     decide (bits (z.hw.reg 0x00040000) 0 2 = 0)),
    (let e := upTo (fun w => w.setReg 0x00040000 1);
     decide (bits (e.hw.reg 0x00040000) 0 2 = 1 ∧ true ≠ tb (e.hw.reg 0x00040000) 4 ∧ e.hw.clk.ppsRef = none)),
    (let r := upTo (fun w => ({ w with clk := { w.clk with ppsRef := some 99200000000 } } : Hw).setReg 0x00040000 1);
     decide (r.hw.clk.ppsRef = some 99200000000 ∧ 99200000000 + 800000000 = r.hw.ticks ∧ r.hw.clk.setArmed = none)),
    (let ri := upTo (fun w => ({ w with clk := { w.clk with ppsRef := some 99200800000 } } : Hw).setReg 0x00040000 2);
     decide (ri.hw.awake 6 = true ∧ bits (ri.hw.reg 0x00040000) 0 2 = 2 ∧ ri.hw.clk.ppsRef = some 99200800000 ∧
         99200800000 + 799200000 ≤ ri.hw.ticks ∧ ri.hw.clk.setArmed = none)),
    (let l := upTo (fun w => ({ w with clk := { w.clk with ppsRef := some 99199199999 } } : Hw).setReg 0x00040000 1);
     decide (l.hw.clk.ppsRef = some 99199199999 ∧ 99199199999 + 800800000 < l.hw.ticks ∧ l.hw.clk.rejTimes = [])),
    (decide (up.hw.ppsMode = 0 ∧ up.hw.clk.present = false)),
    (let m := upTo (fun w => ({ w with clk := { w.clk with ppsMissAt := w.ticks, present := true, locked := true } } : Hw).setReg 0x00040000 1);
     decide (m.hw.awake 6 = true ∧ m.hw.clk.ppsQuiet = false ∧ m.hw.clk.ppsMissAt ≤ m.hw.ticks ∧ bits (m.hw.reg 0x00040000) 0 2 ≠ 0 ∧
         m.hw.clk.present = true ∧ m.hw.evt.table.length < 1024)),
    (let x := upTo (fun w => { w with clk := { w.clk with xtalOk := false, refLock := false } });
     decide (x.hw.clk.xtalOk = false ∧ x.hw.clk.refLock = false)),
    (decide (up.hw.dev.mode = .config ∧ up.hw.clk.xtalOk = true ∧ up.hw.clk.refLock = true ∧ up.hw.evt.table.length < 1024)),
    (decide (up.hw.dmkTakes 3 true = false)),
    (let d := upTo (fun w => (([{ stamped := true, time := 0x123456789A - 15, tick := 100000000000 - 15 }] : List DmkIn).foldl (fun (v : Hw) i => { v with dmk := { v.dmk with ins := [(3, i)] } }) w).setReg 0x00048000 (2 ^ 26));
     decide ((d.hw.dmkIn 3).stamped = true ∧ d.hw.ticks < (d.hw.dmkIn 3).tick + 16) && d.hw.dmkTakes 3 true),
    (let d5 := upTo (fun w => w.setReg 0x00048000 (2 ^ 26));
     d5.hw.dmkStamps 3 true && decide (d5.hw.awake 6 = true)),
    (let d6 := upTo (fun w => (w.setReg 0x00048000 (2 ^ 26)).setReg 0x00048004 0x3);
     d6.hw.dmkStamps 3 true && decide (d6.hw.startSel = 3 ∧ d6.hw.dmk.startBusy ≤ d6.hw.ticks)),
    (up.hw.outbox.isEmpty),
    (let v := upTo (fun w => { w with dmk := { w.dmk with armed := true, ivDue := w.ticks } });
     decide (v.hw.dmk.armed = true ∧ v.hw.dmk.ivDue ≤ v.hw.ticks)),
    (decide (up.hw.dmk.armed = false)),
    (decide (3 < 4 ∧ up.hw.ownsFreq 3 = false ∧ tb 1 0 = true)),
    (let o := upTo (fun w => w.setAxis 2 { kind := 1, state := .run, cfg := [0, 0xFF, 3] });
     o.hw.ownsFreq 3),
    (decide ((up.hw.freqOf 3).running = false)),
    (let f := upTo (fun w => w.setFreq 3 { running := true, gateEnd := w.ticks });
     decide ((f.hw.freqOf 3).running = true ∧ (f.hw.freqOf 3).gateEnd ≤ f.hw.ticks ∧ (f.hw.freqOf 3).n = 0 ∧
         tb (f.hw.reg (0x00048020 + 12)) 1 = false ∧ f.hw.ownsFreq 3 = false)),
    (let f3 := upTo (fun w => w.setFreq 3 { running := true, gateEnd := w.ticks, n := 3, stc := 5, sntc := 7, sttc := 9 });
     decide (3 ≤ (f3.hw.freqOf 3).n ∧ (f3.hw.freqOf 3).n ≤ 65536 ∧ (f3.hw.freqOf 3).running = true)),
    (decide (([100] : List Int).foldl max (([100] : List Int).headD 0) < 140 * 64)),
    (let n := upTo (fun w => { w with tid := { w.tid with tempAt := w.ticks + 1 } });
     decide (n.hw.ticks < n.hw.tid.tempAt)),
    (decide (up.hw.dev.mode = .config ∧ up.hw.dev.inReset = false ∧ up.hw.dev.hotHold = false ∧ up.hw.tid.tempAt ≤ up.hw.ticks ∧
         (140 * 64 : Int) ≤ 8960))].all id = true := by decide +kernel

theorem witness_StreamRowsTakeEffect : [
    (let s := upTo (fun w => w.setSub 3 { openCount := 2, openFrame := 7, openBytes := [1, 2], openAt := w.ticks - w.flushTicks, seq := 2 ^ 32 - 1 });
     decide (s.hw.outbox = [] ∧ s.hw.awake 15 = true ∧ 3 < 4 ∧ (s.hw.sub 2).openCount = 0)),
    (let s := upTo (fun w => w.setSub 3 { openCount := 2, openFrame := 7, openBytes := [1, 2], openAt := w.ticks - w.flushTicks, seq := 2 ^ 32 - 1 });
     decide ((s.hw.sub 3).openCount ≠ 0 ∧ (s.hw.sub 3).openAt + s.hw.flushTicks ≤ s.hw.ticks)),
    (let n := upTo (fun w => w.setSub 3 { openCount := 2, openAt := w.ticks - w.flushTicks + 1 });
     decide (n.hw.ticks < (n.hw.sub 3).openAt + n.hw.flushTicks)),
    (decide (up.hw.closeLast.latchStats.out.frames.find? (fun r => r.ended && r.latched) = none)),
    (let r := ({ frame := 9, start := 5, ended := true, latched := true, lanes := 0x81 } : FrameRec);
     let f := upTo (fun w => { w with out := { w.out with frames := [r] } });
     decide (f.hw.closeLast.latchStats.out.frames.find? (fun r => r.ended && r.latched) = some r)),
    (let p := ({ seq := 5, vc := 0, body := .command { opcode := 1 }, len := 20 } : Lp);
     let l := lanes 7 { sf0 := 100000000000, state := .active, resend := [p] };
     decide (l.hw.isEth = false ∧ (l.hw.lane 6).state ≠ .active)),
    (let p := ({ seq := 5, vc := 0, body := .command { opcode := 1 }, len := 20 } : Lp);
     let l := lanes 7 { sf0 := 100000000000, state := .active, resend := [p] };
     decide (7 < 8 ∧ (l.hw.lane 7).state = .active ∧ (l.hw.lane 7).exitAt ≤ l.hw.ticks ∧ (l.hw.lane 7).sending l.hw.ticks = false ∧
         (l.hw.lane 7).resend = [p])),
    (let q := ({ opcode := 0x20, payload := [2, 0xFF] } : Packet);
     let c := ({ lanes 0 { sf0 := 100000000000, state := .active } with cmd := { up.cmd with outLink := [q] } } : State);
     decide (c.hw.isEth = false ∧ c.hw.isSecondary = false ∧ c.hw.hostLane = some 0 ∧ (c.hw.lane 0).state = .active ∧ (c.hw.lane 0).resend = [] ∧
         (c.hw.lane 0).moved = [] ∧ c.cmd.outLink = [q] ∧ c.hw.bel.waiting = [] ∧ mget [] c.hw.out.fwd 0 = []) &&
         (c.hw.lane 0).takes (LpBody.command q).size && !(c.hw.lane 0).sending c.hw.ticks),
    (let e := ethUp;
     decide (e.hw.isEth = true ∧ 3 < 4 ∧ (e.hw.lane 3).lock = false)),
    (let p := ({ seq := 5, vc := 0, body := .command { opcode := 1 }, len := 20 } : Lp);
     let l := lanes 7 { sf0 := 100000000000, state := .active, resend := [p] };
     let nd := ({ l with hw := l.hw.setLane 6 { sf0 := 100000000000, state := .active } } : State);
     decide ((nd.hw.lane 6).state = .active ∧ (nd.hw.lane 6).resend = [] ∧ (nd.hw.lane 6).sending nd.hw.ticks = false) &&
         (List.range 6).all (fun vc => (({ nd with hw := { nd.hw with free := nd.hw.free + 1 } } : State).takeReady 6 vc).isNone)),
    (let q := ({ opcode := 0x20, payload := [2, 0xFF] } : Packet);
     let g := ({ ethUp (fun w => ({ w with out := { w.out with ethOut := [(0, .ask 5)] } } : Hw).setLane 0 { lock := true }) with cmd := { up.cmd with outEth := [q] } } : State);
     decide (g.hw.isEth = true ∧ (g.hw.lane 0).lock = true ∧ g.hw.out.ethOut = [(0, .ask 5)])),
    (let q := ({ opcode := 0x20, payload := [2, 0xFF] } : Packet);
     let qe := ({ q with peer := { ip := 0xE0000005, port := 77 } } : Packet);
     let k := ({ ethUp (fun w => w.setLane 0 { lock := true }) with cmd := { up.cmd with outEth := [qe] } } : State);
     decide (k.hw.isEth = true ∧ (k.hw.lane 0).lock = true ∧ k.hw.out.ethOut = [] ∧ k.hw.bel.waiting = [] ∧ mget [] k.hw.out.fwd 0 = [] ∧
         k.cmd.outEth = [qe]) && (k.hw.hopMac 0xE0000005).isSome),
    (let q := ({ opcode := 0x20, payload := [2, 0xFF] } : Packet);
     let qe := ({ q with peer := { ip := 0xE0000005, port := 77 } } : Packet);
     let k := ({ ethUp (fun w => w.setLane 0 { lock := true }) with cmd := { up.cmd with outEth := [qe] } } : State);
     let sp := ({ kind := 1, frame := 7, seq := 5, dev := 0, sub := 3, count := 2, time := 9, last := true, payload := [1, 2] } : StreamPkt);
     let st := ethUp (fun w => ({ w with out := { w.out with streamSrc := { ip := 0xE0000005, port := 99 }, routes := mset 0 w.out.routes 3 2 } } : Hw).setLane 2 { lock := true } |>.setSub 3 { packets := [sp] });
     decide (st.hw.isEth = true ∧ (st.hw.lane 2).lock = true ∧ st.hw.out.ethOut = [] ∧ st.sendAdmin 2 = none) &&
         (((((st.takeFrame 2).orElse (fun _ => if st.hw.hostLane = some 2 then st.takeForward 0 (fun k => decide (k = 2)) else none)).orElse (fun _ => st.takePoint 2)).orElse (fun _ => st.takeExport 2))).isSome),
    (let i := upTo (fun w => (w.setReg (0x00680040 + 28) (5 * 65536)).setLane 7 { sf0 := 100000000000, state := .active, quietAt := w.ticks - 4000 });
     decide ((i.hw.lane 7).state = .active ∧ bits (i.hw.reg (0x00680040 + 28)) 16 16 = 5 ∧ i.queued 7 = false ∧ (i.hw.lane 7).unacked = [] ∧
         (i.hw.lane 7).quietAt + 800 * 5 ≤ i.hw.ticks)),
    (let p := ({ seq := 5, vc := 0, body := .command { opcode := 1 }, len := 20 } : Lp);
     let x := lanes 7 { sf0 := 100000000000, state := .idle, resend := [p] };
     decide ((x.hw.lane 7).state = .idle ∧ x.queued 7 = true ∧ (x.hw.lane 6).state ≠ .idle))].all id = true := by decide +kernel

theorem witness_LinkTrafficTakesEffect : [
    (let s := lanes 7 { sf0 := 100000000000, state := .active };
     decide (s.hw.outbox = [] ∧ s.hw.awake 10 = true ∧ s.hw.injects 7 1 = false ∧ s.hw.isEth = false ∧ s.hw.fecDetect = false ∧
         (s.hw.lane 7).state = .active ∧ (s.hw.lane 7).badTimes = [])),
    (let b := lanes 7 { sf0 := 100000000000, state := .active, badTimes := List.replicate 64 99999200001 };
     decide ((b.hw.lane 7).badTimes.length = 64 ∧ b.hw.dev.mode = .config ∧ b.hw.evt.table.length < 1023) &&
         (b.hw.lane 7).badTimes.all (fun t => decide (b.hw.ticks < t + 800000))),
    (decide ((up.hw.lane 7).state = .anchored ∧ 8 ≤ 8)),
    (let k := ({ ack := 5, nak := false, pause := 0xFF, req := 6 } : LinkBlock);
     let p := ({ seq := 5, vc := 0, body := .command { opcode := 1 }, len := 20 } : Lp);
     let a := lanes 7 { sf0 := 100000000000, state := .active, unacked := [{ p with seq := 4 }, p, { p with seq := 6 }], replays := 1, missRun := 2 };
     decide ((a.hw.lane 7).state = .active ∧ a.hw.injects 7 2 = false ∧ linkOf k.payload = some k ∧ k.nak = false ∧
         (a.hw.lane 7).unacked = [{ p with seq := 4 }] ++ p :: [{ p with seq := 6 }] ∧ p.seq = k.ack)),
    (let k := ({ ack := 5, nak := false, pause := 0xFF, req := 6 } : LinkBlock);
     linkOf (k.payload + 2 ^ 70) = none),
    (let ij := upTo (fun w => ({ w with lnk := { w.lnk with injEnd := w.ticks + 1 } } : Hw).setReg 0x00680114 (7 * 2 ^ 24 + 2 * 2 ^ 16) |>.setLane 7 { sf0 := 100000000000, state := .active });
     ij.hw.injects 7 2),
    (let p := ({ seq := 5, vc := 0, body := .command { opcode := 1 }, len := 20 } : Lp);
     let n := ({ ack := 3, nak := true } : LinkBlock);
     let r := upTo (fun w => (w.setLane 7 { sf0 := 100000000000, state := .active, unacked := [{ p with seq := 4 }, p] }).setReg 0x00680010 0x0420);
     decide (linkOf n.payload = some n ∧ n.nak = true ∧ (r.hw.lane 7).unacked ≠ [] ∧ (r.hw.lane 7).resend = [] ∧
         (r.hw.lane 7).replays + 1 < r.hw.replayLimit) && (r.hw.lane 7).unacked.all (fun q => decide (q.seq ≠ n.ack))),
    (let s := lanes 7 { sf0 := 100000000000, state := .active };
     decide ((s.hw.lane 7).unacked = [])),
    (let p := ({ seq := 5, vc := 0, body := .command { opcode := 1 }, len := 20 } : Lp);
     let t := upTo (fun w => (w.setLane 7 { sf0 := 100000000000, state := .active, unacked := [p], ackAt := w.ticks - sfTicks 0 0x20 }).setReg 0x00680010 0x0420);
     decide ((t.hw.lane 7).unacked ≠ [] ∧ (t.hw.lane 7).replays + 1 < t.hw.replayLimit ∧
         (t.hw.lane 7).ackAt + sfTicks (t.hw.lane 7).rate t.hw.ackTimeout ≤ t.hw.ticks)),
    (let f := lanes 7 { sf0 := 100000000000, state := .active, farIdle := true };
     decide ((f.hw.lane 7).farIdle = true)),
    (let m := lanes 7 { sf0 := 100000000000, state := .active, missRun := 1 };
     let m2 := lanes 7 { sf0 := 100000000000, state := .active, missRun := 2 };
     decide ((m.hw.lane 7).farIdle = false ∧ (m.hw.lane 7).missRun < 2 ∧ 2 ≤ (m2.hw.lane 7).missRun ∧ m2.hw.dev.mode = .config ∧
         m2.hw.evt.table.length < 1023)),
    (let v := ({ before := 5, blocks := scrambleAll (lpBlocks 1 4095 [1, 2, 3]) 5, words := [0, 0, 0] } : LinkPacket);
     let w := lanes 7 { sf0 := 100000000000, state := .active, rxExpect := 4095, nak := true, rxCw := 1 };
     decide (v.words.all (fun c => decide (c < (w.hw.lane 7).rxCw)) = true ∧
         (readLp (descrambleAll v.blocks v.before)).2 = some (1, 4095, true, [1, 2, 3]) ∧
         crcFails v (readLp (descrambleAll v.blocks v.before)).1 [] = [])),
    (let v := ({ before := 5, blocks := scrambleAll (lpBlocks 1 4095 [1, 2, 3]) 5, words := [0, 0, 0] } : LinkPacket);
     let vb := ({ v with blocks := scrambleAll ((true, 7) :: (lpBlocks 1 4095 [1, 2, 3]).drop 1) 5 } : LinkPacket);
     decide (crcFails vb (readLp (descrambleAll vb.blocks vb.before)).1 [] = [0])),
    (let s := lanes 7 { sf0 := 100000000000, state := .active };
     decide (tb (s.hw.lane 7).paused 5 = false)),
    (let z := lanes 7 { sf0 := 100000000000, state := .active, paused := 32, pausedAt := [(5, 99991999999)] };
     decide (tb (z.hw.lane 7).paused 5 = true ∧ mget 0 (z.hw.lane 7).pausedAt 5 + 8000000 < z.hw.ticks ∧ z.hw.evt.table.length < 1024)),
    (let w := lanes 7 { sf0 := 100000000000, state := .active, rxExpect := 4095, nak := true, rxCw := 1 };
     let y := upTo (fun w => (w.setLane 7 { sf0 := 100000000000, state := .active }).setReg 0x0068000C 0x00140000);
     decide (y.hw.marginLow ≤ 20 ∧ 19 < y.hw.marginLow ∧ (y.hw.lane 7).retrains = [])),
    (let s := lanes 7 { sf0 := 100000000000, state := .active };
     decide ((s.hw.lane 7).state = .active ∧ (up.hw.lane 7).state ≠ .active)),
    (decide (up.hw.isEth = false)),
    (let w := lanes 7 { sf0 := 100000000000, state := .active, rxExpect := 4095, nak := true, rxCw := 1 };
     let e := ethUp (fun w => w.setLane 3 { lock := true });
     decide (e.hw.isEth = true ∧ (e.hw.lane 3).lock = true ∧ e.hw.dev.mode = .config ∧ e.hw.evt.table.length < 1023)),
    (let d := ethUp;
     decide (d.hw.isEth = true ∧ d.hw.laneOn 3 = true ∧ (d.hw.lane 3).lock = false ∧ (d.hw.lane 3).lost = false)),
    (let w := lanes 7 { sf0 := 100000000000, state := .active, rxExpect := 4095, nak := true, rxCw := 1 };
     let d2 := ethUp (fun w => w.setLane 3 { lost := true });
     decide (d2.hw.laneOn 3 = true ∧ (d2.hw.lane 3).lock = false ∧ (d2.hw.lane 3).lost = true))].all id = true := by decide +kernel

theorem witness_LanesComeUpStepAndAreTested : [
    (decide (up.hw.outbox = [] ∧ up.hw.awake 10 = true ∧ (up.hw.lane 7).state = .anchored ∧ (up.hw.lane 7).stepTo = none ∧
         (up.hw.lane 7).offered = none ∧ (up.hw.lane 7).stepFrom = none ∧ (up.hw.lane 7).lost = false ∧ up.hw.lnk.testOn = false)),
    (let s := lanes 7 { state := .detect };
     decide ((s.hw.lane 7).state = .detect)),
    (let t := lanes 7 { state := .train, rate := 2, since := 99999200000 };
     decide ((t.hw.lane 7).state = .train ∧ (t.hw.lane 7).since + 800000 ≤ t.hw.ticks ∧ t.hw.marginOk ≤ 70000 ∧ 0 < t.hw.marginOk)),
    (let p := ({ seq := 5, vc := 0, body := .command { opcode := 1 }, len := 20 } : Lp);
     let a := upTo (fun w => w.setLane 7 { sf0 := 100000000000, state := .align, since := w.ticks - sfTicks 0 16, txSeq := 9, rxExpect := 4, unacked := [p] });
     let k := upTo (fun w => w.setLane 7 { sf0 := 100000000000, state := .align, since := w.ticks - sfTicks 0 16, txSeq := 9, rxExpect := 4, unacked := [p], keepSeq := true });
     decide ((a.hw.lane 7).state = .align ∧ (a.hw.lane 7).since + sfTicks (a.hw.lane 7).rate 16 ≤ a.hw.ticks ∧ (a.hw.lane 7).lost = false ∧
         (a.hw.lane 7).keepSeq = false ∧ (k.hw.lane 7).keepSeq = true ∧ (k.hw.lane 7).replays + 1 < k.hw.replayLimit)),
    (let b := lanes 7 { state := .train, lostAt := 99760000000, attempts := 1 };
     decide ((b.hw.lane 7).lostAt + 240000000 ≤ b.hw.ticks ∧ (b.hw.lane 7).stepFrom = none)),
    (let o := lanes 7 { sf0 := 100000000000, state := .active, rate := 1 };
     decide ((o.hw.lane 7).state = .active ∧ o.hw.dev.mode = .config ∧ (o.hw.lane 7).rate < 2 ∧ (o.hw.lane 7).rate < o.hw.targetRate ∧
         tb 4 2 = true)),
    (let c := upIn .scan (fun w => w.setLane 7 { sf0 := 100000000000, state := .active, rate := 1, lostRate := 1 });
     decide (c.hw.dev.mode = .scan ∧ (c.hw.lane 7).lostRate ≤ (c.hw.lane 7).rate)),
    (let d := lanes 7 { sf0 := 100000000000, state := .active, rate := 1, offered := some (4, 250) };
     decide ((d.hw.lane 7).offered = some (4, 250) ∧ tb 4 2 = true)),
    (let p := ({ seq := 5, vc := 0, body := .command { opcode := 1 }, len := 20 } : Lp);
     let e := upTo (fun w => w.setLane 7 { state := .step, rate := 1, stepTo := some (2, 0), sf0 := w.ticks, unacked := [p] });
     decide ((e.hw.lane 7).stepTo = some (2, 0) ∧ (e.hw.lane 7).state = .step ∧ (e.hw.sfc 7 + 256 - 0) % 256 < 128)),
    (let f := lanes 7 { state := .train, stepFrom := some 1, rate := 2, stepAt := 99680000000 };
     decide ((f.hw.lane 7).stepFrom = some 1 ∧ (f.hw.lane 7).stepAt + 320000000 ≤ f.hw.ticks)),
    (let g := lanes 7 { state := .train, lost := true, lostAt := 99200000000, attempts := 4 };
     decide ((g.hw.lane 7).lost = true ∧ (g.hw.lane 7).lostAt + 800000000 ≤ g.hw.ticks)),
    (let h := upTo (fun w => ({ w with lnk := { w.lnk with testOn := true, testLane := 7, testEnd := w.ticks, testCode := 0x11 } } : Hw).setLane 7 { state := .test });
     decide (h.hw.lnk.testOn = true ∧ h.hw.lnk.testLane = 7 ∧ h.hw.lnk.testEnd ≤ h.hw.ticks ∧ h.hw.lnk.testCode / 16 ≠ 3)),
    (let i := upIn .service;
     decide (up.hw.dev.mode = .config ∧ i.hw.dev.mode = .service))].all id = true := by decide +kernel

theorem witness_NetworkRowsTakeEffect : [
    (let ip := (0xC0A80001 : U32);
     let s := up;
     decide (s.hw.outbox = [] ∧ s.hw.awake 10 = true ∧ s.hw.isEth = false ∧ s.hw.arpOf ip = none ∧ s.hw.out.ptp = 0)),
    (let ip := (0xC0A80001 : U32);
     let e := ethUp (fun w => { w with out := { w.out with netAddr := 0xC0A80001 } });
     decide (e.hw.outbox = [] ∧ e.hw.isEth = true ∧ ip.toNat = e.hw.out.netAddr)),
    (let ip := (0xC0A80001 : U32);
     let p := ethUp (fun w => { w with out := { w.out with arp := [{ ip := 5, since := w.ticks - 800000000, asked := w.ticks - 80000000 }] } });
     decide (p.hw.arpOf 5 = some { ip := 5, since := p.hw.ticks - 800000000, asked := p.hw.ticks - 80000000 } ∧
         (p.hw.ticks - 80000000) + 80000000 ≤ p.hw.ticks ∧ p.hw.evt.table.length < 1024)),
    (let ip := (0xC0A80001 : U32);
     let m := ethUp (fun w => { w with out := { w.out with arp := [{ ip := 5, since := w.ticks - 48000000000, asked := w.ticks, mac := some 7 }, { ip := 6, since := 0, asked := 0 }] } });
     decide (m.hw.arpOf 5 = some { ip := 5, since := m.hw.ticks - 48000000000, asked := m.hw.ticks, mac := some 7 } ∧
         (m.hw.ticks - 48000000000) + 48000000000 ≤ m.hw.ticks)),
    (let ip := (0xC0A80001 : U32);
     let n := ethUp (fun w => { w with out := { w.out with arp := [{ ip := 5, since := w.ticks - 799999999, asked := w.ticks - 79999999 }] } });
     decide (n.hw.arpOf 5 = some { ip := 5, since := n.hw.ticks - 799999999, asked := n.hw.ticks - 79999999 } ∧
         n.hw.ticks < (n.hw.ticks - 79999999) + 80000000 ∧ n.hw.ticks < (n.hw.ticks - 799999999) + 800000000)),
    (let t := ethUp (fun w => { w with out := { w.out with ptp := 1 } });
     decide (t.hw.out.ptp ≠ 0 ∧ t.hw.isEth = true ∧ t.hw.out.ptp = 1 ∧ 1 ≠ 0)),
    (let d := ethUp (fun w => { w with out := { w.out with ptp := 2 } });
     decide (d.hw.out.ptp = 2 ∧ d.hw.isEth = true ∧ d.hw.dev.mode = .config ∧ d.hw.dev.sched = none ∧ 80 ≤ (64 * (3 : Int)).natAbs)),
    (let d := ethUp (fun w => { w with out := { w.out with ptp := 2 } });
     decide (d.hw.out.ptp = 2 ∧ (64 * (1 : Int)).natAbs < 80)),
    (let d := ethUp (fun w => { w with out := { w.out with ptp := 2 } });
     let ll := ethUp (fun w => { w with out := { w.out with ptp := 2, ptpLocked := true } });
     decide (ll.hw.out.ptpLost = none ∧ ll.hw.out.ptp = 2 ∧ ll.hw.out.ptpLocked = true ∧ d.hw.out.ptpLocked = false)),
    (let k := ethUp (fun w => { w with out := { w.out with ptp := 2, ptpLost := some w.ticks } });
     decide (k.hw.out.ptpLost = some k.hw.ticks ∧ k.hw.ticks < k.hw.ticks + 1600000000)),
    (let l := ethUp (fun w => { w with out := { w.out with ptp := 2, ptpLost := some (w.ticks - 1600000000), ptpLocked := true } });
     decide (l.hw.out.ptpLost = some (l.hw.ticks - 1600000000) ∧ l.hw.out.ptp = 2 ∧ (l.hw.ticks - 1600000000) + 1600000000 ≤ l.hw.ticks ∧
         l.hw.evt.table.length < 1024))].all id = true := by decide +kernel

theorem witness_CascadeRowsTakeEffect : [
    (let s := up;
     decide (s.hw.outbox = [] ∧ s.hw.isSecondary = false ∧ s.hw.cas.found = false ∧ s.hw.serves 1 = false ∧ (s.hw.secd 1).lostAt = none)),
    (let y := upTo (fun w => { w with cas := { w.cas with index := 3 } });
     decide (y.hw.outbox = [] ∧ y.hw.awake 6 = true ∧ y.hw.awake 11 = true ∧ y.hw.clk.xtalOk = true ∧ y.hw.isSecondary = true ∧
         y.hw.cas.timeSet = false ∧ y.hw.clk.refLock = true)),
    (let z := upTo (fun w => { w with cas := { w.cas with index := 3, timeSet := true } });
     decide (z.hw.isSecondary = true ∧ z.hw.cas.timeSet = true ∧
         ((z.hw.clk.time.toNat : Int) - ((0x1234567898 : U64).toNat + z.hw.myDelay)).natAbs ≤ 2)),
    (let z := upTo (fun w => { w with cas := { w.cas with index := 3, timeSet := true } });
     decide (3 < 4 ∧ z.hw.dev.mode = .config ∧ z.hw.cas.silent = false ∧ z.hw.cas.lastFrame + 16000 ≤ z.hw.ticks ∧ z.hw.evt.table.length < 1024)),
    (let a := upIn .scan (fun w => { w with cas := { w.cas with index := 3 } });
     decide (a.hw.isSecondary = true ∧ 0 < 4 ∧ 0 ≠ a.hw.cas.index ∧ a.hw.dev.mode = .scan)),
    (let z := upTo (fun w => { w with cas := { w.cas with index := 3, timeSet := true } });
     decide (z.hw.isSecondary = true ∧ z.hw.cas.timeSet = true ∧ z.hw.dev.mode = .config ∧
         2 < ((z.hw.clk.time.toNat : Int) - ((5 : U64).toNat + z.hw.myDelay)).natAbs)),
    (let f := upTo (fun w => { w with cas := { w.cas with found := true, sendAt := w.ticks } });
     decide (f.hw.isSecondary = false ∧ f.hw.awake 6 = true ∧ f.hw.awake 11 = true ∧ f.hw.cas.found = true ∧ f.hw.cas.sendAt ≤ f.hw.ticks)),
    (let b := upIn .boot (fun w => { w with dev := { w.dev with step := 11 }, pantry := { w.pantry with fw := [(0, List.replicate 32 0)] } });
     decide (b.hw.isSecondary = false ∧ 1 ≤ 3 ∧ b.hw.dev.mode = .boot ∧ (BitVec.ofNat 32 b.hw.identWord : U32).toNat = b.hw.identWord ∧
         (0 : U32).toNat = b.hw.fwRunning ∧ 2 ≠ 3 ∧ b.hw.evt.table.length < 1024)),
    (let adm := ({ admitted := true, delay := 100 } : Secondary);
     let g := upTo (fun w => { w with cas := { w.cas with secs := [(3, adm)] } });
     decide (1 ≤ 3 ∧ (g.hw.secd 3).admitted = true ∧ (g.hw.secd 3).absent = false ∧ (echoDelay 0 < 0 ∨ 5120 < echoDelay 0) ∧
         g.hw.evt.table.length < 1024)),
    (let adm := ({ admitted := true, delay := 100 } : Secondary);
     let h15 := upIn .boot (fun w => { w with cas := { w.cas with secs := [(3, { adm with echoes := List.replicate 15 5120 })] }, dev := { w.dev with startCause := 0, step := 11 } });
     decide (h15.hw.dev.mode = .boot ∧ h15.hw.dev.startCause = 0 ∧ (h15.hw.secd 3).echoes.length = 15)),
    (let adm := ({ admitted := true, delay := 100 } : Secondary);
     let g := upTo (fun w => { w with cas := { w.cas with secs := [(3, adm)] } });
     let h := upIn .boot (fun w => { w with cas := { w.cas with secs := [(3, { adm with echoes := [7] })] }, dev := { w.dev with startCause := 0, step := 11 } });
     decide (h.hw.dev.startCause = 0 ∧ 0 ≤ echoDelay 92160 ∧ echoDelay 92160 ≤ 5120 ∧ h.hw.dev.mode = .boot ∧ (h.hw.secd 3).echoes.length < 15) &&
         decide (0 ≤ echoDelay 81920 ∧ g.hw.dev.mode = .config ∧ (g.hw.secd 3).rejoin = false)),
    (let pk := ({ kind := 1, opcode := 0, tag := 0, seq := 0, status := 0, bytes := List.replicate 32 0 } : CasPacket);
     let adm := ({ admitted := true, delay := 100 } : Secondary);
     let g := upTo (fun w => { w with cas := { w.cas with secs := [(3, adm)] } });
     decide (g.hw.serves 3 = true ∧ pk.kind = 1 ∧ g.hw.laneFill 0 + pk.bytes.length ≤ 262144)),
    (let adm := ({ admitted := true, delay := 100 } : Secondary);
     let g := upTo (fun w => { w with cas := { w.cas with secs := [(3, adm)] } });
     let rp := ({ kind := 0, opcode := 0x20, tag := 9, seq := 1, status := 0, bytes := [2] } : CasPacket);
     let ev := ({ kind := 0, opcode := 0xE0, tag := 0, seq := 1, status := 0, bytes := [] } : CasPacket);
     let sb := ({ kind := 3, opcode := 0, tag := 0, seq := 0, status := 0, bytes := List.replicate 32 0 } : CasPacket);
     decide (g.hw.serves 3 = true ∧ g.hw.serves 2 = false ∧ rp.kind = 0 ∧ rp.opcode.toNat < 0xE0 ∧ ev.kind = 0 ∧ 0xE0 ≤ ev.opcode.toNat ∧
         2 ≤ sb.kind ∧ sb.kind ≤ 4)),
    (let pk := ({ kind := 1, opcode := 0, tag := 0, seq := 0, status := 0, bytes := List.replicate 32 0 } : CasPacket);
     let adm := ({ admitted := true, delay := 100 } : Secondary);
     let fat := ({ pk with bytes := List.replicate 4096 0 } : CasPacket);
     let v := upTo (fun w => { w with cas := { w.cas with secs := [(3, adm)] }, out := { w.out with fwd := [(0, List.replicate 64 (3, fat))] } });
     decide (v.hw.serves 3 = true ∧ 262144 < v.hw.laneFill 0 + pk.bytes.length ∧ v.hw.evt.table.length < 1024)),
    (let adm := ({ admitted := true, delay := 100 } : Secondary);
     let o := upTo (fun w => { w with cas := { w.cas with secs := [(3, { adm with lostAt := some (w.ticks - 800000000) })] } });
     decide ((o.hw.secd 3).lostAt = some (o.hw.ticks - 800000000) ∧ (o.hw.secd 3).admitted = true ∧
         (o.hw.ticks - 800000000) + 800000000 ≤ o.hw.ticks ∧ (o.hw.lane 6).state ≠ .active ∧ o.hw.evt.table.length < 1024))].all id = true := by decide +kernel

theorem witness_CameraCommandsAreServed : [
    (let s := up;
     takesB s (.camConfig hd 2 1 0 16 16 1000) && takesB s (.camConfig hd 1 3 0 16 16 1000) && takesB s (.camConfig hd 1 4 3 4096 3072 1000) &&
         decide ((s.hw.port 1).en = false ∧ 1 < (2 : U8).toNat ∧ badCam 3 0 16 16 1000 = some 17 ∧ badCam 4 3 4096 3072 1000 = none)),
    (let e := upTo (fun w => w.setPort 1 { en := true, state := .streaming, width := 16, height := 16, rate := 1000, queue := List.replicate 16 { addr := 1, bytes := [], delay := 0, frame := 1 } });
     takesB e (.camConfig hd 1 1 0 16 16 1000) && takesB e (.camEnable hd 1 1) && takesB e (.camEnable hd 1 0) && decide ((e.hw.port 1).en = true ∧
         (e.hw.port 1).state ≠ .offline)),
    (let s := up;
     takesB s (.camEnable hd 1 1) && decide ((s.hw.port 1).en = false ∧ (s.hw.port 1).state ≠ .offline)),
    (let e := upTo (fun w => w.setPort 1 { en := true, state := .streaming, width := 16, height := 16, rate := 1000, queue := List.replicate 16 { addr := 1, bytes := [], delay := 0, frame := 1 } });
     takesB e (.cciXfer hd 1 0x10 3 0 [1] true []) && decide ((e.hw.port 1).queue.length = 16)),
    (let s := up;
     takesB s (.cciXfer hd 1 0x10 3 0 [1] true []) && decide ((s.hw.port 1).queue.length < 16 ∧ (3 : U8).toNat ≤ 3)),
    (let cz := upTo (fun w => w.setReg (glzReg 1 0x1078) 0);
     takesB cz (.cciXfer hd 1 0x10 0 32 [] false []) && takesB cz (.cciXfer hd 1 0x10 0 32 [] true []) &&
         takesB cz (.cciXfer hd 1 0x10 0 1 [7] true [9]) && decide (1 ≤ (1 : U8).toNat ∧ (32 : U8).toNat ≤ 32 ∧ bits (cz.hw.glzP 1 0x1078) 0 2 = 0 ∧
         8 < 0 + (32 : U8).toNat)),
    (let s := up;
     takesB s (.camStats hd 1 3) && takesB s (.camStatus hd 1)),
    (let k := ({ hw := (lanes 0 { sf0 := 100000000000, state := .active }).hw, cmd := { link := some se, sessNext := 2 } } : State);
     let h := ({ tr := .link, tag := 7, role := 3, seq := 1 } : Hdr);
     takesB k (.camMeshLoad h ⟨0, 0, 3072⟩ 1 (List.replicate 3072 0)) h && !k.cmd.held [srcGlz 1] && decide (k.cmd.liveOps < 4)),
    (let s := up;
     takesB s (.camMeshLoad hd ⟨0, 0, 3071⟩ 1 [1]) && !s.cmd.held [srcGlz 1] && decide ((3071 : U32) ≠ 3072))].all id = true := by decide +kernel

theorem witness_CameraRowsTakeEffect : [
    (decide (up.hw.outbox = [] ∧ 1 < 2 ∧ (up.hw.port 1).en = false ∧ (up.hw.port 1).inFrame = false ∧ (up.hw.port 1).queue = [])),
    (let x := ({ en := true, state := .waiting, width := 2, height := 1, rate := 1000, format := 0, frame := 2 ^ 32 - 1 } : GlzPort);
     let a := upTo (fun w => w.setPort 1 x);
     let b := upTo (fun w => w.setPort 1 { x with staged := some 9 });
     decide (x.en = true ∧ x.state ≠ .offline ∧ x.inFrame = false ∧ x.pendingSet = [] ∧ x.staged = none ∧ a.hw.port 1 = x ∧
         (b.hw.port 1).staged = some 9 ∧ (b.hw.port 1).queue = [])),
    (let x := ({ en := true, state := .waiting, width := 2, height := 1, rate := 1000, format := 0, frame := 2 ^ 32 - 1 } : GlzPort);
     let f := upTo (fun w => w.setPort 1 { x with inFrame := true, state := .streaming, back := true });
     decide ((f.hw.port 1).inFrame = true ∧ [257, 1].length = (f.hw.port 1).width ∧ (f.hw.port 1).received < (f.hw.port 1).height)),
    (let x := ({ en := true, state := .waiting, width := 2, height := 1, rate := 1000, format := 0, frame := 2 ^ 32 - 1 } : GlzPort);
     let f := upTo (fun w => w.setPort 1 { x with inFrame := true, state := .streaming, back := true });
     decide ((f.hw.port 1).received < (f.hw.port 1).height)),
    (let x := ({ en := true, state := .waiting, width := 2, height := 1, rate := 1000, format := 0, frame := 2 ^ 32 - 1 } : GlzPort);
     let g := upTo (fun w => w.setPort 1 { x with inFrame := true, state := .streaming, height := 0 });
     decide ((g.hw.port 1).inFrame = true ∧ (g.hw.port 1).received = (g.hw.port 1).height)),
    (let x := ({ en := true, state := .waiting, width := 2, height := 1, rate := 1000, format := 0, frame := 2 ^ 32 - 1 } : GlzPort);
     let q := upTo (fun w => w.setPort 1 { x with state := .streaming, quietAt := w.ticks - 4 * x.period });
     decide ((q.hw.port 1).en = true ∧ (q.hw.port 1).state = .streaming ∧ (q.hw.port 1).quietAt + 4 * (q.hw.port 1).period ≤ q.hw.ticks ∧
         q.hw.evt.table.length < 1024)),
    (let x := ({ en := true, state := .waiting, width := 2, height := 1, rate := 1000, format := 0, frame := 2 ^ 32 - 1 } : GlzPort);
     let wr := ({ addr := 1, bytes := [2], delay := 3, frame := 4 } : CciWrite);
     let c := upTo (fun w => w.setPort 1 { x with queue := [wr], staged := some 5, settings := 65535 });
     decide ((c.hw.port 1).queue = [wr] ∧ (c.hw.port 1).state ≠ .streaming ∧ c.hw.evt.table.length < 1024)),
    (let m := upIn .guard;
     decide (m.hw.dev.mode = .guard ∧ m.hw.evt.table.length < 1024)),
    (let x := ({ en := true, state := .waiting, width := 2, height := 1, rate := 1000, format := 0, frame := 2 ^ 32 - 1 } : GlzPort);
     let f := upTo (fun w => w.setPort 1 { x with inFrame := true, state := .streaming, back := true });
     decide (f.hw.dev.mode ≠ .guard ∧ 1280 < bits (1281 : Word).toNat 0 11 ∧ 1 ≤ bits (0x03000500 : Word).toNat 0 11 ∧
         bits (0x03000500 : Word).toNat 0 11 ≤ 1280 ∧ 1 ≤ bits (0x03000500 : Word).toNat 16 11 ∧ bits (0x03000500 : Word).toNat 16 11 ≤ 960 ∧
         (0x03000500 : Word).toNat &&& 0x07FF07FF ≠ f.hw.glzP 1 0x1010))].all id = true := by decide +kernel

theorem witness_GuardCommandsAreServed : [
    (decide (map1.length = 46 ∧ badMap map1 = none)),
    (let s := isIn .config;
     takesB s (.guardMapLoad hd ⟨0, 0, 4⟩ 7 [1, 2]) && takesB s (.guardMapLoad hd ⟨0, 0, 4⟩ 8 [1, 2]) && !s.cmd.held [srcKpr 0] &&
         decide (s.cmd.liveOps < 4 ∧ (7 : U8).toNat ≤ 7 ∧ 7 < (8 : U8).toNat)),
    (let m := isIn .config (fun w => { w with kpr := { w.kpr with sets := [(7, map1)] } });
     takesB m (.guardMapRead hd 8 0) && takesB m (.guardMapRead hd 7 47) && takesB m (.guardMapRead hd 7 46) && takesB m (.guardMapRead hd 7 0) &&
         decide ((m.hw.kpr.map 7).length < (47 : U32).toNat ∧ (46 : U32).toNat ≤ (m.hw.kpr.map 7).length)),
    (let g := isIn .guard (fun w => { w with kpr := { w.kpr with a := { on := 3 }, b := { on := 3 } }, bel := { w.bel with running := true } });
     let gc := (BitVec.ofNat 32 g.hw.guardCrc);
     takesB g (.guardLeave hd gc) && takesB g (.guardLeave hd (gc + 1)) && decide (gc.toNat = g.hw.guardCrc ∧ (gc + 1).toNat ≠ g.hw.guardCrc)),
    (let f4 := (fid (srcKpr 0) 4 4);
     let f6 := (fid (srcKpr 0) 4 6);
     let k := isIn .guard (fun w => { w with kpr := { w.kpr with latched := [f4, f6] } });
     takesB k (.safeAck hd 1) && decide (k.hw.latchedBy 1 = none) && takesB k (.safeAck hd (BitVec.ofNat 16 f6.code)) &&
         decide (k.hw.latchedBy f6.code = some f6 ∧ f6.code % 1024 ≠ 10 ∧ k.hw.kprCause f6 = true ∧ (BitVec.ofNat 16 f6.code : U16).toNat = f6.code)),
    (let f4 := (fid (srcKpr 0) 4 4);
     let f6 := (fid (srcKpr 0) 4 6);
     let k := isIn .guard (fun w => { w with kpr := { w.kpr with latched := [f4, f6] } });
     takesB k (.safeAck hd (BitVec.ofNat 16 f4.code)) && decide ((BitVec.ofNat 16 f4.code : U16).toNat = f4.code ∧ k.hw.latchedBy f4.code = some f4 ∧
         k.hw.kprCause f4 = false)),
    (let f4 := (fid (srcKpr 0) 4 4);
     let f6 := (fid (srcKpr 0) 4 6);
     let k := isIn .guard (fun w => { w with kpr := { w.kpr with latched := [f4, f6] } });
     takesB k (.keeperStatus hd) && takesB k (.bellStatus hd) && takesB k (.safetyConfig hd)),
    (let b := isIn .config (fun w => w.setReg 0x00890000 0x100);
     takesB b (.bellConfig hd 0xAABBCCDD 1999 0) && takesB b (.bellConfig hd 0xAABBCCDD 2000 0) && decide (b.hw.inCascade = false ∧
         b.hw.bellBad 1999 0 = some 4 ∧ b.hw.bellBad 2000 0 = none)),
    (decide (up.cmd.eth = none ∧ up.cmd.link = none ∧ (up.cmd.session .spi).map (·.wait) = some none)),
    (let f4 := (fid (srcKpr 0) 4 4);
     let pk := ({ opcode := 0x73, tag := 55 } : Packet);
     let w := ({ isIn .guard (fun w => { w with kpr := { w.kpr with latched := [f4] } }) with cmd := { spi := some { se with wait := some (.safeAck f4.code, pk) }, sessNext := 2 } } : State);
     decide (w.hw.outbox = [] ∧ w.cmd.session .spi = some { se with wait := some (.safeAck f4.code, pk) } ∧ w.cmd.session .eth = none ∧
         w.cmd.session .link = none ∧ w.hw.latchedBy f4.code = some f4 ∧ f4.code % 1024 ≠ 10 ∧ w.hw.kprCause f4 = false ∧ w.hw.kpr.safeSince = false ∧
         w.hw.kpr.latched = [f4] ∧ w.hw.pins.readback = 0)),
    (let f4 := (fid (srcKpr 0) 4 4);
     let pk := ({ opcode := 0x73, tag := 55 } : Packet);
     let w := ({ isIn .guard (fun w => { w with kpr := { w.kpr with latched := [f4] } }) with cmd := { spi := some { se with wait := some (.safeAck f4.code, pk) }, sessNext := 2 } } : State);
     let w2 := ({ w with hw := { w.hw with kpr := { w.hw.kpr with safeSince := true } } } : State);
     decide (w2.hw.kpr.safeSince = true ∧ w2.hw.latchedBy f4.code = some f4))].all id = true := by decide +kernel

theorem witness_KeeperRowsTakeEffect : [
    (decide (up.hw.outbox = [] ∧ (up.hw.keeper 1).inbox = [] ∧ (up.hw.keeper 1).searches = [])),
    (let r := ({ h := 0, v := 0, time := 5, flags := 0, nRx := 1, angle := 0, rets := [(200, 0, 9)], bgMax := 0 } : SampleRec);
     let c := isIn .config (fun w => w.setKeeper 1 { w.keeper 1 with inbox := [r] });
     decide ((c.hw.keeper 1).inbox = [r] ∧ c.hw.isIS = true ∧ c.hw.awake 15 = true ∧ c.hw.dev.mode ≠ .guard)),
    (let r := ({ h := 0, v := 0, time := 5, flags := 0, nRx := 1, angle := 0, rets := [(200, 0, 9)], bgMax := 0 } : SampleRec);
     let g := isIn .guard (fun w => ({ w with kpr := { w.kpr with sets := [(7, map1)], set := 7 } } : Hw).setKeeper 1 { w.keeper 1 with inbox := [r] } |>.setReg 0x00880000 0x200);
     let cell := ({ j := 0, i := 0, near := 0, far := [10, 0, 0, 0] } : GuardCell);
     decide ((g.hw.keeper 1).inbox = [r] ∧ g.hw.isIS = true ∧ g.hw.dev.mode = .guard ∧ loadedSets g.hw.kpr = [7] ∧
         cellAt (g.hw.kpr.map 7) r.h r.v = some cell ∧ inField (g.hw.kpr.map 7) 0 cell = true)),
    (let r := ({ h := 0, v := 0, time := 5, flags := 0, nRx := 1, angle := 0, rets := [(200, 0, 9)], bgMax := 0 } : SampleRec);
     let r2 := ({ r with rets := [(9000, 0, 9)] } : SampleRec);
     let g2 := isIn .guard (fun w => ({ w with kpr := { w.kpr with sets := [(7, map1)], set := 7 } } : Hw).setKeeper 1 { w.keeper 1 with inbox := [r2], counts := [(guardKey 7 0 0 0, 1)] } |>.setReg 0x00880000 0x200 |>.setReg 0x00880010 0xFFFF);
     decide ((g2.hw.keeper 1).inbox = [r2] ∧ loadedSets g2.hw.kpr = [7])),
    (let q := isIn .guard (fun w => ({ w with kpr := { w.kpr with sets := [(7, map1)], set := 7 } } : Hw).setKeeper 1 { w.keeper 1 with searches := [(7, 0, 0, 0)], counts := [(guardKey 7 0 0 0, 3)] } |>.setReg 0x00880000 0x200);
     decide (q.hw.isIS = true ∧ q.hw.awake 15 = true ∧ (q.hw.keeper 1).searches = [(7, 0, 0, 0)] ∧ mapCluster (q.hw.kpr.map 7) 0 = 1 ∧
         mget 0 (q.hw.keeper 1).counts (guardKey 7 0 0 0) = q.hw.kDepth)),
    (decide (up.hw.dev.mode ≠ .guard)),
    (let r := ({ h := 0, v := 0, time := 5, flags := 0, nRx := 1, angle := 0, rets := [(200, 0, 9)], bgMax := 0 } : SampleRec);
     let g := isIn .guard (fun w => ({ w with kpr := { w.kpr with sets := [(7, map1)], set := 7 } } : Hw).setKeeper 1 { w.keeper 1 with inbox := [r] } |>.setReg 0x00880000 0x200);
     let cell := ({ j := 0, i := 0, near := 0, far := [10, 0, 0, 0] } : GuardCell);
     decide (g.hw.isIS = true ∧ g.hw.dev.mode = .guard ∧ loadedSets g.hw.kpr = [7] ∧ cellAt (g.hw.kpr.map 7) (0 % 65536) (0 / 65536) = some cell ∧
         mget g.hw.kpr.guardAt (g.hw.keeper 1).base 0 + g.hw.tStale ≤ g.hw.ticks)),
    (let d := isIn .guard (fun w => w.setKeeper 1 { w.keeper 1 with clockAt := w.ticks + 1, selfAt := w.ticks + 1 });
     decide (d.hw.ticks < (d.hw.keeper 1).clockAt ∧ d.hw.ticks < (d.hw.keeper 1).selfAt ∧ d.hw.kpr.disagree = none)),
    (let r := ({ h := 0, v := 0, time := 5, flags := 0, nRx := 1, angle := 0, rets := [(200, 0, 9)], bgMax := 0 } : SampleRec);
     let g := isIn .guard (fun w => ({ w with kpr := { w.kpr with sets := [(7, map1)], set := 7 } } : Hw).setKeeper 1 { w.keeper 1 with inbox := [r] } |>.setReg 0x00880000 0x200);
     decide (g.hw.isIS = true ∧ g.hw.awake 3 = true ∧ (g.hw.keeper 1).clockAt ≤ g.hw.ticks ∧ (g.hw.keeper 1).selfAt ≤ g.hw.ticks)),
    (let f := isIn .guard (fun w => ({ w with kpr := { w.kpr with a := { on := 3 }, b := { on := 3 }, disagree := some 99999199999, fselAt := 99991999999 }, pins := { w.pins with fselA := 0, fselB := 0, edm := 3, readback := 0 } } : Hw).setReg 0x00880000 3 |>.setReg 0x00880020 0x80000005);
     decide (f.hw.isIS = true ∧ f.hw.awake 15 = true ∧ f.hw.dev.mode = .guard ∧ f.hw.evt.table.length < 1024 ∧ (f.hw.keeper 1).clockAt ≤ f.hw.ticks ∧
         (f.hw.keeper 0).selfAt ≤ f.hw.ticks)),
    (let f := isIn .guard (fun w => ({ w with kpr := { w.kpr with a := { on := 3 }, b := { on := 3 }, disagree := some 99999199999, fselAt := 99991999999 }, pins := { w.pins with fselA := 0, fselB := 0, edm := 3, readback := 0 } } : Hw).setReg 0x00880000 3 |>.setReg 0x00880020 0x80000005);
     decide (f.hw.kpr.disagree = some 99999199999 ∧ 99999199999 + 800000 < f.hw.ticks)),
    (let f := isIn .guard (fun w => ({ w with kpr := { w.kpr with a := { on := 3 }, b := { on := 3 }, disagree := some 99999199999, fselAt := 99991999999 }, pins := { w.pins with fselA := 0, fselB := 0, edm := 3, readback := 0 } } : Hw).setReg 0x00880000 3 |>.setReg 0x00880020 0x80000005);
     decide (f.hw.fselValid = false ∧ f.hw.kpr.fselAt + 8000000 < f.hw.ticks)),
    (let f := isIn .guard (fun w => ({ w with kpr := { w.kpr with a := { on := 3 }, b := { on := 3 }, disagree := some 99999199999, fselAt := 99991999999 }, pins := { w.pins with fselA := 0, fselB := 0, edm := 3, readback := 0 } } : Hw).setReg 0x00880000 3 |>.setReg 0x00880020 0x80000005);
     decide (f.hw.edmBad 0 = true ∧ f.hw.edmBad 1 = true ∧ f.hw.rbBad 3 = true)),
    (let f := isIn .guard (fun w => ({ w with kpr := { w.kpr with a := { on := 3 }, b := { on := 3 }, disagree := some 99999199999, fselAt := 99991999999 }, pins := { w.pins with fselA := 0, fselB := 0, edm := 3, readback := 0 } } : Hw).setReg 0x00880000 3 |>.setReg 0x00880020 0x80000005);
     decide (f.hw.tideNames 5 ≠ [] ∧ max f.hw.kpr.guardAt (mget 0 f.hw.kpr.tideAt 5) + 8000000 ≤ f.hw.ticks)),
    (let tp := isIn .guard (fun w => ({ w with kpr := { w.kpr with a := { on := 3 }, b := { on := 3 }, pulse0 := w.ticks } } : Hw).setReg 0x00880004 10);
     decide (tb tp.hw.kpr.lines 0 = true ∧ (4 * (tp.hw.ticks - tp.hw.kpr.pulse0) / max 1 tp.hw.tpPeriod) % 4 = 0 ∧
         tp.hw.kpr.pulseSlot ≤ 4 * (tp.hw.ticks - tp.hw.kpr.pulse0) / max 1 tp.hw.tpPeriod ∧ tp.hw.evt.table.length < 1024)),
    (let v := isIn .config (fun w => { w with pins := { w.pins with fselA := 2, fselB := 5 }, kpr := { w.kpr with sets := [(2, map1)] } });
     decide (v.hw.awake 3 = true ∧ v.hw.fselValid = true ∧ v.hw.pins.fselA ≠ 7)),
    (let v := isIn .config (fun w => { w with pins := { w.pins with fselA := 2, fselB := 5 }, kpr := { w.kpr with sets := [(2, map1)] } });
     decide (v.hw.kpr.fselAt + v.hw.fselDeb ≤ v.hw.ticks ∧ v.hw.kpr.loaded v.hw.pins.fselA = true)),
    (let bo := upIn .boot;
     decide (bo.hw.awake 3 = false ∧ up.hw.awake 3 = true)),
    (let mo := isIn .guard (fun w => ({ w with on := { w.on with restartSeenOpen := true }, pins := { w.pins with fselA := 7, fselB := 0 }, kpr := { w.kpr with sets := [(7, map1)], set := 7, a := { seen := [(0, 100000000000)] }, b := { seen := [(0, 100000000000)] }, pressAt := some 99920000000, condAt := [(1, some 5)] } } : Hw).setReg 0x00880010 0xFFFF |>.setReg 0x00880000 0x30);
     decide (mo.hw.awake 3 = true ∧ mo.hw.dev.mode = .guard ∧ mo.hw.kpr.pressAt = some 99920000000 ∧ mo.hw.kpr.pressDead = false ∧
         99920000000 + 80000000 ≤ mo.hw.ticks ∧ mo.hw.on.restartSeenOpen = true ∧ tb mo.hw.kpr.pairsOn 1 = false ∧ mo.hw.mayOn 1 = true)),
    (let sk := isIn .guard (fun w => { w with kpr := { w.kpr with pressAt := some 95999999999 } });
     decide (sk.hw.kpr.pressAt = some 95999999999 ∧ sk.hw.kpr.pressDead = false ∧ 95999999999 + 4000000000 < sk.hw.ticks ∧ sk.hw.isIS = true ∧
         sk.hw.awake 3 = true ∧ sk.hw.evt.table.length < 1024)),
    (decide (tb (up.hw.reg 0x00880000) 5 = false)),
    (let mo := isIn .guard (fun w => ({ w with on := { w.on with restartSeenOpen := true }, pins := { w.pins with fselA := 7, fselB := 0 }, kpr := { w.kpr with sets := [(7, map1)], set := 7, a := { seen := [(0, 100000000000)] }, b := { seen := [(0, 100000000000)] }, pressAt := some 99920000000, condAt := [(1, some 5)] } } : Hw).setReg 0x00880010 0xFFFF |>.setReg 0x00880000 0x30);
     decide (mget none mo.hw.kpr.condAt 1 = some 5 ∧ tb (mo.hw.reg 0x00880000) 5 = true ∧ tb mo.hw.kpr.needRestart 1 = false ∧ mo.hw.isIS = true ∧
         mo.hw.awake 15 = true ∧ 5 + mo.hw.tAuto ≤ mo.hw.ticks)),
    (let nb := upTo (fun w => w.setReg 0x00880000 0x100);
     decide (nb.hw.edmBad 1 = false ∧ nb.hw.rbBad 3 = false ∧ nb.hw.tideNames 31 = [] ∧ nb.hw.dev.mode ≠ .guard))].all id = true := by decide +kernel

theorem witness_BellRowsTakeEffect : [
    (decide (up.hw.outbox = [] ∧ up.hw.inCascade = false ∧ up.hw.bel.running = false)),
    (let n := isIn .guard (fun w => ({ w with bel := { w.bel with running := true, builtAt := w.ticks, shown := (w.belShow 0).take 5 } } : Hw).setReg 0x00890000 0x100);
     let n2 := ({ n with hw := { n.hw with bel := { n.hw.bel with shown := (n.hw.belShow 0).take 5 } } } : State);
     decide (n2.hw.bel.running = true ∧ n2.hw.bel.rebuildAt = none ∧ n2.hw.ticks < n2.hw.bel.builtAt + n2.hw.belPeriod ∧
         n2.hw.bel.shown = (n2.hw.belShow 0).take 5)),
    (let b := isIn .guard (fun w => { w with bel := { w.bel with running := true, seq := 2 ^ 32 - 1 } });
     decide (b.hw.isIS = true ∧ b.hw.awake 15 = true ∧ b.hw.bel.running = true ∧ b.hw.bel.rebuildAt = none ∧
         b.hw.bel.builtAt + b.hw.belPeriod ≤ b.hw.ticks ∧ b.hw.belAgree = true ∧ b.hw.bel.waiting.length < 2)),
    (let w := isIn .guard (fun w => { w with bel := { w.bel with running := true, waiting := [[1], [2]] } });
     decide (w.hw.belAgree = true ∧ w.hw.bel.waiting = [[1], [2]] ∧ w.hw.bel.builtAt + w.hw.belPeriod ≤ w.hw.ticks)),
    (let w := isIn .guard (fun w => { w with bel := { w.bel with running := true, waiting := [[1], [2]] } });
     let x := isIn .guard (fun w => { w with kpr := { w.kpr with a := { on := 1 } }, bel := { w.bel with running := true, rebuildAt := some w.ticks } });
     decide (x.hw.bel.rebuildAt = some x.hw.ticks ∧ x.hw.belAgree = false)),
    (let w := isIn .guard (fun w => { w with bel := { w.bel with running := true, waiting := [[1], [2]] } });
     let y := isIn .guard (fun w => { w with bel := { w.bel with running := true, rebuildAt := some w.ticks } });
     decide (y.hw.bel.rebuildAt = some y.hw.ticks ∧ y.hw.belAgree = true ∧ y.hw.bel.waiting.length < 2)),
    (let b := isIn .guard (fun w => { w with bel := { w.bel with running := true, seq := 2 ^ 32 - 1 } });
     let body := (le 4 0 ++ le 4 7 ++ le 8 9 ++ le 4 b.hw.belExpect ++ [0x10] ++ List.replicate 39 0 : List Byte);
     let f := (body ++ le 4 (bellCheck body) : List Byte);
     let bad := (body ++ le 4 (bellCheck body + 1) : List Byte);
     decide (b.hw.isEth = false ∧ f.length = 64 ∧ field f 0 4 = b.hw.reg 0x00890004 ∧ field f 60 4 = bellCheck (f.take 60) ∧
         b.hw.confirmOk f = true ∧ field bad 60 4 ≠ bellCheck (bad.take 60) ∧ b.hw.bel.fails = [])),
    (let w := isIn .guard (fun w => { w with bel := { w.bel with running := true, waiting := [[1], [2]] } });
     let z := isIn .guard (fun w => { w with bel := { w.bel with running := true, connected := true, confirmAt := 5, sLast := some 9 } });
     decide (z.hw.bel.running = true ∧ z.hw.bel.connected = true ∧ z.hw.bel.confirmAt + 800 * z.hw.belExpect ≤ z.hw.ticks ∧
         z.hw.evt.table.length < 1024)),
    (let b := isIn .guard (fun w => { w with bel := { w.bel with running := true, seq := 2 ^ 32 - 1 } });
     let w := isIn .guard (fun w => { w with bel := { w.bel with running := true, waiting := [[1], [2]] } });
     let body := (le 4 0 ++ le 4 7 ++ le 8 9 ++ le 4 b.hw.belExpect ++ [0x10] ++ List.replicate 39 0 : List Byte);
     let f := (body ++ le 4 (bellCheck body) : List Byte);
     let old := isIn .guard (fun w => { w with bel := { w.bel with running := true, connected := true, sLast := some 7, timeLast := 9 } });
     decide (([] : List Byte).length ≠ 64 ∧ field f 60 4 = bellCheck (f.take 60) ∧ old.hw.confirmOk f = false ∧ b.hw.bel.connected = false))].all id = true := by decide +kernel

theorem witness_DiagnosticCommandsAreServed : [
    (let s := up;
     takesB s (.pmcConfig hd 64 0 0) && takesB s (.pmcConfig hd 63 0xFF00 0) && takesB s (.pmcConfig hd 63 0x0201 0x10) &&
         takesB s (.pmcConfig hd 63 0x0201 0) && decide (63 < (64 : U8).toNat ∧ (63 : U8).toNat ≤ 63 ∧ eventDefined 0xFF00 = false ∧
         eventDefined 0x0201 = true ∧ bits 0x10 4 4 ≠ 0 ∧ bits 0 4 4 = 0)),
    (let s := up;
     takesB s (.pmcFreeze hd 1) && decide (s.hw.pmc.snap = none)),
    (let z := upTo (fun w => { w with pmc := { w.pmc with snap := some ([(3, 7)], 0, 99) } });
     takesB z (.pmcFreeze hd 0) && decide (z.hw.pmc.snap = some ([(3, 7)], 0, 99))),
    (let s := up;
     takesB s (.pmcRead hd 63 1) && decide (s.hw.readDenied 3 0x00900000 = false)),
    (let s := up;
     takesB s (.faultList hd 1) && takesB s (.faultList hd 0) && decide (s.hw.evt.table.length < (1 : U16).toNat ∧
         (0 : U16).toNat ≤ s.hw.evt.table.length)),
    (let g := fid srcSlt 1 2;
     let f := upTo (fun w => { w with evt := { w.evt with table := [{ id := g, raised := true, count := 1, first := 0, last := 0 }] } });
     takesB f (.faultClear hd 0x46 0xA000) && takesB f (.faultClear hd 0x46 0xFFFF) &&
         takesB f (.faultClear hd (BitVec.ofNat 8 srcSlt) (BitVec.ofNat 16 g.code)) && f.hw.isRaised g && f.hw.clearable g &&
         decide (0xA000 ≤ (0xA000 : U16).toNat ∧ (BitVec.ofNat 8 srcSlt).toNat = g.src ∧ (BitVec.ofNat 16 g.code).toNat = g.code ∧ g.code < 0xA000 ∧
         bits g.code 10 3 = 0)),
    (let s := up;
     let l := List.replicate 32 (0xFF : Byte);
     takesB s (.eventSubscribe hd l 5) && takesB s (.eventSubscribe hd l 4) && decide (4 < (5 : U8).toNat ∧ (4 : U8).toNat ≤ 4)),
    (let s := up;
     takesB s (.logbookRead hd)),
    (let s := up;
     takesB s (.bistRun hd 1024) && takesB s (.bistRun hd 9) && decide (1024 ≤ (1024 : U32).toNat ∧ (9 : U32).toNat < 1024))].all id = true := by decide +kernel

theorem witness_DiagnosticRowsTakeEffect : [
    (let s := up;
     let d := upIn .dormant;
     decide (s.hw.outbox = [] ∧ d.hw.outbox = [] ∧ d.hw.dev.mode = .dormant ∧ 255 < 256)),
    (let p := upTo (fun w => ({ w with pmc := { w.pmc with cnt := [(63, 2 ^ 48 - 255)] } } : Hw).setReg 0x009002F8 0x0201);
     decide (p.hw.awake 3 = true ∧ p.hw.pmcCounts = true ∧ (0x0201 : U16) ≠ 0 ∧ bits (p.hw.pmcEvt 63) 0 16 = 0x0201 ∧
         p.hw.pmcPasses 63 0x0201 0 0 0 0 0 = true ∧ mget 0 p.hw.pmc.cnt 63 + 255 = 2 ^ 48) &&
         (List.range 63).all (fun j => decide (bits (p.hw.pmcEvt j) 0 16 ≠ 0x0201))),
    (let s := up;
     let p := upTo (fun w => ({ w with pmc := { w.pmc with cnt := [(63, 2 ^ 48 - 255)] } } : Hw).setReg 0x009002F8 0x0201);
     decide (s.hw.outbox = [] ∧ p.hw.outbox = [] ∧ 63 < 64)),
    (decide (eventDefined ((0xFF00 : Word).toNat % 65536) = false)),
    (decide (eventDefined ((0xFFFF0201 : Word).toNat % 65536) = true ∧ eventSafety 0x0201 = false)),
    (let m := upTo (fun w => w.setReg 0x008A0030 0x80000000);
     decide (m.hw.matrix = false ∧ tb 1 0 = true ∧ tb (m.hw.sltChan 4) 31 = true)),
    (let m := upTo (fun w => w.setReg 0x008A0030 0x80000000);
     decide (tb (0x80000FF0 : Word).toNat 0 = m.hw.matrix ∧ 15 ≤ bits (0x80000FF0 : Word).toNat 8 8)),
    (let s := up;
     let t := upTo (fun w => { w with slt := { w.slt with testDue := true, marks := 3 } });
     decide (s.hw.slt.testDue = false ∧ t.hw.slt.testDue = true ∧ t.hw.awake 3 = true ∧ 4097 % 4096 ≠ 0 ∧ t.hw.evt.table.length < 1024)),
    (let s := up;
     let y := upTo (fun w => ((({ w with slt := { w.slt with scanAt := w.ticks - 5000000 } } : Hw).setReg 0x008A0024 0x80000000).setReg 0x008A0104 0x123).setLed 1 { period := 0, quiet := 15, status := 1, duty := 5 });
     decide (s.hw.ledOn 1 = false ∧ y.hw.ledOn 1 = true ∧ y.hw.awake 3 = true ∧ (y.hw.led 1).period < y.hw.slotsOf 1 / 4096)),
    (let s := up;
     let e3 := upTo (fun w => (w.setReg 0x008A0024 0x80000000).setLed 1 { duty := 5, fails := 3, status := 1 });
     let e2 := upTo (fun w => (w.setReg 0x008A0024 0x80000000).setLed 1 { duty := 5, fails := 2, status := 1 });
     decide (s.hw.ledOn 1 = false ∧ 1499 < 1500 ∧ e3.hw.ledOn 1 = true ∧ e3.hw.awake 3 = true ∧ (e3.hw.led 1).duty ≠ 0 ∧ e3.hw.slt.testDue = false ∧
         (e3.hw.led 1).fails = 3 ∧ (e2.hw.led 1).fails < 3 ∧ (e3.hw.led 1).status ≠ 2)),
    (let s := up;
     decide (s.hw.outbox = [] ∧ 3 < 4))].all id = true := by decide +kernel

theorem witness_SecurityCommandsAreServed : [
    (let s := up;
     takesB s (.secChallenge hd 0) && takesB s (.secChallenge hd 4) && takesB s (.secChallenge hd 3) && decide (3 < (4 : U8).toNat ∧
         1 ≤ (3 : U8).toNat ∧ (3 : U8).toNat ≤ 3)),
    (let s := up;
     let g := be 32 0xede0b14918f739989ac07fea3e0f5ca67f16893d28a57e654b9b0583dd5b8bd ++ be 32 0xede0b14918f739989ac07fea3e0f5ca67f16893d28a57e654b9b0583dd5b8bd;
     takesB s (.secResponse hd 3 g) && decide (s.hw.standing = none)),
    (let ch := ({ scope := 3, nonce := (2 : Byte) :: List.replicate 31 0, since := 99000000000 } : Challenge);
     let c := upTo (fun w => { w with sec := { w.sec with fused := [(7, 0x496cdb00), (8, 0x9fc9cac3), (9, 0xed123826), (10, 0x305f56a4), (11, 0x816894f4), (12, 0x71200657), (13, 0x52611bf9), (14, 0xe6439ec6), (86, 0x01000000)], challenge := some ch }, pantry := { w.pantry with password := { w.pantry.password with fails := 2 } } });
     let g := be 32 0xede0b14918f739989ac07fea3e0f5ca67f16893d28a57e654b9b0583dd5b8bd ++ be 32 0xede0b14918f739989ac07fea3e0f5ca67f16893d28a57e654b9b0583dd5b8bd;
     takesB c (.secResponse hd 1 g) && decide (c.hw.standing = some ch ∧ ch.scope ≠ (1 : U8).toNat)),
    (let ch := ({ scope := 3, nonce := (2 : Byte) :: List.replicate 31 0, since := 99000000000 } : Challenge);
     let c := upTo (fun w => { w with sec := { w.sec with fused := [(7, 0x496cdb00), (8, 0x9fc9cac3), (9, 0xed123826), (10, 0x305f56a4), (11, 0x816894f4), (12, 0x71200657), (13, 0x52611bf9), (14, 0xe6439ec6), (86, 0x01000000)], challenge := some ch }, pantry := { w.pantry with password := { w.pantry.password with fails := 2 } } });
     takesB c (.secResponse hd 3 (List.replicate 64 0)) && decide (ch.scope = (3 : U8).toNat ∧
         c.hw.keyOpens 3 (ecdsaKeys (List.replicate 64 0) (c.hw.challengeHash ch)) = none)),
    (let ch := ({ scope := 3, nonce := (2 : Byte) :: List.replicate 31 0, since := 99000000000 } : Challenge);
     let c := upTo (fun w => { w with sec := { w.sec with fused := [(7, 0x496cdb00), (8, 0x9fc9cac3), (9, 0xed123826), (10, 0x305f56a4), (11, 0x816894f4), (12, 0x71200657), (13, 0x52611bf9), (14, 0xe6439ec6), (86, 0x01000000)], challenge := some ch }, pantry := { w.pantry with password := { w.pantry.password with fails := 2 } } });
     let g := be 32 0xede0b14918f739989ac07fea3e0f5ca67f16893d28a57e654b9b0583dd5b8bd ++ be 32 0xede0b14918f739989ac07fea3e0f5ca67f16893d28a57e654b9b0583dd5b8bd;
     takesB c (.secResponse hd 3 g) && decide (c.hw.standing = some ch ∧ c.hw.keyOpens 3 (ecdsaKeys g (c.hw.challengeHash ch)) = some 1)),
    (let s := up;
     let pw := List.replicate 16 (0x41 : Byte);
     let p := upTo (fun w => { w with sec := { w.sec with fused := [(86, 0x0301)] }, pantry := { w.pantry with password := { isSet := true, salt := [1, 2], hash := w.pwHash [1, 2] pw, fails := 2 } } });
     let q := upTo (fun w => { p.hw with pantry := { p.hw.pantry with password := { p.hw.pantry.password with fails := 3 } } });
     takesB s (.secPassword hd pw) && takesB q (.secPassword hd pw) && decide (tb s.hw.policy 0 = false ∧ tb q.hw.policy 0 = true ∧
         q.hw.pantry.password.isSet = true ∧ q.hw.pwTries ≤ 3)),
    (let pw := List.replicate 16 (0x41 : Byte);
     let p := upTo (fun w => { w with sec := { w.sec with fused := [(86, 0x0301)] }, pantry := { w.pantry with password := { isSet := true, salt := [1, 2], hash := w.pwHash [1, 2] pw, fails := 2 } } });
     takesB p (.secPassword hd pw) && takesB p (.secPassword hd []) && decide (2 < p.hw.pwTries ∧ p.hw.pwHash [1, 2] pw = p.hw.pantry.password.hash ∧
         p.hw.pwHash [1, 2] [] ≠ p.hw.pantry.password.hash ∧ p.hw.evt.table.length < 1023)),
    (let zk := sha256 (List.replicate 64 0);
     let f := upTo (fun w => { w with sec := { w.sec with fused := (List.range 8).map (fun i => (7 + i, field zk (4 * i) 4)) }, pantry := { w.pantry with fw := [(1, [1, 2])] } });
     let hdr := le 4 0x7680F1A5 ++ le 4 9 ++ [1, 0, 0, 0] ++ le 4 16 ++ List.replicate 240 0;
     let ft := upTo (fun w => { f.hw with pantry := { f.hw.pantry with boot := { f.hw.pantry.boot with fw := 0x20 } } });
     !f.cmd.held [srcSec] && decide (f.cmd.liveOps < 4 ∧ f.hw.fwTrial = false ∧ ft.hw.fwTrial = true ∧ hdr.length = 256) &&
         takesB f (.fwUpdate hd ⟨0, 0, 272⟩ (hdr.take 255)) && takesB ft (.fwUpdate hd ⟨0, 0, 272⟩ hdr) && takesB f (.fwUpdate hd ⟨0, 0, 272⟩ hdr) &&
         takesB f (.fwUpdate hd ⟨0, 0, 256⟩ (List.replicate 256 0)) && decide (f.hw.fwHeader hdr = none ∧
         f.hw.fwHeader (List.replicate 256 0) = some 0x0B10 ∧ f.hw.evt.table.length < 1024)),
    (let s := up;
     takesB s (.fwStatus hd)),
    (let k := upIn .service (fun w => { w with sec := { w.sec with fused := [(0, 12)], service := some (1, 1), scopeD := some (2, 5) } });
     takesB k (.secClose hd) && decide (k.hw.sec.service = some (1, 1) ∧ k.hw.sec.scopeD = some (2, 5) ∧ k.hw.dev.mode = .service)),
    (let s := up;
     takesB s (.secClose hd) && decide (s.hw.dev.mode ≠ .service))].all id = true := by decide +kernel

theorem witness_SecurityRowsTakeEffect : [
    (let s := up;
     let c := upTo (fun w => { w with sec := { w.sec with challenge := some { scope := 1, nonce := [], since := 52000000000 } } });
     let d := upTo (fun w => { w with sec := { w.sec with challenge := some { scope := 1, nonce := [], since := 52000000001 } } });
     decide (c.hw.outbox = [] ∧ d.hw.ticks < 52000000001 + 48000000000 ∧ 52000000000 + 48000000000 ≤ c.hw.ticks ∧ c.hw.awake 3 = true ∧
         s.hw.sec.challenge = none)),
    (let s := up;
     decide (s.hw.sec.service = none)),
    (let k := upIn .service (fun w => { w with sec := { w.sec with service := some (1, 1), pwSet := [(0, 5)] } });
     decide (k.hw.outbox = [] ∧ k.hw.sec.service = some (1, 1))),
    (let s := up;
     decide (s.hw.dev.mode ≠ .service)),
    (let k := upIn .service (fun w => { w with sec := { w.sec with service := some (1, 1), pwSet := [(0, 5)] } });
     let n := ({ k with cmd := { spi := some { se with role := 2 }, sessNext := 2 } } : State);
     decide (n.hw.dev.mode = .service ∧ n.cmd.session .spi = some { se with role := 2 } ∧ n.cmd.session .eth = none ∧ n.cmd.session .link = none ∧
         ({ se with role := 2 } : Session).role < 3)),
    (let fu := fun (a v : Nat) (m : SMap Nat) (l : Nat) => upIn .service (fun w => ({ w with sec := { w.sec with fused := [(0, l)] }, pantry := { w.pantry with fuses := m } } : Hw).setReg 0x00980020 a |>.setReg 0x00980024 v);
     let a1 := fu 86 7 [(86, 1)] 0;
     decide (a1.hw.dev.mode = .service ∧ a1.cmd.session .spi = some se ∧ 3 ≤ se.role ∧ a1.hw.reg 0x00980020 % 256 = 86 ∧ isOr2 86 = false ∧
         mget 0 a1.hw.pantry.fuses 86 ≠ 0)),
    (let fu := fun (a v : Nat) (m : SMap Nat) (l : Nat) => upIn .service (fun w => ({ w with sec := { w.sec with fused := [(0, l)] }, pantry := { w.pantry with fuses := m } } : Hw).setReg 0x00980020 a |>.setReg 0x00980024 v);
     let a2 := fu 86 7 [] (3 * 2 ^ 6);
     decide (a2.cmd.session .spi = some se ∧ mget 0 a2.hw.pantry.fuses 86 = 0 ∧ a2.hw.fuseProtected 86 = true)),
    (let fu := fun (a v : Nat) (m : SMap Nat) (l : Nat) => upIn .service (fun w => ({ w with sec := { w.sec with fused := [(0, l)] }, pantry := { w.pantry with fuses := m } } : Hw).setReg 0x00980020 a |>.setReg 0x00980024 v);
     let a3 := fu 86 7 [] 0;
     decide (a3.cmd.session .spi = some se ∧ mget 0 a3.hw.pantry.fuses 86 = 0 ∧ a3.hw.fuseProtected 86 = false ∧
         (7 : Word).toNat = a3.hw.reg 0x00980024)),
    (let fu := fun (a v : Nat) (m : SMap Nat) (l : Nat) => upIn .service (fun w => ({ w with sec := { w.sec with fused := [(0, l)] }, pantry := { w.pantry with fuses := m } } : Hw).setReg 0x00980020 a |>.setReg 0x00980024 v);
     let a4 := fu 63 1 [] 0;
     decide (a4.cmd.session .spi = some se ∧ a4.hw.reg 0x00980020 % 256 = 63 ∧ isOr2 63 = true ∧ a4.hw.fuseProtected 63 = false ∧
         a4.hw.evt.table.length < 1024 ∧ (1 : Word).toNat ≠ mget 0 a4.hw.pantry.fuses 63 ||| or2Fuses (a4.hw.reg 0x00980024)))].all id = true := by decide +kernel

theorem witness_CalibrationCommandsAreServed : [
    (let sc := upIn .scan;
     takesB sc (.calRun hd 4) && decide (sc.hw.calAllowed 4 = false)),
    (let s := up;
     takesB s (.calRun hd 0) && takesB s (.calRun hd 512) && takesB s (.calRun hd 4) && decide (s.hw.calAllowed 0 = true ∧
         s.hw.calAllowed 512 = true ∧ s.hw.calAllowed 8 = true ∧ s.cmd.liveOps < 4 ∧ s.cmd.held (calHolds 512) = false ∧ 512 ≤ (512 : U32).toNat)),
    (let v := upIn .service;
     takesB v (.calRun hd 0x2C) && decide (v.hw.calAllowed 0x2C = true ∧ v.cmd.liveOps < 4 ∧ v.cmd.held (calHolds 0x2C) = false ∧
         v.cmd.calRuns = false)),
    (let s := up;
     decide (s.hw.calAllowed 0x20 = true ∧ s.cmd.calRuns = false) && takesB s (.calRun hd 0x20)),
    (let op := { stepOp 0x60 [] [0x20, 1] with token := 9 };
     let a := ({ hw := w0 .config, cmd := { up.cmd with ops := [op], issued := [9] } } : State);
     takesB a (.calRun hd 1) && decide (a.hw.calAllowed 1 = true ∧ a.cmd.liveOps < 4 ∧ a.cmd.held (calHolds 1) = false ∧ op.opcode = 0x60 ∧
         op.owner = none ∧ op.doneAt = none ∧ op.state = 1 ∧ op.ending = none ∧ op.released = false)),
    (let s := up;
     takesB s (.calStatus hd)),
    (let cs := ({ temp := 1700, mask := 1, skew := [(3, 4)] } : CalSet);
     let cs2 := ({ temp := 1590, mask := 1 } : CalSet);
     let c := upTo (fun w => { w with pantry := { w.pantry with sets := [(2, some cs), (7, some cs2)] } });
     takesB c (.calSetRead hd 8) && takesB c (.calSetRead hd 1) && takesB c (.calSetRead hd 7) && !c.cmd.held [srcCal] &&
         decide (7 < (8 : U8).toNat ∧ c.hw.setAt 1 = none ∧ c.hw.setAt 7 = some cs2 ∧ (7 : U8).toNat ≤ 7)),
    (let v := upIn .service;
     let g1 := ([0x10000, 0, 5, 0, 0x10000, 5, 0, 0, 0x10000] : List U32);
     let g2 := ([0x10000, 0, 0, 0, 0, 0x10000, 0, 0, 0, 0, 0x10000, 0] : List U32);
     let gi := (g1 ++ g2).map (fun v => v.toInt);
     let cm := upTo (fun w => w.setPort 1 { w.port 1 with width := 640, height := 480 });
     takesB cm (.calCamera hd 2 g1 g2) && takesB cm (.calCamera hd 1 g2 g1) && takesB cm (.calCamera hd 1 g1 g2) && decide (1 < (2 : U8).toNat ∧
         cameraCheck 640 480 gi = 0 ∧ cameraCheck 640 480 ((g2 ++ g1).map (fun v => v.toInt)) ≠ 0 ∧ (cm.hw.port 1).width = 640 ∧
         (cm.hw.port 1).height = 480)),
    (let v := upIn .service;
     takesB v (.calFactory hd) && (List.range 8).all (fun i => (v.hw.setAt i).isNone)),
    (let cs := ({ temp := 1700, mask := 1, skew := [(3, 4)] } : CalSet);
     let cs2 := ({ temp := 1590, mask := 1 } : CalSet);
     let c := upTo (fun w => { w with pantry := { w.pantry with sets := [(2, some cs), (7, some cs2)] } });
     let f := upIn .service (fun w => { w with pantry := c.hw.pantry });
     takesB f (.calFactory hd) && decide (f.hw.setAt 7 = some cs2 ∧ f.hw.setAt 7 ≠ none ∧ 7 < 8)),
    (let cs := ({ temp := 1700, mask := 1, skew := [(3, 4)] } : CalSet);
     let cs2 := ({ temp := 1590, mask := 1 } : CalSet);
     let c := upTo (fun w => { w with pantry := { w.pantry with sets := [(2, some cs), (7, some cs2)] } });
     let f := upIn .service (fun w => { w with pantry := c.hw.pantry });
     takesB f (.calFactory hd)),
    (let s := up;
     takesB s (.calTrigger hd 0 1) && takesB s (.calTrigger hd 5 2) && takesB s (.calTrigger hd 255 0) && decide ((5 : U8) ≠ 0 ∧ 1 < (2 : U8).toNat ∧
         (0 : U8).toNat ≤ 1)),
    (let op := { stepOp 0x60 [] [0x20, 1] with token := 9 };
     let a := ({ hw := w0 .config, cmd := { up.cmd with ops := [op], issued := [9] } } : State);
     let gd := upIn .guard;
     let b := upTo (fun w => ({ w with cal := { w.cal with bootDue := true } } : Hw).setReg 0x00800030 0x21);
     let bs := upIn .scan (fun w => { w with cal := b.hw.cal });
     decide (a.cmd.calRuns = true ∧ gd.hw.cal.bootDue = false ∧ gd.hw.dev.mode = .guard ∧ bs.hw.cal.bootDue = true ∧ bs.hw.dev.mode ≠ .config)),
    (let b := upTo (fun w => ({ w with cal := { w.cal with bootDue := true } } : Hw).setReg 0x00800030 0x21);
     decide (b.hw.awake 15 = true ∧ b.cmd.calRuns = false ∧ b.cmd.held (calHolds 0x21) = false ∧ b.hw.cal.bootDue = true ∧ b.hw.dev.mode = .config ∧
         0x21 = b.hw.reg 0x00800030 % 512 ∧ b.cmd.issued.length < 2 ^ 32 - 2)),
    (let e := upIn .scan (fun w => ({ w with cal := { w.cal with due := 1 } } : Hw).setReg 0x00800000 0x14010000);
     decide (e.hw.awake 15 = true ∧ e.cmd.calRuns = false ∧ e.cmd.held (calHolds 1) = false ∧ e.hw.cal.bootDue = false ∧ e.hw.dev.mode ≠ .guard ∧
         tb (e.hw.reg 0x00800000) 16 = true ∧ 1 = e.hw.calDueNow)),
    (let gd := upIn .guard;
     decide (gd.hw.outbox = [] ∧ gd.hw.dev.mode = .guard)),
    (let s := up;
     decide (s.hw.dev.mode ≠ .guard ∧ tb (0x101 : Word).toNat 8 = true)),
    ([2, 4, 7, 8].all (fun q => !tb (0xFFFFFE6B : Word).toNat q))].all id = true := by decide +kernel

theorem witness_OutputAndLaneCommandsAreServed : [
    (let s := up;
     takesB s (.streamConfig hd 0 0) && takesB s (.streamConfig hd 4 0) && takesB s (.streamConfig hd 3 0xFC000000) &&
         takesB s (.streamConfig hd 1 0x00010010) && takesB s (.streamConfig hd 1 0x03FF0113) && decide (3 < (4 : U8).toNat ∧
         bits ((0xFC000000 : U32).toNat &&& 0xFC00FEEC) 24 8 ≠ 0 ∧ (0x03FF0113 : U32).toNat &&& 0xFC00FEEC = 0 ∧
         (0x00010010 : U32).toNat &&& 0xFC00FEEC = 0)),
    (let s := up;
     takesB s (.exportSelect hd (List.replicate 257 0)) && takesB s (.exportSelect hd [1, 768, 2]) && takesB s (.exportSelect hd [1]) &&
         decide (256 < (List.replicate 257 (0 : U16)).length ∧ s.hw.exportable 1 = true ∧ s.hw.exportable 768 = false ∧ s.hw.exportPlacement = none)),
    (let e := upIn .scan (fun w => { w with tnd := { w.tnd with active := some placed1 } });
     takesB e (.exportSelect hd [5, 0, 6]) && decide (e.hw.exportPlacement = some placed1 ∧ e.hw.isSecondary = false) &&
         ([5, 0, 6] : List U16).all (fun k => e.hw.exportable k.toNat)),
    (let h1 := { hd with subaddr := 1 };
     let c := upIn .scan (fun w => { w with cas := { w.cas with index := 1 }, tnd := { w.tnd with active := some placed1 } });
     decide (c.hw.exportPlacement = some placed1 ∧ c.hw.isSecondary = true ∧ c.hw.exportable 768 = true ∧ c.hw.exportable 773 = true) &&
         takesB c (.exportSelect h1 [768, 773]) h1),
    (let s := up;
     let n := upTo (fun w => w.setReg 0x00040000 2);
     let p := upTo (fun w => { w with out := { w.out with ptp := 2, ptpSeen := true, ptpLocked := true, ptpRun := 3, ptpLost := some 5 }, clk := { w.clk with term := 9 } });
     takesB s (.netConfig hd 1 2 3 4 5 3) && takesB n (.netConfig hd 1 2 3 4 5 2) && takesB p (.netConfig hd 1 2 3 4 5 2) &&
         takesB p (.netConfig hd 1 2 3 4 5 0) && decide (2 < (3 : U8).toNat ∧ bits (n.hw.reg 0x00040000) 0 2 = 2 ∧ bits (p.hw.reg 0x00040000) 0 2 ≠ 2)),
    (let s := up;
     takesB s (.laneConfig hd 16 1 4 0 0) && takesB s (.laneConfig hd 15 2 0 0 0) && takesB s (.laneConfig hd 15 0 3 0 0) &&
         takesB s (.laneConfig hd 15 0 2 1 0) && takesB s (.laneConfig hd 15 0 2 0 2) && decide (badProfile 16 1 4 0 0 = some 16 ∧
         badProfile 15 2 0 0 0 = some 17 ∧ badProfile 15 0 3 0 0 = some 18 ∧ badProfile 15 0 2 1 0 = some 19 ∧ badProfile 15 0 2 0 2 = some 20)),
    (let s := up;
     takesB s (.laneConfig hd 0x7F 0 1 1 1) && decide (badProfile 0x7F 0 1 1 1 = none)),
    (let s := up;
     takesB s (.laneStatus hd)),
    (let ve := upIn .config (fun w => { w with lnk := { w.lnk with cfg := putBit w.lnk.cfg 12 true } });
     takesB ve (.laneStepUp hd 1) && decide (ve.hw.isEth = true)),
    (let vd := upIn .config (fun w => { w with lnk := { w.lnk with cfg := 0x0001000F } });
     let va := upIn .config (fun w => { w with lnk := { w.lnk with cfg := 0x0000000F } });
     takesB vd (.laneStepUp hd 2) && takesB va (.laneStepUp hd 3) && takesB va (.laneStepUp hd 0) && decide (vd.hw.isEth = false ∧
         vd.hw.fecDetect = true ∧ va.hw.isEth = false ∧ 2 < (3 : U8).toNat) &&
         (List.range 4).all (fun l => decide ((0 : U8).toNat ≤ (va.hw.lane l).rate))),
    (let va := upIn .config (fun w => { w with lnk := { w.lnk with cfg := 0x0000000F } });
     takesB va (.laneStepUp hd 2) && decide (va.hw.fecDetect = false ∧ va.hw.laneOn 3 = true ∧ (va.hw.lane 3).rate < (2 : U8).toNat)),
    (let v := upIn .service;
     takesB v (.laneTest hd 8 0 1) && takesB v (.laneTest hd 0 0x40 1) && takesB v (.laneTest hd 0 0 0) && takesB v (.laneTest hd 0 0 3600001) &&
         takesB v (.laneTest hd 0 0 3600000) && decide (7 < (8 : U8).toNat ∧ badTest 0x40 0 = true ∧ badTest 0 0 = false ∧
         (v.hw.lane 0).state = .anchored ∧ (v.hw.lane 0).rate = 0 ∧ v.hw.isEth = false ∧ 3600000 < (3600001 : U32).toNat)),
    (let x1 := ({ state := .active, sf0 := 100000000000 } : Lane);
     let one := ({ hw := ((w0 .service).setLane 2 x1), cmd := { link := some se, sessNext := 2 } } : State);
     let hl := { hd with tr := .link };
     takesB one (.laneTest hl 2 0 1) hl && decide ((one.hw.lane 2).state ≠ .anchored ∧ badTest 0 0 = false ∧ one.hw.lastLane .link 2 = true)),
    (let x1 := ({ state := .active, sf0 := 100000000000 } : Lane);
     let two := upIn .service (fun w => ({ w with lnk := { w.lnk with cfg := 0x0F }, tnd := { w.tnd with active := some placed1 } } : Hw).setLane 0 x1 |>.setLane 1 x1);
     takesB two (.laneTest hd 0 0 1) && decide ((two.hw.lane 0).state ≠ .anchored ∧ two.hw.lastLane .spi 0 = false ∧ tb two.hw.streamMask 0 = true ∧
         two.hw.degrade = false)),
    (let x1 := ({ state := .active, sf0 := 100000000000 } : Lane);
     let two := upIn .service (fun w => ({ w with lnk := { w.lnk with cfg := 0x0F }, tnd := { w.tnd with active := some placed1 } } : Hw).setLane 0 x1 |>.setLane 1 x1);
     takesB two (.laneTest hd 1 0x30 3600000) && decide ((two.hw.lane 1).state ≠ .anchored ∧ two.hw.laneUp 0 = true ∧
         tb two.hw.streamMask 1 = false ∧ badTest 0x30 0 = false))].all id = true := by decide +kernel

theorem witness_WatchRowsTakeEffect : [
    (let u5 := ({ state := 5, beat := 99999800000 } : WchUnit);
     let u3 := ({ state := 3, beat := 99999800000 } : WchUnit);
     let wu := fun (w : WchSt) => ({ hw := { w0 .config with wch := w }, cmd := up.cmd } : State);
     let s := wu { a := u5, b := u3, nextAt := 100000000001 };
     decide (s.hw.outbox = [] ∧ s.hw.watchRuns = true ∧ 1 ≤ (s.hw.wch.unit 1).state ∧ (s.hw.wch.unit 1).state ≤ 5 ∧ (up.hw.wch.unit 1).state = 0 ∧
         s.hw.ticks < (s.hw.wch.unit 0).beat + 248000 ∧ (up.hw.wch.unit 1).state < 2)),
    (let u5 := ({ state := 5, beat := 99999800000 } : WchUnit);
     let wu := fun (w : WchSt) => ({ hw := { w0 .config with wch := w }, cmd := up.cmd } : State);
     let o3 := ({ state := 3, beat := 99999752000 } : WchUnit);
     let f := wu { a := u5, b := o3, copy := some 5, nextAt := 100000000001 };
     decide (1 ≠ f.hw.wch.active ∧ 2 ≤ (f.hw.wch.unit 1).state ∧ (f.hw.wch.unit 1).state ≤ 5 ∧ (f.hw.wch.unit 1).failAt = [] ∧
         (f.hw.wch.unit 1).beat + 248000 ≤ f.hw.ticks ∧ f.hw.evt.table.length < 1024 ∧ f.hw.watchRuns = true)),
    (let u3 := ({ state := 3, beat := 99999800000 } : WchUnit);
     let wu := fun (w : WchSt) => ({ hw := { w0 .config with wch := w }, cmd := up.cmd } : State);
     let o5 := ({ state := 5, beat := 99999752000 } : WchUnit);
     let h := wu { a := o5, b := u3 };
     decide (h.hw.outbox = [] ∧ h.hw.watchRuns = true ∧ 0 = h.hw.wch.active ∧ (h.hw.wch.unit 1).state = 3 ∧ (h.hw.wch.unit 0).failAt = [] ∧
         (h.hw.wch.unit 0).beat + 248000 ≤ h.hw.ticks ∧ h.hw.evt.table.length < 1000 ∧ h.hw.wch.copy = none ∧ h.cmd.session .spi = some se)),
    (let wu := fun (w : WchSt) => ({ hw := { w0 .config with wch := w }, cmd := up.cmd } : State);
     let o5 := ({ state := 5, beat := 99999752000 } : WchUnit);
     let l := wu { a := o5, b := {} };
     decide (l.hw.watchRuns = true ∧ (l.hw.wch.unit 1).state < 3 ∧ (l.hw.wch.unit 0).beat + 248000 ≤ l.hw.ticks)),
    (let u5 := ({ state := 5, beat := 99999800000 } : WchUnit);
     let u3 := ({ state := 3, beat := 99999800000 } : WchUnit);
     let wu := fun (w : WchSt) => ({ hw := { w0 .config with wch := w }, cmd := up.cmd } : State);
     let s := wu { a := u5, b := u3, nextAt := 100000000001 };
     let r := wu { a := u5, b := { state := 0, fails := 1, since := 99992000000 } };
     let r1 := wu { a := u5, b := { state := 0, fails := 1, since := 99992000001 } };
     decide (r.hw.watchRuns = true ∧ (r.hw.wch.unit 1).state = 0 ∧ 0 < (r.hw.wch.unit 1).fails ∧ (r.hw.wch.unit 1).since + 8000000 ≤ r.hw.ticks ∧
         r1.hw.ticks < (r1.hw.wch.unit 1).since + 8000000 ∧ (s.hw.wch.unit 1).state ≠ 0)),
    (let u5 := ({ state := 5, beat := 99999800000 } : WchUnit);
     let wu := fun (w : WchSt) => ({ hw := { w0 .config with wch := w }, cmd := up.cmd } : State);
     let d := wu { a := u5, b := { state := 1, fails := 1, since := 99976000000 } };
     let d1 := wu { a := u5, b := { state := 1, fails := 1, since := 99976000001 } };
     decide (d.hw.watchRuns = true ∧ (d.hw.wch.unit 1).state = 1 ∧ (d.hw.wch.unit 1).since + 24000000 ≤ d.hw.ticks ∧
         d1.hw.ticks < (d1.hw.wch.unit 1).since + 24000000 ∧ d.hw.evt.table.length < 1024)),
    (let u5 := ({ state := 5, beat := 99999800000 } : WchUnit);
     let u3 := ({ state := 3, beat := 99999800000 } : WchUnit);
     let wu := fun (w : WchSt) => ({ hw := { w0 .config with wch := w }, cmd := up.cmd } : State);
     let s := wu { a := u5, b := u3, nextAt := 100000000001 };
     let wt := wu { a := u5, b := u3, waiting := true };
     decide (s.hw.ticks < s.hw.wch.nextAt ∧ s.hw.wch.journal = 0 ∧ wt.hw.wch.waiting = true ∧ wt.hw.watchRuns = true)),
    (let u5 := ({ state := 5, beat := 99999800000 } : WchUnit);
     let u3 := ({ state := 3, beat := 99999800000 } : WchUnit);
     let wu := fun (w : WchSt) => ({ hw := { w0 .config with wch := w }, cmd := up.cmd } : State);
     let b := wu { a := u5, b := { u3 with state := 2 }, nextAt := 100000000000, journal := 7, epoch := 4294967295 };
     decide (b.hw.watchRuns = true ∧ b.hw.wch.waiting = false ∧ b.hw.wch.nextAt ≤ b.hw.ticks ∧ b.hw.wch.copy = none ∧ b.hw.wch.swap = none ∧
         2 ≤ b.hw.wch.standby.state ∧ b.hw.wch.standby.state ≤ 4)),
    (let u5 := ({ state := 5, beat := 99999800000 } : WchUnit);
     let u3 := ({ state := 3, beat := 99999800000 } : WchUnit);
     let wu := fun (w : WchSt) => ({ hw := { w0 .config with wch := w }, cmd := up.cmd } : State);
     let b := wu { a := u5, b := { u3 with state := 2 }, nextAt := 100000000000, journal := 7, epoch := 4294967295 };
     let op := { stepOp 0xA5 [] [] with token := 9 };
     let p := ({ hw := { w0 .config with wch := { a := u5, b := u3, swap := some 2 } }, cmd := { up.cmd with ops := [op], issued := [9] } } : State);
     decide (p.hw.watchRuns = true ∧ p.hw.wch.waiting = false ∧ p.hw.wch.nextAt ≤ p.hw.ticks ∧ p.hw.wch.copy = none ∧ p.hw.wch.swap = some 2 ∧
         p.hw.wch.standby.promotable = true ∧ p.transits = false ∧ p.stepping = true)),
    (let u5 := ({ state := 5, beat := 99999800000 } : WchUnit);
     let u3 := ({ state := 3, beat := 99999800000 } : WchUnit);
     let wu := fun (w : WchSt) => ({ hw := { w0 .config with wch := w }, cmd := up.cmd } : State);
     let b := wu { a := u5, b := { u3 with state := 2 }, nextAt := 100000000000, journal := 7, epoch := 4294967295 };
     let y := wu { a := u5, b := u3, copy := some 7 };
     decide (y.hw.watchRuns = true ∧ y.hw.wch.waiting = false ∧ y.hw.wch.nextAt ≤ y.hw.ticks ∧ y.hw.wch.copy = some 7 ∧
         y.hw.wch.stretches.length < 16)),
    (let u5 := ({ state := 5, beat := 99999800000 } : WchUnit);
     let u3 := ({ state := 3, beat := 99999800000 } : WchUnit);
     let wu := fun (w : WchSt) => ({ hw := { w0 .config with wch := w }, cmd := up.cmd } : State);
     let b := wu { a := u5, b := { u3 with state := 2 }, nextAt := 100000000000, journal := 7, epoch := 4294967295 };
     let q := wu { a := u5, b := { u3 with state := 4 }, swap := some 1, epoch := 4294967295 };
     decide (q.hw.watchRuns = true ∧ q.hw.wch.waiting = false ∧ q.hw.wch.nextAt ≤ q.hw.ticks ∧ q.hw.wch.copy = none ∧ q.hw.wch.swap = some 1 ∧
         q.hw.wch.standby.promotable = true ∧ q.transits = false ∧ q.stepping = false ∧ q.hw.wch.active < 2)),
    (let u5 := ({ state := 5, beat := 99999800000 } : WchUnit);
     let u3 := ({ state := 3, beat := 99999800000 } : WchUnit);
     let wu := fun (w : WchSt) => ({ hw := { w0 .config with wch := w }, cmd := up.cmd } : State);
     let s := wu { a := u5, b := u3, nextAt := 100000000001 };
     let b := wu { a := u5, b := { u3 with state := 2 }, nextAt := 100000000000, journal := 7, epoch := 4294967295 };
     let e := wu { a := u5, b := { u3 with state := 2, wasActive := true }, copy := some 7 };
     decide (s.hw.wch.copy = none ∧ s.hw.watchRuns = true ∧ e.hw.watchRuns = true ∧ e.hw.wch.copy = some 7 ∧ e.hw.wch.waiting = false)),
    (let u5 := ({ state := 5, beat := 99999800000 } : WchUnit);
     let u3 := ({ state := 3, beat := 99999800000 } : WchUnit);
     let wu := fun (w : WchSt) => ({ hw := { w0 .config with wch := w }, cmd := up.cmd } : State);
     let s := wu { a := u5, b := u3, nextAt := 100000000001 };
     let b := wu { a := u5, b := { u3 with state := 2 }, nextAt := 100000000000, journal := 7, epoch := 4294967295 };
     let q := wu { a := u5, b := { u3 with state := 4 }, swap := some 1, epoch := 4294967295 };
     decide (s.hw.wch.standby.state ≠ 4 ∧ q.hw.wch.swap ≠ none)),
    (let u5 := ({ state := 5, beat := 99999800000 } : WchUnit);
     let u3 := ({ state := 3, beat := 99999800000 } : WchUnit);
     let wu := fun (w : WchSt) => ({ hw := { w0 .config with wch := w }, cmd := up.cmd } : State);
     let b := wu { a := u5, b := { u3 with state := 2 }, nextAt := 100000000000, journal := 7, epoch := 4294967295 };
     let k := ({ hw := ({ w0 .config with wch := { a := u5, b := { u3 with state := 4, since := 99920000000 } } } : Hw).setReg 0x0001000C 1, cmd := up.cmd } : State);
     decide (k.hw.watchRuns = true ∧ k.hw.wch.standby.state = 4 ∧ k.hw.wch.swap = none ∧
         k.hw.wch.standby.since + 80000000 * min 600 (max 1 (bits (k.hw.reg 0x0001000C) 0 10)) ≤ k.hw.ticks)),
    (let u5 := ({ state := 5, beat := 99999800000 } : WchUnit);
     let u3 := ({ state := 3, beat := 99999800000 } : WchUnit);
     let wu := fun (w : WchSt) => ({ hw := { w0 .config with wch := w }, cmd := up.cmd } : State);
     let o5 := ({ state := 5, beat := 99999752000 } : WchUnit);
     let l := wu { a := o5, b := {} };
     let b := wu { a := u5, b := { u3 with state := 2 }, nextAt := 100000000000, journal := 7, epoch := 4294967295 };
     let q := wu { a := u5, b := { u3 with state := 4 }, swap := some 1, epoch := 4294967295 };
     let k := ({ hw := ({ w0 .config with wch := { a := u5, b := { u3 with state := 4, since := 99920000000 } } } : Hw).setReg 0x0001000C 1, cmd := up.cmd } : State);
     decide (l.hw.wch.standby.promotable = false ∧ q.hw.wch.standby.promotable = true ∧ q.hw.wch.swap ≠ none ∧ k.hw.wch.standby.promotable = true ∧
         k.hw.outbox = []))].all id = true := by decide +kernel

theorem witness_ScheduledTransitionsHappenAtTheirTick : [
    (let s := up;
     let tm := up.hw.clk.time;
     let late := upTo (fun w => { w with dev := { w.dev with sched := some (.scan, w.clk.time + 1) } });
     decide (s.hw.outbox = [] ∧ s.hw.dev.sched = none ∧ late.hw.dev.sched = some (.scan, tm + 1) ∧ late.hw.clk.time.toNat < (tm + 1).toNat)),
    (let tm := up.hw.clk.time;
     let plan0 := planInForce (plan1.set 36 0);
     let ok := fun (w : Hw) => ({ w with dev := { w.dev with sched := some (.scan, w.clk.time) }, tnd := { w.tnd with nextPlan := some plan0 }, spd := { w.spd with biasOn := true, hvMeas := w.hvLow } } : Hw).setAxis 0 { w.axis 0 with state := .run };
     let g := upTo (fun w => ({ ok w with lnk := { w.lnk with cfg := 15 }, bcn := { w.bcn with inhibited := true } } : Hw).setReg 0x00020004 0x10 |>.setReg 0x00028090 0x10);
     decide (g.hw.outbox = [] ∧ g.hw.awake 15 = true ∧ g.hw.dev.sched = some (.scan, tm) ∧ tm.toNat ≤ g.hw.clk.time.toNat ∧ g.hw.dev.mode = .config ∧
         g.hw.preScan = none)),
    (let tm := up.hw.clk.time;
     let f := upTo (fun w => { w with dev := { w.dev with sched := some (.scan, w.clk.time) } });
     decide (f.hw.awake 15 = true ∧ f.hw.dev.sched = some (.scan, tm) ∧ f.hw.dev.mode = .config ∧ f.hw.preScan = some 1)),
    (let tm := up.hw.clk.time;
     let c := upIn .scan (fun w => { w with dev := { w.dev with sched := some (.config, w.clk.time) } });
     decide (c.hw.outbox = [] ∧ c.hw.awake 15 = true ∧ c.hw.dev.mode = .scan ∧ c.hw.dev.sched = some (.config, tm))),
    (let tm := up.hw.clk.time;
     let v := upIn .service (fun w => { w with dev := { w.dev with sched := some (.scan, w.clk.time) } });
     decide (v.hw.awake 15 = true ∧ v.hw.dev.sched = some (.scan, tm) ∧ v.hw.dev.mode ≠ .config ∧ v.hw.dev.mode ≠ .scan)),
    (let s := up;
     let tm := up.hw.clk.time;
     let md := fun (m : Mode) (k t : Nat) (fs : List FaultEntry) => upIn m (fun w => { w with cas := { w.cas with modeAt := some (k, t) }, evt := { w.evt with table := fs } });
     let m1 := md .config 3 (tm.toNat + 1) [];
     decide (s.hw.cas.modeAt = none ∧ m1.hw.cas.modeAt = some (3, tm.toNat + 1))),
    (let tm := up.hw.clk.time;
     let md := fun (m : Mode) (k t : Nat) (fs : List FaultEntry) => upIn m (fun w => { w with cas := { w.cas with modeAt := some (k, t) }, evt := { w.evt with table := fs } });
     let m2 := md .config 3 tm.toNat [{ id := fid srcTnd 3 1, raised := true, count := 1, first := 0, last := 0 }];
     let m4 := md .config 4 tm.toNat [{ id := fid srcTnd 3 1, raised := true, count := 1, first := 0, last := 0 }];
     decide (m2.hw.outbox = [] ∧ m2.hw.awake 15 = true ∧ m2.hw.cas.modeAt = some (3, tm.toNat) ∧ m4.hw.cas.modeAt = some (4, tm.toNat) ∧
         m2.hw.classRaised 3 = true)),
    (let tm := up.hw.clk.time;
     let md := fun (m : Mode) (k t : Nat) (fs : List FaultEntry) => upIn m (fun w => { w with cas := { w.cas with modeAt := some (k, t) }, evt := { w.evt with table := fs } });
     let m3 := md .config 3 tm.toNat [];
     decide (m3.hw.awake 15 = true ∧ m3.hw.dev.mode = .config ∧ m3.hw.classRaised 3 = false)),
    (let tm := up.hw.clk.time;
     let md := fun (m : Mode) (k t : Nat) (fs : List FaultEntry) => upIn m (fun w => { w with cas := { w.cas with modeAt := some (k, t) }, evt := { w.evt with table := fs } });
     let m5 := md .scan 2 tm.toNat [];
     let m6 := md .guard 2 tm.toNat [];
     decide (m5.hw.dev.mode = .scan ∧ m6.hw.dev.mode = .guard ∧ m6.hw.awake 15 = true ∧ m6.hw.cas.modeAt = some (2, tm.toNat))),
    (let tm := up.hw.clk.time;
     let md := fun (m : Mode) (k t : Nat) (fs : List FaultEntry) => upIn m (fun w => { w with cas := { w.cas with modeAt := some (k, t) }, evt := { w.evt with table := fs } });
     let m7 := md .config 2 tm.toNat [];
     decide (m7.hw.dev.mode = .config ∧ m7.hw.awake 15 = true))].all id = true := by decide +kernel

theorem witness_CellsAreGovernedByPriority : [
    (let e := fun (h0 h1 prio : Byte) => ([h0, 0, h1, 0, 0, 0, 3, 0, 2, 0, prio, 0x11, 0, 0, 0, 0] : List Byte);
     let p := List.replicate 64 (0 : Byte) ++ e 0 9 5 ++ e 2 9 7 ++ e 2 4 7 ++ e 8 9 0 ++ List.replicate 192 0;
     decide (field (roiAt p 1) 10 1 = 7 ∧ field (roiAt p 1) 0 2 ≤ 2 ∧ 2 ≤ field (roiAt p 1) 2 2))].all id = true := by decide +kernel

theorem witness_FaultSummaryIsWhatStatusGetCarries : [
    (let s := upTo (fun w => { w with evt := { w.evt with table := [{ id := fid srcTnd 3 1, raised := true, count := 1, first := 0, last := 0 }, { id := fid srcTnd 1 5, raised := false, count := 1, first := 0, last := 0 }] } });
     takesB s (.statusGet hd) && decide (s.hw.dev.mode ≠ .boot ∧ s.hw.wch.lost = false ∧ s.hw.dev.mode ≠ .dormant)),
    (let b := upIn .boot (fun w => { w with dev := { w.dev with step := 5 } });
     let n := ({ b with cmd := {} } : State);
     decide (b.hw.dev.mode = .boot ∧ n.cmd.session hd.tr = none ∧ n.hw.hears hd.tr = true ∧ hd.version = 1 ∧ hd.flags.toNat < 4 ∧ hd.reserved = 0 ∧
         hd.padBad = none ∧ hd.opcode = none ∧ hd.subaddr.toNat = n.hw.cas.index ∧ n.hw.outbox = [] ∧ hd.tr = .spi))].all id = true := by decide +kernel

theorem witness_DeviceTimeReadsWhole : [
    (let s := up;
     decide (s.hw.outbox = [])),
    (let s := up;
     let k := ({ s.hw with clk := { s.hw.clk with time := 0xFFFFFFFFFF, latchHi := 0x12 } } : Hw);
     decide (k.clk.latchHi = (s.hw.readReg 0x00040010).1.clk.latchHi ∧ (0x00040014 : Nat) ≠ 0x00040010)),
    (let s := up;
     takesB s (.timeGet hd))].all id = true := by decide +kernel

theorem witness_StoppedIslandsIgnoreEvents : [
    (let d := upIn .dormant;
     let r := upTo (fun w => { w with dev := { w.dev with inReset := true } });
     let b := upIn .boot (fun w => { w with dev := { w.dev with step := 4 } });
     decide (islandOf .challengeExpiry = some 3 ∧ islandOf .trimRecompute = some 5 ∧ islandOf .dmkIvTimeout = some 6 ∧ d.hw.awake 3 = false ∧
         d.hw.awake 5 = false ∧ b.hw.awake 5 = false ∧ b.hw.awake 6 = false ∧ r.hw.awake 3 = false ∧ keeperEvent .restartStuck = true ∧
         up.hw.isIS = false)),
    (let d := upIn .dormant;
     let r := upTo (fun w => { w with dev := { w.dev with inReset := true } });
     let b := upIn .boot (fun w => { w with dev := { w.dev with step := 4 } });
     decide (d.hw.dev.mode = .dormant ∧ r.hw.held = true ∧ b.hw.dev.mode = .boot ∧ b.hw.dev.step < 5))].all id = true := by decide +kernel

end Sys2Proof.Tests
end

section
/-! SUPPORT. Islands that are stopped: what their events come to (R2, R56, R68, R401). -/

namespace Sys2Proof.Machine

theorem State.clocked_stopped {s : State} {n : Nat} (f : Hw → Hw) (h : s.hw.awake n = false) : s.clocked n f = s := by
  simp [State.clocked, h]

theorem State.keepers_stopped {s : State} {n : Nat} (f : Hw → Hw) (h : s.hw.awake n = false) : s.keepers n f = s := by
  simp [State.keepers, State.clocked_stopped f h]

theorem State.keepers_absent {s : State} (n : Nat) (f : Hw → Hw) (h : s.hw.isIS = false) : s.keepers n f = s := by
  simp [State.keepers, h]

theorem Outcome.next_ite (p : Prop) [Decidable p] (s t : State) :
    (.next (if p then t else s) : Out) = .next s ∨ (.next (if p then t else s) : Out) = .next t := by
  split
  · exact .inr rfl
  · exact .inl rfl

/-- An event of the Keepers or of Bell is a step of theirs on the island it belongs to, or names a part that does not exist. -/
theorem exec_keeperEvent {c : Instr} (h : keeperEvent c = true) :
    ∃ n f, islandOf c = some n ∧ ∀ s, exec c s = .next s ∨ exec c s = .next (s.keepers n f) := by
  cases c <;> cases h
  case keeperClockCheck | keeperSelftest | testPulse | kprTideTimeout | keeperSample | clusterSearch | keeperStale | autoRestart =>
    exact ⟨_, _, rfl, fun s => Outcome.next_ite _ s _⟩
  all_goals exact ⟨_, _, rfl, fun _ => .inr rfl⟩

/-- Every other event of an island is a clocked step; the end of a Tide conversion, which can fault, is one only while the island runs. -/
theorem exec_stopped {c : Instr} {n : Nat} {s : State} (hk : keeperEvent c = false) (h : islandOf c = some n) (ha : s.hw.awake n = false) :
    exec c s = .next s := by
  have clocked : ∀ f, (.next (s.clocked n f) : Out) = .next s := fun f => congrArg _ (State.clocked_stopped f ha)
  have guarded : ∀ (p : Prop) [Decidable p] f, (.next (if p then s.clocked n f else s) : Out) = .next s := fun p _ f => by
    rw [State.clocked_stopped f ha, ite_self]
  cases c <;> cases h <;> cases hk
  case tideConversionEnd => exact (if_neg (by simp [ha])).trans (clocked _)
  case tickDeadline | axisStartTimeout | resonantDacUpdate | sifterSlot | sifterParityError | pointPacketFlush => exact guarded _ _
  all_goals exact clocked _

theorem Hw.awake_held {hw : Hw} (n : Nat) (h : hw.held = true) : hw.awake n = false := by simp [Hw.awake, h]
theorem Hw.awake_dormant {hw : Hw} (n : Nat) (h : hw.dev.mode = .dormant) : hw.awake n = false := by simp [Hw.awake, h]
theorem Hw.awake_boot {hw : Hw} {n : Nat} (h : hw.dev.mode = .boot) (hn : hw.dev.step < n) : hw.awake n = false := by
  simp [Hw.awake, h, hn]

/-- Settles O60: every event of an island is a clocked step of that island, one of the Keepers a step of theirs. -/
theorem stoppedIslandsIgnoreEvents : Obligations.StoppedIslandsIgnoreEvents := by
  intro c s
  refine ⟨fun n hn ha => ?_, fun hk hi => ?_, ?_, fun hb n hn => Hw.awake_boot hb hn⟩
  · cases hk : keeperEvent c with
    | false => exact exec_stopped hk hn ha
    | true =>
      obtain ⟨m, f, hm, he⟩ := exec_keeperEvent hk
      obtain rfl : m = n := Option.some.inj (hm.symm.trans hn)
      exact (he s).elim id (fun e => by rw [e, State.keepers_stopped f ha])
  · obtain ⟨m, f, -, he⟩ := exec_keeperEvent hk
    exact (he s).elim id (fun e => by rw [e, State.keepers_absent m f hi])
  · rintro (hd | hh) n
    · exact Hw.awake_dormant n hd
    · exact Hw.awake_held n hh

end Sys2Proof.Machine
end

section
/-! SUPPORT. Reading and writing a register: what a read keeps, what a write by the access codes alone stores, what stops a write. -/

namespace Sys2Proof.Machine

/-- A step of the hardware whose function is known to leave `t`, with nothing to deliver. -/
theorem next_hwStep {s : State} {f : Hw → Hw} {t : Hw} (e : f s.hw = t) (h : t.outbox = []) :
    (.next (s.hwStep f) : Out) = .next { s with hw := t } := by
  subst e
  rw [State.hwStep_quiet s f h]

/-! ### Reads -/

theorem Hw.pmcLatch_ticks (w : Hw) (off : Nat) : (w.pmcLatch off).ticks = w.ticks := by
  unfold Hw.pmcLatch; repeat' split
  all_goals rfl

theorem Hw.evtLatch_ticks (w : Hw) (off : Nat) : (w.evtLatch off).ticks = w.ticks := by
  unfold Hw.evtLatch; repeat' split
  all_goals rfl

theorem Hw.latchRead_ticks (w : Hw) (a : Nat) : (w.latchRead a).ticks = w.ticks := by
  unfold Hw.latchRead
  dsimp only
  split
  case h_9 => exact Hw.pmcLatch_ticks w _
  case h_10 => exact Hw.evtLatch_ticks w _
  all_goals repeat' split
  all_goals rfl

theorem Hw.rcClear_ticks (w : Hw) (a : Nat) : (w.rcClear a).ticks = w.ticks := by
  unfold Hw.rcClear
  dsimp only
  repeat' split
  all_goals rfl

theorem Hw.tileTabRead_ticks (w : Hw) (n : Nat) : (w.tileTabRead n).ticks = w.ticks := by
  unfold Hw.tileTabRead; dsimp only; split <;> rfl

theorem sftPop_ticks (w : Hw) : (sftPop w).ticks = w.ticks := by
  unfold sftPop Hw.popVal; dsimp only; split <;> rfl

/-- Time does not pass in a read. -/
theorem Hw.readReg_ticks (w : Hw) (a : Nat) : (w.readReg a).1.ticks = w.ticks := by
  unfold Hw.readReg
  dsimp only
  split
  · exact sftPop_ticks w
  · split
    · exact Hw.tileTabRead_ticks w _
    · rw [Hw.rcClear_ticks, Hw.latchRead_ticks]

/-- A register of any block but Watch's command side is read from the hardware. -/
theorem State.readReg_of_hw (s : State) {a : Nat} (h : a ≠ 0x00001000) (h' : a ≠ 0x00001004) :
    s.readReg a = ({ s with hw := (s.hw.readReg a).1 }, (s.hw.readReg a).2) := by
  unfold State.readReg
  rw [if_neg h, if_neg h']

/-- Watch's side is read, never changed, by a read of a register, and time does not pass. -/
theorem State.readReg_keeps (s : State) (a : Nat) : (s.readReg a).1.cmd = s.cmd ∧ (s.readReg a).1.hw.ticks = s.hw.ticks := by
  by_cases h : a = 0x00001000
  · subst h; exact ⟨rfl, rfl⟩
  · by_cases h' : a = 0x00001004
    · subst h'; exact ⟨rfl, rfl⟩
    · rw [State.readReg_of_hw s h h']
      exact ⟨rfl, Hw.readReg_ticks s.hw a⟩

@[simp] theorem State.readReg_cmd (s : State) (a : Nat) : (s.readReg a).1.cmd = s.cmd := (s.readReg_keeps a).1
@[simp] theorem State.readReg_ticks (s : State) (a : Nat) : (s.readReg a).1.hw.ticks = s.hw.ticks := (s.readReg_keeps a).2

theorem Hw.rcClear_none (w : Hw) (a : Nat) (h : ∀ d, regDesc a = some d → d.rc = 0) : w.rcClear a = w := by
  unfold Hw.rcClear
  split
  · rfl
  · next d hd => rw [if_pos (h d hd)]

/-- A read of a register of TND that clears nothing changes nothing. -/
theorem State.readReg_tnd (s : State) {a : Nat} (hb : a / 0x10000 = 0x58) (h : ∀ d, regDesc a = some d → d.rc = 0) :
    s.readReg a = (s, s.hw.peek a) := by
  have latch : s.hw.latchRead a = s.hw := by simp only [Hw.latchRead, hb]
  have read : s.hw.readReg a = (s.hw, s.hw.peek a) := by
    unfold Hw.readReg
    dsimp only
    rw [if_neg (by omega), if_neg (by omega), latch, Hw.rcClear_none s.hw a h]
  rw [State.readReg_of_hw s (by omega) (by omega), read]

/-! ### Writes -/

theorem Hw.writeReg_unnamed (w : Hw) (sv : Bool) {a : Nat} (v : Nat) (h : a % 4 ≠ 0 ∨ regDesc a = none) :
    w.writeReg sv a v = { w with ack := 0x05, ackData := le 2 16 } :=
  if_pos (by simpa using h)

theorem Hw.writeReg_locked (w : Hw) (sv : Bool) {a : Nat} (v : Nat) {d : RegDesc} (ha : a % 4 = 0) (hd : regDesc a = some d)
    (hl : w.locked a = true) : w.writeReg sv a v = { w with ack := 0x0A, ackData := le 4 a } := by
  unfold Hw.writeReg
  rw [if_neg (by simp [ha, hd]), if_pos hl]
  rfl

theorem Hw.writeReg_unlocked (w : Hw) (sv : Bool) {a : Nat} (v : Nat) {d : RegDesc} (ha : a % 4 = 0) (hd : regDesc a = some d)
    (hl : w.locked a = false) : w.writeReg sv a v = w.storeReg sv a v := by
  unfold Hw.writeReg
  rw [if_neg (by simp [ha, hd]), if_neg (by simp [hl])]

theorem Hw.plainWrite_eq (w : Hw) {a : Nat} (v : Nat) {d : RegDesc} (hd : regDesc a = some d) :
    w.plainWrite a v = { w with
      ack := 0, ackData := []
      regs := mset (wordOf (regReset a)) w.regs a
        (wordOf ((clampWrite a v &&& (d.rw ||| d.rwl)) |||
          (w.reg a &&& (0xFFFFFFFF ^^^ (d.rw ||| d.rwl)) &&& (0xFFFFFFFF ^^^ (v &&& d.w1c))))) } := by
  unfold Hw.plainWrite
  rw [hd]
  rfl

@[simp] theorem Hw.plainWrite_outbox (w : Hw) (a v : Nat) : (w.plainWrite a v).outbox = w.outbox := by
  unfold Hw.plainWrite
  split <;> rfl

@[simp] theorem Hw.plainWrite_bcn (w : Hw) (a v : Nat) : (w.plainWrite a v).bcn = w.bcn := by
  unfold Hw.plainWrite
  split <;> rfl

/-! In TND, OUT, EVT and CAS no register has a rule of its own: the lock is GUARD's and the access codes say what is stored. -/

section Plain
variable {a : Nat} (hb : a / 0x10000 ∈ [0x58, 0x60, 0x91, 0xA0])
include hb

theorem Hw.locked_plain (w : Hw) {d : RegDesc} (hd : regDesc a = some d) :
    w.locked a = (decide (w.dev.mode = .guard) && decide (d.rwl ≠ 0)) := by
  simp only [List.mem_cons, List.not_mem_nil, or_false] at hb
  rcases hb with h | h | h | h <;> simp only [Hw.locked, hd, h]

theorem Hw.storeReg_plain (w : Hw) (sv : Bool) (v : Nat) : w.storeReg sv a v = w.plainWrite a v := by
  simp only [List.mem_cons, List.not_mem_nil, or_false] at hb
  rcases hb with h | h | h | h <;> simp [Hw.storeReg, h]

theorem Hw.writeReg_plain (w : Hw) (sv : Bool) (v : Nat) {d : RegDesc} (ha : a % 4 = 0) (hd : regDesc a = some d)
    (hg : w.dev.mode ≠ .guard ∨ d.rwl = 0) : w.writeReg sv a v = w.plainWrite a v := by
  have hl : w.locked a = false := by
    rw [Hw.locked_plain hb w hd]
    rcases hg with h | h <;> simp [h]
  rw [Hw.writeReg_unlocked w sv v ha hd hl, Hw.storeReg_plain hb]

theorem Hw.writeReg_plain_guard (w : Hw) (sv : Bool) (v : Nat) {d : RegDesc} (ha : a % 4 = 0) (hd : regDesc a = some d)
    (hg : w.dev.mode = .guard) (hr : d.rwl ≠ 0) : w.writeReg sv a v = { w with ack := 0x0A, ackData := le 4 a } :=
  Hw.writeReg_locked w sv v ha hd (by rw [Hw.locked_plain hb w hd]; simp [hg, hr])

end Plain

/-- In LNK, GLZ and TID a read clears the RC bits of the stored word. -/
theorem Hw.rcClear_stored (w : Hw) {a : Nat} {d : RegDesc} (hd : regDesc a = some d) (hr : d.rc ≠ 0) (hb : a / 0x10000 ∈ [0x68, 0x70, 0x79]) :
    w.rcClear a = w.setReg a (w.reg a &&& (0xFFFFFFFF ^^^ d.rc)) := by
  simp only [List.mem_cons, List.not_mem_nil, or_false] at hb
  rcases hb with h | h | h <;> simp [Hw.rcClear, hd, hr, h]

/-! ### A poll -/

theorem State.endWait_eq {s t : State} (h : t.cmd = s.cmd) (tr : Transport) (x : Session) (p : Packet) (a : Ans) :
    t.endWait tr x p a =
      { t with cmd := (s.cmd.setSession tr (some { x with wait := none })).answer tr { p with status := a.status, payload := a.data } } := by
  unfold State.endWait
  rw [h]

/-- A waiting poll ends with the value that matches, or with TIMEOUT once its time is past. -/
theorem execRegPollEnd_poll {s : State} {tr : Transport} {x : Session} {a m v due : Nat} {p : Packet} (hs : s.cmd.session tr = some x)
    (hw : x.wait = some (.poll a m v due, p)) :
    ((s.readReg a).2 &&& m = v → execRegPollEnd tr s = .next ((s.readReg a).1.endWait tr x p (ansOk (le 4 (s.readReg a).2)))) ∧
    ((s.readReg a).2 &&& m ≠ v → due ≤ s.hw.ticks → execRegPollEnd tr s = .next ((s.readReg a).1.endWait tr x p { status := 0x07 })) := by
  unfold execRegPollEnd
  simp only [hs, hw, State.pollNow, State.readReg_ticks, decide_eq_true_eq]
  exact ⟨fun h => by rw [if_pos h], fun h hd => by rw [if_neg h, if_pos hd]⟩

/-- Settles O19: outside the rules of single registers, the access codes, the lock of GUARD and the terms of a poll say it all. -/
theorem registerRowsActByTheirAccessCodes : Obligations.RegisterRowsActByTheirAccessCodes := by
  intro s hq
  refine ⟨fun a v h => ?_, fun a v d ha hd hb => ⟨fun hg hr => ?_, fun hg => ?_⟩, fun a d hd hr hb => ?_, fun a h => ?_,
    next_hwStep rfl hq, ?_⟩
  · exact next_hwStep (Hw.writeReg_unnamed s.hw false v.toNat h) hq
  · exact next_hwStep (Hw.writeReg_plain_guard hb s.hw false v.toNat ha hd hg hr) hq
  · exact next_hwStep ((Hw.writeReg_plain hb s.hw false v.toNat ha hd hg).trans (Hw.plainWrite_eq s.hw v.toNat hd)) hq
  · exact next_hwStep (Hw.rcClear_stored s.hw hd hr hb) hq
  · exact next_hwStep (Hw.rcClear_none s.hw a.toNat h) hq
  · intro tr x a m v due p hs hw
    obtain ⟨hit, late⟩ := execRegPollEnd_poll hs hw
    have told := fun b => congrArg (Host.Outcome.next (φ := Fault) (ρ := Refusal)) (State.endWait_eq (s.readReg_cmd a) tr x p b)
    exact ⟨fun h => (hit h).trans (told _), fun h hd => (late h hd).trans (told _)⟩

end Sys2Proof.Machine
end

section
/-! SUPPORT. The registers of Beacon with rules of their own: BCN_CODE_SEED, BCN_BANK and BCN_DRV (R12, R41, R81, R82, R91). -/

namespace Sys2Proof.Machine

theorem regDesc_codeSeed : ∀ b < 4, regDesc (0x00020010 + 4 * b) = some { base := 0x00020010, n := 4, rwl := 0xFFFFFFFF } := by decide
theorem regDesc_bank : ∀ b < 4, regDesc (0x00020020 + 4 * b) = some { base := 0x00020020, n := 4, rwl := 0xFFFF0031 } := by decide
theorem regDesc_drv : ∀ a < 16, regDesc (0x00020040 + 4 * a) = some { base := 0x00020040, n := 16, rwl := 0xCF } := by decide

section Locks
variable (w : Hw) (v : Nat) {a : Nat} {d : RegDesc} (ha : a / 0x10000 = 0x02 ∧ a % 0x10000 < 0x8090 ∧ a % 4 = 0) (hd : regDesc a = some d)
  (hr : d.rwl ≠ 0)
include ha hd hr

/-- Below Lantern's grid registers a register of Beacon or Lantern is locked in GUARD where it has an RWL field. -/
theorem Hw.locked_bcn : w.locked a = decide (w.dev.mode = .guard) := by
  obtain ⟨hb, ho, -⟩ := ha
  simp [Hw.locked, hd, hb, hr, Nat.not_le.mpr ho]

theorem Hw.writeReg_bcn_guard (hg : w.dev.mode = .guard) : w.writeReg false a v = { w with ack := 0x0A, ackData := le 4 a } :=
  Hw.writeReg_locked w false v ha.2.2 hd (by simp [Hw.locked_bcn w ha hd hr, hg])

theorem Hw.writeReg_bcn (hg : w.dev.mode ≠ .guard) : w.writeReg false a v = w.storeReg false a v :=
  Hw.writeReg_unlocked w false v ha.2.2 hd (by simp [Hw.locked_bcn w ha hd hr, hg])

end Locks

theorem Hw.writeReg_codeSeed (w : Hw) {b : Nat} (v : Nat) (hb : b < 4) (hg : w.dev.mode ≠ .guard) :
    w.writeReg false (0x00020010 + 4 * b) v = bcnSeedWrite b v w := by
  have h1 : (0x00020010 + 4 * b) / 0x10000 = 0x02 := by omega
  have h2 : (0x00020010 + 4 * b) % 0x10000 = 0x10 + 4 * b := by omega
  rw [Hw.writeReg_bcn w v (by omega) (regDesc_codeSeed b hb) (by decide) hg]
  unfold Hw.storeReg
  simp only [h1, h2]
  rw [if_pos (by omega), show (0x10 + 4 * b - 0x10) / 4 = b by omega]

theorem Hw.writeReg_bank (w : Hw) {b : Nat} (v : Nat) (hb : b < 4) (hg : w.dev.mode ≠ .guard) :
    w.writeReg false (0x00020020 + 4 * b) v = bcnBankStore b v w := by
  have h1 : (0x00020020 + 4 * b) / 0x10000 = 0x02 := by omega
  have h2 : (0x00020020 + 4 * b) % 0x10000 = 0x20 + 4 * b := by omega
  rw [Hw.writeReg_bcn w v (by omega) (regDesc_bank b hb) (by decide) hg]
  unfold Hw.storeReg
  simp only [h1, h2]
  rw [if_neg (by omega), if_pos (by omega), show (0x20 + 4 * b - 0x20) / 4 = b by omega]

theorem Hw.writeReg_drv (w : Hw) {a : Nat} (v : Nat) (ha : a < 16) (hg : w.dev.mode ≠ .guard) :
    w.writeReg false (0x00020040 + 4 * a) v = bcnDrvStore a v w := by
  have h1 : (0x00020040 + 4 * a) / 0x10000 = 0x02 := by omega
  have h2 : (0x00020040 + 4 * a) % 0x10000 = 0x40 + 4 * a := by omega
  rw [Hw.writeReg_bcn w v (by omega) (regDesc_drv a ha) (by decide) hg]
  unfold Hw.storeReg
  simp only [h1, h2]
  rw [if_neg (by omega), if_neg (by omega), if_pos (by omega), show (0x40 + 4 * a - 0x40) / 4 = a by omega]

theorem bcnBankStore_outbox (b v : Nat) (w : Hw) : (bcnBankStore b v w).outbox = w.outbox := by
  unfold bcnBankStore
  split
  · rfl
  · exact Hw.plainWrite_outbox _ _ _

/-- A seed written to a bank waits for its next block and is accepted. -/
theorem bcnSeedWrite_effect (b v : Nat) (w : Hw) :
    (bcnSeedWrite b v w).outbox = w.outbox ∧ (bcnSeedWrite b v w).ack = 0 ∧
    (bcnSeedWrite b v w).bank b = { w.bank b with coding := { (w.bank b).coding with
      seed := some (if v % 2 ^ 31 = 0 then Config.derivedSeed b % 2 ^ 31 else v % 2 ^ 31) } } :=
  ⟨rfl, rfl, mget_mset_same _ _ _ _⟩

/-- A present driver of a lower address serves the block that a word for BCN_DRV[a] names. -/
def Hw.blockTaken (w : Hw) (a v : Nat) : Prop := ∃ k < a, tb (w.drvReg k) 7 = true ∧ bits (w.drvReg k) 0 4 = bits v 0 4

/-- The word that BCN_DRV[a] is to hold, `x`: stored by its access codes, MAP due where it has PRESENT. -/
theorem bcnDrvStore_effect (a v x : Nat) (w : Hw) (h : (¬ w.blockTaken a v ∧ x = v) ∨ (w.blockTaken a v ∧ x = putBit v 7 false)) :
    (bcnDrvStore a v w).outbox = w.outbox ∧ (bcnDrvStore a v w).regs = (w.plainWrite (0x00020040 + 4 * a) x).regs ∧
    (bcnDrvStore a v w).driver a = { w.driver a with mapDue := tb x 7 } := by
  have taken : (List.range a).any (fun k => tb (w.drvReg k) 7 && decide (bits (w.drvReg k) 0 4 = bits v 0 4)) = true ↔ w.blockTaken a v := by
    simp [Hw.blockTaken]
  have word : (if (List.range a).any (fun k => tb (w.drvReg k) 7 && decide (bits (w.drvReg k) 0 4 = bits v 0 4)) = true
      then putBit v 7 false else v) = x := by
    rcases h with ⟨n, rfl⟩ | ⟨t, rfl⟩
    · exact if_neg (fun e => n (taken.mp e))
    · exact if_pos (taken.mpr t)
  unfold bcnDrvStore
  simp only [word, Hw.driver_setDriver]
  exact ⟨Hw.plainWrite_outbox _ _ _, rfl, by simp [Hw.driver]⟩

theorem tb_putBit_false (v i : Nat) : tb (putBit v i false) i = false := by
  unfold tb putBit
  by_cases h : v.testBit i = true
  · have e : (v - 2 ^ i) / 2 ^ i = v / 2 ^ i - 1 := by simpa using Nat.sub_mul_div v (2 ^ i) 1
    have o : v / 2 ^ i % 2 = 1 := by simpa [Nat.testBit_eq_decide_div_mod_eq] using h
    rw [if_pos h, if_neg Bool.false_ne_true, Nat.testBit_eq_decide_div_mod_eq, e, decide_eq_false_iff_not]
    omega
  · simp [h]

/-- BCN_DRV_WRITE outside GUARD, where `x` is the word that the register is to hold. -/
theorem exec_bcnDrvWrite {s : State} (hq : s.hw.outbox = []) {a x : Nat} (v : Word) (ha : a < 16) (hg : s.hw.dev.mode ≠ .guard)
    (hx : (¬ s.hw.blockTaken a v.toNat ∧ x = v.toNat) ∨ (s.hw.blockTaken a v.toNat ∧ x = putBit v.toNat 7 false)) :
    ∃ u, exec (.bcnDrvWrite a v) s = .next u ∧ u.cmd = s.cmd ∧ u.hw.regs = (s.hw.plainWrite (0x00020040 + 4 * a) x).regs ∧
      u.hw.driver a = { s.hw.driver a with mapDue := tb x 7 } := by
  obtain ⟨ho, hregs, hd⟩ := bcnDrvStore_effect a v.toNat x s.hw hx
  exact ⟨_, (congrArg _ (if_pos ha)).trans (next_hwStep (Hw.writeReg_drv s.hw v.toNat ha hg) (ho.trans hq)), rfl, hregs, hd⟩

/-- Settles O22: outside GUARD each write comes to the store of its register, in GUARD to LOCKED. -/
theorem emissionRegistersByTheirRules : Obligations.EmissionRegistersByTheirRules := by
  intro s hq
  refine ⟨fun b v hb hg => ?_, fun b v hb hg => ?_, fun a v ha hg => ⟨fun hn => ?_, fun ht => ?_⟩,
    fun n v hg => ⟨fun hn => ?_, fun hn => ?_, fun hn => ?_⟩⟩
  · obtain ⟨ho, hack, hbank⟩ := bcnSeedWrite_effect b v.toNat s.hw
    exact ⟨_, (congrArg _ (if_pos hb)).trans (next_hwStep (Hw.writeReg_codeSeed s.hw v.toNat hb hg) (ho.trans hq)), rfl, hack, hbank⟩
  · exact (congrArg _ (if_pos hb)).trans
      (next_hwStep (Hw.writeReg_bank s.hw v.toNat hb hg) ((bcnBankStore_outbox b _ _).trans hq))
  · exact exec_bcnDrvWrite hq v ha hg (.inl ⟨hn, rfl⟩)
  · obtain ⟨u, he, hc, hregs, hd⟩ := exec_bcnDrvWrite hq v ha hg (.inr ⟨ht, rfl⟩)
    exact ⟨u, he, hc, hregs, hd.trans (by rw [tb_putBit_false])⟩
  · exact (congrArg _ (if_pos hn)).trans
      (next_hwStep (Hw.writeReg_bcn_guard s.hw v.toNat (by omega) (regDesc_bank n hn) (by decide) hg) hq)
  · exact (congrArg _ (if_pos hn)).trans
      (next_hwStep (Hw.writeReg_bcn_guard s.hw v.toNat (by omega) (regDesc_drv n hn) (by decide) hg) hq)
  · exact (congrArg _ (if_pos hn)).trans
      (next_hwStep (Hw.writeReg_bcn_guard s.hw v.toNat (by omega) (regDesc_codeSeed n hn) (by decide) hg) hq)

end Sys2Proof.Machine
end

section
/-! SUPPORT. The register access opcodes (R9, R12, R36, R41, R43, R168): what stops a write, what a served command makes of its registers. -/

namespace Sys2Proof.Machine

/-! ### Commands that are taken, with anything or nothing to deliver, or a wait -/

section Taken
variable {s : State} {c : Instr} {h : Hdr} {x : Session} {body : Caller → State → State × Ans} {t : State} {a : Ans}
  (k : s.Takes c h x) (hop : opOf c ≠ 0x01) (hn : (rowOf c).wide = false)
  (he : exec c s = .next (s.serve c h (rowOf c) (paramsOf c) body)) (hb : body (callerOf h (s.took h x).cmd) (s.took h x) = (t, a))
include k hop hn he hb

theorem State.exec_answers (hw : a.wait = none) : exec c s = .next (t.drain.reply h (opOf c) a) := by
  have ho := rowOf_op c h k.1
  rw [he, State.serve_done k.2 (ho ▸ hop) hb hw (.inr (.inl hn)), ho]

theorem State.exec_waits {w : Wait} (hw : a.wait = some w) : ∃ p, exec c s = .next (t.drain.await h.tr w p) := by
  have ho := rowOf_op c h k.1
  have hp : (s.took h x).perform h (rowOf c) (paramsOf c) body = (t, a) := by
    unfold State.perform
    rw [State.judge_ready k.2]
    simp only [hn, hb, Bool.false_eq_true, false_and, if_false]
  refine ⟨t.drain.hw.replyTo (rowOf c).op h a, ?_⟩
  rw [he, State.serve_ready k.2 (ho ▸ hop)]
  unfold State.run
  simp only [hp, hw]

end Taken

/-- A command whose meaning is known to leave only the hardware changed, with nothing to deliver. -/
theorem State.served_of_exec {s t : State} {c : Instr} {h : Hdr} {x : Session} {w : Hw} {a : Ans}
    (he : exec c s = .next (t.drain.reply h (opOf c) a)) (ht : t = { s.took h x with hw := w }) (hq : w.outbox = []) : s.Served c h x w a := by
  subst ht
  rw [State.drain_quiet _ hq] at he
  exact he

@[simp] theorem State.took_held (s : State) (h : Hdr) (x : Session) (b : List Nat) : (s.took h x).cmd.held b = s.cmd.held b := by simp

/-! ### What stops a write -/

theorem State.writeStop_free {s : State} {as' : List Nat} (off : Nat)
    (h : ∀ a ∈ as', badAddr a = false ∧ s.hw.locked a = false ∧ s.cmd.held [srcOfAddr a] = false) : s.writeStop as' off = none := by
  have hl : as'.find? (fun a => !badAddr a && s.hw.locked a) = none := List.find?_eq_none.mpr fun a ha => by simp [h a ha]
  have hh : as'.any (fun a => !badAddr a && s.cmd.held [srcOfAddr a]) = false := List.any_eq_false.mpr fun a ha => by simp [h a ha]
  have hb : as'.any badAddr = false := List.any_eq_false.mpr fun a ha => by simp [h a ha]
  simp only [State.writeStop, hl, hh, hb, Bool.false_eq_true, if_false]

theorem State.writeStop_bad (s : State) {a : Nat} (off : Nat) (h : badAddr a = true) : s.writeStop [a] off = some (ansBad off) := by
  simp [State.writeStop, h]

theorem State.writeStop_locked (s : State) {a : Nat} (off : Nat) (h : badAddr a = false) (hl : s.hw.locked a = true) :
    s.writeStop [a] off = some (ansLocked a) := by
  simp [State.writeStop, h, hl]

theorem State.writeStop_held (s : State) {a : Nat} (off : Nat) (h : badAddr a = false) (hl : s.hw.locked a = false)
    (hh : s.cmd.held [srcOfAddr a] = true) : s.writeStop [a] off = some ansBusy := by
  simp [State.writeStop, h, hl, hh]

/-! ### Writes and their answers -/

/-- No write makes a command wait. -/
theorem State.writeReg_wait (s : State) (c : Caller) (a v off : Nat) : (s.writeReg c a v off).2.wait = none := by
  unfold State.writeReg
  dsimp only
  split <;> rfl

theorem State.writeRegs_wait (c : Caller) (l : List (Nat × Nat)) (s : State) (off : Nat) : (s.writeRegs c l off).2.wait = none := by
  induction l generalizing s off with
  | nil => rfl
  | cons e l ih =>
    obtain ⟨a, v⟩ := e
    unfold State.writeRegs
    dsimp only
    split
    · exact ih _ _
    · exact State.writeReg_wait s c a v off

theorem mem_addrRun {a b n : Nat} : a ∈ addrRun b n ↔ ∃ i < n, b + 4 * i = a := by simp [addrRun]

@[simp] theorem addrRun_one (a : Nat) : addrRun a 1 = [a] := rfl

theorem badAddr_false {a : Nat} {d : RegDesc} (h4 : a % 4 = 0) (hd : regDesc a = some d) : badAddr a = false := by simp [badAddr, h4, hd]

theorem Hw.readDenied_false (w : Hw) (role : Nat) {a : Nat} (h : a / 0x10000 ≠ 0x98) (h' : a / 0x10000 ≠ 0x90) : w.readDenied role a = false := by
  simp [Hw.readDenied, h, h']

/-! ### REG_READ -/

theorem exec_regRead {s : State} {h : Hdr} {x : Session} {b : U32} {n : U16} (k : s.Takes (.regRead h b n) h x) (h1 : 1 ≤ n.toNat)
    (hl : n.toNat ≤ readLimit h.tr)
    (hg : ∀ i < n.toNat, badAddr (b.toNat + 4 * i) = false ∧ s.hw.readDenied h.role.toNat (b.toNat + 4 * i) = false) :
    exec (.regRead h b n) s = .next (((s.took h x).readRegs (addrRun b.toNat n.toNat)).1.drain.reply h 0x10
      (ansOk ((s.took h x).readRegs (addrRun b.toNat n.toNat)).2)) := by
  refine State.exec_answers k (by simp [opOf]) rfl rfl ?_ rfl
  have hr : max 1 (min n.toNat (readLimit h.tr)) = n.toNat := by omega
  have hd : (addrRun b.toNat n.toNat).any (fun a => (s.took h x).hw.readDenied h.role.toNat a) = false :=
    List.any_eq_false.mpr fun a ha => by
      obtain ⟨i, hi, rfl⟩ := mem_addrRun.mp ha
      exact Bool.eq_false_iff.mp (hg i hi).2
  have hb : (addrRun b.toNat n.toNat).any badAddr = false :=
    List.any_eq_false.mpr fun a ha => by
      obtain ⟨i, hi, rfl⟩ := mem_addrRun.mp ha
      exact Bool.eq_false_iff.mp (hg i hi).1
  simp only [callerOf, hr, hd, hb]
  rw [if_neg Bool.false_ne_true, if_neg Bool.false_ne_true, if_neg (by omega)]

theorem regRead_unnamed {s : State} {h : Hdr} {x : Session} {b : U32} (k : s.Takes (.regRead h b 1) h x) (hb : badAddr b.toNat = true)
    (h98 : b.toNat / 0x10000 ≠ 0x98) (h90 : b.toNat / 0x10000 ≠ 0x90) : s.Served (.regRead h b 1) h x s.accepted (ansBad 16) := by
  refine State.served_read k (by simp [opOf]) rfl ?_ rfl
  have hr : max 1 (min (1 : U16).toNat (readLimit h.tr)) = 1 := by cases h.tr <;> rfl
  simp only [callerOf, hr, addrRun_one, List.any_cons, List.any_nil, Hw.readDenied_false _ _ h98 h90, hb]
  rfl

/-! ### REG_WRITE -/

theorem exec_regWrite {s : State} {h : Hdr} {x : Session} {b : U32} {vs : List U32} (k : s.Takes (.regWrite h b vs) h x) (hv : vs ≠ [])
    (hg : ∀ i < vs.length, badAddr (b.toNat + 4 * i) = false ∧ s.accepted.locked (b.toNat + 4 * i) = false ∧
      s.cmd.held [srcOfAddr (b.toNat + 4 * i)] = false) :
    let r := (s.took h x).writeRegs (callerOf h (s.took h x).cmd) ((addrRun b.toNat vs.length).zip (vs.map (·.toNat))) 22
    (r.2.status = 0 ∨ vs.length = 1 → exec (.regWrite h b vs) s = .next (r.1.drain.reply h 0x11 r.2)) ∧
    (r.2.status ≠ 0 → 1 < vs.length → s.Served (.regWrite h b vs) h x s.accepted r.2) := by
  intro r
  have hw : r.2.wait = none := State.writeRegs_wait _ _ _ _
  have hlen : max 1 vs.length = vs.length := by
    have := List.length_pos_of_ne_nil hv
    omega
  have hstop : (s.took h x).writeStop (addrRun b.toNat vs.length) 16 = none := State.writeStop_free 16 fun a ha => by
    obtain ⟨i, hi, rfl⟩ := mem_addrRun.mp ha
    obtain ⟨h1, h2, h3⟩ := hg i hi
    exact ⟨h1, h2, by rw [State.took_held]; exact h3⟩
  refine ⟨fun hs => State.exec_answers k (by simp [opOf]) rfl rfl ?_ hw, fun hs hl => State.served_read k (by simp [opOf]) rfl ?_ hw⟩
  · simp only [hlen, hstop]
    rw [if_neg (by simpa using hv)]
    exact if_pos hs
  · simp only [hlen, hstop]
    rw [if_neg (by simpa using hv)]
    exact if_neg (not_or.mpr ⟨hs, by omega⟩)

/-- A refused address: nothing is written. -/
theorem regWrite_stopped {s : State} {h : Hdr} {x : Session} {b v : U32} {a : Ans} (k : s.Takes (.regWrite h b [v]) h x)
    (hs : (s.took h x).writeStop [b.toNat] 16 = some a) (hw : a.wait = none) : s.Served (.regWrite h b [v]) h x s.accepted a := by
  refine State.served_read k (by simp [opOf]) rfl ?_ hw
  have hl : max 1 [v].length = 1 := rfl
  simp only [hl, addrRun_one, hs]

/-! ### REG_RMW and REG_POLL -/

theorem exec_regRmw {s : State} {h : Hdr} {x : Session} {b m v : U32} (k : s.Takes (.regRmw h b m v) h x) (hb : badAddr b.toNat = false)
    (hl : s.accepted.locked b.toNat = false) (hh : s.cmd.held [srcOfAddr b.toNat] = false) :
    let old := (s.took h x).readReg b.toNat
    let new := ((BitVec.ofNat 32 old.2 &&& ~~~m) ||| (v &&& m)).toNat
    let r := old.1.writeReg (callerOf h (s.took h x).cmd) b.toNat new 24
    exec (.regRmw h b m v) s = .next (r.1.drain.reply h 0x12 (if r.2.status = 0 then ansOk (le 4 old.2 ++ le 4 new) else r.2)) := by
  intro old new r
  have hstop : (s.took h x).writeStop [b.toNat] 16 = none := State.writeStop_free 16 (by simpa [hb, hh] using hl)
  have hbody : (if r.2.status = 0 then (r.1, ansOk (le 4 old.2 ++ le 4 new)) else (r.1, r.2)) =
      (r.1, if r.2.status = 0 then ansOk (le 4 old.2 ++ le 4 new) else r.2) := by split <;> rfl
  refine State.exec_answers k (by simp [opOf]) rfl rfl ?_ ?_
  · simp only [hstop]
    exact hbody
  · split
    · rfl
    · exact State.writeReg_wait _ _ _ _ _

theorem exec_regPoll {s : State} {h : Hdr} {x : Session} {b m v us : U32} (k : s.Takes (.regPoll h b m v us) h x)
    (hd : s.hw.readDenied h.role.toNat b.toNat = false) (hb : badAddr b.toNat = false) (hu : us.toNat ≤ 100000) :
    let r := (s.took h x).readReg b.toNat
    (r.2 &&& m.toNat = v.toNat → exec (.regPoll h b m v us) s = .next (r.1.drain.reply h 0x13 (ansOk (le 4 r.2)))) ∧
    (r.2 &&& m.toNat ≠ v.toNat → ∃ p, exec (.regPoll h b m v us) s =
      .next (r.1.drain.await h.tr (.poll b.toNat m.toNat v.toNat (s.hw.ticks + 800 * us.toNat)) p)) := by
  intro r
  have hd' : (s.took h x).hw.readDenied h.role.toNat b.toNat = false := hd
  have ht : r.1.hw.ticks = s.hw.ticks := State.readReg_ticks _ _
  refine ⟨fun he => State.exec_answers k (by simp [opOf]) rfl rfl ?_ rfl,
    fun he => State.exec_waits k (by simp [opOf]) rfl rfl (t := r.1) (a := { wait := some _ }) ?_ rfl⟩
  · simp only [callerOf, hd', hb, State.pollNow, decide_eq_true_eq]
    rw [if_neg Bool.false_ne_true, if_neg Bool.false_ne_true, if_neg (by omega)]
    exact if_pos he
  · simp only [callerOf, hd', hb, State.pollNow, decide_eq_true_eq]
    rw [if_neg Bool.false_ne_true, if_neg Bool.false_ne_true, if_neg (by omega)]
    exact (if_neg he).trans (by rw [← ht])

/-! ### REG_LIST_WRITE and BULK_READ -/

theorem exec_regListWrite {s : State} {h : Hdr} {x : Session} {l : List (U32 × U32)} (k : s.Takes (.regListWrite h l) h x) (h1 : 1 ≤ l.length)
    (h2 : l.length ≤ 255) :
    let r := (s.took h x).listWrite (callerOf h (s.took h x).cmd) l 0 18
    exec (.regListWrite h l) s = .next (r.1.drain.reply h 0x15 { status := r.2.2, data := le 2 r.2.1 }) := by
  intro r
  have hl : ¬ (l.isEmpty = true ∨ 255 < l.length) := by
    rw [List.isEmpty_iff_length_eq_zero]
    omega
  exact State.exec_answers k (by simp [opOf]) rfl rfl (if_neg hl) rfl

theorem bulkRead_begins {s : State} {h : Hdr} {x : Session} {b n : U32} (k : s.Takes (.bulkRead h b n) h x) (h1 : 0x10000000 ≤ b.toNat)
    (h2 : b.toNat + n.toNat ≤ 0x14000000) (h3 : b.toNat < 0x14000000) (h4 : b.toNat % 4 = 0) (h5 : n.toNat % 4 = 0) (h6 : n.toNat ≤ 4194304)
    (hh : s.cmd.held (windowTiles (b.toNat - 0x10000000) n.toNat) = false) :
    s.Begins (.bulkRead h b n) h x { s.accepted with free := s.hw.free + 2 }
      (stepOp 0x14 (windowTiles (b.toNat - 0x10000000) n.toNat) [b.toNat, n.toNat]) := by
  refine State.begins_of (hw := s.accepted) k (by simp [opOf]) rfl ?_ k.2.quiet rfl (.inr (.inl rfl))
  simp only [State.took_held, hh]
  rw [if_neg Bool.false_ne_true, if_neg (by omega), if_neg (by omega), if_neg (by omega)]
  rfl

theorem regListWrite_unnamed {s : State} {h : Hdr} {x : Session} {b v : U32} {q : List (U32 × U32)} (k : s.Takes (.regListWrite h ((b, v) :: q)) h x)
    (h2 : ((b, v) :: q).length ≤ 255) (hb : badAddr b.toNat = true) :
    s.Served (.regListWrite h ((b, v) :: q)) h x s.accepted { status := 0x05, data := le 2 0 } := by
  have hr : (s.took h x).listWrite (callerOf h (s.took h x).cmd) ((b, v) :: q) 0 18 = (s.took h x, 0, 0x05) := by
    unfold State.listWrite
    rw [State.writeStop_bad _ 18 hb]
    rfl
  have he := exec_regListWrite k (Nat.le_add_left 1 _) h2
  rw [hr] at he
  exact State.served_of_exec he rfl k.2.quiet

/-! ### One register of TND -/

theorem srcOfAddr_tnd {a : Nat} (h : a / 0x10000 = 0x58) : srcOfAddr a = srcTnd := by simp [srcOfAddr, h]

/-- A write that the access codes alone decide is accepted at once. -/
theorem State.writeReg_plain {s : State} (c : Caller) {a : Nat} (v off : Nat) {d : RegDesc} (hb : a / 0x10000 ∈ [0x58, 0x60, 0x91, 0xA0])
    (ha : a % 4 = 0) (hd : regDesc a = some d) (hg : s.hw.dev.mode ≠ .guard ∨ d.rwl = 0) (hq : s.hw.outbox = []) :
    s.writeReg c a v off = ({ s with hw := s.hw.plainWrite a v }, ansOk []) := by
  have e := Hw.writeReg_plain hb s.hw c.service v ha hd hg
  unfold State.writeReg
  rw [State.hwStep_quiet s _ (by rw [e]; exact (Hw.plainWrite_outbox _ _ _).trans hq)]
  simp only [e, Hw.plainWrite_eq _ _ hd]
  rfl

section Tnd
variable {s : State} {h : Hdr} {x : Session} {a : U32} {d : RegDesc} (ha : a.toNat % 4 = 0) (hb : a.toNat / 0x10000 = 0x58)
  (hd : regDesc a.toNat = some d)
include hb hd

/-- Its read changes nothing where it clears nothing. -/
theorem State.readReg_took_tnd (hc : d.rc = 0) : (s.took h x).readReg a.toNat = (s.took h x, s.accepted.peek a.toNat) :=
  State.readReg_tnd (s.took h x) hb fun _ e => by cases hd.symm.trans e; exact hc

include ha

/-- Nothing stops a write outside GUARD while no stepped operation holds TND. -/
theorem tnd_free (hm : s.hw.dev.mode ≠ .guard) (hh : s.cmd.held [srcTnd] = false) :
    badAddr a.toNat = false ∧ s.accepted.locked a.toNat = false ∧ s.cmd.held [srcOfAddr a.toNat] = false := by
  refine ⟨badAddr_false ha hd, ?_, by rw [srcOfAddr_tnd hb]; exact hh⟩
  rw [Hw.locked_plain (by simp [hb]) _ hd, State.accepted_dev]
  simp [hm]

theorem State.writeReg_took_tnd (hq : s.hw.outbox = []) (hm : s.hw.dev.mode ≠ .guard) (c : Caller) (v off : Nat) :
    (s.took h x).writeReg c a.toNat v off = ({ s.took h x with hw := s.accepted.plainWrite a.toNat v }, ansOk []) :=
  State.writeReg_plain (s := s.took h x) c v off (by simp [hb]) ha hd (.inl hm) hq

theorem regRead_tnd (hc : d.rc = 0) (k : s.Takes (.regRead h a 1) h x) :
    s.Served (.regRead h a 1) h x s.accepted (ansOk (le 4 (s.accepted.peek a.toNat))) := by
  have hr : (s.took h x).readRegs (addrRun a.toNat (1 : U16).toNat) = (s.took h x, le 4 (s.accepted.peek a.toNat)) := by
    simp [State.readRegs, State.readReg_took_tnd hb hd hc]
  have he := exec_regRead k (by decide) (by cases h.tr <;> decide) fun i hi => by
    obtain rfl : i = 0 := by simpa using hi
    exact ⟨badAddr_false ha hd, Hw.readDenied_false _ _ (by omega) (by omega)⟩
  rw [hr] at he
  exact State.served_of_exec he rfl k.2.quiet

theorem regPoll_tnd (hc : d.rc = 0) {m v us : U32} (k : s.Takes (.regPoll h a m v us) h x) (hu : us.toNat ≤ 100000)
    (hv : s.accepted.peek a.toNat &&& m.toNat = v.toNat) :
    s.Served (.regPoll h a m v us) h x s.accepted (ansOk (le 4 (s.accepted.peek a.toNat))) := by
  have he := (exec_regPoll k (Hw.readDenied_false _ _ (by omega) (by omega)) (badAddr_false ha hd) hu).1
  rw [State.readReg_took_tnd hb hd hc] at he
  exact State.served_of_exec (he hv) rfl k.2.quiet

theorem regWrite_tnd {v : U32} (k : s.Takes (.regWrite h a [v]) h x) (hm : s.hw.dev.mode ≠ .guard) (hh : s.cmd.held [srcTnd] = false) :
    s.Served (.regWrite h a [v]) h x (s.accepted.plainWrite a.toNat v.toNat) (ansOk []) := by
  have hr : (s.took h x).writeRegs (callerOf h (s.took h x).cmd) ((addrRun a.toNat [v].length).zip ([v].map (·.toNat))) 22 =
      ({ s.took h x with hw := s.accepted.plainWrite a.toNat v.toNat }, ansOk []) := by
    simp [State.writeRegs, State.writeReg_took_tnd ha hb hd k.2.quiet hm, ansOk]
  have he := (exec_regWrite k (List.cons_ne_nil _ _) fun i hi => by
    obtain rfl : i = 0 := by simpa using hi
    exact tnd_free ha hb hd hm hh).1 (.inr rfl)
  rw [hr] at he
  exact State.served_of_exec he rfl ((Hw.plainWrite_outbox _ _ _).trans k.2.quiet)

theorem regWrite_tnd_guard {v : U32} (k : s.Takes (.regWrite h a [v]) h x) (hm : s.hw.dev.mode = .guard) (hr : d.rwl ≠ 0) :
    s.Served (.regWrite h a [v]) h x s.accepted { status := 0x0A, data := le 4 a.toNat } :=
  regWrite_stopped k (State.writeStop_locked _ 16 (badAddr_false ha hd) (by
    rw [Hw.locked_plain (by simp [hb]) _ hd, State.took_dev]
    simp [hm, hr])) rfl

theorem regWrite_tnd_held {v : U32} (k : s.Takes (.regWrite h a [v]) h x) (hm : s.hw.dev.mode ≠ .guard) (hh : s.cmd.held [srcTnd] = true) :
    s.Served (.regWrite h a [v]) h x s.accepted { status := 0x02 } :=
  regWrite_stopped k (State.writeStop_held _ 16 (badAddr_false ha hd) (by
    rw [Hw.locked_plain (by simp [hb]) _ hd, State.took_dev]
    simp [hm]) (by rw [State.took_held, srcOfAddr_tnd hb]; exact hh)) rfl

theorem regRmw_tnd (hc : d.rc = 0) {m v : U32} (k : s.Takes (.regRmw h a m v) h x) (hm : s.hw.dev.mode ≠ .guard)
    (hh : s.cmd.held [srcTnd] = false) :
    let new := ((BitVec.ofNat 32 (s.accepted.peek a.toNat) &&& ~~~m) ||| (v &&& m)).toNat
    s.Served (.regRmw h a m v) h x (s.accepted.plainWrite a.toNat new) (ansOk (le 4 (s.accepted.peek a.toNat) ++ le 4 new)) := by
  intro new
  obtain ⟨hbad, hlock, hheld⟩ := tnd_free ha hb hd hm hh
  have he := exec_regRmw k hbad hlock hheld
  simp only [State.readReg_took_tnd hb hd hc, State.writeReg_took_tnd ha hb hd k.2.quiet hm] at he
  exact State.served_of_exec he rfl ((Hw.plainWrite_outbox _ _ _).trans k.2.quiet)

theorem regListWrite_tnd {v : U32} (k : s.Takes (.regListWrite h [(a, v)]) h x) (hm : s.hw.dev.mode ≠ .guard)
    (hh : s.cmd.held [srcTnd] = false) :
    s.Served (.regListWrite h [(a, v)]) h x (s.accepted.plainWrite a.toNat v.toNat) (ansOk (le 2 1)) := by
  have hstop : (s.took h x).writeStop [a.toNat] 18 = none :=
    State.writeStop_free 18 (by simpa using tnd_free ha hb hd hm hh)
  have hr : (s.took h x).listWrite (callerOf h (s.took h x).cmd) [(a, v)] 0 18 =
      ({ s.took h x with hw := s.accepted.plainWrite a.toNat v.toNat }, 1, 0) := by
    simp [State.listWrite, hstop, State.writeReg_took_tnd ha hb hd k.2.quiet hm, ansOk]
  have he := exec_regListWrite k (by simp) (by simp)
  rw [hr] at he
  exact State.served_of_exec he rfl ((Hw.plainWrite_outbox _ _ _).trans k.2.quiet)

end Tnd

/-- Settles O30, command by command; what one register of TND stores is a write by the access codes. -/
theorem registerCommandsAreServed : Obligations.RegisterCommandsAreServed := by
  intro s h x
  refine ⟨fun b n k => ⟨fun h1 hl hg => exec_regRead k h1 hl hg, ?_⟩, fun b vs k hv => ⟨fun hg => ?_, ?_⟩,
    fun b m v k hb hl hh => exec_regRmw k hb hl hh, fun b m v us k hd hb hu => exec_regPoll k hd hb hu,
    fun l k h1 h2 => ⟨exec_regListWrite k h1 h2, ?_⟩, fun b n k h1 h2 h3 h4 h5 h6 hh => bulkRead_begins k h1 h2 h3 h4 h5 h6 hh,
    fun a d ha hb hd hc => ?_⟩
  · rintro hb h98 h90 rfl
    exact regRead_unnamed k hb h98 h90
  · obtain ⟨hdone, hundone⟩ := exec_regWrite k hv hg
    exact ⟨fun hs => hdone (.inl hs), hundone⟩
  · intro hb hl
    obtain ⟨v, rfl⟩ := List.length_eq_one_iff.mp hl
    exact regWrite_stopped k (State.writeStop_bad _ 16 hb) rfl
  · rintro b v q rfl hb
    exact regListWrite_unnamed k h2 hb
  · intro put stored free
    have hstored : ∀ v, stored v = s.accepted.plainWrite a.toNat v := fun v => (Hw.plainWrite_eq _ _ hd).symm
    refine ⟨regRead_tnd ha hb hd hc, fun v k => ⟨fun hf => ?_, regWrite_tnd_guard ha hb hd k, regWrite_tnd_held ha hb hd k⟩,
      fun m v k hf => ?_, fun m v us k hu hv => regPoll_tnd ha hb hd hc k hu hv, fun v k hf => ?_⟩
    · rw [hstored]
      exact regWrite_tnd ha hb hd k hf.1 hf.2
    · dsimp only
      rw [hstored]
      exact regRmw_tnd ha hb hd hc k hf.1 hf.2
    · rw [hstored]
      exact regListWrite_tnd ha hb hd k hf.1 hf.2

end Sys2Proof.Machine
end

section
/-! SUPPORT. What Watch's command side can come to in one step of anything that takes no command up (chapters 02 and 20): sessions closed or
narrowed, packets sent or gone, operations ended. Every invariant of the command side is proved of these moves alone. -/

namespace Sys2Proof.Machine

/-! ### One session -/

/-- What `CmdSt.Sound` asks of each session by itself (R35, R36). -/
structure Session.Sound (x : Session) : Prop where
  waiting : x.outstanding ≤ 8
  cached  : x.accepted.length ≤ 8
  waits   : ∀ w p, x.wait = some (w, p) → p.reply = true
  replies : ∀ e p, e ∈ x.accepted → e.reply = some p → p.reply = true

/-- `y` has no role and no unanswered command that `x` has not; it is sound where `x` is, as far as `H` holds. -/
structure Session.Under (H : Prop) (y x : Session) : Prop where
  role  : y.role ≤ x.role
  owes  : y.outstanding ≤ x.outstanding
  sound : H → x.Sound → y.Sound

theorem Session.Under.refl (H : Prop) (x : Session) : x.Under H x := ⟨le_rfl, le_rfl, fun _ h => h⟩

theorem Session.Under.trans {H : Prop} {x y z : Session} (a : z.Under H y) (b : y.Under H x) : z.Under H x :=
  ⟨a.role.trans b.role, a.owes.trans b.owes, fun h hx => a.sound h (b.sound h hx)⟩

/-- A session that keeps its caches and its unanswered commands is under `x` where its role is. -/
theorem Session.under_of_same {H : Prop} {x y : Session} (hr : y.role ≤ x.role) (hw : y.wait = x.wait) (hh : y.held = x.held)
    (hs : y.resume = x.resume) (ha : y.away = x.away) (hc : y.accepted = x.accepted) : y.Under H x := by
  have ho : y.outstanding = x.outstanding := by simp only [Session.outstanding, hw, hh, hs, ha]
  exact ⟨hr, ho.le, fun _ hx => ⟨ho.le.trans hx.waiting, by rw [hc]; exact hx.cached, fun w p e => hx.waits w p (hw ▸ e),
    fun e p he => hx.replies e p (hc ▸ he)⟩⟩

theorem cacheReply_under {H : Prop} {p : Packet} (x : Session) (h : H → p.reply = true) : (cacheReply p x).Under H x where
  role := le_rfl
  owes := le_rfl
  sound hH hx := by
    refine ⟨hx.waiting, by simpa [cacheReply] using hx.cached, hx.waits, fun e q he hq => ?_⟩
    obtain ⟨d, hd, rfl⟩ := List.mem_map.mp he
    split at hq
    · cases hq
      exact h hH
    · exact hx.replies d q hd hq

theorem Session.heard_under {H : Prop} (x : Session) (n : Nat) : (x.heard n).Under H x := Session.under_of_same le_rfl rfl rfl rfl rfl rfl

/-- Acceptance drops the oldest of nine cached commands. -/
theorem Session.accept_under {H : Prop} (x : Session) (h : Hdr) : (x.accept h).Under H x where
  role := le_rfl
  owes := le_rfl
  sound _ hx := by
    refine ⟨hx.waiting, by simp [Session.accept]; omega, hx.waits, fun e q he hq => ?_⟩
    rcases List.mem_append.mp (List.mem_of_mem_drop he) with hm | hm
    · exact hx.replies e q hm hq
    · obtain rfl := List.mem_singleton.mp hm
      cases hq

theorem Session.outstanding_endWait (x : Session) : ({ x with wait := none } : Session).outstanding ≤ x.outstanding := by
  have : b2n (none : Option (Wait × Packet)).isSome = 0 := rfl
  simp only [Session.outstanding, this]
  omega

/-- A session that owes nothing more is under the one it was. -/
theorem Session.endWait_under {H : Prop} (x : Session) : ({ x with wait := none } : Session).Under H x where
  role := le_rfl
  owes := Session.outstanding_endWait x
  sound _ hx := ⟨(Session.outstanding_endWait x).trans hx.waiting, hx.cached, by simp, hx.replies⟩

/-! ### The command side -/

theorem CmdSt.Sound.session {c : CmdSt} (h : c.Sound) {t : Transport} {x : Session} (hx : c.session t = some x) : x.Sound :=
  ⟨h.waiting t x hx, h.cached t x hx, fun w p => h.waits t x w p hx, fun e p => h.replies t x e p hx⟩

/-- A command side is sound by its sessions, one by one, the roles among them, its operations and its packets. -/
theorem CmdSt.Sound.of_sessions {c : CmdSt} (hs : ∀ t x, c.session t = some x → x.Sound)
    (ha : ∀ t u x y, c.session t = some x → c.session u = some y → 2 ≤ x.role → 2 ≤ y.role → t = u) (ho : c.liveOps ≤ 4)
    (he : ∀ t, c.ordinary t ≤ 224) (hl : ∀ e ∈ c.late, e.2.2.reply = true) : c.Sound :=
  ⟨ha, ho, fun t x hx => (hs t x hx).waiting, fun t x hx => (hs t x hx).cached, he, fun t x w p hx => (hs t x hx).waits w p,
    fun t x e p hx => (hs t x hx).replies e p, hl⟩

/-- Fewer running operations, each with the token of one that ran. -/
structure OpsUnder (l m : List StepOp) : Prop where
  few   : (l.filter (fun o => o.live && o.owner.isSome)).length ≤ (m.filter (fun o => o.live && o.owner.isSome)).length
  known : ∀ o ∈ l, o.live = true → ∃ e ∈ m, e.live = true ∧ e.token = o.token

/-- One change of Watch's command side that takes no command up; `H` is what the packets sent rest on. -/
inductive CmdSt.Move (H : Prop) (c : CmdSt) : CmdSt → Prop where
  | narrow (t : Transport) (x y : Session) : c.session t = some x → y.Under H x → Move H c (c.setSession t (some y))
  | close (t : Transport) : Move H c (c.setSession t none)
  | push (t : Transport) (p : Packet) : (H → p.reply = true ∨ p.urgent = true ∨ c.ordinary t < 224) → Move H c (c.push t p)
  | leave (t : Transport) (l : List Packet) : l.Sublist (c.out t) → Move H c (c.setOut t l)
  | ops (l : List StepOp) : OpsUnder l c.ops → Move H c { c with ops := l }
  | rest (d : CmdSt) : (∀ t, d.session t = c.session t) → (∀ t, d.out t = c.out t) → d.ops = c.ops → d.issued = c.issued →
      (∀ e ∈ d.late, e ∈ c.late) → Move H c d

/-- Any number of such changes. -/
def CmdSt.Calm (H : Prop) : CmdSt → CmdSt → Prop := Relation.ReflTransGen (CmdSt.Move H)

section Moves
variable {H : Prop} {c d : CmdSt}

theorem CmdSt.session_setSession_some {t u : Transport} {x : Option Session} {y : Session} (h : (c.setSession t x).session u = some y) :
    (u = t ∧ x = some y) ∨ (u ≠ t ∧ c.session u = some y) := by
  by_cases e : u = t
  · subst e
    exact .inl ⟨rfl, by simpa using h⟩
  · exact .inr ⟨e, by rwa [CmdSt.session_setSession_ne c x e] at h⟩

/-- Each session that is left was there, with no lower bound passed. -/
theorem CmdSt.Move.sessions (m : c.Move H d) : ∀ t y, d.session t = some y → ∃ x, c.session t = some x ∧ y.Under H x := by
  intro u z hz
  have same : c.session u = some z → ∃ x, c.session u = some x ∧ z.Under H x := fun h => ⟨z, h, .refl H z⟩
  cases m with
  | narrow t x y hx hy =>
    rcases CmdSt.session_setSession_some hz with ⟨rfl, h⟩ | ⟨-, h⟩
    · cases h
      exact ⟨x, hx, hy⟩
    · exact same h
  | close t =>
    rcases CmdSt.session_setSession_some hz with ⟨-, h⟩ | ⟨-, h⟩
    · cases h
    · exact same h
  | push t p _ => exact same (by simpa using hz)
  | leave t l _ => exact same (by simpa using hz)
  | ops l _ => exact same (by cases u <;> exact hz)
  | rest d hs => exact same (hs u ▸ hz)

theorem CmdSt.out_setOut_ne {t u : Transport} (l : List Packet) (h : u ≠ t) : (c.setOut t l).out u = c.out u := by
  cases t <;> cases u
  case spi.spi | link.link | eth.eth => exact absurd rfl h
  all_goals rfl

@[simp] theorem CmdSt.ordinary_setSession (t u : Transport) (x : Option Session) : (c.setSession t x).ordinary u = c.ordinary u := by
  simp [CmdSt.ordinary]

@[simp] theorem CmdSt.issued_setOut (t : Transport) (l : List Packet) : (c.setOut t l).issued = c.issued := by cases t <;> rfl
@[simp] theorem CmdSt.late_setOut (t : Transport) (l : List Packet) : (c.setOut t l).late = c.late := by cases t <;> rfl
@[simp] theorem CmdSt.late_setSession (t : Transport) (x : Option Session) : (c.setSession t x).late = c.late := by cases t <;> rfl

/-- The ordinary part of a transport's queue stays within its bound (R52). -/
theorem CmdSt.Move.events (m : c.Move H d) (h : H) (hc : ∀ t, c.ordinary t ≤ 224) : ∀ t, d.ordinary t ≤ 224 := by
  intro u
  cases m with
  | narrow t x y _ _ => simpa using hc u
  | close t => simpa using hc u
  | push t p hp =>
    by_cases e : u = t
    · subst e
      have hu := hc u
      simp only [CmdSt.ordinary, CmdSt.push, CmdSt.out_setOut, List.filter_append, List.length_append] at hu ⊢
      rcases hp h with hp | hp | hp
      · simpa [hp] using hu
      · simpa [hp] using hu
      · have := List.length_filter_le (fun p : Packet => !p.reply && !p.urgent) [p]
        simp only [CmdSt.ordinary, List.length_singleton] at hp this
        omega
    · simpa only [CmdSt.ordinary, CmdSt.push, CmdSt.out_setOut_ne _ e] using hc u
  | leave t l hl =>
    by_cases e : u = t
    · subst e
      simp only [CmdSt.ordinary, CmdSt.out_setOut]
      exact ((hl.filter _).length_le).trans (hc u)
    · simpa only [CmdSt.ordinary, CmdSt.out_setOut_ne _ e] using hc u
  | ops l _ =>
    have e : ({ c with ops := l } : CmdSt).ordinary u = c.ordinary u := by cases u <;> rfl
    exact e ▸ hc u
  | rest d _ ho => simpa only [CmdSt.ordinary, ho] using hc u

theorem CmdSt.Move.opsUnder (m : c.Move H d) : OpsUnder d.ops c.ops := by
  have same : ∀ {l}, l = c.ops → OpsUnder l c.ops := by
    rintro _ rfl
    exact ⟨le_rfl, fun o ho hl => ⟨o, ho, hl, rfl⟩⟩
  cases m with
  | narrow t x y _ _ => exact same (by simp)
  | close t => exact same (by simp)
  | push t p _ => exact same (by simp [CmdSt.push])
  | leave t l _ => exact same (by simp)
  | ops l h => exact h
  | rest d _ _ h => exact same h

theorem CmdSt.Move.issued (m : c.Move H d) : d.issued = c.issued := by
  cases m with
  | rest d _ _ _ h => exact h
  | _ => simp [CmdSt.push]

theorem CmdSt.Move.late (m : c.Move H d) : ∀ e ∈ d.late, e ∈ c.late := by
  cases m with
  | rest d _ _ _ _ h => exact h
  | _ => simp [CmdSt.push]

/-- A calm change keeps the command side sound. -/
theorem CmdSt.Move.sound (m : c.Move H d) (h : H) (hc : c.Sound) : d.Sound := by
  refine .of_sessions (fun t y hy => ?_) (fun t u y z hy hz ry rz => ?_) (m.opsUnder.few.trans hc.fewOps) (m.events h hc.events)
    (fun e he => hc.late e (m.late e he))
  · obtain ⟨x, hx, hu⟩ := m.sessions t y hy
    exact hu.sound h (hc.session hx)
  · obtain ⟨x, hx, hu⟩ := m.sessions t y hy
    obtain ⟨v, hv, hw⟩ := m.sessions u z hz
    exact hc.oneAdmin t u x v hx hv (ry.trans hu.role) (rz.trans hw.role)

theorem OpsUnder.trans {l m n : List StepOp} (a : OpsUnder l m) (b : OpsUnder m n) : OpsUnder l n :=
  ⟨a.few.trans b.few, fun o ho hl => by
    obtain ⟨e, he, hel, ht⟩ := a.known o ho hl
    obtain ⟨f, hf, hfl, hft⟩ := b.known e he hel
    exact ⟨f, hf, hfl, hft.trans ht⟩⟩

end Moves

end Sys2Proof.Machine
end

section
/-! SUPPORT. Which functions of Watch are calm: deliveries, ends of operations, the close of a session, every step of the hardware. -/

namespace Sys2Proof.Machine

/-- One calm change of the state: the hardware as it may be, Watch's command side by a calm change of its own, or all of it lost (R34, R69). -/
inductive State.Move (H : Prop) (s : State) : State → Prop where
  | hw (w : Hw) : Move H s { s with hw := w }
  | cmd (d : CmdSt) : s.cmd.Move H d → Move H s { s with cmd := d }
  | reset : Move H s { s with cmd := {}, mirror := {} }

/-- Any number of such changes. -/
def State.Calm (H : Prop) : State → State → Prop := Relation.ReflTransGen (State.Move H)

/-- Steps over a list, each of them a run of a relation, are one. -/
theorem reflTransGen_foldl {A B : Type} {R : A → A → Prop} {f : A → B → A} (h : ∀ a b, Relation.ReflTransGen R a (f a b)) (l : List B) (a : A) :
    Relation.ReflTransGen R a (l.foldl f a) := by
  induction l generalizing a with
  | nil => exact .refl
  | cons b l ih => exact (h a b).trans (ih _)

section
variable {H : Prop}

/-! ### Operations -/

theorem OpsUnder.map {l : List StepOp} {g : StepOp → StepOp} (ht : ∀ o, (g o).token = o.token) (hw : ∀ o, (g o).owner = o.owner)
    (hl : ∀ o, (g o).live = true → o.live = true) : OpsUnder (l.map g) l where
  few := by
    rw [← List.countP_eq_length_filter, ← List.countP_eq_length_filter, List.countP_map]
    refine List.countP_mono_left fun o _ ho => ?_
    simp only [Function.comp_apply, hw, Bool.and_eq_true] at ho ⊢
    exact ⟨hl o ho.1, ho.2⟩
  known o ho h := by
    obtain ⟨e, he, rfl⟩ := List.mem_map.mp ho
    exact ⟨e, he, hl e h, (ht e).symm⟩

theorem OpsUnder.filter (l : List StepOp) (p : StepOp → Bool) : OpsUnder (l.filter p) l where
  few := (List.filter_sublist.filter _).length_le
  known o ho h := ⟨o, (List.mem_filter.mp ho).1, h, rfl⟩

theorem CmdSt.Calm.move {c d : CmdSt} (m : c.Move H d) : c.Calm H d := .single m

/-- An update that gives no operation another token or owner and takes none up again. -/
theorem CmdSt.updOp_calm (c : CmdSt) (tok : Nat) {f : StepOp → StepOp} (ht : ∀ o, (f o).token = o.token) (hw : ∀ o, (f o).owner = o.owner)
    (hl : ∀ o, (f o).live = true → o.live = true) : c.Calm H (c.updOp tok f) := by
  refine .move (.ops _ (.map (fun o => ?_) (fun o => ?_) (fun o => ?_)))
  all_goals split
  exacts [ht o, rfl, hw o, rfl, hl o, id]

/-! ### Packets -/

/-- An event packet: of a kind that is always queued, or there is space (R52). -/
theorem CmdSt.sendEvent_calm {c : CmdSt} {t : Transport} {x y : Session} (hx : c.session t = some x) (hy : y.Under H x) (index opcode : Nat)
    (payload : List Byte) {urgent : Bool} (h : urgent = true ∨ c.ordinary t < 224) : c.Calm H (c.sendEvent t y index opcode payload urgent) :=
  have count : ({ y with eventSeq := (y.eventSeq + 1) % 65536 } : Session).Under H x :=
    .trans (y := y) (Session.under_of_same le_rfl rfl rfl rfl rfl rfl) hy
  (CmdSt.Calm.move (.narrow t x _ hx count)).tail (.push t _ fun _ => .inr (h.imp id (by simp)))

theorem CmdSt.deliver_calm (index : Nat) (r : Record) (c : CmdSt) (t : Transport) : c.Calm H (CmdSt.deliver index r c t) := by
  unfold CmdSt.deliver
  split
  · exact .refl
  · next x hx =>
    dsimp only
    split
    · exact .refl
    · split
      · exact .move (.narrow t x _ hx (Session.under_of_same le_rfl rfl rfl rfl rfl rfl))
      · next h =>
        refine CmdSt.sendEvent_calm hx ?_ _ _ _ ?_
        · exact Session.under_of_same le_rfl rfl rfl rfl rfl rfl
        · rw [not_and, Nat.not_le] at h
          exact (em _).imp id h

theorem CmdSt.relayEvent_calm (c : CmdSt) (index opcode : Nat) (payload : List Byte) (urgent : Bool) :
    c.Calm H (c.relayEvent index opcode payload urgent) := by
  unfold CmdSt.relayEvent
  split
  · exact .refl
  · next h =>
    rw [not_and, Nat.not_le] at h
    exact .move (.push _ _ fun _ => .inr ((em _).imp id h))

theorem CmdSt.deliverAll_calm (c : CmdSt) (index : Nat) (r : Record) (relay : Bool) : c.Calm H (c.deliverAll index r relay) := by
  have h := reflTransGen_foldl (fun c t => CmdSt.deliver_calm (H := H) index r c t) transports c
  unfold CmdSt.deliverAll
  dsimp only
  split
  · exact h.trans (CmdSt.relayEvent_calm _ _ _ _ _)
  · exact h

theorem CmdSt.ordinaryEvent_calm {c : CmdSt} {t : Transport} {x : Session} (hx : c.session t = some x) (index opcode src : Nat)
    (payload : List Byte) : c.Calm H (c.ordinaryEvent t x index opcode src payload) := by
  unfold CmdSt.ordinaryEvent
  split
  · exact .move (.narrow t x _ hx (Session.under_of_same le_rfl rfl rfl rfl rfl rfl))
  · next h => exact CmdSt.sendEvent_calm hx (.refl H x) _ _ _ (.inr (Nat.not_le.mp h))

/-- A reply goes out and is cached. -/
theorem CmdSt.answer_calm (c : CmdSt) (t : Transport) {p : Packet} (h : H → p.reply = true) : c.Calm H (c.answer t p) := by
  unfold CmdSt.answer
  have out : ∀ d : CmdSt, d.Calm H (d.push t p) := fun d => .move (.push t p fun k => .inl (h k))
  cases hx : c.session t with
  | none => exact out c
  | some x => exact (CmdSt.Calm.move (.narrow t x _ hx (cacheReply_under x h))).trans (out _)

/-! ### The state -/

theorem State.Calm.hw (s : State) (w : Hw) : s.Calm H { s with hw := w } := .single (.hw w)

theorem State.Calm.cmd (s : State) {d : CmdSt} (h : s.cmd.Calm H d) : s.Calm H { s with cmd := d } := by
  induction h with
  | refl => exact .refl
  | tail _ m ih => exact ih.tail (.cmd (s := { s with cmd := _ }) _ m)

theorem State.Calm.both (s : State) {d : CmdSt} (w : Hw) (h : s.cmd.Calm H d) : s.Calm H { s with hw := w, cmd := d } :=
  (State.Calm.cmd s h).trans (State.Calm.hw { s with cmd := d } w)

theorem CmdSt.ownerOf_session {c : CmdSt} {o : StepOp} {t : Transport} {x : Session} (h : c.ownerOf o = some (t, x)) : c.session t = some x := by
  unfold CmdSt.ownerOf at h
  split at h
  · cases h
  · split at h
    · next hx =>
      split at h
      · cases h
        exact hx
      · cases h
    · cases h

@[simp] theorem CmdSt.updOp_session (c : CmdSt) (k : Nat) (f : StepOp → StepOp) (t : Transport) : (c.updOp k f).session t = c.session t := by
  cases t <;> rfl
@[simp] theorem CmdSt.updOp_out (c : CmdSt) (k : Nat) (f : StepOp → StepOp) (t : Transport) : (c.updOp k f).out t = c.out t := by
  cases t <;> rfl
@[simp] theorem CmdSt.updOp_ordinary (c : CmdSt) (k : Nat) (f : StepOp → StepOp) (t : Transport) : (c.updOp k f).ordinary t = c.ordinary t := by
  simp [CmdSt.ordinary]

theorem State.finishOp_calm (s : State) (k status : Nat) (result : List Byte) : s.Calm H (s.finishOp k status result) := by
  unfold State.finishOp
  split
  · exact .refl
  · next o _ =>
    refine State.Calm.both s _ (Relation.ReflTransGen.trans (b := s.cmd.updOp k ?f) ?ended ?told)
    case told =>
      split
      · next t x hx =>
        exact CmdSt.sendEvent_calm ((CmdSt.updOp_session _ _ _ _).trans (CmdSt.ownerOf_session hx)) (.refl H x) _ _ _ (.inl rfl)
      · split
        · exact CmdSt.relayEvent_calm _ _ _ _ _
        · exact .refl
    case ended => exact CmdSt.updOp_calm s.cmd k (fun _ => rfl) (fun _ => rfl) fun o h => by cases h

theorem State.endOp_calm (s : State) (k status : Nat) (result : List Byte) : s.Calm H (s.endOp k status result) := by
  unfold State.endOp
  split
  · exact .refl
  · split
    · exact .refl
    · split
      · exact State.finishOp_calm s _ _ _
      · refine State.Calm.cmd s (CmdSt.updOp_calm _ _ (fun o => ?_) (fun o => ?_) (fun o => ?_))
        all_goals split
        exacts [rfl, rfl, rfl, rfl, id, id]

theorem State.foldOps_calm {f : State → StepOp → State} (h : ∀ (s : State) (o : StepOp), s.Calm H (f s o)) (l : List StepOp) (s : State) : s.Calm H (l.foldl f s) :=
  reflTransGen_foldl h l s

theorem Session.dropAdmin_under (ok : Bool) (x : Session) : (x.dropAdmin ok).Under H x := by
  unfold Session.dropAdmin
  split
  · next h => exact Session.under_of_same (by simp [h.1]) rfl rfl rfl rfl rfl
  · exact .refl H x

/-- A session replaced by one under it, or none by none. -/
theorem CmdSt.mapSession_calm (c : CmdSt) (t : Transport) {f : Session → Session} (hf : ∀ x, (f x).Under H x) :
    c.Calm H (c.setSession t ((c.session t).map f)) := by
  cases h : c.session t with
  | none => exact .move (.close t)
  | some x => exact .move (.narrow t x _ h (hf x))

theorem State.dropAdmin_calm (s : State) : s.Calm H s.dropAdmin :=
  State.Calm.cmd s (((CmdSt.mapSession_calm s.cmd .spi (Session.dropAdmin_under s.hw.adminOpenOk)).trans
    (CmdSt.mapSession_calm _ .link (Session.dropAdmin_under s.hw.adminOpenOk))).trans
    (CmdSt.mapSession_calm _ .eth (Session.dropAdmin_under s.hw.adminOpenOk)))

theorem State.closeSession_calm (s : State) (t : Transport) : s.Calm H (s.closeSession t) := by
  unfold State.closeSession
  split
  · exact .refl
  · next x _ =>
    have gone : s.cmd.Calm H ((s.cmd.setSession t none).setOut t ((s.cmd.out t).filter (fun p => p.reply))) :=
      (CmdSt.Calm.move (.close t)).trans (CmdSt.Calm.move (.leave t _ (by simp)))
    refine Relation.ReflTransGen.trans ?_ (((State.foldOps_calm (fun s o => State.endOp_calm s _ _ _) _ _).trans (State.Calm.hw _ _)).trans
      (State.dropAdmin_calm _))
    refine State.Calm.cmd s (gone.trans (CmdSt.Calm.move (.ops _ (.map (fun o => ?_) (fun o => ?_) (fun o => ?_)))))
    all_goals split
    exacts [rfl, rfl, rfl, rfl, id, id]

/-! ### What the hardware hands to Watch -/

theorem State.endNotAllowed_calm (s : State) : s.Calm H s.endNotAllowed := by
  refine State.foldOps_calm (fun s o => ?_) _ _
  split
  · exact State.endOp_calm _ _ _ _
  · exact .refl

theorem State.endAuto_calm (s : State) : s.Calm H s.endAuto := by
  refine State.foldOps_calm (fun s o => ?_) _ _
  split
  · exact State.endOp_calm _ _ _ _
  · exact .refl

theorem State.signal_calm (s : State) (x : Signal) : s.Calm H (s.signal x) := by
  cases x with
  | record r =>
    have h : s.Calm H { s with cmd := s.cmd.deliverAll s.hw.cas.index r s.hw.isSecondary } := State.Calm.cmd s (CmdSt.deliverAll_calm _ _ _ _)
    unfold State.signal
    dsimp only
    split
    · exact h.trans (State.endAuto_calm _)
    · exact h
  | modeLeft => exact State.endNotAllowed_calm s
  | stopInTransition =>
    refine State.foldOps_calm (fun s o => ?_) _ _
    split
    · exact State.endOp_calm _ _ _ _
    · exact .refl
  | transportDown t => exact State.closeSession_calm s t
  | laneBack since =>
    exact State.Calm.cmd s (CmdSt.mapSession_calm s.cmd .link fun x => Session.under_of_same le_rfl rfl rfl rfl rfl rfl)
  | deviceReset => exact .single .reset

theorem drainGo_calm (n : Nat) (s : State) : s.Calm H (drainGo n s) := by
  induction n generalizing s with
  | zero => exact .hw s _
  | succ n ih => exact ((State.Calm.hw s _).trans (reflTransGen_foldl State.signal_calm _ _)).trans (ih _)

theorem State.drain_calm (s : State) : s.Calm H s.drain := drainGo_calm 3 s
theorem State.hwStep_calm (s : State) (f : Hw → Hw) : s.Calm H (s.hwStep f) := (State.Calm.hw s _).trans (State.drain_calm _)
theorem State.hwDrain_calm (s : State) (w : Hw) : s.Calm H ({ s with hw := w } : State).drain := (State.Calm.hw s w).trans (State.drain_calm _)

/-! ### What calm changes keep -/

/-- Tokens are as R44 asks while fewer than 2³² − 1 have been issued. -/
def State.TokensHold (s : State) : Prop := s.cmd.issued.length + 1 < 2 ^ 32 → s.TokensUnique

theorem State.Move.pending {s t : State} (m : s.Move H t) : t.pending = s.pending := by cases m <;> rfl

theorem CmdSt.sound_empty : ({} : CmdSt).Sound := by
  refine .of_sessions (fun t x hx => ?_) (fun t u x y hx => ?_) (by decide) (fun t => ?_) (by simp)
  · cases t <;> cases hx
  · cases t <;> cases hx
  · cases t <;> decide

theorem State.Move.sound {s t : State} (m : s.Move H t) (h : H) (hs : s.Sound) : t.Sound := by
  cases m with
  | hw w => exact ⟨hs.now, hs.images⟩
  | cmd d hd => exact ⟨hd.sound h hs.now, hs.images⟩
  | reset => exact ⟨CmdSt.sound_empty, by simp [Mirror.images]⟩

theorem State.Move.tokens {s t : State} (m : s.Move H t) (hs : s.TokensHold) : t.TokensHold := by
  cases m with
  | hw w => exact fun h => ⟨(hs h).once, (hs h).nonzero, (hs h).range, (hs h).known, (hs h).images⟩
  | cmd d hd =>
    have hi := hd.issued
    intro h
    have k := hs (hi ▸ h)
    refine ⟨hi ▸ k.once, hi ▸ k.nonzero, hi ▸ k.range, fun o ho hl => ?_, fun i him o ho hl => ?_⟩
    · obtain ⟨e, he, hel, het⟩ := hd.opsUnder.known o ho hl
      exact hi ▸ het ▸ k.known e he hel
    · exact hi ▸ k.images i him o ho hl
  | reset => exact fun _ => ⟨by simp, by simp, by simp, by simp, by simp [Mirror.images]⟩

theorem State.Calm.pending {s t : State} (h : s.Calm H t) : t.pending = s.pending := by
  induction h with
  | refl => rfl
  | tail _ m ih => exact m.pending.trans ih

theorem State.Calm.sound {s t : State} (h : s.Calm H t) (hH : H) (hs : s.Sound) : t.Sound := by
  induction h with
  | refl => exact hs
  | tail _ m ih => exact m.sound hH ih

theorem State.Calm.tokens {s t : State} (h : s.Calm H t) (hs : s.TokensHold) : t.TokensHold := by
  induction h with
  | refl => exact hs
  | tail _ m ih => exact m.tokens ih

/-- No session gains a role or an unanswered command. -/
theorem State.Calm.sessions {s t : State} (h : s.Calm H t) {u : Transport} {y : Session} (hy : t.cmd.session u = some y) :
    ∃ x, s.cmd.session u = some x ∧ y.Under H x := by
  induction h generalizing y with
  | refl => exact ⟨y, hy, .refl H y⟩
  | tail _ m ih =>
    cases m with
    | hw w => exact ih hy
    | cmd d hd =>
      obtain ⟨z, hz, hu⟩ := hd.sessions u y hy
      obtain ⟨x, hx, hv⟩ := ih hz
      exact ⟨x, hx, hu.trans hv⟩
    | reset => cases u <;> cases hy

theorem State.Calm.liveOps {s t : State} (h : s.Calm H t) : t.cmd.liveOps ≤ s.cmd.liveOps := by
  induction h with
  | refl => exact le_rfl
  | tail _ m ih =>
    refine le_trans ?_ ih
    cases m with
    | hw w => exact le_rfl
    | cmd d hd => exact hd.opsUnder.few
    | reset => exact Nat.zero_le _

end

end Sys2Proof.Machine
end

section
/-! SUPPORT. What takes a command up: a token issued, a session opened, a command that waits, is held or goes to a secondary (R31, R35 to R37, R44). -/

namespace Sys2Proof.Machine

/-! ### A token (R44) -/

/-- If what the search answers is 0 or used, so is every number that it passed. -/
theorem freshGo_bad {used : List Nat} : ∀ {f n : Nat}, n < 2 ^ 32 → freshGo f n used ∈ 0 :: used → ∀ i ≤ f, (n + i) % 2 ^ 32 ∈ 0 :: used
  | 0, n, hn, h, i, hi => by
    obtain rfl : i = 0 := by omega
    rwa [Nat.add_zero, Nat.mod_eq_of_lt hn]
  | f + 1, n, hn, h, i, hi => by
    unfold freshGo at h
    split at h
    · next hb =>
      rcases i with _ | i
      · rw [Nat.add_zero, Nat.mod_eq_of_lt hn]
        simpa using hb
      · have := freshGo_bad (Nat.mod_lt _ (by decide)) h i (by omega)
        rwa [Nat.mod_add_mod, Nat.add_assoc, Nat.add_comm 1 i] at this
    · next hb => exact absurd (by simpa using h) hb

theorem freshGo_lt {used : List Nat} : ∀ {f n : Nat}, n < 2 ^ 32 → freshGo f n used < 2 ^ 32
  | 0, _, hn => hn
  | f + 1, n, hn => by
    unfold freshGo
    split
    · exact freshGo_lt (Nat.mod_lt _ (by decide))
    · exact hn

theorem freshToken_lt (n : Nat) (used : List Nat) : freshToken n used < 2 ^ 32 := freshGo_lt (Nat.mod_lt _ (by decide))

/-- A token is nonzero and was never issued before: one more number is tried than 0 and the used ones can bar. -/
theorem freshToken_fresh (n : Nat) {used : List Nat} (h : used.length + 2 < 2 ^ 32) : freshToken n used ∉ 0 :: used := by
  intro hb
  have all := freshGo_bad (Nat.mod_lt n (by decide)) hb
  have inj : Set.InjOn (fun i => (n % 2 ^ 32 + i) % 2 ^ 32) (Finset.range (used.length + 2)) := by
    intro i hi j hj e
    simp only [Finset.coe_range, Set.mem_Iio] at hi hj e
    omega
  have sub : (Finset.range (used.length + 2)).image (fun i => (n % 2 ^ 32 + i) % 2 ^ 32) ⊆ (0 :: used).toFinset := by
    intro m hm
    obtain ⟨i, hi, rfl⟩ := Finset.mem_image.mp hm
    exact List.mem_toFinset.mpr (all i (by have := Finset.mem_range.mp hi; omega))
  have := Finset.card_le_card sub
  rw [Finset.card_image_of_injOn inj, Finset.card_range] at this
  have := (0 :: used).toFinset_card_le
  simp only [List.length_cons] at this
  omega

/-! ### What every row keeps -/

/-- The queue stands; the bounds of Watch's command side hold as far as `H` does; tokens stay unique. -/
structure State.Keeps (H : Prop) (s t : State) : Prop where
  pending : t.pending = s.pending
  sound   : H → s.Sound → t.Sound
  tokens  : s.TokensHold → t.TokensHold

theorem State.Calm.keeps {H : Prop} {s t : State} (h : s.Calm H t) : s.Keeps H t := ⟨h.pending, h.sound, h.tokens⟩

section
variable {H : Prop}

theorem State.Keeps.refl (s : State) : s.Keeps H s := ⟨rfl, fun _ h => h, id⟩

theorem State.Keeps.trans {s t u : State} (a : s.Keeps H t) (b : t.Keeps H u) : s.Keeps H u :=
  ⟨b.pending.trans a.pending, fun h hs => b.sound h (a.sound h hs), fun hs => b.tokens (a.tokens hs)⟩

theorem State.Keeps.mono {G : Prop} {s t : State} (k : s.Keeps G t) (h : H → G) : s.Keeps H t := ⟨k.pending, fun hH => k.sound (h hH), k.tokens⟩

/-- What rests on the first state's soundness rests on nothing. -/
theorem State.Keeps.always {s t : State} (k : s.Keeps s.Sound t) : s.Keeps True t := ⟨k.pending, fun _ hs => k.sound hs hs, k.tokens⟩

/-- A state that differs only where neither operations nor tokens nor images stand. -/
theorem State.Keeps.of_cmd {s : State} {d : CmdSt} (ho : d.ops = s.cmd.ops) (hi : d.issued = s.cmd.issued) (hd : H → s.cmd.Sound → d.Sound) :
    s.Keeps H { s with cmd := d } where
  pending := rfl
  sound h hs := ⟨hd h hs.now, hs.images⟩
  tokens hs h := by
    have k := hs (hi ▸ h)
    exact ⟨hi ▸ k.once, hi ▸ k.nonzero, hi ▸ k.range, fun o hm => hi ▸ k.known o (ho ▸ hm), hi ▸ k.images⟩

/-- A session replaced by one with no more of a role. -/
theorem State.putSession_keeps {s : State} {t : Transport} {x y : Session} (hx : s.cmd.session t = some x) (hr : y.role ≤ x.role)
    (hy : H → x.Sound → y.Sound) : s.Keeps H (s.putSession t (some y)) := by
  refine .of_cmd (by simp) (by simp) fun h hc => .of_sessions (fun u z hz => ?_) (fun u v z w hz hw rz rw' => ?_)
    (by simpa using hc.fewOps) (by simpa using hc.events) (by simpa using hc.late)
  · rcases CmdSt.session_setSession_some hz with ⟨rfl, e⟩ | ⟨-, e⟩
    · cases e
      exact hy h (hc.session hx)
    · exact hc.session e
  · have up : ∀ {a q}, (s.cmd.setSession t (some y)).session a = some q → ∃ b, s.cmd.session a = some b ∧ q.role ≤ b.role := by
      intro a q hq
      rcases CmdSt.session_setSession_some hq with ⟨rfl, e⟩ | ⟨-, e⟩
      · cases e
        exact ⟨x, hx, hr⟩
      · exact ⟨q, e, le_rfl⟩
    obtain ⟨b, hb, hzb⟩ := up hz
    obtain ⟨d, hd, hwd⟩ := up hw
    exact hc.oneAdmin u v b d hb hd (rz.trans hzb) (rw'.trans hwd)

/-- A session opened where no other transport's session holds ADMIN, or it does not (R33). -/
theorem State.open_keeps (s : State) (w : Hw) {t : Transport} {y : Session} (n : Nat) (hy : y.Sound)
    (hr : 2 ≤ y.role → ∀ u x, u ≠ t → s.cmd.session u = some x → x.role < 2) :
    s.Keeps H { s with hw := w, cmd := ({ s.cmd with sessNext := n } : CmdSt).setSession t (some y) } := by
  refine .trans (State.Calm.hw s w).keeps (.of_cmd (s := { s with hw := w }) (by simp) (by simp) fun h hc => ?_)
  have old : ∀ {u z}, (({ s.cmd with sessNext := n } : CmdSt).setSession t (some y)).session u = some z →
      (u = t ∧ z = y) ∨ (u ≠ t ∧ s.cmd.session u = some z) := by
    intro u z hz
    rcases CmdSt.session_setSession_some hz with ⟨e, f⟩ | ⟨e, f⟩
    · exact .inl ⟨e, (Option.some.inj f).symm⟩
    · exact .inr ⟨e, by cases u <;> exact f⟩
  refine .of_sessions (fun u z hz => ?_) (fun u v z q hz hq rz rq => ?_) ?_ (fun u => ?_) (by simpa using hc.late)
  · rcases old hz with ⟨-, rfl⟩ | ⟨-, e⟩
    · exact hy
    · exact hc.session e
  · rcases old hz with ⟨rfl, rfl⟩ | ⟨hu, e⟩ <;> rcases old hq with ⟨rfl, rfl⟩ | ⟨hv, f⟩
    · rfl
    · exact absurd rq (Nat.not_le.mpr (hr rz v q hv f))
    · exact absurd rz (Nat.not_le.mpr (hr rq u z hu e))
    · exact hc.oneAdmin u v z q e f rz rq
  · rw [CmdSt.liveOps_setSession]
    exact hc.fewOps
  · have := hc.events u
    cases t <;> cases u <;> exact this

/-- An operation that begins under a token of its own (R44, R45): there is room for it, or it is no host's. -/
theorem State.issue_keeps (s : State) (w : Hw) (n : Nat) {o : StepOp} (ht : o.token = freshToken n s.cmd.issued)
    (ho : o.owner = none ∨ s.cmd.liveOps < 4) :
    s.Keeps H { s with hw := w, cmd := { s.cmd with
      issued := freshToken n s.cmd.issued :: s.cmd.issued, ops := s.cmd.ops.filter (fun o => !o.released) ++ [o] } } where
  pending := rfl
  sound _ hs := by
    refine ⟨.of_sessions (fun t x hx => hs.now.session (t := t) (by cases t <;> exact hx))
      (fun t u x y hx hy => hs.now.oneAdmin t u x y (by cases t <;> exact hx) (by cases u <;> exact hy)) ?_ (fun t => ?_) hs.now.late, hs.images⟩
    · have few := (OpsUnder.filter s.cmd.ops (fun o => !o.released)).few
      have now : (s.cmd.ops.filter (fun o => o.live && o.owner.isSome)).length ≤ 4 := hs.now.fewOps
      simp only [CmdSt.liveOps, List.filter_append, List.length_append] at few ho ⊢
      rcases ho with ho | ho
      · simp only [ho, Option.isSome_none, Bool.and_false, List.filter_cons_of_neg, Bool.false_eq_true, not_false_eq_true, List.filter_nil,
          List.length_nil]
        omega
      · have one := List.length_filter_le (fun o : StepOp => o.live && o.owner.isSome) [o]
        rw [List.length_singleton] at one
        omega
    · have := hs.now.events t
      cases t <;> exact this
  tokens hs h := by
    simp only [List.length_cons] at h
    have k := hs (by omega)
    have fresh := freshToken_fresh n (used := s.cmd.issued) (by omega)
    simp only [List.mem_cons, not_or] at fresh
    refine ⟨List.nodup_cons.mpr ⟨fresh.2, k.once⟩, ?_, ?_, fun p hp hl => ?_, fun i hi p hp hl => List.mem_cons_of_mem _ (k.images i hi p hp hl)⟩
    · simpa [Ne.symm fresh.1] using k.nonzero
    · exact List.forall_mem_cons.mpr ⟨freshToken_lt n _, k.range⟩
    · rcases List.mem_append.mp hp with hp | hp
      · exact List.mem_cons_of_mem _ (k.known p (List.mem_filter.mp hp).1 hl)
      · obtain rfl := List.mem_singleton.mp hp
        exact List.mem_cons.mpr (.inl ht)

theorem State.begin_keeps (s : State) (c : Caller) (o : StepOp) (h : s.cmd.liveOps < 4) : s.Keeps H (s.begin c o).1 :=
  State.issue_keeps s _ _ rfl (.inr h)

/-- A command that waits: its session has room for it, or there is none (R36, R460). -/
theorem State.await_keeps (s : State) (t : Transport) (w : Wait) {p : Packet} (hp : p.reply = true)
    (room : H → ∀ x, s.cmd.session t = some x → x.outstanding ≤ 7) : s.Keeps H (s.await t w p) := by
  unfold State.await
  split
  · next x hx =>
    refine State.putSession_keeps hx le_rfl fun h k => ⟨?_, k.cached, fun v q e => ?_, k.replies⟩
    · have := room h x hx
      simp only [Session.outstanding, Option.isSome_some, b2n, if_true] at this ⊢
      omega
    · cases e
      exact hp
  · split
    · refine .of_cmd rfl rfl fun _ k => .of_sessions (fun u x hx => k.session (t := u) (by cases u <;> exact hx))
        (fun u v x y hx hy => k.oneAdmin u v x y (by cases u <;> exact hx) (by cases v <;> exact hy)) k.fewOps (fun u => ?_) fun e he => ?_
      · have := k.events u
        cases u <;> exact this
      · rcases List.mem_append.mp he with he | he
        · exact k.late e he
        · obtain rfl := List.mem_singleton.mp he
          exact hp
    · exact (State.Calm.cmd s (.move (.push t p fun _ => .inl hp))).keeps

end

end Sys2Proof.Machine
end

section
/-! SUPPORT. Serving a host command keeps what every row keeps, whatever its meaning, as long as that meaning does (R31, R34 to R37). -/

namespace Sys2Proof.Machine

/-- A meaning's outcome that serving can take: calm, or it keeps what every row keeps and answers at once, as SESSION_OPEN does. -/
def State.Fair (s : State) (r : State × Ans) : Prop := s.Calm True r.1 ∨ (s.Keeps True r.1 ∧ r.2.wait = none)

/-- What serving asks of the meaning of a row. -/
structure Spec.Fair (sp : Spec) (body : Caller → State → State × Ans) : Prop where
  keeps : ∀ (c : Caller) (s : State), (sp.stepped = true → s.cmd.liveOps < 4) → s.Fair (body c s)
  opens : sp.op = 0x01 → ∀ c s, (body c s).2.wait = none

section
variable {H : Prop} {s : State} {h : Hdr} {sp : Spec} {params : List Byte} {body : Caller → State → State × Ans}

theorem State.reply_calm (s : State) (h : Hdr) (op : Nat) (a : Ans) : s.Calm H (s.reply h op a) :=
  State.Calm.cmd s (CmdSt.answer_calm _ _ fun _ => rfl)

theorem State.casJoin_calm (s : State) (op : Nat) (h : Hdr) (params : List Byte) (a : Ans) : s.Calm H (s.casJoin op h params a).1 := by
  unfold State.casJoin
  split
  · exact .refl
  · dsimp only
    split
    · exact .hw s _
    · split
      · exact .hw s _
      · exact State.hwDrain_calm s _

theorem State.casJoin_wait (s : State) (op : Nat) (h : Hdr) (params : List Byte) {a : Ans} (ha : a.wait = none) :
    (s.casJoin op h params a).2.wait = none := by
  unfold State.casJoin
  split
  · exact ha
  · dsimp only
    split
    · exact ha
    · split
      · exact ha
      · dsimp only
        split
        · rfl
        · exact ha

/-- A refusal does not wait. -/
theorem wait_of_ite {p : Prop} [Decidable p] {a b : Ans} {r : Option Ans} (e : (if p then some b else r) = some a) (hb : b.wait = none)
    (hr : r = some a → a.wait = none) : a.wait = none := by
  split at e
  · cases e
    exact hb
  · exact hr e

theorem State.gate_wait {c : Caller} {a : Ans} (e : s.gate sp c = some a) : a.wait = none :=
  wait_of_ite e rfl fun e => wait_of_ite e rfl fun e => wait_of_ite e rfl fun e => wait_of_ite e rfl fun e => by cases e

theorem State.judge_wait {c : Caller} {a : Ans} (e : s.judge sp c = some a) : a.wait = none := by
  unfold State.judge at e
  split at e
  · next b hb =>
    cases e
    exact State.gate_wait hb
  · exact wait_of_ite e rfl fun e => wait_of_ite e rfl fun e => wait_of_ite e rfl fun e => by cases e

/-- A stepped command passes the resource check only beside fewer than 4 (R45). -/
theorem State.judge_slots {c : Caller} (e : s.judge sp c = none) (hs : sp.stepped = true) : s.cmd.liveOps < 4 := by
  unfold State.judge at e
  split at e
  · cases e
  · dsimp only at e
    split at e
    · cases e
    · split at e
      · cases e
      · split at e
        · cases e
        · next k => exact Nat.not_le.mp fun n => k ⟨hs, n⟩

theorem State.perform_fair (f : sp.Fair body) : s.Fair (s.perform h sp params body) := by
  unfold State.perform
  split
  · exact .inl .refl
  · next hj =>
    dsimp only
    have k := f.keeps (callerOf h s.cmd) s (State.judge_slots hj)
    split
    · exact k.imp (fun k => k.trans (State.casJoin_calm _ _ _ _ _))
        (fun k => ⟨k.1.trans (State.casJoin_calm _ _ _ _ _).keeps, State.casJoin_wait _ _ _ _ k.2⟩)
    · exact k

theorem State.perform_opens (f : sp.Fair body) (ho : sp.op = 0x01) : (s.perform h sp params body).2.wait = none := by
  unfold State.perform
  split
  · next a hj => exact State.judge_wait hj
  · dsimp only
    split
    · exact State.casJoin_wait _ _ _ _ (f.opens ho _ _)
    · exact f.opens ho _ _

/-- A command runs for a session that has room for its wait, as far as `H` holds, or cannot wait. -/
def State.Room (s : State) (H : Prop) (h : Hdr) (sp : Spec) : Prop :=
  sp.op = 0x01 ∨ (H → ∀ x, s.cmd.session h.tr = some x → x.outstanding ≤ 7)

theorem State.run_keeps (f : sp.Fair body) (room : s.Room H h sp) : s.Keeps H (s.run h sp params body) := by
  have k := State.perform_fair (s := s) (h := h) (params := params) f
  unfold State.run
  dsimp only
  split
  · next w hw =>
    have calm : s.Calm True (s.perform h sp params body).1.drain :=
      .trans (k.resolve_right fun k => by simp [hw] at k) (State.drain_calm _)
    refine (calm.keeps.mono fun _ => trivial).trans (State.await_keeps _ _ _ rfl fun hH y hy => ?_)
    have room := room.resolve_left fun ho => by simp [State.perform_opens f ho] at hw
    obtain ⟨x, hx, hu⟩ := calm.sessions hy
    exact hu.owes.trans (room hH x hx)
  · have tail : ∀ t : State, t.Calm True (t.drain.reply h sp.op (s.perform h sp params body).2) :=
      fun t => (State.drain_calm t).trans (State.reply_calm _ _ _ _)
    refine State.Keeps.mono (G := True) ?_ fun _ => trivial
    rcases k with k | k
    · exact State.Calm.keeps (.trans k (tail _))
    · exact k.1.trans (tail _).keeps

/-- A command goes away to a secondary: its session has room for it (R36, R37). -/
theorem State.away_keeps (s : State) (t : Transport) (opens : Bool) (e : Away)
    (room : opens = true ∨ (H → ∀ x, s.cmd.session t = some x → x.outstanding ≤ 7)) :
    s.Keeps H (match (if opens then none else s.cmd.session t) with
      | some x => s.putSession t (some { x with away := x.away ++ [e] })
      | none => { s with cmd := { s.cmd with strays := s.cmd.strays ++ [(t, e)] } }) := by
  split
  · next x hx =>
    split at hx
    · cases hx
    · next ho =>
      refine State.putSession_keeps hx le_rfl fun hH k => ⟨?_, k.cached, k.waits, k.replies⟩
      have := room.resolve_left ho hH x hx
      simp only [Session.outstanding, List.length_append, List.length_singleton] at this ⊢
      omega
  · exact (State.Calm.cmd s (.move (.rest { s.cmd with strays := s.cmd.strays ++ [(t, e)] } (fun t => by cases t <;> rfl)
      (fun t => by cases t <;> rfl) rfl rfl fun e he => he))).keeps

theorem State.forward_keeps (op : Nat) (room : op = 0x01 ∨ (H → ∀ x, s.cmd.session h.tr = some x → x.outstanding ≤ 7)) :
    s.Keeps H (s.forward h op params) := by
  let w := s.hw.handOver h.subaddr.toNat
    { kind := 0, opcode := BitVec.ofNat 8 op, tag := h.tag, seq := h.seq, status := 0, bytes := params, role := h.role, subaddr := h.subaddr }
  have k := State.away_keeps { s with hw := w } h.tr (decide (op = 0x01))
    { dev := h.subaddr.toNat, op := op, tag := h.tag.toNat, seq := h.seq.toNat, role := h.role.toNat, peer := h.peer }
    (room.imp decide_eq_true id)
  simp only [decide_eq_true_eq] at k
  exact (State.Calm.hw s w).keeps.trans k

theorem State.start_keeps (f : sp.Fair body) (room : s.Room H h sp) : s.Keeps H (s.start h sp params body) := by
  unfold State.start
  split
  · exact State.run_keeps f room
  · split
    · exact (State.reply_calm s h _ _).keeps
    · split
      · exact State.forward_keeps _ room
      · exact (State.reply_calm s h _ _).keeps

theorem State.intake_keeps (f : sp.Fair body) (i : Instr) (seqBad : Bool) : s.Keeps True (s.intake i h sp params seqBad body) := by
  unfold State.intake
  split
  · exact (State.reply_calm s h _ _).keeps
  · split
    · next hn => exact State.start_keeps f (.inr fun _ x hx => by simp [hn] at hx)
    · next x hx =>
      split
      · next ho => exact State.start_keeps f (.inl ho)
      · split
        · exact (State.reply_calm s h _ _).keeps
        · next few =>
          split
          · refine State.putSession_keeps hx le_rfl fun _ k => ⟨?_, k.cached, k.waits, k.replies⟩
            simp only [Session.outstanding, List.length_append, List.length_singleton] at few ⊢
            omega
          · refine State.start_keeps f (.inr fun _ y hy => ?_)
            obtain rfl : x = y := Option.some.inj (hx.symm.trans hy)
            omega

theorem State.narrow_keeps {t : Transport} {x y : Session} (hx : s.cmd.session t = some x) (hy : y.Under H x) :
    s.Keeps H (s.putSession t (some y)) := State.putSession_keeps hx hy.role hy.sound

theorem State.resend_keeps {x : Session} {t : Transport} {e : Cached} (hx : s.cmd.session t = some x) (he : e ∈ x.accepted) :
    s.Keeps s.Sound (s.resend t e) := by
  unfold State.resend
  split
  · next p hp => exact (State.Calm.cmd s (.move (.push t p fun hs => .inl ((hs.now.session hx).replies e p he hp)))).keeps
  · exact .refl s

/-- Serving a command keeps the queue, the bounds of Watch's command side and the uniqueness of tokens. -/
theorem State.serve_keeps (f : sp.Fair body) (i : Instr) : s.Keeps True (s.serve i h sp params body) := by
  unfold State.serve
  split
  · exact .refl s
  · split
    · exact (State.Calm.cmd s (.move (.rest { s.cmd with discarded := satAdd 0xFFFF s.cmd.discarded 1 } (fun t => by cases t <;> rfl)
        (fun t => by cases t <;> rfl) rfl rfl fun e he => he))).keeps
    · split
      · exact State.intake_keeps f i _
      · next x hx =>
        split
        · next hr =>
          have less : ({ x with resume := none } : Session).outstanding + 1 = x.outstanding := by
            simp only [Session.outstanding, hr, Option.isSome_some, Option.isSome_none, b2n, if_true, Bool.false_eq_true, if_false]
            omega
          have put : s.Keeps True (s.putSession h.tr (some { x with resume := none })) :=
            State.putSession_keeps hx le_rfl fun _ k => ⟨by have := k.waiting; omega, k.cached, k.waits, k.replies⟩
          refine .always ((put.mono fun _ => trivial).trans (State.start_keeps f (.inr fun hs y hy => ?_)))
          obtain rfl : ({ x with resume := none } : Session) = y := by simpa [State.putSession] using hy
          have := (hs.now.session hx).waiting
          omega
        · have heard := State.narrow_keeps (H := True) hx (Session.heard_under x s.hw.ticks)
          dsimp only
          split
          · exact heard.trans (State.intake_keeps f i _)
          · split
            · next e he =>
              refine heard.trans (.always (State.resend_keeps (x := x.heard s.hw.ticks) (by simp [State.putSession]) ?_))
              exact List.mem_of_find?_eq_some he
            · split
              · have took : s.Keeps True (s.took h x) :=
                  (State.narrow_keeps hx ((Session.accept_under _ h).trans (Session.heard_under x _))).trans (State.Calm.hw _ _).keeps
                exact took.trans (State.intake_keeps f i _)
              · exact heard.trans (State.intake_keeps f i _)

end

end Sys2Proof.Machine
end

section
/-! SUPPORT. The meaning of every host command is one that serving can take. -/

namespace Sys2Proof.Machine

section
variable {s : State}

theorem State.fair_still (s : State) (a : Ans) : s.Fair (s, a) := .inl .refl
theorem State.fair_hw (s : State) (w : Hw) (a : Ans) : s.Fair ({ s with hw := w }, a) := .inl (.hw s w)
theorem State.fair_hwStep (s : State) (f : Hw → Hw) (a : Ans) : s.Fair (s.hwStep f, a) := .inl (State.hwStep_calm s f)
theorem State.fair_drain (s : State) (w : Hw) (a : Ans) : s.Fair (({ s with hw := w } : State).drain, a) := .inl (State.hwDrain_calm s w)
theorem State.fair_hw_hwStep (s : State) (w : Hw) (f : Hw → Hw) (a : Ans) : s.Fair (({ s with hw := w } : State).hwStep f, a) :=
  .inl ((State.Calm.hw s w).trans (State.hwStep_calm _ f))
theorem State.fair_begin (s : State) (c : Caller) (o : StepOp) (h : s.cmd.liveOps < 4) : s.Fair (s.begin c o) := .inr ⟨State.begin_keeps s c o h, rfl⟩
theorem State.fair_ite (s : State) (p : Prop) [Decidable p] (x y : State × Ans) : s.Fair (if p then x else y) ↔ (p → s.Fair x) ∧ (¬ p → s.Fair y) := by
  split <;> simp [*]

end

theorem State.Fair.after {s t u : State} {a : Ans} (f : s.Fair (t, a)) (k : t.Calm True u) : s.Fair (u, a) :=
  f.imp (fun c => .trans c k) fun c => ⟨c.1.trans k.keeps, c.2⟩

/-- An operation that begins on what a calm change left. -/
theorem State.fair_begin_after {s t : State} (k : s.Calm True t) (c : Caller) (o : StepOp) (h : s.cmd.liveOps < 4) : s.Fair (t.begin c o) :=
  .inr ⟨k.keeps.trans (State.begin_keeps t c o (Nat.lt_of_le_of_lt k.liveOps h)), rfl⟩

/-! ### Registers -/

theorem State.readReg_calm {H : Prop} (s : State) (a : Nat) : s.Calm H (s.readReg a).1 := by
  unfold State.readReg
  split
  · exact .refl
  · split
    · exact .refl
    · exact .hw s _

theorem State.readRegs_calm {H : Prop} (s : State) (l : List Nat) : s.Calm H (s.readRegs l).1 := by
  suffices ∀ (l : List Nat) (e : State × List Byte), s.Calm H e.1 → s.Calm H (l.foldl (fun (e : State × List Byte) a =>
      let (s, v) := e.1.readReg a
      (s, e.2 ++ le 4 v)) e).1 from this l (s, []) .refl
  intro l
  induction l with
  | nil => exact fun _ k => k
  | cons a l ih => exact fun e k => ih _ (.trans k (State.readReg_calm e.1 a))

theorem State.writeReg_calm {H : Prop} (s : State) (c : Caller) (a v off : Nat) : s.Calm H (s.writeReg c a v off).1 := by
  unfold State.writeReg
  exact State.hwStep_calm s (fun hw => hw.writeReg c.service a v)

theorem State.writeRegs_calm {H : Prop} (c : Caller) (l : List (Nat × Nat)) (s : State) (off : Nat) : s.Calm H (s.writeRegs c l off).1 := by
  induction l generalizing s off with
  | nil => exact .refl
  | cons e l ih =>
    have k := State.writeReg_calm (H := H) s c e.1 e.2 off
    unfold State.writeRegs
    dsimp only
    split
    · exact .trans k (ih _ _)
    · exact k

theorem State.listWrite_calm {H : Prop} (c : Caller) (l : List (U32 × U32)) (s : State) (n off : Nat) : s.Calm H (s.listWrite c l n off).1 := by
  induction l generalizing s n off with
  | nil => exact .refl
  | cons e l ih =>
    unfold State.listWrite
    split
    · exact .refl
    · have k := State.writeReg_calm (H := H) s c e.1.toNat e.2.toNat (off + 4)
      dsimp only
      split
      · exact .trans k (ih _ _ _)
      · exact k

/-! ### Uploads (R47) -/

theorem State.upload_fair (s : State) (c : Caller) (opcode : Nat) (holds : List Nat) (ck : Chunk) (own data : List Byte) (bad : Option Ans) :
    s.Fair (s.upload c opcode holds ck own data bad) := by
  unfold State.upload
  dsimp only
  by_cases first : ck.token.toNat = 0
  · rw [if_pos first]
    split
    · exact State.fair_still _ _
    · next free =>
      rw [not_or, Nat.not_le] at free
      simp only [State.fair_ite, State.fair_still, implies_true, true_and]
      intro _ _
      cases bad with
      | some a => exact State.fair_still _ _
      | none => exact State.fair_begin s c _ free.2
  · rw [if_neg first]
    split
    · exact State.fair_still _ _
    · split
      · split
        · exact .inl (State.finishOp_calm _ _ _ _)
        · exact .inl (State.Calm.cmd s (CmdSt.updOp_calm _ _ (fun _ => rfl) (fun _ => rfl) fun _ k => k))
      · exact State.fair_still _ _

theorem State.fwFirst_calm {H : Prop} (s : State) (data : List Byte) : s.Calm H (s.fwFirst data) := by
  unfold State.fwFirst
  split
  · exact .refl
  · dsimp only
    split
    · exact .hw s _
    · refine .trans ?_ (State.drain_calm _)
      exact State.Calm.both s _ (CmdSt.updOp_calm _ _ (fun _ => rfl) (fun _ => rfl) fun _ k => k)

theorem State.Fair.fwFirst {s : State} {r : State × Ans} (f : s.Fair r) (p : Prop) [Decidable p] (data : List Byte) :
    s.Fair (if p then r.1.fwFirst data else r.1, r.2) := by
  split
  · exact f.after (State.fwFirst_calm _ _)
  · exact f

/-! ### Sessions -/

/-- A session that has just opened. -/
theorem Session.sound_fresh (number name role heartbeat lastSeq lastSeen tag : Nat) (peer : Peer) :
    ({ number := number, name := name, role := role, heartbeat := heartbeat, lastSeq := lastSeq, lastSeen := lastSeen
       accepted := [{ seq := lastSeq, tag := tag }], peer := peer } : Session).Sound where
  waiting := by simp [Session.outstanding, b2n]
  cached := by simp
  waits := by simp
  replies e p he hp := by
    obtain rfl := List.mem_singleton.mp he
    cases hp

/-- A session that may hold ADMIN is the only one (R33). -/
theorem CmdSt.adminTaken_false {c : CmdSt} {t u : Transport} {x : Session} (h : c.adminTaken t = false) (hu : u ≠ t) (hx : c.session u = some x) :
    x.role < 2 := by
  have := List.any_eq_false.mp h u (by cases u <;> decide)
  simpa [hu, hx] using this

/-- A host command whose meaning is one that serving can take. -/
def ServedFairly (c : Instr) : Prop :=
  ∃ h body, hdrOf c = some h ∧ (∀ s, exec c s = .next (s.serve c h (rowOf c) (paramsOf c) body)) ∧ (rowOf c).Fair body

/-- A row that opens no session. -/
theorem servedFairly {c : Instr} {h : Hdr} {body : Caller → State → State × Ans} (e : hdrOf c = some h) (ho : (opOf c == 0x01) = false)
    (he : ∀ s, exec c s = .next (s.serve c h (rowOf c) (paramsOf c) body))
    (hb : ∀ (a : Caller) (s : State), ((rowOf c).stepped = true → s.cmd.liveOps < 4) → s.Fair (body a s)) : ServedFairly c :=
  ⟨h, body, e, he, hb, fun k => absurd ((rowOf_op c h e).symm.trans k) (by simpa using ho)⟩


theorem sessionOpen_fair (h : Hdr) (role : U8) (ms : U16) : ServedFairly (.sessionOpen h role ms) := by
  refine ⟨h, _, rfl, fun _ => rfl, fun c s _ => ?_, fun _ c s => ?_⟩
  · dsimp only
    split
    · exact State.fair_still _ _
    · split
      · exact State.fair_still _ _
      · split
        · exact State.fair_still _ _
        · next free =>
          split
          · exact State.fair_still _ _
          · split
            · exact State.fair_still _ _
            · next bad _ _ _ =>
              have closed : s.Calm True (s.closeSession c.tr).drain := .trans (State.closeSession_calm s c.tr) (State.drain_calm _)
              refine .inr ⟨closed.keeps.trans (State.open_keeps _ _ _ (Session.sound_fresh _ _ _ _ _ _ _ _) fun high u y hu hy => ?_), rfl⟩
              obtain ⟨x, hx, le⟩ := closed.sessions hy
              have : s.cmd.adminTaken c.tr = false := by
                rw [not_or, Nat.not_lt] at bad
                simpa using fun k => free ⟨high, bad.2, k⟩
              exact Nat.lt_of_le_of_lt le.role (CmdSt.adminTaken_false this hu hx)
  · dsimp only
    repeat' split
    all_goals rfl

theorem servedFairly_device {c : Instr} {h : Hdr} (e : hdrOf c = some h) (hc : opOf c < 0x30) : ServedFairly c := by
  cases c with
  | sessionOpen => exact sessionOpen_fair _ _ _
  | sessionClose => exact servedFairly rfl rfl (fun _ => rfl) fun c s _ => .inl (.trans (State.closeSession_calm s c.tr) (State.drain_calm _))
  | regRead =>
    refine servedFairly rfl rfl (fun _ => rfl) fun c s _ => ?_
    simp only [State.fair_ite, State.fair_still, implies_true, true_and]
    exact fun _ _ _ => .inl (State.readRegs_calm s _)
  | regWrite =>
    refine servedFairly rfl rfl (fun _ => rfl) fun c s _ => ?_
    dsimp only
    split
    · exact State.fair_still _ _
    · simp only [State.fair_ite, State.fair_still, implies_true, true_and, and_true]
      exact fun _ _ => .inl (State.writeRegs_calm c _ s _)
  | regRmw h a m v =>
    refine servedFairly rfl rfl (fun _ => rfl) fun c s _ => ?_
    dsimp only
    split
    · exact State.fair_still _ _
    · have k := fun n => (State.readReg_calm (H := True) s a.toNat).trans (State.writeReg_calm _ c a.toNat n 24)
      rw [State.fair_ite]
      exact ⟨fun _ => .inl (k _), fun _ => .inl (k _)⟩
  | regPoll =>
    refine servedFairly rfl rfl (fun _ => rfl) fun c s _ => ?_
    simp only [State.fair_ite, State.fair_still, implies_true, true_and]
    exact fun _ _ _ => ⟨fun _ => .inl (State.readReg_calm s _), fun _ => .inl (State.readReg_calm s _)⟩
  | bulkRead =>
    refine servedFairly rfl rfl (fun _ => rfl) fun c s room => ?_
    simp only [State.fair_ite, State.fair_still, State.fair_begin _ _ _ (room rfl), implies_true, true_and]
  | regListWrite =>
    refine servedFairly rfl rfl (fun _ => rfl) fun c s _ => ?_
    simp only [State.fair_ite, State.fair_still, implies_true, true_and]
    exact fun _ => .inl (State.listWrite_calm c _ s _ _)
  | modeSet =>
    refine servedFairly rfl rfl (fun _ => rfl) fun c s _ => ?_
    split
    · simp only [State.fair_ite, State.fair_still, implies_true, true_and]
      exact fun _ _ few => State.fair_begin_after ((State.Calm.hw s _).trans (State.endAuto_calm _)) _ _ (Nat.not_le.mp few)
    · exact State.fair_still _ _
  | _ =>
    all_goals simp only [hdrOf, reduceCtorEq] at e
    all_goals simp only [opOf, Nat.reduceLT] at hc
    all_goals refine servedFairly rfl rfl (fun _ => rfl) fun a s room => ?_
    repeat' split
    all_goals simp only [State.fair_ite, State.fair_still, State.fair_hw, State.fair_hwStep, State.fair_drain, State.fair_hw_hwStep, implies_true, and_self]

theorem servedFairly_scan {c : Instr} {h : Hdr} (e : hdrOf c = some h) (h30 : 0x30 ≤ opOf c) (h60 : opOf c < 0x60) : ServedFairly c := by
  cases c with
  | planLoad => exact servedFairly rfl rfl (fun _ => rfl) fun _ _ _ => State.upload_fair _ _ _ _ _ _ _ _
  | planCheck =>
    refine servedFairly rfl rfl (fun _ => rfl) fun c s _ => ?_
    dsimp only
    repeat' split
    all_goals simp only [State.fair_still, State.fair_hw]
  | axisConfig =>
    refine servedFairly rfl rfl (fun _ => rfl) fun c s _ => ?_
    simp only [State.fair_ite, State.fair_still, implies_true, true_and]
    intro _ _
    split
    · exact State.fair_still _ _
    · simp only [State.fair_ite, State.fair_still, State.fair_hw, implies_true, and_self]
  | sifterSet => exact servedFairly rfl rfl (fun _ => rfl) fun _ _ _ => State.upload_fair _ _ _ _ _ _ _ _
  | placementRead =>
    refine servedFairly rfl rfl (fun _ => rfl) fun c s room => ?_
    repeat' split
    all_goals simp only [State.fair_still, State.fair_begin _ _ _ (room rfl)]
  | pinTest => exact servedFairly rfl rfl (fun _ => rfl) fun c s room => State.fair_begin s c _ (room rfl)
  | lanternLedger =>
    refine servedFairly rfl rfl (fun _ => rfl) fun c s room => ?_
    simp only [State.fair_ite, State.fair_still, State.fair_begin _ _ _ (room rfl), implies_true, true_and]
  | _ =>
    all_goals simp only [hdrOf, reduceCtorEq] at e
    all_goals simp only [opOf, Nat.reduceLT, Nat.reduceLeDiff] at h30 h60
    all_goals refine servedFairly rfl rfl (fun _ => rfl) fun a s room => ?_
    repeat' split
    all_goals simp only [State.fair_ite, State.fair_still, State.fair_hw, State.fair_hwStep, State.fair_drain, implies_true, and_self]

theorem servedFairly_calibration {c : Instr} {h : Hdr} (e : hdrOf c = some h) (h60 : 0x60 ≤ opOf c) (h90 : opOf c < 0x90) : ServedFairly c := by
  cases c with
  | calRun =>
    refine servedFairly rfl rfl (fun _ => rfl) fun c s _ => ?_
    simp only [State.fair_ite, State.fair_still, implies_true, true_and, not_or, Nat.not_le]
    exact fun _ few _ => ⟨fun _ => State.fair_begin_after (State.endAuto_calm s) _ _ few.1, fun _ => State.fair_begin_after (.hw s _) _ _ few.1⟩
  | calSetRead =>
    refine servedFairly rfl rfl (fun _ => rfl) fun c s room => ?_
    repeat' split
    all_goals simp only [State.fair_still, State.fair_begin _ _ _ (room rfl)]
  | guardMapLoad => exact servedFairly rfl rfl (fun _ => rfl) fun _ _ _ => State.upload_fair _ _ _ _ _ _ _ _
  | laneStepUp =>
    refine servedFairly rfl rfl (fun _ => rfl) fun c s room => ?_
    simp only [State.fair_ite, State.fair_still, State.fair_begin _ _ _ (room rfl), implies_true, true_and]
  | laneTest =>
    refine servedFairly rfl rfl (fun _ => rfl) fun c s room => ?_
    simp only [State.fair_ite, State.fair_still, implies_true, true_and]
    exact fun _ _ _ _ _ _ => (State.fair_begin s c _ (room rfl)).after (State.hwStep_calm _ _)
  | _ =>
    all_goals simp only [hdrOf, reduceCtorEq] at e
    all_goals simp only [opOf, Nat.reduceLT, Nat.reduceLeDiff] at h60 h90
    all_goals refine servedFairly rfl rfl (fun _ => rfl) fun a s room => ?_
    repeat' split
    all_goals simp only [State.fair_ite, State.fair_still, State.fair_hw, State.fair_hwStep, State.fair_drain, State.fair_hw_hwStep, implies_true, and_self]

theorem servedFairly_service {c : Instr} {h : Hdr} (e : hdrOf c = some h) (h90 : 0x90 ≤ opOf c) : ServedFairly c := by
  cases c with
  | camMeshLoad => exact servedFairly rfl rfl (fun _ => rfl) fun _ _ _ => State.upload_fair _ _ _ _ _ _ _ _
  | pmcFreeze h freeze =>
    refine servedFairly rfl rfl (fun _ => rfl) fun c s _ => ?_
    simp only [State.fair_ite, State.fair_still, implies_true, true_and]
    intro _
    cases (if freeze = 1 then (s.hw.pmcFreeze (decide (freeze = 1))).pmc.snap else s.hw.pmc.snap)
    · exact State.fair_hw s _ _
    · exact State.fair_hw s _ _
  | bistRun =>
    refine servedFairly rfl rfl (fun _ => rfl) fun c s room => ?_
    simp only [State.fair_ite, State.fair_still, State.fair_begin _ _ _ (room rfl), implies_true, true_and]
  | eventSubscribe =>
    refine servedFairly rfl rfl (fun _ => rfl) fun c s _ => ?_
    simp only [State.fair_ite, State.fair_still, implies_true, true_and]
    intro _
    split
    · exact State.fair_still _ _
    · next x hx => exact .inl (State.Calm.cmd s (.move (.narrow _ x _ hx (Session.under_of_same le_rfl rfl rfl rfl rfl rfl))))
  | secPassword =>
    refine servedFairly rfl rfl (fun _ => rfl) fun c s _ => ?_
    simp only [State.fair_ite, State.fair_drain, implies_true, true_and]
  | fwUpdate =>
    refine servedFairly rfl rfl (fun _ => rfl) fun c s _ => ?_
    exact State.Fair.fwFirst (State.upload_fair s c _ _ _ _ _ _) _ _
  | secClose =>
    exact servedFairly rfl rfl (fun _ => rfl) fun c s _ => .inl (.trans (State.hwStep_calm s _) (State.dropAdmin_calm _))
  | stepAbort =>
    refine servedFairly rfl rfl (fun _ => rfl) fun c s _ => ?_
    split
    · exact State.fair_still _ _
    · simp only [State.fair_ite, State.fair_still, implies_true, true_and]
      exact fun _ _ => .inl (State.endOp_calm s _ _ _)
  | stepFetch =>
    refine servedFairly rfl rfl (fun _ => rfl) fun c s _ => ?_
    split
    · exact State.fair_still _ _
    · simp only [State.fair_ite, State.fair_still, implies_true, true_and]
      intro _ _ _
      refine .inl ?_
      dsimp only
      split
      · exact State.Calm.cmd s (CmdSt.updOp_calm _ _ (fun _ => rfl) (fun _ => rfl) fun _ k => k)
      · exact .refl
  | _ =>
    all_goals simp only [hdrOf, reduceCtorEq] at e
    all_goals simp only [opOf, Nat.reduceLeDiff] at h90
    all_goals refine servedFairly rfl rfl (fun _ => rfl) fun a s room => ?_
    repeat' split
    all_goals simp only [State.fair_ite, State.fair_still, State.fair_hw, State.fair_drain, implies_true, and_self]

/-- The meaning of every host command is one that serving can take. -/
theorem servedFairly_of_hdr {c : Instr} {h : Hdr} (e : hdrOf c = some h) : ServedFairly c := by
  rcases Nat.lt_or_ge (opOf c) 0x30 with k | k
  · exact servedFairly_device e k
  rcases Nat.lt_or_ge (opOf c) 0x60 with l | l
  · exact servedFairly_scan e k l
  rcases Nat.lt_or_ge (opOf c) 0x90 with m | m
  · exact servedFairly_calibration e l m
  · exact servedFairly_service e m

/-- A host command keeps what every row keeps. -/
theorem exec_keeps_of_hdr {c : Instr} {h : Hdr} (e : hdrOf c = some h) {s t : State} (k : exec c s = .next t) : s.Keeps True t := by
  obtain ⟨_, body, -, he, hf⟩ := servedFairly_of_hdr e
  rw [he] at k
  cases k
  exact State.serve_keeps hf c

end Sys2Proof.Machine
end

section
/-! SUPPORT. The events that are a step of the hardware, and nothing of Watch's own. -/

namespace Sys2Proof.Machine

/-- One step of the hardware, its signals delivered, or none. -/
def State.HwMove (s t : State) : Prop := t = s ∨ ∃ f, t = s.hwStep f

section
variable (s : State)

theorem State.hwMove_self : s.HwMove s := .inl rfl
theorem State.hwMove_hwStep (f : Hw → Hw) : s.HwMove (s.hwStep f) := .inr ⟨f, rfl⟩
theorem State.hwMove_clocked (n : Nat) (f : Hw → Hw) : s.HwMove (s.clocked n f) := by
  unfold State.clocked
  split
  · exact s.hwMove_hwStep f
  · exact s.hwMove_self
theorem State.hwMove_keepers (n : Nat) (f : Hw → Hw) : s.HwMove (s.keepers n f) := by
  unfold State.keepers
  split
  · exact s.hwMove_clocked n f
  · exact s.hwMove_self
theorem State.hwMove_ite (p : Prop) [Decidable p] (t u : State) : s.HwMove (if p then t else u) ↔ (p → s.HwMove t) ∧ (¬ p → s.HwMove u) := by
  split <;> simp [*]

end

/-- The events that Watch sees to itself: sessions, packets, operations, epochs, the packets of a lane. -/
def watchEvent : Instr → Bool
  | .packetDiscarded _ => true
  | .crcError _ _ _ _ => true
  | .spiShiftOut _ => true
  | .sessionHeartbeatTimeout _ => true
  | .steppedOpStep _ _ => true
  | .stepProgress _ => true
  | .uploadTimeout _ => true
  | .resultRelease _ => true
  | .eventsLost _ => true
  | .calAutoStart => true
  | .lpTransmit _ => true
  | .epochBoundary => true
  | .epochSeal => true
  | .watchFailDeclare _ _ => true
  | .cascadeForward _ _ => true
  | .regPollEnd _ => true
  | .safeAckSelftestEnd _ _ => true
  | _ => false

/-- What an event answers that is a step of the hardware. -/
def Moves (c : Instr) (s : State) : Prop := ∃ t, exec c s = .next t ∧ s.HwMove t

theorem moves_island {c : Instr} {n : Nat} (s : State) (hk : keeperEvent c = false) (h : islandOf c = some n)
    (hc : ∀ a b d f g, c ≠ .tideConversionEnd a b d f g) : Moves c s := by
  have clocked : ∀ f, ∃ t, (.next (s.clocked n f) : Out) = .next t ∧ s.HwMove t := fun f => ⟨_, rfl, s.hwMove_clocked n f⟩
  have guarded : ∀ (p : Prop) [Decidable p] f, ∃ t, (.next (if p then s.clocked n f else s) : Out) = .next t ∧ s.HwMove t := fun p _ f =>
    ⟨_, rfl, (s.hwMove_ite p _ _).mpr ⟨fun _ => s.hwMove_clocked n f, fun _ => s.hwMove_self⟩⟩
  cases c <;> cases h <;> cases hk
  case tideConversionEnd => exact absurd rfl (hc _ _ _ _ _)
  case tickDeadline | axisStartTimeout | resonantDacUpdate | sifterSlot | sifterParityError | pointPacketFlush => exact guarded _ _
  all_goals exact clocked _

theorem moves_register {c : Instr} (s : State) (e : hdrOf c = none) (hi : islandOf c = none) (hw : watchEvent c = false) : Moves c s := by
  have step : ∀ f, ∃ t, (.next (s.hwStep f) : Out) = .next t ∧ s.HwMove t := fun f => ⟨_, rfl, s.hwMove_hwStep f⟩
  have guarded : ∀ (p : Prop) [Decidable p] f, ∃ t, (.next (if p then s.hwStep f else s) : Out) = .next t ∧ s.HwMove t := fun p _ f =>
    ⟨_, rfl, (s.hwMove_ite p _ _).mpr ⟨fun _ => s.hwMove_hwStep f, fun _ => s.hwMove_self⟩⟩
  cases c <;> cases e <;> cases hi <;> cases hw
  case idleEnter => exact ⟨_, rfl, (s.hwMove_ite _ _ _).mpr ⟨fun _ => s.hwMove_self, fun _ => s.hwMove_hwStep _⟩⟩
  case idleExit => exact ⟨_, rfl, (s.hwMove_ite _ _ _).mpr ⟨fun _ => s.hwMove_self, fun _ => s.hwMove_hwStep _⟩⟩
  case bcnCodeSeedWrite | bcnDrvWrite | bcnBankWrite | lntGridWrite | lntLimitWrite | spdTabWinWrite | tileCtlWrite | tileRetire |
      tileTabDataRead | sftChDetWrite | dmkFreqStart | glzPExpofsWrite | glzPMapWrite | sltEngCfgWrite =>
    exact guarded _ _
  all_goals exact step _

/-- Every event but Watch's own and the end of a Tide conversion, which can fault, is a step of the hardware or nothing. -/
theorem moves_of_event {c : Instr} (s : State) (e : hdrOf c = none) (hw : watchEvent c = false)
    (hc : ∀ a b d f g, c ≠ .tideConversionEnd a b d f g) : Moves c s := by
  cases hk : keeperEvent c with
  | true =>
    obtain ⟨n, f, -, he⟩ := exec_keeperEvent hk
    exact (he s).elim (fun e => ⟨_, e, s.hwMove_self⟩) fun e => ⟨_, e, s.hwMove_keepers n f⟩
  | false =>
    cases hi : islandOf c with
    | some n => exact moves_island s hk hi hc
    | none => exact moves_register s e hi hw

/-- What an event that is none of Watch's own leaves. -/
theorem hwMove_of_exec {c : Instr} {s t : State} (e : hdrOf c = none) (hw : watchEvent c = false) (k : exec c s = .next t) : s.HwMove t := by
  by_cases hc : ∃ a b d f g, c = .tideConversionEnd a b d f g
  · obtain ⟨a, b, d, f, g, rfl⟩ := hc
    change execTideConversionEnd a b d f g s = .next t at k
    unfold execTideConversionEnd at k
    split at k
    · cases k
    · cases k
      exact s.hwMove_clocked _ _
  · simp only [not_exists] at hc
    obtain ⟨u, hu, m⟩ := moves_of_event s e hw hc
    rw [k] at hu
    cases hu
    exact m

end Sys2Proof.Machine
end

section
/-! SUPPORT. The steps of an operation, and the packets and sessions of a transport, keep what every row keeps. -/

namespace Sys2Proof.Machine

section
variable {H : Prop}

theorem State.Calm.hwStep {s : State} {w : Hw} (f : Hw → Hw) : s.Calm H (({ s with hw := w } : State).hwStep f) :=
  (State.Calm.hw s w).trans (State.hwStep_calm _ f)

/-! ### The end of an operation (R46, R49) -/

theorem State.hw_finishOp_calm (s : State) (w : Hw) (k status : Nat) (r : List Byte) : s.Calm H (({ s with hw := w } : State).finishOp k status r) :=
  (State.Calm.hw s w).trans (State.finishOp_calm _ _ _ _)

theorem State.hwStep_finishOp_calm (s : State) (f : Hw → Hw) (k status : Nat) (r : List Byte) : s.Calm H ((s.hwStep f).finishOp k status r) :=
  (State.hwStep_calm s f).trans (State.finishOp_calm _ _ _ _)

theorem State.ceaseCal_calm (s : State) (o : StepOp) : s.Calm H (s.ceaseCal o).1 := by
  unfold State.ceaseCal
  dsimp only
  split
  · exact State.hwStep_calm s (fun hw => hw.calNone (o.params.headD 0))
  · exact (State.hwStep_calm s _).trans (State.hwStep_calm _ _)

theorem State.cease_calm (s : State) (o : StepOp) (status : Nat) (result : List Byte) : s.Calm H (s.cease o status result) := by
  unfold State.cease
  dsimp only
  split
  · exact State.hw_finishOp_calm s _ _ _ _
  · exact State.hw_finishOp_calm s _ _ _ _
  · split
    · exact State.hw_finishOp_calm s _ _ _ _
    · exact State.finishOp_calm s _ _ _
  · exact (State.ceaseCal_calm s o).trans (State.finishOp_calm _ _ _ _)
  · exact State.hwStep_finishOp_calm s _ _ _ _
  · exact State.hwStep_finishOp_calm s _ _ _ _
  · exact State.finishOp_calm s _ _ _
  · exact State.finishOp_calm s _ _ _

theorem State.ceaseAll_calm (s : State) (status : Nat) : s.Calm H (s.ceaseAll status) := by
  refine State.foldOps_calm (fun s o => ?_) _ _
  split
  · exact State.cease_calm s o _ _
  · exact .refl

/-! ### The steps of an operation (R44) -/

theorem State.modeFinal_calm (s : State) (o : StepOp) (obs : StepObs) : s.Calm H (s.modeFinal o obs) := by
  have fails : ∀ code dev, s.Calm H (s.modeFails o code dev) := fun _ _ => State.hwStep_finishOp_calm s _ _ _ _
  unfold State.modeFinal
  split
  · exact State.finishOp_calm s _ _ _
  · dsimp only
    split
    · exact State.hw_finishOp_calm s _ _ _ _
    · split
      · exact .refl
      · split
        · exact fails _ _
        · split
          · split
            · exact fails _ _
            · exact State.hwStep_calm s _
          · split
            · exact State.hwStep_finishOp_calm s _ _ _ _
            · exact State.hwStep_finishOp_calm s _ _ _ _

theorem State.lanesFinal_calm (s : State) (o : StepOp) : s.Calm H (s.lanesFinal o) := by
  unfold State.lanesFinal
  dsimp only
  split
  · exact State.hwStep_finishOp_calm s _ _ _ _
  · exact State.hwStep_finishOp_calm s _ _ _ _

theorem State.filterStep_calm (s : State) (o : StepOp) : s.Calm H (s.filterStep o) := by
  have faded : ∀ t : State, s.Calm H t → s.Calm H (if (t.hw.sftc (o.params.getD 0 0)).fading then t else t.doneOk o []) := by
    intro t k
    split
    · exact k
    · exact .trans k (State.finishOp_calm _ _ _ _)
  unfold State.filterStep
  dsimp only
  split
  · next e =>
    split at e
    · split at e
      · cases e
        exact State.finishOp_calm s _ _ _
      · cases e
    · cases e
  · next e =>
    split at e
    · split at e
      · cases e
      · cases e
        exact faded _ (State.hwStep_calm s _)
    · cases e
  · exact faded s .refl

theorem State.mapFinal_calm (s : State) (o : StepOp) : s.Calm H (s.mapFinal o) := by
  unfold State.mapFinal
  dsimp only
  split
  · exact State.finishOp_calm s _ _ _
  · split
    · exact State.finishOp_calm s _ _ _
    · exact State.hwStep_finishOp_calm s _ _ _ _

theorem State.fwFinal_calm (s : State) (o : StepOp) : s.Calm H (s.fwFinal o) := by
  unfold State.fwFinal
  have k := State.hwDrain_calm (H := H) s (s.hw.fwCommit o.bytes).1
  dsimp only
  split
  · exact .trans k (State.finishOp_calm _ _ _ _)
  · exact .trans k (State.hwStep_finishOp_calm _ _ _ _ _)

theorem State.calFinal_calm (s : State) (o : StepOp) (obs : StepObs) : s.Calm H (s.calFinal o obs) := by
  unfold State.calFinal
  dsimp only
  split
  · exact State.hwStep_calm s _
  · exact .trans (State.hwStep_calm s _) (State.hwStep_finishOp_calm _ _ _ _ _)

theorem State.calStepOp_calm (s : State) (o : StepOp) (obs : StepObs) : s.Calm H (s.calStepOp o obs) := by
  unfold State.calStepOp
  split
  · refine .trans (State.foldOps_calm (fun s e => ?_) _ _) (State.Calm.both _ _ ?_)
    · split
      · split
        · exact State.cease_calm s e _ _
        · exact State.cease_calm s e _ _
      · exact .refl
    · exact CmdSt.updOp_calm _ _ (fun _ => rfl) (fun _ => rfl) fun _ k => k
  · split
    · exact State.calFinal_calm s o obs
    · exact .refl

theorem State.bistFinal_calm (s : State) (o : StepOp) (obs : StepObs) : s.Calm H (s.bistFinal o obs) := by
  unfold State.bistFinal
  split
  · exact State.finishOp_calm s _ _ _
  · next _ t rest _ =>
    have k : ∀ all, s.Calm H { ({ s with hw := (s.hw.bistTest t obs).1 } : State).drain with
        cmd := ({ s with hw := (s.hw.bistTest t obs).1 } : State).drain.cmd.updOp o.token (fun o => { o with params := rest, bytes := all }) } :=
      fun all => .trans (State.hwDrain_calm s _) (State.Calm.cmd _ (CmdSt.updOp_calm _ _ (fun _ => rfl) (fun _ => rfl) fun _ k => k))
    dsimp only
    split
    · exact k _
    · split
      · exact .trans (k _) (State.finishOp_calm _ _ _ _)
      · exact .trans (k _) (State.hw_finishOp_calm _ _ _ _ _)

theorem State.finalStep_calm (s : State) (o : StepOp) (obs : StepObs) : s.Calm H (s.finalStep o obs) := by
  unfold State.finalStep
  dsimp only
  split
  · exact State.hwStep_finishOp_calm s _ _ _ _
  · exact State.modeFinal_calm s o obs
  · exact State.hwStep_finishOp_calm s _ _ _ _
  · exact State.hwStep_finishOp_calm s _ _ _ _
  · exact State.finishOp_calm s _ _ _
  · exact State.mapFinal_calm s o
  · exact State.lanesFinal_calm s o
  · split
    · exact .refl
    · exact State.finishOp_calm s _ _ _
  · exact State.hwStep_finishOp_calm s _ _ _ _
  · exact State.bistFinal_calm s o obs
  · exact State.fwFinal_calm s o
  · exact State.finishOp_calm s _ _ _

theorem State.stepOp_calm (s : State) (tok : Nat) (obs : StepObs) : s.Calm H (s.stepOp tok obs) := by
  unfold State.stepOp
  split
  · exact .refl
  · split
    · exact .refl
    · split
      · exact State.cease_calm s _ _ _
      · have k : s.Calm H (s.counted tok) := State.Calm.cmd s (CmdSt.updOp_calm _ _ (fun _ => rfl) (fun _ => rfl) fun _ k => k)
        refine .trans k ?_
        change (s.counted tok).Calm H _
        dsimp only
        split
        · exact State.filterStep_calm _ _
        · exact State.calStepOp_calm _ _ _
        · split
          · exact State.lanesFinal_calm _ _
          · exact State.hwStep_calm _ _
        · split
          · exact State.finalStep_calm _ _ _
          · exact .refl

end

end Sys2Proof.Machine
end

section
/-! SUPPORT. Epochs, planned swaps and the promotion of the standby keep what every row keeps (R412, R416 to R421). -/

namespace Sys2Proof.Machine

section
variable {H : Prop}

/-! ### Images (R412) -/

/-- The standby's images are those it held, or taken of the present command side. -/
theorem State.capture_keeps (s : State) (w : Hw) (m : Mirror) (h : ∀ i ∈ m.images, i ∈ s.mirror.images ∨ i.cmd = s.cmd) :
    s.Keeps H { s with hw := w, mirror := m } where
  pending := rfl
  sound _ hs := ⟨hs.now, fun i hi => (h i hi).elim (hs.images i) fun e => e ▸ hs.now⟩
  tokens hs hl := ⟨(hs hl).once, (hs hl).nonzero, (hs hl).range, (hs hl).known, fun i hi => (h i hi).elim ((hs hl).images i) fun e => e ▸ (hs hl).known⟩

theorem Mirror.mem_copying {m : Mirror} {p : Prop} [Decidable p] {x i : Image} (h : i ∈ (if p then { m with copying := some x } else m).images) :
    i ∈ m.images ∨ i = x := by
  split at h
  · rcases List.mem_append.mp h with k | k
    · exact .inl (List.mem_append_left _ k)
    · exact .inr (by simpa using k)
  · exact .inl h

theorem State.plannedSwap_keeps (s : State) (cause : Nat) : s.Keeps H (s.plannedSwap cause) := by
  unfold State.plannedSwap
  refine .trans (State.capture_keeps s _ { sealed := some s.image } fun i hi => .inr ?_) (State.Calm.keeps (State.hwStep_calm _ _))
  have : i = s.image := by simpa [Mirror.images] using hi
  rw [this]
  rfl

theorem State.swapAfterStep_keeps (s : State) : s.Keeps H s.swapAfterStep := by
  unfold State.swapAfterStep
  split
  · exact State.plannedSwap_keeps s _
  · exact .refl s

theorem State.boundary_keeps (s : State) : s.Keeps H s.boundary := by
  unfold State.boundary
  dsimp only
  split
  · exact State.plannedSwap_keeps s _
  · refine State.capture_keeps s _ _ fun i hi => (Mirror.mem_copying hi).imp id fun e => ?_
    rw [e]
    rfl

theorem State.epochBoundary_keeps (s : State) : s.Keeps H s.epochBoundary := by
  unfold State.epochBoundary
  dsimp only
  split
  · exact .refl s
  · have early : ∀ p : Prop, ∀ [Decidable p] (w : Hw), s.Keeps H (if p then s else { s with hw := w }) := by
      intro p _ w
      split
      · exact .refl s
      · exact (State.Calm.hw s w).keeps
    split
    · exact (early _ _).trans (State.boundary_keeps _)
    · exact (early _ _).trans (State.hwStep_calm _ _).keeps

theorem State.boundary_ite_keeps (s : State) (p : Prop) [Decidable p] : s.Keeps H (if p then s.boundary else s) := by
  split
  · exact State.boundary_keeps s
  · exact .refl s

theorem State.epochSeal_keeps (s : State) : s.Keeps H s.epochSeal := by
  unfold State.epochSeal
  dsimp only
  split
  · exact .refl s
  · have sealed : ∀ w, s.Keeps H { s with hw := w, mirror := { sealed := s.mirror.copying } } := fun w =>
      State.capture_keeps s w _ fun i hi => .inl (List.mem_append_right _ (by simpa [Mirror.images] using hi))
    exact (sealed _).trans (State.boundary_ite_keeps _ _)

/-! ### Commands whose outcome is unknown (R49, R419) -/

theorem CmdSt.unknown_calm (c : CmdSt) (t : Transport) {p : Packet} (h : H → p.reply = true) : c.Calm H (c.unknown t p) := by
  unfold CmdSt.unknown
  split
  · exact .move (.push t _ fun k => .inl (h k))
  · next x hx =>
    refine (CmdSt.Calm.move (.narrow t x _ hx ?_)).trans (CmdSt.answer_calm _ _ h)
    dsimp only
    split
    · exact .refl H x
    · refine ⟨le_rfl, le_rfl, fun _ k => ⟨k.waiting, by simp; omega, k.waits, fun e q he hq => ?_⟩⟩
      rcases List.mem_append.mp (List.mem_of_mem_drop he) with hm | hm
      · exact k.replies e q hm hq
      · obtain rfl := List.mem_singleton.mp hm
        cases hq

theorem CmdSt.unknownAll_calm (t : Transport) (l : List Packet) (h : H → ∀ p ∈ l, p.reply = true) (c : CmdSt) :
    c.Calm H (l.foldl (fun c p => c.unknown t p) c) := by
  induction l generalizing c with
  | nil => exact .refl
  | cons p l ih => exact .trans (CmdSt.unknown_calm c t fun k => h k p (by simp)) (ih (fun k q hq => h k q (by simp [hq])) _)

theorem CmdSt.lateUnknown_calm (l : List (Nat × Transport × Packet)) (h : H → ∀ e ∈ l, e.2.2.reply = true) (c : CmdSt) :
    c.Calm H (l.foldl (fun c e => c.unknown e.2.1 e.2.2) c) := by
  induction l generalizing c with
  | nil => exact .refl
  | cons e l ih => exact .trans (CmdSt.unknown_calm c e.2.1 fun k => h k e (by simp)) (ih (fun k f hf => h k f (by simp [hf])) _)

/-- What a session owes are replies. -/
theorem Hw.owed_reply (w : Hw) {x : Session} (h : x.Sound) : ∀ p ∈ w.owed x, p.reply = true := by
  intro p hp
  unfold Hw.owed at hp
  rcases List.mem_append.mp hp with hp | hp
  · rcases List.mem_append.mp hp with hp | hp
    · split at hp
      · next v q e =>
        obtain rfl := List.mem_singleton.mp hp
        exact h.waits v p e
      · cases hp
    · obtain ⟨i, -, k⟩ := List.mem_filterMap.mp hp
      obtain ⟨_, -, rfl⟩ := Option.map_eq_some_iff.mp k
      rfl
  · obtain ⟨_, -, rfl⟩ := List.mem_map.mp hp
    rfl

theorem State.answerUnknown_calm (s : State) (old : CmdSt) (t : Transport) (h : H → old.Sound) : s.Calm H (s.answerUnknown old t) := by
  unfold State.answerUnknown
  split
  · exact .refl
  · next x hx =>
    have left : s.cmd.Calm H (match s.cmd.session t with
        | some y => s.cmd.setSession t (some { y with wait := none, held := [], resume := none, away := [] })
        | none => s.cmd) := by
      split
      · next y hy =>
        exact .move (.narrow t y _ hy ⟨le_rfl, Nat.zero_le _, fun _ k => ⟨Nat.zero_le _, k.cached, by simp, k.replies⟩⟩)
      · exact .refl
    exact State.Calm.cmd s (left.trans (CmdSt.unknownAll_calm _ _ (fun hH => Hw.owed_reply s.hw ((h hH).session hx)) _))

theorem State.lateUnknown_keeps (s : State) : s.Keeps True s.lateUnknown := by
  have gone : s.cmd.Calm s.Sound { s.cmd with late := [] } :=
    .move (.rest _ (fun t => by cases t <;> rfl) (fun t => by cases t <;> rfl) rfl rfl (by simp))
  exact .always (State.Calm.keeps (State.Calm.cmd s (gone.trans (CmdSt.lateUnknown_calm s.cmd.late (fun hs => hs.now.late) _))))

theorem State.redeliver_calm (s : State) (points : SMap Nat) : s.Calm H (s.redeliver points) :=
  State.Calm.cmd s (reflTransGen_foldl (fun c r => CmdSt.deliverAll_calm c _ r _) _ _)

theorem State.endUnsealed_calm (s : State) (img : CmdSt) (before : List StepOp) (b : Bool) : s.Calm H (s.endUnsealed img before b) :=
  State.foldOps_calm (fun s _ => State.finishOp_calm s _ _ _) _ _

/-! ### The end of every operation -/

@[simp] theorem CmdSt.ops_push (c : CmdSt) (t : Transport) (p : Packet) : (c.push t p).ops = c.ops := by simp [CmdSt.push]

@[simp] theorem CmdSt.ops_sendEvent (c : CmdSt) (t : Transport) (x : Session) (index opcode : Nat) (payload : List Byte) (urgent : Bool) :
    (c.sendEvent t x index opcode payload urgent).ops = c.ops := by simp [CmdSt.sendEvent]

@[simp] theorem CmdSt.ops_relayEvent (c : CmdSt) (index opcode : Nat) (payload : List Byte) (urgent : Bool) :
    (c.relayEvent index opcode payload urgent).ops = c.ops := by
  unfold CmdSt.relayEvent
  split
  · rfl
  · simp

/-- The end of an operation ends all that stands under its token. -/
theorem State.finishOp_ops (s : State) (k status : Nat) (r : List Byte) :
    ∃ f : StepOp → StepOp, (∀ o, (f o).live = false) ∧ (s.finishOp k status r).cmd.ops = s.cmd.ops.map (fun o => if o.token = k then f o else o) := by
  unfold State.finishOp
  split
  · next h =>
    refine ⟨fun o => { o with doneAt := some 0 }, fun _ => rfl, ?_⟩
    conv_lhs => rw [← List.map_id s.cmd.ops]
    refine List.map_congr_left fun o ho => ?_
    have : o.token ≠ k := by simpa using List.find?_eq_none.mp h o ho
    simp [this]
  · next e _ =>
    refine ⟨fun o => { o with
      state := 3, status := status, result := r, doneAt := some s.hw.ticks, ending := none
      released := (s.cmd.ownerOf e).isNone && !(s.hw.relays .link && decide (e.owner = some (.link, 0))) }, fun _ => rfl, ?_⟩
    dsimp only
    split
    · simp only [CmdSt.ops_sendEvent]
      rfl
    · split
      · simp only [CmdSt.ops_relayEvent]
        rfl
      · rfl

/-- An operation that has ended runs no more, under whatever token it is listed again. -/
theorem State.finishOp_dead (s : State) (k status : Nat) (r : List Byte) : ∀ e ∈ (s.finishOp k status r).cmd.ops, e.live = true → e.token ≠ k := by
  obtain ⟨f, dead, ops⟩ := State.finishOp_ops s k status r
  intro e he hl
  rw [ops] at he
  obtain ⟨o, -, rfl⟩ := List.mem_map.mp he
  by_cases same : o.token = k
  · simp [same, dead] at hl
  · simp [same]

/-- No operation gains life or another token. -/
theorem State.Calm.known {s t : State} (h : s.Calm H t) : ∀ e ∈ t.cmd.ops, e.live = true → ∃ o ∈ s.cmd.ops, o.live = true ∧ o.token = e.token := by
  induction h with
  | refl => exact fun e he hl => ⟨e, he, hl, rfl⟩
  | tail _ m ih =>
    intro e he hl
    cases m with
    | hw w => exact ih e he hl
    | cmd d hd =>
      obtain ⟨o, ho, hol, hot⟩ := hd.opsUnder.known e he hl
      obtain ⟨p, hp, hpl, hpt⟩ := ih o ho hol
      exact ⟨p, hp, hpl, hpt.trans hot⟩
    | reset => cases he

/-- Tokens and images stay as they are, or all are gone. -/
theorem State.Calm.issued {s t : State} (h : s.Calm H t) :
    (t.cmd.issued = s.cmd.issued ∧ t.mirror = s.mirror) ∨ (t.cmd.issued = [] ∧ t.mirror = {}) := by
  induction h with
  | refl => exact .inl ⟨rfl, rfl⟩
  | tail _ m ih =>
    cases m with
    | hw w => exact ih
    | cmd d hd => exact ih.imp (fun k => ⟨hd.issued.trans k.1, k.2⟩) fun k => ⟨hd.issued.trans k.1, k.2⟩
    | reset => exact .inr ⟨rfl, rfl⟩

theorem State.Calm.events {s t : State} (h : s.Calm H t) (hH : H) (hs : ∀ u, s.cmd.ordinary u ≤ 224) : ∀ u, t.cmd.ordinary u ≤ 224 := by
  induction h with
  | refl => exact hs
  | tail _ m ih =>
    cases m with
    | hw w => exact ih
    | cmd d hd => exact hd.events hH ih
    | reset => exact CmdSt.sound_empty.events

theorem State.Calm.late {s t : State} (h : s.Calm H t) : ∀ e ∈ t.cmd.late, e ∈ s.cmd.late := by
  induction h with
  | refl => exact fun _ => id
  | tail _ m ih =>
    cases m with
    | hw w => exact ih
    | cmd d hd => exact fun e he => ih e (hd.late e he)
    | reset => exact fun e he => by cases he

/-- The operations of a list that ran end. -/
def State.endAll (s : State) (l : List StepOp) : State := l.foldl (fun (s : State) o => if o.live then s.finishOp o.token 0x08 [] else s) s

theorem State.endAll_calm (s : State) (l : List StepOp) : s.Calm H (s.endAll l) := by
  refine State.foldOps_calm (fun s o => ?_) l s
  split
  · exact State.finishOp_calm s _ _ _
  · exact .refl

theorem State.endAll_dead (l : List StepOp) (s : State) : ∀ e ∈ (s.endAll l).cmd.ops, e.live = true → ∀ o ∈ l, o.live = true → o.token ≠ e.token := by
  induction l generalizing s with
  | nil => simp
  | cons a l ih =>
    intro e he hl o ho hol
    rcases List.mem_cons.mp ho with rfl | ho
    · obtain ⟨d, hd, hdl, hdt⟩ := (State.endAll_calm (H := True) _ l).known e he hl
      change d ∈ (if o.live then s.finishOp o.token 0x08 [] else s).cmd.ops at hd
      rw [if_pos hol] at hd
      exact fun k => State.finishOp_dead s _ _ _ d hd hdl (hdt.trans k.symm)
    · exact ih _ e he hl o ho hol

/-- Once every operation has ended none runs. -/
theorem State.endAll_all (s : State) : ∀ e ∈ (s.endAll s.cmd.ops).cmd.ops, e.live = false := by
  intro e he
  by_contra hl
  rw [Bool.not_eq_false] at hl
  obtain ⟨o, ho, hol, hot⟩ := (State.endAll_calm (H := True) s s.cmd.ops).known e he hl
  exact State.endAll_dead _ s e he hl o ho hol hot

/-! ### The image taken over (R416) -/

theorem restoreSession_under (old : Option Session) (y : Session) : (restoreSession old y).Under H y := by
  have fresh : ∀ z : Session, z.role = y.role → z.wait = none → z.outstanding = 0 → z.accepted = y.accepted → z.Under H y := fun z hr hw ho ha =>
    ⟨hr.le, by omega, fun _ k => ⟨by omega, ha ▸ k.cached, by simp [hw], ha ▸ k.replies⟩⟩
  unfold restoreSession
  dsimp only
  split
  · split
    · exact fresh _ rfl rfl rfl rfl
    · exact fresh _ rfl rfl rfl rfl
  · exact fresh _ rfl rfl rfl rfl

theorem restoreCmd_session {ended : List Nat} {old img : CmdSt} {t : Transport} {x : Session} (h : (restoreCmd ended old img).session t = some x) :
    ∃ y, img.session t = some y ∧ x.Under H y := by
  have : ∃ o, (img.session t).map (restoreSession o) = some x := by
    cases t
    exacts [⟨old.spi, h⟩, ⟨old.link, h⟩, ⟨old.eth, h⟩]
  obtain ⟨o, ho⟩ := this
  obtain ⟨y, hy, rfl⟩ := Option.map_eq_some_iff.mp ho
  exact ⟨y, hy, restoreSession_under o y⟩

/-- The state of the image, every operation in it ended. -/
theorem State.restored_keeps {s t u : State} {ended : List Nat} {img : CmdSt} (hi : H → img.Sound)
    (before : t.cmd = restoreCmd ended s.cmd img ∧ t.pending = s.pending ∧ t.mirror = s.mirror) (calm : t.Calm H u)
    (dead : ∀ e ∈ u.cmd.ops, e.live = false) : s.Keeps H u := by
  obtain ⟨hc, hp, hm⟩ := before
  have mirror : ∀ i ∈ u.mirror.images, i ∈ s.mirror.images := by
    rcases calm.issued with ⟨-, k⟩ | ⟨-, k⟩
    · rw [k, hm]
      exact fun _ => id
    · simp [k, Mirror.images]
  refine ⟨calm.pending.trans hp, fun hH hs => ⟨.of_sessions (fun r x hx => ?_) (fun q r x y hx hy rx ry => ?_) ?_ ?_ ?_, fun i h => hs.images i (mirror i h)⟩,
    fun hs hl => ?_⟩
  · obtain ⟨y, hy, hu⟩ := calm.sessions hx
    obtain ⟨z, hz, hv⟩ := restoreCmd_session (H := H) (hc ▸ hy)
    exact (hu.trans hv).sound hH ((hi hH).session hz)
  · obtain ⟨x', hx', hu⟩ := calm.sessions hx
    obtain ⟨x'', hx'', hu'⟩ := restoreCmd_session (H := H) (hc ▸ hx')
    obtain ⟨y', hy', hv⟩ := calm.sessions hy
    obtain ⟨y'', hy'', hv'⟩ := restoreCmd_session (H := H) (hc ▸ hy')
    exact (hi hH).oneAdmin q r x'' y'' hx'' hy'' (rx.trans (hu.trans hu').role) (ry.trans (hv.trans hv').role)
  · have : u.cmd.liveOps = 0 := by
      simp only [CmdSt.liveOps, List.length_eq_zero_iff, List.filter_eq_nil_iff]
      intro e he
      simp [dead e he]
    omega
  · refine calm.events hH fun r => ?_
    have := hs.now.events r
    rw [hc]
    cases r <;> exact this
  · exact fun e he => hs.now.late e (by simpa [hc, restoreCmd] using calm.late e he)
  · have known : ∀ o ∈ u.cmd.ops, o.live = true → o.token ∈ u.cmd.issued := fun o ho hol => by simp [dead o ho] at hol
    rcases calm.issued with ⟨k, km⟩ | ⟨k, km⟩
    · have same : u.cmd.issued = s.cmd.issued := by rw [k, hc]; rfl
      rw [hm] at km
      have old := hs (same ▸ hl)
      exact ⟨same ▸ old.once, same ▸ old.nonzero, same ▸ old.range, known, by rw [km, same]; exact old.images⟩
    · exact ⟨by simp [k], by simp [k], by simp [k], known, by simp [km, Mirror.images]⟩

theorem State.takeOver_keeps (s : State) (img : Image) (hi : s.Sound → img.cmd.Sound) : s.Keeps s.Sound (s.takeOver img).1 := by
  unfold State.takeOver
  dsimp only
  refine (State.ceaseAll_calm s 0x08).keeps.trans (State.restored_keeps (t := { s.ceaseAll 0x08 with
    cmd := restoreCmd ((s.cmd.ops.filter (fun o => !o.live)).map (·.token)) (s.ceaseAll 0x08).cmd img.cmd }) hi ⟨rfl, rfl, rfl⟩ ?_ (State.endAll_all _))
  exact ((State.Calm.hw _ _).trans (State.dropAdmin_calm _)).trans (State.endAll_calm _ _)

/-! ### The failure of a unit (R414 to R417) -/

theorem State.promote_keeps (s : State) (u : Nat) : s.Keeps True (s.promote u) := by
  have image : s.Sound → (s.mirror.sealed.getD s.image).cmd.Sound := by
    intro hs
    cases e : s.mirror.sealed with
    | none => exact hs.now
    | some i => exact hs.images i (by simp [Mirror.images, e])
  have rest : ∀ (t : State) (img : CmdSt) (points : SMap Nat) (b : Bool), t.Keeps s.Sound
      (((transports.foldl (fun s' t => s'.answerUnknown s.cmd t) (t.endUnsealed img s.cmd.ops b)).lateUnknown).redeliver points) := by
    intro t img points b
    have unknown := reflTransGen_foldl (fun s' t => State.answerUnknown_calm (H := s.Sound) s' s.cmd t fun hs => hs.now) transports (t.endUnsealed img s.cmd.ops b)
    refine .trans (State.Calm.keeps ((State.endUnsealed_calm t img _ b).trans unknown)) (.trans ?_ (State.redeliver_calm _ _).keeps)
    exact (State.lateUnknown_keeps _).mono fun _ => trivial
  refine .always ?_
  unfold State.promote
  dsimp only
  refine .trans ?_ (State.Calm.keeps (State.Calm.hwStep _))
  split
  · exact (State.takeOver_keeps s _ image).trans (rest _ _ _ _)
  · exact (State.ceaseAll_calm s _).keeps.trans (rest _ _ _ _)

/-- A Watch that is lost remembers no more than the tokens issued. -/
theorem State.lost_keeps (s : State) (w : Hw) : s.Keeps H { s with hw := w, cmd := { issued := s.cmd.issued, sessNext := s.cmd.sessNext }, mirror := {} } where
  pending := rfl
  sound _ _ := by
    refine ⟨.of_sessions (fun t x hx => ?_) (fun t v x y hx => ?_) (Nat.zero_le 4) (fun t => ?_) (by simp), by simp [Mirror.images]⟩
    · cases t <;> cases hx
    · cases t <;> cases hx
    · cases t <;> exact Nat.zero_le _
  tokens hs hl := ⟨(hs hl).once, (hs hl).nonzero, (hs hl).range, by simp, by simp [Mirror.images]⟩

theorem State.loseWatch_keeps (s : State) (u : Nat) : s.Keeps H (s.loseWatch u) :=
  .trans (State.Calm.keeps (.trans (State.ceaseAll_calm s 0x08) (State.hwStep_calm _ (fun hw => hw.raise (fid srcWch 3 3) (le 1 u))))) (State.lost_keeps _ _)

theorem State.failDeclare_keeps (s : State) (u : Nat) (internal : Bool) : s.Keeps True (s.failDeclare u internal) := by
  unfold State.failDeclare
  dsimp only
  split
  · exact .refl s
  · split
    · exact (State.hwStep_calm s _).keeps
    · split
      · exact (State.hwStep_calm s _).keeps.trans (State.promote_keeps _ u)
      · exact (State.hwStep_calm s _).keeps.trans (State.loseWatch_keeps _ u)

end

end Sys2Proof.Machine
end

section
/-! SUPPORT. The events of Watch and the tick of an empty queue keep what every row keeps; so does every step. -/

namespace Sys2Proof.Machine

section
variable {H : Prop}

/-! ### Packets and waits -/

/-- Where neither sessions nor packets stand nothing is lost or gained. -/
theorem CmdSt.rest_calm (c d : CmdSt) (hs : d.spi = c.spi ∧ d.link = c.link ∧ d.eth = c.eth)
    (ho : d.outSpi = c.outSpi ∧ d.outLink = c.outLink ∧ d.outEth = c.outEth) (hop : d.ops = c.ops) (hi : d.issued = c.issued)
    (hl : d.late = c.late) : c.Calm H d := by
  refine .move (.rest d (fun t => ?_) (fun t => ?_) hop hi fun e he => hl ▸ he)
  · cases t
    exacts [hs.1, hs.2.1, hs.2.2]
  · cases t
    exacts [ho.1, ho.2.1, ho.2.2]

theorem CmdSt.endWait_calm {c : CmdSt} {t : Transport} {x : Session} {p : Packet} (a : Ans) (hx : c.session t = some x) (h : H → p.reply = true) :
    c.Calm H ((c.setSession t (some { x with wait := none })).answer t { p with status := a.status, payload := a.data }) :=
  (CmdSt.Calm.move (.narrow t x _ hx (Session.endWait_under x))).trans (CmdSt.answer_calm _ _ h)

theorem State.endWait_calm {s : State} {t : Transport} {x : Session} {p : Packet} (a : Ans) (hx : s.cmd.session t = some x) (h : H → p.reply = true) :
    s.Calm H (s.endWait t x p a) := State.Calm.cmd s (CmdSt.endWait_calm a hx h)

theorem State.Keeps.foldl {A : Type} {f : State → A → State} (h : ∀ (s : State) (a : A), s.Keeps H (f s a)) (l : List A) (s : State) : s.Keeps H (l.foldl f s) := by
  induction l generalizing s with
  | nil => exact .refl s
  | cons a l ih => exact (h s a).trans (ih _)

theorem State.packetDiscarded_calm (s : State) : s.Calm H s.discard :=
  State.Calm.cmd s (CmdSt.rest_calm _ _ ⟨rfl, rfl, rfl⟩ ⟨rfl, rfl, rfl⟩ rfl rfl rfl)

theorem State.regPollEnd_keeps {tr : Transport} {s t : State} (k : execRegPollEnd tr s = .next t) : s.Keeps True t := by
  cases k
  refine .always ?_
  split
  · exact .refl s
  · next x hx =>
    split
    · next p hw =>
      have reply : s.Sound → p.reply = true := fun hs => (hs.now.session hx).waits _ p hw
      have read := State.readReg_calm (H := s.Sound) s
      have ended : ∀ r a, (s.readReg r).1.Calm s.Sound ((s.readReg r).1.endWait tr x p a) := fun r a =>
        State.endWait_calm a (by simpa using hx) reply
      unfold State.pollNow
      dsimp only
      split
      · exact State.Calm.keeps (.trans (read _) (ended _ _))
      · split
        · exact State.Calm.keeps (.trans (read _) (ended _ _))
        · exact (read _).keeps
    · exact .refl s

theorem State.ackSession_keeps (okA okB : Bool) (s : State) (t : Transport) : s.Keeps True (s.ackSession okA okB t) := by
  refine .always ?_
  unfold State.ackSession
  split
  · exact .refl s
  · next x hx =>
    split
    · next p hw =>
      have reply : s.Sound → p.reply = true := fun hs => (hs.now.session hx).waits _ p hw
      split
      · exact (State.endWait_calm _ hx reply).keeps
      · dsimp only
        have acked : ∀ w a, s.Calm s.Sound (({ s with hw := w } : State).endWait t x p a) := fun w a =>
          (State.Calm.hw s w).trans (State.endWait_calm (s := { s with hw := w }) a hx reply)
        exact State.Calm.keeps (.trans (acked _ _) (State.drain_calm _))
    · exact .refl s

/-! ### Operations -/

theorem State.Keeps.ite {s t : State} (p : Prop) [Decidable p] (k : s.Keeps H t) : s.Keeps H (if p then t else s) := by
  split
  · exact k
  · exact .refl s

theorem State.Keeps.unless {s t : State} (p : Prop) [Decidable p] (k : s.Keeps H t) : s.Keeps H (if p then s else t) := by
  split
  · exact .refl s
  · exact k

theorem State.stepProgress_keeps {tok : U32} {s t : State} (k : execStepProgress tok s = .next t) : s.Keeps H t := by
  cases k
  split
  · exact .refl s
  · next o _ =>
    dsimp only
    cases ho : s.cmd.ownerOf o with
    | none => exact .refl s
    | some e =>
      refine .ite _ (State.Calm.keeps (State.Calm.cmd s (Relation.ReflTransGen.trans (CmdSt.updOp_calm s.cmd o.token
        (f := fun o => { o with sentAt := some s.hw.ticks }) (fun _ => rfl) (fun _ => rfl) fun _ k => k) (CmdSt.ordinaryEvent_calm ?_ _ _ _ _))))
      exact (CmdSt.updOp_session _ _ _ _).trans (CmdSt.ownerOf_session ho)

theorem State.uploadTimeout_keeps {tok : U32} {s t : State} (k : execUploadTimeout tok s = .next t) : s.Keeps H t := by
  cases k
  split
  · exact .refl s
  · split
    · exact (State.finishOp_calm s _ _ _).keeps
    · exact .refl s

theorem State.resultRelease_keeps {tok : U32} {s t : State} (k : execResultRelease tok s = .next t) : s.Keeps H t := by
  cases k
  split
  · exact .refl s
  · split
    · exact .refl s
    · split
      · refine State.Calm.keeps (State.Calm.cmd s ?_)
        exact CmdSt.updOp_calm _ _ (fun _ => rfl) (fun _ => rfl) fun _ k => k
      · exact .refl s

theorem State.eventsLost_keeps {tr : Transport} {s t : State} (k : execEventsLost tr s = .next t) : s.Keeps H t := by
  cases k
  split
  · exact .refl s
  · next x hx =>
    split
    · exact .refl s
    · next space =>
      rw [not_or, Nat.not_le] at space
      refine State.Calm.keeps (State.Calm.cmd s ?_)
      refine CmdSt.sendEvent_calm hx ?_ _ _ _ (.inr space.2)
      exact Session.under_of_same le_rfl rfl rfl rfl rfl rfl

theorem State.crcError_keeps {src : Arrival} {op : U8} {tag seq : U16} {s t : State} (k : execCrcError src op tag seq s = .next t) : s.Keeps H t := by
  cases k
  split
  · have counted : s.cmd.Calm H { s.cmd with crcErrors := satAdd 0xFFFF s.cmd.crcErrors 1 } :=
      CmdSt.rest_calm _ _ ⟨rfl, rfl, rfl⟩ ⟨rfl, rfl, rfl⟩ rfl rfl rfl
    exact State.Calm.keeps (State.Calm.both s _ (counted.trans (CmdSt.Calm.move (.push _ _ fun _ => .inl rfl))))
  · exact .refl s

theorem State.spiShiftOut_keeps {n : Nat} {s t : State} (k : execSpiShiftOut n s = .next t) : s.Keeps H t := by
  cases k
  split
  · exact .refl s
  · next p r e =>
    split
    · exact .refl s
    · exact (State.Calm.cmd s (.move (.leave .spi r (by rw [CmdSt.out, e]; exact List.sublist_cons_self p r)))).keeps

theorem State.calAuto_keeps (s : State) : s.Keeps H s.calAuto := by
  unfold State.calAuto
  exact .unless _ (State.issue_keeps s _ _ rfl (.inl rfl))

theorem State.Calm.andHw {s t : State} (k : s.Calm H t) (w : Hw) : s.Calm H { t with hw := w } := .trans k (State.Calm.hw t w)

/-! ### The lanes (R231, R233, R246) -/

/-- One change by which a lane or a port takes a packet: in the hardware, which hands nothing over, or off the queue of the link (R246). -/
inductive State.ShedMove (s : State) : State → Prop where
  | hw (w : Hw) (h : w.outbox = s.hw.outbox) : ShedMove s { s with hw := w }
  | link (p : Packet) (r : List Packet) (h : s.cmd.outLink = p :: r) : ShedMove s { s with cmd := { s.cmd with outLink := r } }

/-- Any number of such changes. -/
def State.Sheds : State → State → Prop := Relation.ReflTransGen State.ShedMove

theorem State.sheds_hw (s : State) {w : Hw} (h : w.outbox = s.hw.outbox) : s.Sheds { s with hw := w } := .single (.hw w h)

/-- Taking a packet leaves Watch's command side but for the packet taken. -/
theorem State.Sheds.calm {s t : State} (h : s.Sheds t) : s.Calm H t := by
  induction h with
  | refl => exact .refl
  | tail _ m ih =>
    refine .trans ih ?_
    cases m with
    | hw w => exact State.Calm.hw _ w
    | link p r e => exact State.Calm.cmd _ (.move (.leave .link r (by rw [CmdSt.out, e]; exact List.sublist_cons_self p r)))

theorem State.Sheds.outbox {s t : State} (h : s.Sheds t) : t.hw.outbox = s.hw.outbox := by
  induction h with
  | refl => rfl
  | tail _ m ih =>
    cases m with
    | hw w e => exact e.trans ih
    | link => exact ih

/-- What a lane or a port may take. -/
def Taking (s : State) (o : Option Taken) : Prop := ∀ e, o = some e → s.Sheds e.2

theorem taking_some {s t : State} {b : LpBody} (h : s.Sheds t) : Taking s (some (b, t)) := by
  intro e he
  cases he
  exact h

theorem taking_map {A : Type} {s : State} {o : Option A} {f : A → Taken} (h : ∀ a, s.Sheds (f a).2) : Taking s (o.map f) := by
  intro e he
  obtain ⟨a, -, rfl⟩ := Option.map_eq_some_iff.mp he
  exact h a

theorem taking_none (s : State) : Taking s none := by
  intro e he
  cases he

theorem taking_orElse {s : State} {o : Option Taken} {f : Unit → Option Taken} (h : Taking s o) (k : Taking s (f ())) : Taking s (o.orElse f) := by
  intro e he
  cases o with
  | none => exact k e he
  | some a => exact h e he

theorem taking_ite {s : State} {p : Prop} [Decidable p] {a b : Option Taken} (h : Taking s a) (k : Taking s b) : Taking s (if p then a else b) := by
  split
  · exact h
  · exact k

theorem State.takeForward_sheds (s : State) (key : Nat) (k : Nat → Bool) : Taking s (s.takeForward key k) := taking_map fun _ => s.sheds_hw rfl

theorem State.takeCommand_sheds (s : State) : Taking s s.takeCommand := by
  unfold State.takeCommand
  split
  · next p r e => exact taking_some (.single (.link p r e))
  · exact taking_none s

theorem State.takeBell_sheds (s : State) : Taking s s.takeBell := by
  unfold State.takeBell
  split
  · exact taking_some (s.sheds_hw rfl)
  · exact taking_none s

theorem State.takeHello_sheds (s : State) : Taking s s.takeHello := by
  unfold State.takeHello
  exact taking_ite (taking_some (s.sheds_hw rfl)) (taking_none s)

theorem State.takeFrame_sheds (s : State) (l : Nat) : Taking s (s.takeFrame l) := taking_map fun _ => s.sheds_hw rfl

theorem State.takeSub_sheds (s : State) (b : Nat) : Taking s (s.takeSub b) := by
  unfold State.takeSub
  dsimp only
  split
  · exact taking_some (s.sheds_hw rfl)
  · exact taking_none s

theorem Hw.markLane_outbox (w : Hw) (l : Nat) : (w.markLane l).outbox = w.outbox :=
  List.foldlRecOn (motive := fun v : Hw => v.outbox = w.outbox) _ _ rfl fun _ hv _ _ => hv

theorem State.takePoint_sheds (s : State) (l : Nat) : Taking s (s.takePoint l) := by
  have own : ∀ x ∈ (s.hw.subsOn l).filterMap (fun b => s.takeSub b) ++
      (if s.hw.isSecondary then [] else (s.takeForward l (fun k => decide (k = 1))).toList), s.Sheds x.2 := by
    intro x hx
    rcases List.mem_append.mp hx with k | k
    · obtain ⟨b, -, hb⟩ := List.mem_filterMap.mp k
      exact State.takeSub_sheds s b x hb
    · split at k
      · cases k
      · exact State.takeForward_sheds s l _ x (by simpa using k)
  unfold State.takePoint
  dsimp only
  revert own
  generalize (s.hw.subsOn l).filterMap (fun b => s.takeSub b) ++
      (if s.hw.isSecondary then [] else (s.takeForward l (fun k => decide (k = 1))).toList) = all
  intro own e he
  obtain ⟨x, hx, rfl⟩ := Option.map_eq_some_iff.mp he
  refine .trans ?_ (State.sheds_hw x.2 (Hw.markLane_outbox _ l))
  split at hx
  · cases hx
  · cases hx
    exact own _ (by simp)
  · obtain ⟨y, hy, rfl⟩ := Option.map_eq_some_iff.mp hx
    exact (own y (List.mem_of_getElem? hy)).trans (State.sheds_hw y.2 rfl)

theorem State.takeExport_sheds (s : State) (l : Nat) : Taking s (s.takeExport l) :=
  taking_ite (taking_none s) (taking_orElse (taking_map fun _ => s.sheds_hw rfl) (taking_ite (taking_none s) (State.takeForward_sheds s l _)))

theorem State.takeNew_sheds (s : State) (l vc : Nat) : Taking s (s.takeNew l vc) := by
  have none := taking_none s
  have cmd := State.takeCommand_sheds s
  have bell := State.takeBell_sheds s
  have frame := State.takeFrame_sheds s l
  have point := State.takePoint_sheds s l
  have exp := State.takeExport_sheds s l
  have fwd := fun k => State.takeForward_sheds s 0 k
  unfold State.takeNew
  refine taking_ite (taking_ite none ?_) (taking_ite (taking_ite (State.takeForward_sheds s l _) none) ?_)
  · split
    · exact taking_orElse (taking_orElse (State.takeHello_sheds s) cmd) frame
    · exact bell
    · exact taking_orElse point exp
    · exact none
  · split
    · exact taking_ite cmd none
    · exact taking_ite (taking_orElse bell (fwd _)) none
    · exact taking_orElse frame (taking_ite (fwd _) none)
    · exact point
    · exact exp
    · exact none

theorem State.takeReady_sheds (s : State) (l vc : Nat) : Taking s (s.takeReady l vc) := by
  unfold State.takeReady
  dsimp only
  refine taking_ite (taking_none s) ?_
  split
  · exact taking_some (s.sheds_hw rfl)
  · exact State.takeNew_sheds s l vc

theorem State.sendLp_calm (s : State) (l : Nat) : s.Calm H (s.sendLp l) := by
  unfold State.sendLp
  dsimp only
  split
  · exact .refl
  · split
    · exact .hw s _
    · refine .trans (State.Calm.hw s { s.hw with free := s.hw.free + 1 }) ?_
      split
      · next vc body t e =>
        obtain ⟨v, -, hv⟩ := List.exists_of_findSome?_eq_some e
        obtain ⟨a, ha, e⟩ := Option.map_eq_some_iff.mp hv
        cases e
        split
        · exact (State.takeReady_sheds _ _ _ _ ha).calm.andHw _
        · exact .refl
      · exact .refl

theorem State.sendAdmin_calm {s t : State} {l : Nat} (h : s.sendAdmin l = some t) : s.Calm H t := by
  unfold State.sendAdmin at h
  split at h
  · cases h
    exact .hw s _
  · split at h
    · cases h
    · cases hb : s.takeBell with
      | some e =>
        rw [hb] at h
        cases h
        exact (State.takeBell_sheds s _ hb).calm.andHw _
      | none =>
        cases hf : s.takeForward 0 (fun k => decide (k = 4)) with
        | some e =>
          rw [hb, hf] at h
          cases h
          exact (State.takeForward_sheds s _ _ _ hf).calm.andHw _
        | none =>
          cases he : s.cmd.outEth with
          | cons p r =>
            rw [hb, hf, he] at h
            cases h
            exact State.Calm.both s _ (.move (.leave .eth r (by rw [CmdSt.out, he]; exact List.sublist_cons_self p r)))
          | nil =>
            rw [hb, hf, he] at h
            cases h

theorem State.sendDatagram_calm (s : State) (l : Nat) : s.Calm H (s.sendDatagram l) := by
  unfold State.sendDatagram
  split
  · exact .refl
  · split
    · next h => exact .trans (State.sendAdmin_calm h) (State.drain_calm _)
    · have frame : Taking s ((s.takeFrame l).orElse (fun _ => if s.hw.hostLane = some l then s.takeForward 0 (fun k => decide (k = 2)) else none)) :=
        taking_orElse (State.takeFrame_sheds s l) (taking_ite (State.takeForward_sheds s _ _) (taking_none s))
      dsimp only
      split
      · next e =>
        exact .trans (taking_orElse (taking_orElse frame (State.takePoint_sheds s l)) (State.takeExport_sheds s l) _ e).calm (State.hwStep_calm _ _)
      · exact .refl

end

end Sys2Proof.Machine
end

section
/-! SUPPORT. Every event of Watch, every step of an empty queue and so every step keeps what every row keeps. -/

namespace Sys2Proof.Machine

section
variable {H : Prop}

/-! ### The packets of a secondary (R35, R37) -/

theorem Session.answered_under (x : Session) (e : Away) (r : List (Nat × Nat)) :
    ({ x with away := x.away.erase e, remote := r } : Session).Under H x := by
  have less : ({ x with away := x.away.erase e, remote := r } : Session).outstanding ≤ x.outstanding := by
    have := List.length_erase_le (a := e) (l := x.away)
    simp only [Session.outstanding]
    omega
  exact ⟨le_rfl, less, fun _ k => ⟨less.trans k.waiting, k.cached, k.waits, k.replies⟩⟩

theorem CmdSt.replyFrom_calm (c : CmdSt) (i : Nat) (p : CasPacket) : c.Calm H (c.replyFrom i p) := by
  unfold CmdSt.replyFrom
  dsimp only
  split
  · next t x e h =>
    obtain ⟨u, -, hu⟩ := List.exists_of_findSome?_eq_some h
    obtain ⟨y, hy, k⟩ := Option.bind_eq_some_iff.mp hu
    obtain ⟨_, -, k⟩ := Option.map_eq_some_iff.mp k
    cases k
    exact (CmdSt.Calm.move (.narrow _ _ _ hy (Session.answered_under _ _ _))).trans (CmdSt.answer_calm _ _ fun _ => rfl)
  · split
    · next t e _ =>
      have gone : c.Calm H { c with strays := c.strays.erase (t, e) } := CmdSt.rest_calm _ _ ⟨rfl, rfl, rfl⟩ ⟨rfl, rfl, rfl⟩ rfl rfl rfl
      exact gone.trans (CmdSt.Calm.move (.push _ _ fun _ => .inl rfl))
    · exact .refl

theorem CmdSt.eventFrom_calm (c : CmdSt) (i : Nat) (p : CasPacket) : c.Calm H (c.eventFrom i p) := by
  unfold CmdSt.eventFrom
  dsimp only
  split
  · exact reflTransGen_foldl (fun c r => reflTransGen_foldl (fun c t => CmdSt.deliver_calm i r c t) _ c) _ _
  · refine reflTransGen_foldl (fun c t => ?_) _ _
    split
    · exact .refl
    · next x hx =>
      have lost : ∀ src, c.Calm H (c.ordinaryEvent t x i p.opcode.toNat src p.bytes) := fun src => CmdSt.ordinaryEvent_calm hx _ _ _ _
      split
      · split
        · exact lost _
        · exact .refl
      · split
        · split
          · refine CmdSt.sendEvent_calm hx ?_ _ _ _ (.inl rfl)
            exact Session.under_of_same le_rfl rfl rfl rfl rfl rfl
          · exact .refl
        · split
          · exact lost _
          · exact .refl

theorem State.cascadeForward_calm (s : State) (i : Nat) (p : CasPacket) : s.Calm H (s.cascadeForward i p) := by
  unfold State.cascadeForward
  split
  · exact .refl
  · split
    · exact State.hwStep_calm s _
    · split
      · exact State.Calm.both s _ (CmdSt.replyFrom_calm _ _ _)
      · exact (State.Calm.cmd s (CmdSt.eventFrom_calm _ _ _)).trans (State.hwStep_calm _ _)

/-! ### Every command and event -/

theorem State.HwMove.keeps {s t : State} (m : s.HwMove t) : s.Keeps H t := by
  rcases m with rfl | ⟨f, rfl⟩
  · exact .refl t
  · exact (State.hwStep_calm s f).keeps

theorem exec_keeps_of_watchEvent {c : Instr} (hw : watchEvent c = true) {s t : State} (k : exec c s = .next t) : s.Keeps True t := by
  cases c <;> cases hw
  case packetDiscarded tr =>
    cases k
    exact .ite _ (State.packetDiscarded_calm s).keeps
  case crcError => exact State.crcError_keeps k
  case spiShiftOut => exact State.spiShiftOut_keeps k
  case sessionHeartbeatTimeout tr =>
    cases k
    split
    · exact .refl s
    · exact .ite _ (State.Calm.keeps ((State.closeSession_calm s tr).trans (State.drain_calm _)))
  case steppedOpStep =>
    cases k
    exact (State.stepOp_calm s _ _).keeps.trans (State.swapAfterStep_keeps _)
  case stepProgress => exact State.stepProgress_keeps k
  case uploadTimeout => exact State.uploadTimeout_keeps k
  case resultRelease => exact State.resultRelease_keeps k
  case eventsLost => exact State.eventsLost_keeps k
  case calAutoStart =>
    cases k
    exact State.calAuto_keeps s
  case lpTransmit l =>
    cases k
    refine .unless _ ?_
    split
    · exact (State.sendDatagram_calm s l).keeps
    · exact (State.sendLp_calm s l).keeps
  case epochBoundary =>
    cases k
    exact State.epochBoundary_keeps s
  case epochSeal =>
    cases k
    exact State.epochSeal_keeps s
  case watchFailDeclare =>
    cases k
    exact State.failDeclare_keeps s _ _
  case cascadeForward =>
    cases k
    exact (State.cascadeForward_calm s _ _).keeps
  case regPollEnd => exact State.regPollEnd_keeps k
  case safeAckSelftestEnd =>
    cases k
    exact .foldl (fun s t => State.ackSession_keeps _ _ s t) _ _

/-- Every command and event keeps the queue, the bounds of Watch's command side and the uniqueness of tokens. -/
theorem exec_keeps {c : Instr} {s t : State} (k : exec c s = .next t) : s.Keeps True t := by
  cases e : hdrOf c with
  | some h => exact exec_keeps_of_hdr e k
  | none =>
    cases hw : watchEvent c with
    | true => exact exec_keeps_of_watchEvent hw k
    | false => exact (hwMove_of_exec e hw k).keeps

/-! ### The step of an empty queue -/

theorem CmdSt.pushAll_calm (l : List (Nat × Transport × Packet)) (h : H → ∀ e ∈ l, e.2.2.reply = true) (c : CmdSt) :
    c.Calm H (l.foldl (fun c e => c.push e.2.1 e.2.2) c) := by
  induction l generalizing c with
  | nil => exact .refl
  | cons e l ih => exact .trans (CmdSt.Calm.move (.push _ _ fun k => .inl (h k e (by simp)))) (ih (fun k f hf => h k f (by simp [hf])) _)

theorem State.lateReplies_keeps (s : State) : s.Keeps True s.lateReplies := by
  have gone : s.cmd.Calm s.Sound { s.cmd with late := s.cmd.late.filter (fun e => !decide (e.1 ≤ s.hw.ticks)) } :=
    .move (.rest _ (fun t => by cases t <;> rfl) (fun t => by cases t <;> rfl) rfl rfl fun e he => (List.mem_filter.mp he).1)
  exact .always (State.Calm.keeps (State.Calm.cmd s (gone.trans (CmdSt.pushAll_calm _ (fun hs e he => hs.now.late e (List.mem_filter.mp he).1) _))))

theorem State.endDenied_keeps (s : State) (t : Transport) : s.Keeps True (s.endDenied t) := by
  refine .always ?_
  unfold State.endDenied
  split
  · next x hx =>
    split
    · next p hw => exact .ite _ (State.endWait_calm _ hx fun hs => (hs.now.session hx).waits _ p hw).keeps
    · exact .refl s
  · exact .refl s

theorem b2n_le_one (b : Bool) : b2n b ≤ 1 := by cases b <;> decide

/-- What a step of an empty queue keeps beside the queue, to which a command that was held may go back. -/
theorem State.idle_keeps (s : State) : { s with pending := s.idle.pending }.Keeps True s.idle := by
  unfold State.idle
  split
  · next t x i r h =>
    obtain ⟨u, -, hu⟩ := List.exists_of_findSome?_eq_some h
    split at hu
    · next y hy =>
      split at hu
      · next hn hh =>
        cases hu
        refine State.putSession_keeps (s := { s with pending := _ }) hy le_rfl fun _ k => ⟨?_, k.cached, k.waits, k.replies⟩
        have one : b2n ((hdrOf i).map (fun h => h.seq.toNat)).isSome ≤ 1 := b2n_le_one _
        have := k.waiting
        simp only [Session.outstanding, hh, List.length_cons] at this ⊢
        omega
      · cases hu
    · cases hu
  · have kept := (State.lateReplies_keeps s).trans (.foldl (fun s t => State.endDenied_keeps s t) transports _)
    have kept := kept.trans (State.Calm.hw _ (Hw.inject (Hw.tick (transports.foldl (fun s t => State.endDenied s t) s.lateReplies).hw))).keeps
    have same := kept.pending
    exact ⟨rfl, fun h hs => kept.sound h ⟨hs.now, hs.images⟩, fun hs => kept.tokens fun hl => ⟨(hs hl).once, (hs hl).nonzero, (hs hl).range, (hs hl).known, (hs hl).images⟩⟩

end

/-- Settles O3: every row keeps the queue. -/
theorem execKeepsTheQueue : Obligations.ExecKeepsTheQueue := by
  unfold Obligations.ExecKeepsTheQueue
  intro c s t k
  exact (exec_keeps k).pending

/-- A step keeps what every row keeps, but for the queue. -/
theorem step_keeps {s t : State} (k : step s = .next t) : ∃ u : State, u.cmd = s.cmd ∧ u.mirror = s.mirror ∧ u.Keeps True t := by
  unfold step at k
  split at k
  · next r _ => exact ⟨{ s with pending := r }, rfl, rfl, exec_keeps k⟩
  · cases k
    exact ⟨{ s with pending := s.idle.pending }, rfl, rfl, State.idle_keeps s⟩

/-- Settles O5: a step opens, begins and queues no more than the checks of R31 let through, and a promotion takes back what was sound. -/
theorem stepKeepsWatchSound : Obligations.StepKeepsWatchSound := by
  unfold Obligations.StepKeepsWatchSound
  intro s t hs k
  obtain ⟨u, hc, hm, keeps⟩ := step_keeps k
  exact keeps.sound trivial ⟨hc ▸ hs.now, hm ▸ hs.images⟩

/-- Settles O6: a token is issued only where an operation begins, and there none that was issued before. -/
theorem stepKeepsTokensUnique : Obligations.StepKeepsTokensUnique := by
  unfold Obligations.StepKeepsTokensUnique
  intro s t hs k few
  obtain ⟨u, hc, hm, keeps⟩ := step_keeps k
  exact keeps.tokens (fun _ => ⟨hc ▸ hs.once, hc ▸ hs.nonzero, hc ▸ hs.range, by rw [hc]; exact hs.known, by rw [hc, hm]; exact hs.images⟩) few

end Sys2Proof.Machine
end

section
/-! SUPPORT. The checks of R31, step by step: what each refuses, and that it changes nothing else. -/

namespace Sys2Proof.Machine

/-- Settles O1: that is how a step is defined. -/
theorem stepRunsFrontCommand : Obligations.StepRunsFrontCommand := by
  unfold Obligations.StepRunsFrontCommand
  intro s c r h
  simp only [step, h]

/-- Settles O7: nothing is open, pending or known after a reset. -/
theorem resetMeetsTheInvariants : Obligations.ResetMeetsTheInvariants := by
  unfold Obligations.ResetMeetsTheInvariants
  refine ⟨⟨CmdSt.sound_empty, fun i hi => ?_⟩, ⟨List.nodup_nil, List.not_mem_nil, fun n hn => ?_, fun o ho => ?_, fun i hi => ?_⟩, rfl, rfl, fun t => ?_, rfl⟩
  · cases hi
  · cases hn
  · cases ho
  · cases hi
  · cases t <;> exact ⟨rfl, rfl⟩

section
variable {s : State} {i : Instr} {h : Hdr} {sp : Spec} {params : List Byte} {body : Caller → State → State × Ans} {x : Session} {a : Ans}

/-! ### Step 1: the transport and the size -/

theorem State.serve_deaf (hh : s.hw.hears h.tr = false) : s.serve i h sp params body = s := by
  unfold State.serve
  rw [if_pos (by simp [hh])]

theorem State.serve_oversize (hh : s.hw.hears h.tr = true) (hp : payloadLimit h.tr < params.length) : s.serve i h sp params body = s.discard := by
  unfold State.serve
  rw [if_neg (by simp [hh]), if_pos hp]

theorem State.serve_unsessioned (hh : s.hw.hears h.tr = true) (hp : params.length ≤ payloadLimit h.tr) (hs : s.cmd.session h.tr = none) :
    s.serve i h sp params body = s.intake i h sp params false body := by
  unfold State.serve
  rw [if_neg (by simp [hh]), if_neg (Nat.not_lt.mpr hp), hs]

/-! ### Step 3: the sequence of a session -/

/-- What a packet of a session comes to that is heard, fits and takes up no held command. -/
theorem State.serve_session (hop : sp.op ≠ 0x01) (hh : s.hw.hears h.tr = true) (hp : params.length ≤ payloadLimit h.tr)
    (hs : s.cmd.session h.tr = some x) (hr : x.resume ≠ some h.seq.toNat) :
    s.serve i h sp params body =
      (x.accepted.find? (fun e => !s.hw.relays h.tr && decide (e.seq = h.seq.toNat ∧ e.tag = h.tag.toNat))).elim
        (if h.seq.toNat = (x.lastSeq + 1) % 65536 ∨ s.hw.relays h.tr then (s.took h x).intake i h sp params false body
          else (s.putSession h.tr (some (x.heard s.hw.ticks))).intake i h sp params true body)
        (fun e => (s.putSession h.tr (some (x.heard s.hw.ticks))).resend h.tr e) := by
  unfold State.serve
  rw [if_neg (by simp [hh]), if_neg (Nat.not_lt.mpr hp), hs]
  dsimp only
  rw [if_neg hr, if_neg hop]
  cases x.accepted.find? (fun e => !s.hw.relays h.tr && decide (e.seq = h.seq.toNat ∧ e.tag = h.tag.toNat))
  · rfl
  · rfl

theorem State.serve_retransmission {e : Cached} (hop : sp.op ≠ 0x01) (hh : s.hw.hears h.tr = true) (hp : params.length ≤ payloadLimit h.tr)
    (hl : s.hw.relays h.tr = false) (hs : s.cmd.session h.tr = some x) (hr : x.resume ≠ some h.seq.toNat)
    (he : x.accepted.find? (fun e => decide (e.seq = h.seq.toNat ∧ e.tag = h.tag.toNat)) = some e) :
    s.serve i h sp params body = (s.putSession h.tr (some (x.heard s.hw.ticks))).resend h.tr e := by
  rw [State.serve_session hop hh hp hs hr]
  simp only [hl, Bool.not_false, Bool.true_and, he, Option.elim_some]

theorem State.serve_disordered (hop : sp.op ≠ 0x01) (hh : s.hw.hears h.tr = true) (hp : params.length ≤ payloadLimit h.tr)
    (hl : s.hw.relays h.tr = false) (hs : s.cmd.session h.tr = some x) (hr : x.resume ≠ some h.seq.toNat)
    (hf : x.accepted.find? (fun e => decide (e.seq = h.seq.toNat ∧ e.tag = h.tag.toNat)) = none) (hn : h.seq.toNat ≠ (x.lastSeq + 1) % 65536) :
    s.serve i h sp params body = (s.putSession h.tr (some (x.heard s.hw.ticks))).intake i h sp params true body := by
  rw [State.serve_session hop hh hp hs hr]
  simp only [hl, Bool.not_false, Bool.true_and, hf, hn, Bool.false_eq_true, or_self, if_false, Option.elim_none]

theorem State.serve_next (hop : sp.op ≠ 0x01) (hh : s.hw.hears h.tr = true) (hp : params.length ≤ payloadLimit h.tr)
    (hs : s.cmd.session h.tr = some x) (hr : x.resume ≠ some h.seq.toNat)
    (hf : x.accepted.find? (fun e => decide (e.seq = h.seq.toNat ∧ e.tag = h.tag.toNat)) = none) (hn : h.seq.toNat = (x.lastSeq + 1) % 65536) :
    s.serve i h sp params body = (s.took h x).intake i h sp params false body := by
  have hf' : x.accepted.find? (fun e => !s.hw.relays h.tr && decide (e.seq = h.seq.toNat ∧ e.tag = h.tag.toNat)) = none := by
    rw [List.find?_eq_none] at hf ⊢
    intro e he
    have := hf e he
    simp_all
  rw [State.serve_session hop hh hp hs hr, hf']
  exact if_pos (.inl hn)

theorem Hw.badHeader_sequence {w : Hw} {wide : Bool} (hv : h.version = 1) (ho : h.opcode = none) : w.badHeader h wide true = some 10 := by
  simp [Hw.badHeader, hv, ho]

theorem State.intake_disordered (hv : h.version = 1) (ho : h.opcode = none) : s.intake i h sp params true body = s.reply h sp.op (ansBad 10) := by
  unfold State.intake
  rw [Hw.badHeader_sequence hv ho]

/-! ### Step 4: what a session may have outstanding (R36) -/

theorem State.intake_full (hop : sp.op ≠ 0x01) (hb : s.hw.badHeader h sp.wide false = none) (hs : s.cmd.session h.tr = some x)
    (hx : 8 ≤ x.outstanding) : s.intake i h sp params false body = s.reply h sp.op ansBusy := by
  unfold State.intake
  rw [hb, hs]
  dsimp only
  rw [if_neg hop, if_pos hx]

theorem State.intake_held (hop : sp.op ≠ 0x01) (hb : s.hw.badHeader h sp.wide false = none) (hs : s.cmd.session h.tr = some x)
    (hx : x.outstanding < 8) (hw : x.wait.isSome ∨ x.held ≠ []) :
    s.intake i h sp params false body = s.putSession h.tr (some { x with held := x.held ++ [i] }) := by
  unfold State.intake
  rw [hb, hs]
  dsimp only
  rw [if_neg hop, if_neg (Nat.not_le.mpr hx), if_pos (by simpa using hw)]

theorem State.intake_unsessioned (hb : s.hw.badHeader h sp.wide false = none) (hs : s.cmd.session h.tr = none) :
    s.intake i h sp params false body = s.start h sp params body := by
  unfold State.intake
  rw [hb, hs]

/-! ### Steps 5 to 9 -/

theorem State.judge_of_gate {c : Caller} (hg : s.gate sp c = some a) : s.judge sp c = some a := by
  unfold State.judge
  rw [hg]

/-- What the gate refuses is refused here and on the way to a secondary. -/
theorem State.start_refused (hq : s.hw.outbox = []) (hg : s.gate sp (callerOf h s.cmd) = some a) (hw : a.wait = none) :
    s.start h sp params body = s.reply h sp.op a := by
  unfold State.start
  split
  · exact State.run_refused hq (State.judge_of_gate hg) hw
  · rw [hg]

theorem State.gate_fusedOff {c : Caller} (hn : s.hw.noSafety = true) (hf : sp.fused = true ∨ safetyOp sp.op = true) : s.gate sp c = some ansNotFitted := by
  unfold State.gate
  exact if_pos ⟨hn, hf⟩

theorem State.gate_unsessioned {c : Caller} (hf : ¬ (s.hw.noSafety = true ∧ (sp.fused = true ∨ safetyOp sp.op = true)))
    (hs : s.cmd.session c.tr = none) (hd : (if s.hw.relays c.tr then decide (c.role < sp.role) else !noSession sp.op) = true) :
    s.gate sp c = some ansDenied := by
  unfold State.gate
  dsimp only
  rw [if_neg hf, hs, if_pos hd]

/-- What the gate makes of a session's command that is not fused off. -/
theorem State.gate_session {c : Caller} (hop : sp.op ≠ 0x01) (hf : ¬ (s.hw.noSafety = true ∧ (sp.fused = true ∨ safetyOp sp.op = true)))
    (hs : s.cmd.session c.tr = some x) :
    s.gate sp c =
      if x.role < c.role ∨ c.role < (if sp.op = 0x06 ∧ s.hw.dev.mode = .boot ∧ s.hw.dev.halted then 1 else sp.role) then some ansDenied
      else if (s.hw.dev.mode = .dormant ∨ s.hw.wch.lost) ∧ ¬ (c.tr = .spi ∧ dormantOp sp.op) then some s.hw.ansMode
      else if (s.hw.dev.mode ≠ .dormant ∧ s.hw.wch.lost = false) ∧ s.hw.dev.mode = .boot ∧ ¬ bootOp sp.op ∧
        ¬ (sp.op = 0x06 ∧ s.hw.dev.mode = .boot ∧ s.hw.dev.halted) then some ansBusy
      else none := by
  unfold State.gate
  dsimp only
  rw [if_neg hf, hs]
  simp [hop]

/-- What is judged of a command that the gate lets through in a mode of Table 2.3. -/
theorem State.judge_awake {c : Caller} (hg : s.gate sp c = none) (hd : s.hw.dev.mode ≠ .dormant) (hl : s.hw.wch.lost = false)
    (hb : s.hw.dev.mode ≠ .boot) :
    s.judge sp c =
      if s.hw.dev.mode ∉ sp.modes then some s.hw.ansMode
      else if s.cmd.held sp.writes then some ansBusy
      else if sp.stepped ∧ 4 ≤ s.cmd.liveOps then some ansBusy
      else none := by
  unfold State.judge
  rw [hg]
  simp [hd, hl, hb]

/-- A command that arrives is refused as it is judged. -/
theorem State.serve_refused (r : s.Arrives h sp.wide params.length x) (hop : sp.op ≠ 0x01)
    (hj : (s.took h x).judge sp (callerOf h (s.took h x).cmd) = some a) (hw : a.wait = none) :
    s.serve i h sp params body = (s.took h x).reply h sp.op a := by
  rw [State.serve_arrives r hop, State.run_refused (s := s.took h x) r.quiet hj hw]

end

/-- Settles O8: without a session the gate denies. -/
theorem unsessionedCommandIsDenied : Obligations.UnsessionedCommandIsDenied := by
  unfold Obligations.UnsessionedCommandIsDenied
  intro c h s e hn hh hp hs hb hq hf hr
  obtain ⟨body, he⟩ := exec_serves c h e
  have hop := rowOf_op c h e
  have hd : (if s.hw.relays h.tr then decide (h.role.toNat < (rowOf c).role) else !noSession (rowOf c).op) = true := by
    rw [hop]
    rcases hr with hr | hr
    · simp [hr, hn]
    · cases s.hw.relays h.tr
      · simp [hn]
      · simp [hr]
  rw [he, State.serve_unsessioned hh hp hs, State.intake_unsessioned hb hs,
    State.start_refused hq (State.gate_unsessioned (by simp [hf]) hs hd) rfl, hop]
  rfl

/-- Settles O9: a cached command is looked up before anything else is checked. -/
theorem retransmissionExecutesNothing : Obligations.RetransmissionExecutesNothing := by
  unfold Obligations.RetransmissionExecutesNothing
  intro c h s x e hc hop hh hp hl hs hr he
  obtain ⟨body, hx⟩ := exec_serves c h hc
  rw [hx, State.serve_retransmission (rowOf_op c h hc ▸ hop) hh hp hl hs hr he]
  unfold State.resend
  cases e.reply <;> rfl

/-- Settles O10: the sequence is judged before the rest of the header. -/
theorem sequenceErrorIsRefused : Obligations.SequenceErrorIsRefused := by
  unfold Obligations.SequenceErrorIsRefused
  intro c h s x hc hop hh hp hl hs hr hf hv ho hn
  obtain ⟨body, hx⟩ := exec_serves c h hc
  have op := rowOf_op c h hc
  rw [hx, State.serve_disordered (op ▸ hop) hh hp hl hs hr hf hn, State.intake_disordered hv ho, op]
  rfl

/-- Settles O11: acceptance changes no count of what is outstanding. -/
theorem ninthOutstandingIsBusy : Obligations.NinthOutstandingIsBusy := by
  unfold Obligations.NinthOutstandingIsBusy
  intro c h s x hc hop hh hp hs hr hf hn hb
  obtain ⟨body, hx⟩ := exec_serves c h hc
  have op := rowOf_op c h hc
  have next := State.serve_next (i := c) (body := body) (op ▸ hop) hh hp hs (by simp [hr]) hf hn
  have took : (s.took h x).cmd.session h.tr = some ((x.heard s.hw.ticks).accept h) := by simp
  refine ⟨fun full => ?_, fun room waits => ?_⟩
  · rw [hx, next, State.intake_full (s := s.took h x) (op ▸ hop) hb took full, op]
    rfl
  · rw [hx, next, State.intake_held (s := s.took h x) (op ▸ hop) hb took room waits]
    rfl

/-- Settles O12. -/
theorem unheardOrOversizePacketIsDropped : Obligations.UnheardOrOversizePacketIsDropped := by
  unfold Obligations.UnheardOrOversizePacketIsDropped
  intro c h s e
  obtain ⟨body, he⟩ := exec_serves c h e
  refine ⟨fun hh => by rw [he, State.serve_deaf hh], fun hh hp => ?_⟩
  rw [he, State.serve_oversize hh hp]
  rfl

/-- Settles O13: what the gate and then the judgement refuse, in their order. -/
theorem refusalsComeInOrder : Obligations.RefusalsComeInOrder := by
  unfold Obligations.RefusalsComeInOrder
  intro c h s x hop hc
  obtain ⟨e, arrives⟩ := hc
  obtain ⟨body, he⟩ := exec_serves c h e
  have op := rowOf_op c h e
  rw [← op] at hop ⊢
  have answers : ∀ a : Ans, a.wait = none → (s.took h x).judge (rowOf c) (callerOf h (s.took h x).cmd) = some a →
      exec c s = .next ((s.took h x).reply h (rowOf c).op a) := fun a hw hj => by
    rw [he, State.serve_refused arrives hop hj hw]
  have sess : (s.took h x).cmd.session (callerOf h (s.took h x).cmd).tr = some ((x.heard s.hw.ticks).accept h) := by simp [callerOf]
  have gated := fun fit => State.gate_session (s := s.took h x) hop fit sess
  refine ⟨fun off => answers _ rfl (State.judge_of_gate (State.gate_fusedOff off.1 off.2)), fun fit high => ?_, fun fit high hm hl hb => ⟨fun low => ?_, fun role => ?_⟩,
    fun fit hm hh hl role high opc => ?_⟩
  · exact answers _ rfl (State.judge_of_gate ((gated fit).trans (if_pos (.inl high))))
  · refine answers _ rfl (State.judge_of_gate ((gated fit).trans (if_pos (.inr ?_))))
    rwa [if_neg fun k => hb k.2.1]
  · have gate : (s.took h x).gate (rowOf c) (callerOf h (s.took h x).cmd) = none := by
      rw [gated fit, if_neg, if_neg, if_neg]
      · exact fun k => hb k.2.1
      · exact fun k => k.1.elim hm fun k => Bool.false_ne_true (hl.symm.trans k)
      · rw [if_neg fun k => hb k.2.1]
        exact not_or.mpr ⟨Nat.not_lt.mpr high, Nat.not_lt.mpr role⟩
    have judged := State.judge_awake gate hm hl hb
    rw [State.took_held, State.took_cmd, CmdSt.liveOps_setSession] at judged
    refine ⟨fun mode => ?_, fun mode held => ?_, fun mode stepped few => ?_⟩
    · exact answers _ rfl (judged.trans (if_pos mode))
    · exact answers _ rfl (judged.trans ((if_neg (not_not.mpr mode)).trans (if_pos held)))
    · refine answers _ rfl (judged.trans ((if_neg (not_not.mpr mode)).trans ?_))
      split
      · rfl
      · exact if_pos ⟨stepped, few⟩
  · have gate : (s.took h x).gate (rowOf c) (callerOf h (s.took h x).cmd) = some ansBusy := by
      rw [gated fit, if_neg, if_neg, if_pos]
      · refine ⟨⟨by simp [hm], hl⟩, hm, ?_, fun k => by simp [hh] at k⟩
        simp only [List.mem_cons, List.not_mem_nil, or_false, not_or] at opc
        simp [bootOp, opc, hop]
      · rintro ⟨k | k, -⟩
        · simp [hm] at k
        · exact Bool.false_ne_true (hl.symm.trans k)
      · rw [if_neg fun k => by simp [hh] at k]
        exact not_or.mpr ⟨Nat.not_lt.mpr high, Nat.not_lt.mpr role⟩
    exact answers _ rfl (State.judge_of_gate gate)

/-- Settles O14: a product other than AG7680-IS has the protective function fused off. -/
theorem protectiveOpcodesNeedTheFeature : Obligations.ProtectiveOpcodesNeedTheFeature := by
  unfold Obligations.ProtectiveOpcodesNeedTheFeature
  intro c h s x code hop hcode hne hc
  obtain ⟨e, arrives⟩ := hc
  obtain ⟨body, he⟩ := exec_serves c h e
  have op := rowOf_op c h e
  have off : (s.took h x).hw.noSafety = true := by simp [Hw.noSafety, Hw.isIS, hcode, hne]
  have safety : safetyOp (rowOf c).op = true := by
    rw [op]
    simp only [safetyOp, decide_eq_true_eq]
    omega
  rw [he, State.serve_refused arrives (by rw [op]; omega) (State.judge_of_gate (State.gate_fusedOff off (.inr safety))) rfl, op]
  rfl

end Sys2Proof.Machine
end

section
/-! PROOFS. Statements about events and commands that fail: the state that refutes each, and the refutation. -/

namespace Sys2Proof.Machine

/-- The packets pending on a transport after a command. -/
def pendingAfter (c : Instr) (s : State) (tr : Transport) : List Packet :=
  match exec c s with
  | .next t => t.cmd.out tr
  | _ => []

theorem pendingAfter_next {c : Instr} {s t : State} (k : exec c s = .next t) (tr : Transport) : pendingAfter c s tr = t.cmd.out tr := by
  simp only [pendingAfter, k]

/-! ### A session on the lane of a secondary, which runs an upload for its primary -/

/-- An upload that awaits chunks, started by a command a primary passed on: session number 0 of the lane. -/
def relayedUpload : StepOp := { token := 5, opcode := 0x30, owner := some (.link, 0), state := 0 }

/-- The session of that number on the lane. -/
def laneSession (number : Nat) : Session := { number := number, role := 1, heartbeat := 0, lastSeq := 0 }

/-- A secondary in CONFIG, its upstream lane active, that runs the operations `ops` beside that session. -/
def secondaryWith (number : Nat) (ops : List StepOp) : State :=
  { hw := { dev := { mode := .config }, cas := { index := 1 }, lnk := { lanes := [(4, { state := .active })] } }
    cmd := { link := some (laneSession number), ops := ops } }

theorem secondaryWith_heldAt (number : Nat) (ops : List StepOp) (l : Nat) : ((secondaryWith number ops).hw.lane l).heldAt = none := by
  by_cases e : l = 4
  · subst e
    rfl
  · simp [secondaryWith, Hw.lane, mget, Ne.symm e]

/-- Refutes O17: a session numbered 0 on the lane of a secondary is the owner of what its primary had it start; as the session closes for its
silence, the upload ends at once and its STEP_DONE goes to the primary behind the replies. -/
theorem not_packetEventsOfTheTransports : ¬ Obligations.PacketEventsOfTheTransports := by
  unfold Obligations.PacketEventsOfTheTransports
  intro claim
  obtain ⟨-, -, -, -, -, -, silent, -⟩ := claim (secondaryWith 0 [relayedUpload])
  obtain ⟨t, run, -, -, kept⟩ := silent .link (laneSession 0) rfl rfl (secondaryWith_heldAt 0 _) (by decide)
  obtain ⟨out, -⟩ := kept (by decide)
  have told : (pendingAfter (.sessionHeartbeatTimeout .link) (secondaryWith 0 [relayedUpload]) .link).length = 1 := by decide +kernel
  rw [pendingAfter_next run, out] at told
  exact absurd told (by decide)

/-- The header of that session's next command. -/
def laneHdr : Hdr := { tr := .link, tag := 7, role := 1, seq := 1, subaddr := 1 }

/-- Two operations of one token: the relayed upload, and one of the session numbered 7. -/
def twins : List StepOp := [relayedUpload, { relayedUpload with owner := some (.link, 7) }]

theorem secondaryWith_takes_close : (secondaryWith 7 twins).Takes (.sessionClose laneHdr) laneHdr (laneSession 7) :=
  ⟨rfl, ⟨⟨rfl, by decide, rfl, rfl, rfl, ⟨rfl, rfl, rfl⟩, by decide, ⟨rfl, by decide, rfl, rfl, rfl, rfl, by decide, by decide⟩, rfl⟩,
    by decide, by decide, by decide, rfl, rfl, by decide⟩⟩

/-- Refutes O28: SESSION_CLOSE ends its operations by their tokens; where the upload of a primary carries the same token, its STEP_DONE goes to
the primary before the reply. -/
theorem not_sessionCommandsAreServed : ¬ Obligations.SessionCommandsAreServed := by
  unfold Obligations.SessionCommandsAreServed
  intro claim
  obtain ⟨-, -, -, closes⟩ := claim (secondaryWith 7 twins) laneHdr
  obtain ⟨t, run, -, -, kept⟩ := closes (laneSession 7) secondaryWith_takes_close
  obtain ⟨-, -, out⟩ := kept (by decide) (by decide)
  have two : (pendingAfter (.sessionClose laneHdr) (secondaryWith 7 twins) .link).length = 2 := by decide +kernel
  rw [pendingAfter_next run, show Transport.link = laneHdr.tr from rfl, out] at two
  exact absurd two (by decide)

/-! ### A packet of role U from a session of role S -/

/-- A session of role S on SPI. -/
def serviceSession : Session := { number := 1, role := 3, heartbeat := 0, lastSeq := 0 }

/-- A device in CONFIG with that session. -/
def openForService : State := { hw := { dev := { mode := .config } }, cmd := { spi := some serviceSession } }

/-- Its next packet, in role U. -/
def userHdr : Hdr := { tr := .spi, tag := 7, role := 1, seq := 1 }

theorem openForService_takes_read : openForService.Takes (.pmcRead userHdr 0 1) userHdr serviceSession :=
  ⟨rfl, ⟨⟨rfl, by decide, rfl, rfl, rfl, ⟨rfl, rfl, rfl⟩, by decide, ⟨rfl, by decide, rfl, rfl, rfl, rfl, by decide, by decide⟩, rfl⟩,
    by decide, by decide, by decide, rfl, rfl, by decide⟩⟩

/-- Refutes O49: PMC_READ is judged by the role of its packet, not by that of the session; in role U, without USER_READ, it is DENIED. -/
theorem not_diagnosticCommandsAreServed : ¬ Obligations.DiagnosticCommandsAreServed := by
  unfold Obligations.DiagnosticCommandsAreServed
  intro claim
  obtain ⟨-, -, -, reads, -⟩ := claim openForService userHdr serviceSession
  have served := reads 0 1 openForService_takes_read (by decide) (by decide) (by decide)
  have denied : (pendingAfter (.pmcRead userHdr 0 1) openForService .spi).map (·.status) = [0x04] := by decide +kernel
  rw [pendingAfter_next served] at denied
  exact absurd denied (by decide +kernel)

end Sys2Proof.Machine
end

section
/-! PROOFS. Stepped operations, by their tokens: what an update, an end and an event leave under a token and on a transport. -/

namespace Sys2Proof.Machine

/-! ### The operation of a token -/

theorem CmdSt.op_token {c : CmdSt} {k : Nat} {o : StepOp} (h : c.op k = some o) : o.token = k := by
  simpa using List.find?_some h

/-- An update of the operations of a token is what is found under it. -/
theorem CmdSt.op_updOp {c : CmdSt} {k : Nat} {o : StepOp} (h : c.op k = some o) {f : StepOp → StepOp} (hf : ∀ o, (f o).token = o.token) :
    (c.updOp k f).op k = some (f o) := by
  have hp : ((fun p : StepOp => decide (p.token = k)) ∘ fun p => if p.token = k then f p else p) = fun p => decide (p.token = k) := by
    funext p
    by_cases hk : p.token = k <;> simp [hk, hf]
  have hfind : c.ops.find? (fun p => decide (p.token = k)) = some o := h
  simp only [CmdSt.op, CmdSt.updOp, List.find?_map, hp, hfind, Option.map_some, CmdSt.op_token h, if_true]

theorem CmdSt.op_of_ops {c d : CmdSt} (h : c.ops = d.ops) (k : Nat) : c.op k = d.op k := by simp only [CmdSt.op, h]

@[simp] theorem CmdSt.op_setSession (c : CmdSt) (t : Transport) (x : Option Session) (k : Nat) : (c.setSession t x).op k = c.op k :=
  CmdSt.op_of_ops (CmdSt.ops_setSession c t x) k
@[simp] theorem CmdSt.op_sendEvent (c : CmdSt) (t : Transport) (x : Session) (index opcode : Nat) (payload : List Byte) (urgent : Bool) (k : Nat) :
    (c.sendEvent t x index opcode payload urgent).op k = c.op k := CmdSt.op_of_ops (CmdSt.ops_sendEvent c t x index opcode payload urgent) k
@[simp] theorem CmdSt.op_relayEvent (c : CmdSt) (index opcode : Nat) (payload : List Byte) (urgent : Bool) (k : Nat) :
    (c.relayEvent index opcode payload urgent).op k = c.op k := CmdSt.op_of_ops (CmdSt.ops_relayEvent c index opcode payload urgent) k
@[simp] theorem CmdSt.ops_answer (c : CmdSt) (t : Transport) (p : Packet) : (c.answer t p).ops = c.ops := by
  unfold CmdSt.answer
  rw [CmdSt.ops_push]
  cases c.session t with
  | none => rfl
  | some x => exact CmdSt.ops_setSession c t _
@[simp] theorem State.op_reply (s : State) (h : Hdr) (n : Nat) (a : Ans) (k : Nat) : (s.reply h n a).cmd.op k = s.cmd.op k :=
  CmdSt.op_of_ops (CmdSt.ops_answer s.cmd h.tr _) k
@[simp] theorem State.op_took (s : State) (h : Hdr) (x : Session) (k : Nat) : (s.took h x).cmd.op k = s.cmd.op k := by simp
@[simp] theorem State.known_took (s : State) (h : Hdr) (x : Session) (k : Nat) : (s.took h x).cmd.known k = s.cmd.known k := by
  simp only [CmdSt.known, State.op_took]

theorem CmdSt.known_of_op {c : CmdSt} {k : Nat} {o : StepOp} (h : c.op k = some o) (hr : o.released = false) : c.known k = some o := by
  simp [CmdSt.known, h, hr]

/-! ### What goes out -/

@[simp] theorem CmdSt.out_push (c : CmdSt) (t : Transport) (p : Packet) : (c.push t p).out t = c.out t ++ [p] := by simp [CmdSt.push]
@[simp] theorem CmdSt.out_sendEvent (c : CmdSt) (t : Transport) (x : Session) (index opcode : Nat) (payload : List Byte) (urgent : Bool) :
    (c.sendEvent t x index opcode payload urgent).out t = c.out t ++
      [{ opcode := opcode, source := 0x10 + index, seq := x.eventSeq, reply := false, payload := payload, urgent := urgent, peer := x.peer }] := by
  simp [CmdSt.sendEvent]
@[simp] theorem CmdSt.out_answer (c : CmdSt) (t : Transport) (p : Packet) : (c.answer t p).out t = c.out t ++ [p] := by
  unfold CmdSt.answer
  rw [CmdSt.out_push]
  cases c.session t with
  | none => rfl
  | some x => exact congrArg (· ++ [p]) (CmdSt.out_setSession c t t _)
@[simp] theorem State.out_reply (s : State) (h : Hdr) (n : Nat) (a : Ans) :
    (s.reply h n a).cmd.out h.tr = s.cmd.out h.tr ++ [s.hw.replyTo n h a] := CmdSt.out_answer s.cmd h.tr _
@[simp] theorem State.out_took (s : State) (h : Hdr) (x : Session) (t : Transport) : (s.took h x).cmd.out t = s.cmd.out t := by simp

/-! ### The end of an operation -/

/-- An operation as its end leaves it. -/
def StepOp.ended (o : StepOp) (status : Nat) (result : List Byte) (now : Nat) (released : Bool) : StepOp :=
  { o with state := 3, status := status, result := result, doneAt := some now, released := released, ending := none }

theorem State.op_finishOp {s : State} {k : Nat} {o : StepOp} (h : s.cmd.op k = some o) (status : Nat) (result : List Byte) :
    ∃ released, (s.finishOp k status result).cmd.op k = some (o.ended status result s.hw.ticks released) := by
  unfold State.finishOp
  simp only [h]
  have found := fun released => CmdSt.op_updOp (f := fun o => o.ended status result s.hw.ticks released) h fun _ => rfl
  refine ⟨(s.cmd.ownerOf o).isNone && !(s.hw.relays .link && decide (o.owner = some (.link, 0))), Eq.trans ?_ (found _)⟩
  split
  · exact CmdSt.op_sendEvent _ _ _ _ _ _ _ _
  · split
    · exact CmdSt.op_relayEvent _ _ _ _ _ _
    · rfl

/-- The STEP_DONE packet of an operation's end. -/
def stepDone (index token status : Nat) (result : List Byte) (x : Session) : Packet :=
  { opcode := 0xE3, source := 0x10 + index, seq := x.eventSeq, reply := false, urgent := true, peer := x.peer
    payload := le 4 token ++ le 1 status ++ le 4 result.length ++ (if result.length ≤ 48 then pad4 result else []) }

theorem State.finishOp_owned {s : State} {k : Nat} {o : StepOp} {tr : Transport} {x : Session} (h : s.cmd.op k = some o)
    (ho : s.cmd.ownerOf o = some (tr, x)) (status : Nat) (result : List Byte) :
    (s.finishOp k status result).cmd.op k = some (o.ended status result s.hw.ticks false) ∧
    (s.finishOp k status result).cmd.out tr = s.cmd.out tr ++ [stepDone s.hw.cas.index k status result x] := by
  unfold State.finishOp
  simp only [h, ho, Option.isNone_some, Bool.false_and]
  refine ⟨(CmdSt.op_sendEvent _ _ _ _ _ _ _ _).trans (CmdSt.op_updOp h fun _ => rfl), ?_⟩
  rw [CmdSt.out_sendEvent, CmdSt.updOp_out, stepDone]
  split
  · rfl
  · rw [List.append_nil]

/-- Without LOG_STEP an end leaves the hardware alone. -/
theorem State.finishOp_hw (s : State) (k status : Nat) (result : List Byte) (h : tb (s.hw.reg 0x00910000) 8 = false) :
    (s.finishOp k status result).hw = s.hw := by
  unfold State.finishOp
  split
  · rfl
  · dsimp only
    split
    · simp [Hw.logStep, h]
    · rfl

/-! ### The events of stepped operations -/

theorem CmdSt.ordinaryEvent_room (c : CmdSt) {t : Transport} (x : Session) (index opcode src : Nat) (payload : List Byte) (h : c.ordinary t < 224) :
    c.ordinaryEvent t x index opcode src payload = c.sendEvent t x index opcode payload false := if_neg (Nat.not_le.mpr h)

section Events
variable {s : State} {k : U32} {o : StepOp} (h : s.cmd.op k.toNat = some o)
include h

theorem exec_stepProgress {tr : Transport} {x : Session} (own : s.cmd.ownerOf o = some (tr, x)) (live : o.live = true) (run : o.state ≠ 0)
    (due : ∀ t, o.sentAt = some t → t + 8000000 ≤ s.hw.ticks) (room : s.cmd.ordinary tr < 224) :
    exec (.stepProgress k) s = .next { s with
      cmd := (s.cmd.updOp k.toNat (fun o => { o with sentAt := some s.hw.ticks })).sendEvent tr x s.hw.cas.index 0xE2
        (le 4 o.token ++ le 2 o.step ++ le 2 o.steps) false } := by
  change execStepProgress k s = _
  simp only [execStepProgress, h, own, live, ne_eq, run, not_false_eq_true, true_and]
  rw [if_pos, CmdSt.ordinaryEvent_room _ _ _ _ _ _ (by rw [CmdSt.updOp_ordinary]; exact room), CmdSt.op_token h]
  split
  · next t ht => exact decide_eq_true (due t ht)
  · rfl

theorem exec_stepProgress_early {t : Nat} (sent : o.sentAt = some t) (early : s.hw.ticks < t + 8000000) : exec (.stepProgress k) s = .next s := by
  change execStepProgress k s = _
  simp only [execStepProgress, h, sent, Nat.not_le.mpr early, decide_false, Bool.false_eq_true, and_false, if_false]
  split <;> rfl

theorem exec_uploadTimeout :
    exec (.uploadTimeout k) s = .next (if o.live ∧ o.state = 0 ∧ o.chunkAt + 8000000000 ≤ s.hw.ticks then s.finishOp k.toNat 0x07 [] else s) := by
  change execUploadTimeout k s = _
  simp only [execUploadTimeout, h, CmdSt.op_token h]

theorem exec_resultRelease {d : Nat} (done : o.doneAt = some d) :
    exec (.resultRelease k) s = .next (if d + 8000000000 ≤ s.hw.ticks
      then { s with cmd := s.cmd.updOp k.toNat (fun o => { o with released := true }) } else s) := by
  change execResultRelease k s = _
  simp only [execResultRelease, h, done, CmdSt.op_token h]

end Events

/-- Settles O18: each event looks up its token, and acts where its time has come. -/
theorem steppedOperationEvents : Obligations.SteppedOperationEvents := by
  unfold Obligations.SteppedOperationEvents
  intro s k o h
  refine ⟨fun tr x own live run due room => ⟨_, exec_stepProgress h own live run due room, rfl, ?_, ?_⟩,
    fun t sent early => exec_stepProgress_early h sent early, fun tr x own live up due => ?_, fun early => ?_, fun d done due => ?_, fun d done early => ?_⟩
  · exact (CmdSt.op_sendEvent _ _ _ _ _ _ _ _).trans (CmdSt.op_updOp h fun _ => rfl)
  · rw [CmdSt.out_sendEvent, CmdSt.updOp_out]
  · obtain ⟨ends, out⟩ := State.finishOp_owned h own 0x07 []
    rw [exec_uploadTimeout h, if_pos ⟨live, up, due⟩]
    refine ⟨_, rfl, ends, ?_⟩
    rw [CmdSt.op_token h]
    exact out
  · rw [exec_uploadTimeout h, if_neg fun c => Nat.not_le.mpr early c.2.2]
  · rw [exec_resultRelease h done, if_pos due]
    exact ⟨_, rfl, rfl, CmdSt.op_updOp h fun _ => rfl, fun u => ⟨CmdSt.updOp_session _ _ _ _, CmdSt.updOp_out _ _ _ _⟩⟩
  · rw [exec_resultRelease h done, if_neg (Nat.not_le.mpr early)]

end Sys2Proof.Machine
end

section
/-! PROOFS. STEP_QUERY, STEP_LIST, STEP_ABORT, STEP_FETCH, and the steps of an operation. -/

namespace Sys2Proof.Machine

@[simp] theorem callerOf_took (s : State) (h : Hdr) (x : Session) :
    callerOf h (s.took h x).cmd = { tr := h.tr, session := x.number, role := h.role.toNat, seq := h.seq.toNat } := by
  simp [callerOf, Session.accept, Session.heard]

/-- The answer of a command whose meaning hands nothing to Watch. -/
theorem State.exec_answers_quiet {s : State} {c : Instr} {h : Hdr} {x : Session} {body : Caller → State → State × Ans} {t : State} {a : Ans}
    (k : s.Takes c h x) (hop : opOf c ≠ 0x01) (hn : (rowOf c).wide = false) (he : exec c s = .next (s.serve c h (rowOf c) (paramsOf c) body))
    (hb : body (callerOf h (s.took h x).cmd) (s.took h x) = (t, a)) (hw : a.wait = none) (hq : t.hw.outbox = []) :
    exec c s = .next (t.reply h (opOf c) a) := by
  rw [State.exec_answers k hop hn he hb hw, State.drain_quiet t hq]

/-- The abort of an operation that runs and has no end yet waits for its next step boundary. -/
theorem State.op_endOp_running {s : State} {n : Nat} {o : StepOp} (hk : s.cmd.op n = some o) (live : o.live = true) (run : o.state ≠ 0) (fresh : o.ending = none)
    (status : Nat) (result : List Byte) :
    (s.endOp n status result).hw = s.hw ∧ (s.endOp n status result).cmd.op n = some { o with state := 2, ending := some (status, result) } := by
  have hm := CmdSt.op_updOp (f := fun o => if o.ending.isNone then { o with state := 2, ending := some (status, result) } else o) hk
    (fun o => by split <;> rfl)
  simp only [State.endOp, hk, live, run, not_true_eq_false, if_false]
  exact ⟨trivial, hm.trans (by simp [fresh])⟩

/-! ### The commands -/

/-- What STEP_FETCH answers from an offset on: a payload at most. -/
def StepOp.part (o : StepOp) (tr : Transport) (off : Nat) : List Byte := (o.result.drop off).take (payloadLimit tr)

section Commands
variable {s : State} {h : Hdr} {x : Session} {k : U32}

theorem stepQuery_unknown (hk : s.cmd.known k.toNat = none) (t : s.Takes (.stepQuery h k) h x) : s.Served (.stepQuery h k) h x s.accepted (ansBad 16) :=
  State.served_read t (Nat.ne_of_beq_eq_false rfl) rfl (by simp only [State.known_took, hk]) rfl

theorem stepAbort_unknown (hk : s.cmd.known k.toNat = none) (t : s.Takes (.stepAbort h k) h x) : s.Served (.stepAbort h k) h x s.accepted (ansBad 16) :=
  State.served_read t (Nat.ne_of_beq_eq_false rfl) rfl (by simp only [State.known_took, hk]) rfl

theorem stepFetch_unknown (hk : s.cmd.known k.toNat = none) {off : U32} (t : s.Takes (.stepFetch h k off) h x) :
    s.Served (.stepFetch h k off) h x s.accepted (ansBad 16) :=
  State.served_read t (Nat.ne_of_beq_eq_false rfl) rfl (by simp only [State.known_took, hk]) rfl

theorem stepList_served (t : s.Takes (.stepList h) h x) :
    s.Served (.stepList h) h x s.accepted (ansOk (le 1 ((s.cmd.ops.filter (fun o => o.doneAt.isNone)).map (·.token)).length ++
      ((s.cmd.ops.filter (fun o => o.doneAt.isNone)).map (·.token)).flatMap (le 4))) :=
  State.served_read t (Nat.ne_of_beq_eq_false rfl) rfl (by simp only [State.took_cmd, CmdSt.ops_setSession, StepOp.live]) rfl

variable {o : StepOp} (hk : s.cmd.op k.toNat = some o) (hr : o.released = false)
include hk hr

theorem stepQuery_served (t : s.Takes (.stepQuery h k) h x) :
    s.Served (.stepQuery h k) h x s.accepted (ansOk (le 1 o.opcode ++ le 2 o.step ++ le 2 o.steps ++ le 1 o.state)) :=
  State.served_read t (Nat.ne_of_beq_eq_false rfl) rfl (by simp only [State.known_took, CmdSt.known_of_op hk hr]) rfl

theorem stepAbort_denied (t : s.Takes (.stepAbort h k) h x) (live : o.live = true) (other : o.owner ≠ some (h.tr, x.number)) :
    s.Served (.stepAbort h k) h x s.accepted { status := 0x04 } :=
  State.served_read t (Nat.ne_of_beq_eq_false rfl) rfl
    (by simp only [State.known_took, CmdSt.known_of_op hk hr, callerOf_took, live, not_true_eq_false, if_false, ne_eq, other, not_false_eq_true, if_true]; rfl) rfl

theorem stepAbort_served (t : s.Takes (.stepAbort h k) h x) (live : o.live = true) (own : o.owner = some (h.tr, x.number)) (run : o.state ≠ 0)
    (fresh : o.ending = none) : ∃ u, exec (.stepAbort h k) s = .next u ∧ u.hw = s.accepted ∧
      u.cmd.op k.toNat = some { o with state := 2, ending := some (0x02, []) } := by
  obtain ⟨hw, op⟩ := State.op_endOp_running (s := s.took h x) ((State.op_took s h x _).trans hk) live run fresh 0x02 []
  refine ⟨_, State.exec_answers_quiet t (Nat.ne_of_beq_eq_false rfl) rfl rfl (t := (s.took h x).endOp k.toNat 0x02 []) (a := ansOk []) ?_ rfl ?_, hw, ?_⟩
  · simp only [State.known_took, CmdSt.known_of_op hk hr, callerOf_took, live, own, not_true_eq_false, if_false, ne_eq]
  · rw [hw]
    exact t.2.quiet
  · exact (State.op_reply _ _ _ _ _).trans op

theorem stepFetch_served {off : U32} (t : s.Takes (.stepFetch h k off) h x) (own : o.owner = some (h.tr, x.number)) (done : o.live = false)
    (within : off.toNat ≤ o.result.length) :
    ∃ u, exec (.stepFetch h k off) s = .next u ∧ u.hw = s.accepted ∧
      u.cmd.out h.tr = s.cmd.out h.tr ++ [s.hw.replyTo 0xC3 h (ansOk (o.part h.tr off.toNat))] ∧
      u.cmd.op k.toNat = some { o with
        released := decide (o.result.length ≤ off.toNat + (o.part h.tr off.toNat).length) } := by
  by_cases e : o.result.length ≤ off.toNat + (o.part h.tr off.toNat).length
  · refine ⟨_, State.exec_answers_quiet t (Nat.ne_of_beq_eq_false rfl) rfl rfl (a := ansOk (o.part h.tr off.toNat))
      (t := { s.took h x with cmd := (s.took h x).cmd.updOp k.toNat fun o => { o with released := true } }) ?_ rfl t.2.quiet, rfl, ?_, ?_⟩
    · simp only [State.known_took, CmdSt.known_of_op hk hr, callerOf_took, done, own, ne_eq, not_true_eq_false, Nat.not_lt.mpr within, if_false,
        Bool.false_eq_true]
      exact congrArg (·, _) (if_pos e)
    · rw [State.out_reply, CmdSt.updOp_out, State.out_took]
      rfl
    · rw [State.op_reply, decide_eq_true e]
      exact CmdSt.op_updOp ((State.op_took s h x _).trans hk) fun _ => rfl
  · refine ⟨_, State.exec_answers_quiet t (Nat.ne_of_beq_eq_false rfl) rfl rfl (a := ansOk (o.part h.tr off.toNat)) (t := s.took h x) ?_ rfl t.2.quiet, rfl, ?_, ?_⟩
    · simp only [State.known_took, CmdSt.known_of_op hk hr, callerOf_took, done, own, ne_eq, not_true_eq_false, Nat.not_lt.mpr within, if_false,
        Bool.false_eq_true]
      exact congrArg (·, _) (if_neg e)
    · rw [State.out_reply, State.out_took]
      rfl
    · rw [State.op_reply, decide_eq_false e, State.op_took, hk, ← hr]

end Commands

/-! ### A step of an operation -/

section Steps
variable {s : State} {k : U32} {o : StepOp} (hk : s.cmd.op k.toNat = some o) (live : o.live = true) (run : o.state ≠ 0) {obs : StepObs}
include hk live run

/-- An operation marked to end ends at its step boundary. -/
theorem exec_steppedOpStep_ending {status : Nat} {result : List Byte} (ending : o.ending = some (status, result)) :
    exec (.steppedOpStep k obs) s = .next (s.cease o status result).swapAfterStep := by
  change execSteppedOpStep k obs s = _
  simp only [execSteppedOpStep, State.stepOp, hk, live, run, ending, not_true_eq_false, or_self, if_false]

/-- Any other step is counted; the final one of an operation of one step form does what its opcode commits. -/
theorem exec_steppedOpStep_counted (fresh : o.ending = none) (form : o.opcode ∉ [0x56, 0x60, 0x84]) :
    exec (.steppedOpStep k obs) s =
      .next (if obs.final then (s.counted k.toNat).finalStep o obs else s.counted k.toNat).swapAfterStep := by
  simp only [List.mem_cons, List.not_mem_nil, or_false, not_or] at form
  obtain ⟨filter, calibration, lanes⟩ := form
  change execSteppedOpStep k obs s = _
  simp only [execSteppedOpStep, State.stepOp, hk, live, run, fresh, not_true_eq_false, or_self, if_false]
  rfl

end Steps

theorem State.swapAfterStep_none {s : State} (h : s.hw.wch.swapStep = false) : s.swapAfterStep = s := by
  simp [State.swapAfterStep, h]

/-- The operations whose end leaves nothing behind. -/
theorem State.cease_plain (s : State) {o : StepOp} (h : o.opcode ∈ [0x14, 0x34, 0x46]) (status : Nat) (result : List Byte) :
    s.cease o status result = s.finishOp o.token status result := by
  simp only [List.mem_cons, List.not_mem_nil, or_false] at h
  rcases h with h | h | h <;> simp only [State.cease, h]

theorem State.finalStep_read (s : State) {o : StepOp} (h : o.opcode = 0x34) (obs : StepObs) :
    s.finalStep o obs = s.finishOp o.token 0 o.bytes := by
  simp only [State.finalStep, h]
  rfl

theorem CmdSt.ownerOf_some {c : CmdSt} {o : StepOp} {t : Transport} {x : Session} (own : o.owner = some (t, x.number)) (h : c.session t = some x) :
    c.ownerOf o = some (t, x) := by
  simp [CmdSt.ownerOf, own, h]

theorem CmdSt.op_counted {s : State} {n : Nat} {o : StepOp} (h : s.cmd.op n = some o) :
    (s.counted n).cmd.op n = some { o with step := min 65535 (o.step + 1) } := CmdSt.op_updOp h fun _ => rfl

theorem Hw.LogOnly.swapStep {a b : Hw} (h : a.LogOnly b) : b.wch.swapStep = a.wch.swapStep := by
  obtain ⟨l, n, w, f, rfl⟩ := h
  rfl

/-- Settles O31: the commands look their operation up; its steps count, commit or end it. -/
theorem stepControlIsServed : Obligations.StepControlIsServed := by
  unfold Obligations.StepControlIsServed
  intro s h x k
  refine ⟨fun unknown => ⟨stepQuery_unknown unknown, stepAbort_unknown unknown, fun _ => stepFetch_unknown unknown⟩, stepList_served,
    fun o hk kept => ⟨stepQuery_served hk kept, fun t live => stepAbort_denied hk kept t (Option.isNone_iff_eq_none.mpr live),
      fun t live own run fresh => stepAbort_served hk kept t (Option.isNone_iff_eq_none.mpr live) own run fresh,
      fun off t own done within => stepFetch_served hk kept t own (Option.isNone_eq_false_iff.mpr (Option.isSome_iff_ne_none.mpr done)) within,
      fun obs live run fresh still notFinal form => ?_, fun obs live run fresh final form => ?_,
      fun obs status result still live run ending form own open' unlogged => ?_, fun obs live run fresh still final read own => ?_⟩⟩
  · rw [exec_steppedOpStep_counted hk (Option.isNone_iff_eq_none.mpr live) run fresh form, if_neg (by simp [notFinal]), State.swapAfterStep_none (s := s.counted k.toNat) still]
  · rw [exec_steppedOpStep_counted hk (Option.isNone_iff_eq_none.mpr live) run fresh form, if_pos final]
  · obtain ⟨ends, out⟩ := State.finishOp_owned hk (CmdSt.ownerOf_some own open') status result
    have hw := State.finishOp_hw s k.toNat status result unlogged
    rw [StepOp.ended, CmdSt.op_token hk] at ends
    rw [exec_steppedOpStep_ending hk (Option.isNone_iff_eq_none.mpr live) run ending, State.cease_plain s form, CmdSt.op_token hk,
      State.swapAfterStep_none (by rw [hw]; exact still)]
    exact ⟨_, rfl, hw, ends, out⟩
  · obtain ⟨released, op⟩ := State.op_finishOp (CmdSt.op_counted hk) 0 o.bytes
    have logs := State.finishOp_logOnly (s.counted k.toNat) k.toNat 0 o.bytes
    rw [exec_steppedOpStep_counted hk (Option.isNone_iff_eq_none.mpr live) run fresh (by simp [read]), if_pos final, State.finalStep_read _ read,
      CmdSt.op_token hk, State.swapAfterStep_none (logs.swapStep.trans still)]
    obtain ⟨l, n, w, f, e⟩ := logs
    exact ⟨_, rfl, _, op, rfl, rfl, rfl, by rw [e]; rfl, by rw [e]; rfl⟩

end Sys2Proof.Machine
end

section
/-! SUPPORT. Tender's verdicts and epochs read nothing of Watch: the journal entry of a command's acceptance leaves them. -/

namespace Sys2Proof.Machine

section Wch
variable (w : Hw) (W : WchSt)

@[simp] theorem Alloc.freeChan_wch (a : Alloc) (n : Nat) : a.freeChan { w with wch := W } n = a.freeChan w n := rfl
@[simp] theorem Alloc.bestTile_wch (a : Alloc) : a.bestTile { w with wch := W } = a.bestTile w := rfl
@[simp] theorem allocGo_wch (load : Nat → Nat) (l : List (Nat × Nat)) (a : Alloc) : allocGo { w with wch := W } load l a = allocGo w load l a := by
  induction l generalizing a with
  | nil => rfl
  | cons t r ih => simp only [allocGo, Alloc.bestTile_wch, Alloc.freeChan_wch, ih]
@[simp] theorem Hw.allocate_wch (p : List Byte) : ({ w with wch := W } : Hw).allocate p = w.allocate p := by
  simp only [Hw.allocate, allocGo_wch]
@[simp] theorem Hw.pointLoad_wch (r : Rat) : ({ w with wch := W } : Hw).pointLoad r = w.pointLoad r := rfl
@[simp] theorem Hw.routesOf_wch (n : Nat) (lanes : List Nat) (pps : Nat → Rat) :
    ({ w with wch := W } : Hw).routesOf n lanes pps = w.routesOf n lanes pps := by
  simp only [Hw.routesOf, Hw.pointLoad_wch]
@[simp] theorem Hw.chanServes_wch (k : Nat) : ({ w with wch := W } : Hw).chanServes k = w.chanServes k := rfl
@[simp] theorem Hw.devices_wch : ({ w with wch := W } : Hw).devices = w.devices := rfl
@[simp] theorem Hw.subCount_wch : ({ w with wch := W } : Hw).subCount = w.subCount := rfl
@[simp] theorem Hw.pointLanesUp_wch (p : List Byte) : ({ w with wch := W } : Hw).pointLanesUp p = w.pointLanesUp p := rfl
@[simp] theorem Hw.lane_wch (l : Nat) : ({ w with wch := W } : Hw).lane l = w.lane l := rfl
@[simp] theorem Hw.nReturns_wch : ({ w with wch := W } : Hw).nReturns = w.nReturns := rfl

/-- The verdict on a plan does not read Watch. -/
theorem Hw.planVerdict_wch (p : List Byte) : ({ w with wch := W } : Hw).planVerdict p = w.planVerdict p := by
  simp only [Hw.planVerdict, Hw.devices_wch, Hw.subCount_wch, Hw.chanServes_wch, Hw.allocate_wch, Hw.pointLanesUp_wch, Hw.routesOf_wch, Hw.lane_wch,
    Hw.pointLoad_wch, Hw.nReturns_wch]
  rfl

theorem Hw.nLive_wch (t : Track) : ({ w with wch := W } : Hw).nLive t = w.nLive t := rfl
theorem Hw.adaptTrack_wch (p : List Byte) (t : Nat × Nat) (a : Adapt) : ({ w with wch := W } : Hw).adaptTrack p t a = w.adaptTrack p t a := by
  simp only [Hw.adaptTrack, Hw.nLive_wch]
  rfl
theorem Hw.adaptAll_wch (p : List Byte) (first : Bool) : ({ w with wch := W } : Hw).adaptAll p first = w.adaptAll p first := by
  simp only [Hw.adaptAll, Hw.adaptTrack_wch]
theorem Hw.mkTrack_wch (p : List Byte) (m : SMap (Option Adapt)) (g : Bool) (t : Nat × Nat) :
    ({ w with wch := W } : Hw).mkTrack p m g t = w.mkTrack p m g t := rfl
theorem Hw.gridHeld_wch (p : List Byte) (v n : Nat) : ({ w with wch := W } : Hw).gridHeld p v n = w.gridHeld p v n := rfl
theorem Hw.place_wch (p : List Byte) (slot : Nat) (m : SMap (Option Adapt)) :
    ({ w with wch := W } : Hw).place p slot m = w.place p slot m := by
  simp only [Hw.place, Hw.allocate_wch, Hw.mkTrack_wch, Hw.gridHeld_wch, Hw.routesOf_wch, Hw.subCount_wch, Hw.pointLanesUp_wch]
theorem Hw.withEpoch_wch (p : Placement) (n : Nat) : ({ w with wch := W } : Hw).withEpoch p n = w.withEpoch p n := rfl
theorem Hw.computePlacement_wch (first : Bool) : (({ w with wch := W } : Hw).computePlacement first).2 = (w.computePlacement first).2 := by
  simp only [Hw.computePlacement, Hw.adaptAll_wch, Hw.place_wch, Hw.withEpoch_wch]
  split <;> rfl

/-- Nor does the epoch a plan brings. -/
theorem Hw.planEpoch_wch (p : List Byte) (slot : Nat) : ({ w with wch := W } : Hw).planEpoch p slot = w.planEpoch p slot := by
  have e := fun first => Hw.computePlacement_wch { w with tnd := { w.tnd with
    active := (w.tnd.computing.or w.tnd.shadow).or w.tnd.active, nextPlan := some p, nextSlot := slot } } W first
  simp only [Hw.planEpoch, e]

end Wch
end Sys2Proof.Machine
end

section
/-! PROOFS. Uploads, and the plan and placement commands. -/

namespace Sys2Proof.Machine

/-! ### Uploads -/

section Upload
variable {s : State} {c : Caller} {opcode : Nat} {holds : List Nat} {own data : List Byte}

/-- The first chunk of an upload whose blocks are free begins it. -/
theorem State.upload_first {total : U32} (free : s.cmd.held holds = false) (slots : s.cmd.liveOps < 4) (fits : data.length ≤ total.toNat) :
    s.upload c opcode holds ⟨0, 0, total⟩ own data none = s.begin c { Machine.stepOp opcode holds (own.map (·.toNat)) with
      state := if data.length = total.toNat then 1 else 0, bytes := data, total := total.toNat } := by
  simp [State.upload, free, Nat.not_le.mpr slots, Nat.not_lt.mpr fits]

theorem State.upload_refused {total : U32} (free : s.cmd.held holds = false) (slots : s.cmd.liveOps < 4) (fits : data.length ≤ total.toNat) (a : Ans) :
    s.upload c opcode holds ⟨0, 0, total⟩ own data (some a) = (s, a) := by
  simp [State.upload, free, Nat.not_le.mpr slots, Nat.not_lt.mpr fits]

theorem State.upload_unknown {ck : Chunk} (later : ck.token ≠ 0) (unknown : s.cmd.op ck.token.toNat = none) (bad : Option Ans) :
    s.upload c opcode holds ck own data bad = (s, ansBad 16) := by
  have nonzero : ck.token.toNat ≠ 0 := fun e => later (BitVec.eq_of_toNat_eq e)
  simp only [State.upload, nonzero, if_false, unknown]

/-- A later chunk, in order, is appended. -/
theorem State.upload_next {ck : Chunk} {o : StepOp} (later : ck.token ≠ 0) (known : s.cmd.op ck.token.toNat = some o) (live : o.live = true)
    (up : o.state = 0) (same : o.opcode = opcode) (mine : o.owner = some (c.tr, c.session)) (good : o.badChunk ck own data = none) (bad : Option Ans) :
    s.upload c opcode holds ck own data bad = ({ s with cmd := s.cmd.updOp ck.token.toNat (fun p => { p with
      bytes := o.bytes ++ data, chunkAt := s.hw.ticks, state := if (o.bytes ++ data).length = p.total then 1 else 0 }) }, ansOk []) := by
  have nonzero : ck.token.toNat ≠ 0 := fun e => later (BitVec.eq_of_toNat_eq e)
  simp only [State.upload, nonzero, if_false, known, live, up, same, mine, good, and_self, if_true]

end Upload

theorem le_one_map {n : Nat} (h : n < 256) : (le 1 n).map (·.toNat) = [n] := by
  simp [le, Nat.mod_eq_of_lt h]

@[simp] theorem firstDiff_self (l : List Nat) : firstDiff l l = none := by
  induction l with
  | nil => rfl
  | cons a l ih => simp [firstDiff, ih]

/-- The chunk that follows what an upload holds, of the same total and parameters, is good. -/
theorem StepOp.badChunk_next {o : StepOp} {ck : Chunk} {own data : List Byte} (off : ck.offset.toNat = o.bytes.length) (total : ck.total.toNat = o.total)
    (fits : o.bytes.length + data.length ≤ o.total) (params : own.map (·.toNat) = o.params) : o.badChunk ck own data = none := by
  simp [StepOp.badChunk, off, total, Nat.not_lt.mpr fits, params]

/-- The answer of a command on the whole cascade, on a device that stands alone, whose meaning leaves the hardware as accepted. -/
theorem State.exec_answers_alone {s : State} {c : Instr} {h : Hdr} {x : Session} {body : Caller → State → State × Ans} {t : State} {a : Ans}
    (k : s.Takes c h x) (hop : opOf c ≠ 0x01) (hn : (rowOf c).wide = true) (he : exec c s = .next (s.serve c h (rowOf c) (paramsOf c) body))
    (hb : body (callerOf h (s.took h x).cmd) (s.took h x) = (t, a)) (hw : a.wait = none) (ht : t.hw = s.accepted) :
    exec c s = .next (t.reply h (opOf c) a) := by
  have ho := rowOf_op c h k.1
  rw [he, State.serve_still k.2 (ho ▸ hop) hb hw (.inl (by rw [ht]; exact k.2.header.alone hn)) (by rw [ht]; exact k.2.quiet), ho]

/-! ### The plan commands -/

section Plan
variable {s : State} {h : Hdr} {x : Session}

theorem took_planVerdict (p : List Byte) : (s.took h x).hw.planVerdict p = s.hw.planVerdict p := Hw.planVerdict_wch s.hw _ p
theorem took_planEpoch (p : List Byte) (slot : Nat) : (s.took h x).hw.planEpoch p slot = s.hw.planEpoch p slot := Hw.planEpoch_wch s.hw _ p slot

theorem planLoad_begins {total : U32} {slot : U8} {data : List Byte} (t : s.Takes (.planLoad h ⟨0, 0, total⟩ slot data) h x)
    (fits : data.length ≤ total.toNat) (good : slot.toNat ≤ 3) (free : s.cmd.held [srcTnd] = false) (slots : s.cmd.liveOps < 4) :
    s.Begins (.planLoad h ⟨0, 0, total⟩ slot data) h x { s.accepted with free := s.hw.free + 2 } { stepOp 0x30 [srcTnd] [slot.toNat] with
      state := if data.length = total.toNat then 1 else 0, bytes := data, total := total.toNat } := by
  refine State.begins_of (hw := s.accepted) t (Nat.ne_of_beq_eq_false rfl) rfl ?_ t.2.quiet rfl (.inl (t.2.header.alone rfl))
  rw [if_neg (Nat.not_lt.mpr good), State.upload_first (by rw [State.took_held]; exact free) (by simpa using slots) fits, le_one_map slot.isLt]
  rfl

theorem planLoad_unknown {ck : Chunk} {slot : U8} {data : List Byte} (t : s.Takes (.planLoad h ck slot data) h x) (later : ck.token ≠ 0)
    (unknown : s.cmd.op ck.token.toNat = none) : s.Served (.planLoad h ck slot data) h x s.accepted (ansBad 16) :=
  State.served_read t (Nat.ne_of_beq_eq_false rfl) rfl (State.upload_unknown later (by rw [State.op_took]; exact unknown) _) rfl

theorem planLoad_next {ck : Chunk} {slot : U8} {data : List Byte} {o : StepOp} (t : s.Takes (.planLoad h ck slot data) h x) (later : ck.token ≠ 0)
    (known : s.cmd.op ck.token.toNat = some o) (live : o.live = true) (up : o.state = 0) (same : o.opcode = 0x30)
    (mine : o.owner = some (h.tr, x.number)) (params : o.params = [slot.toNat]) (total : ck.total.toNat = o.total)
    (off : ck.offset.toNat = o.bytes.length) (fits : o.bytes.length + data.length ≤ o.total) :
    ∃ u, exec (.planLoad h ck slot data) s = .next u ∧ u.hw = s.accepted ∧ u.cmd.op ck.token.toNat = some { o with
      bytes := o.bytes ++ data, chunkAt := s.hw.ticks, state := if o.bytes.length + data.length = o.total then 1 else 0 } := by
  have found : (s.took h x).cmd.op ck.token.toNat = some o := (State.op_took s h x _).trans known
  have good := StepOp.badChunk_next (own := le 1 slot.toNat) off total fits (by rw [le_one_map slot.isLt, params])
  refine ⟨_, State.exec_answers_alone t (Nat.ne_of_beq_eq_false rfl) rfl rfl
    (State.upload_next later found live up same (by rw [callerOf_took]; exact mine) good _) rfl rfl, rfl, ?_⟩
  rw [State.op_reply, ← List.length_append]
  exact CmdSt.op_updOp found fun _ => rfl

variable {slot : U8}

theorem planCommands_badSlot (bad : 3 < slot.toNat) :
    (s.Takes (.planActivate h slot) h x → s.Served (.planActivate h slot) h x s.accepted (ansBad 16)) ∧
    (s.Takes (.planCheck h slot) h x → s.Served (.planCheck h slot) h x s.accepted (ansBad 16)) ∧
    (∀ o, s.Takes (.planGet h slot o) h x → s.Served (.planGet h slot o) h x s.accepted (ansBad 16)) :=
  ⟨fun t => State.served_read t (Nat.ne_of_beq_eq_false rfl) rfl (if_pos bad) rfl,
    fun t => State.served_read t (Nat.ne_of_beq_eq_false rfl) rfl (if_pos bad) rfl,
    fun _ t => State.served_read t (Nat.ne_of_beq_eq_false rfl) rfl (if_pos bad) rfl⟩

theorem planActivate_served (good : slot.toNat ≤ 3) (t : s.Takes (.planActivate h slot) h x)
    (sound : (s.hw.planVerdict (mget [] s.hw.tnd.slots slot.toNat)).1 = 0) :
    s.Served (.planActivate h slot) h x { s.accepted with
      tnd := { s.hw.tnd with nextPlan := some (planInForce (mget [] s.hw.tnd.slots slot.toNat)), nextSlot := slot.toNat, faultFrozen := false } }
      (ansOk (le 1 (s.hw.planEpoch (planInForce (mget [] s.hw.tnd.slots slot.toNat)) slot.toNat))) := by
  refine State.served_of t (Nat.ne_of_beq_eq_false rfl) rfl ?_ t.2.quiet rfl (.inl (t.2.header.alone rfl))
  have pass : ¬ ((s.took h x).hw.planVerdict (mget [] (s.took h x).hw.tnd.slots slot.toNat)).1 ≠ 0 := by
    rw [took_planVerdict]
    exact not_not.mpr sound
  rw [if_neg (Nat.not_lt.mpr good)]
  dsimp only
  rw [if_neg pass, took_planEpoch]
  rfl

theorem planActivate_refused (good : slot.toNat ≤ 3) (t : s.Takes (.planActivate h slot) h x)
    (unsound : (s.hw.planVerdict (mget [] s.hw.tnd.slots slot.toNat)).1 ≠ 0) :
    s.Served (.planActivate h slot) h x s.accepted (ansPre (0x0100 + (s.hw.planVerdict (mget [] s.hw.tnd.slots slot.toNat)).1)) := by
  refine State.served_read t (Nat.ne_of_beq_eq_false rfl) rfl ?_ rfl
  rw [if_neg (Nat.not_lt.mpr good)]
  dsimp only
  rw [took_planVerdict]
  exact if_pos unsound

theorem planCheck_served (good : slot.toNat ≤ 3) (t : s.Takes (.planCheck h slot) h x) :
    s.Served (.planCheck h slot) h x
      (if planSized (mget [] s.hw.tnd.slots slot.toNat) then s.accepted else { s.accepted with free := s.hw.free + 1 })
      (ansOk (le 1 (s.hw.planVerdict (mget [] s.hw.tnd.slots slot.toNat)).1 ++ le 4 (s.hw.planVerdict (mget [] s.hw.tnd.slots slot.toNat)).2.1 ++
        le 4 (s.hw.planVerdict (mget [] s.hw.tnd.slots slot.toNat)).2.2)) := by
  refine State.served_of t (Nat.ne_of_beq_eq_false rfl) rfl ?_ ?_ rfl (.inr (.inl rfl))
  · rw [if_neg (Nat.not_lt.mpr good)]
    dsimp only
    rw [took_planVerdict]
    refine Prod.ext ?_ rfl
    by_cases sized : planSized (mget [] s.hw.tnd.slots slot.toNat) = true
    · exact (if_pos sized).trans (by rw [if_pos sized]; rfl)
    · exact (if_neg sized).trans (by rw [if_neg sized]; rfl)
  · split <;> exact t.2.quiet

theorem planGet_served {off : U32} (good : slot.toNat ≤ 3) (t : s.Takes (.planGet h slot off) h x)
    (within : off.toNat ≤ (mget [] s.hw.tnd.slots slot.toNat).length) :
    s.Served (.planGet h slot off) h x s.accepted (ansOk (((mget [] s.hw.tnd.slots slot.toNat).drop off.toNat).take (payloadLimit h.tr))) := by
  refine State.served_read t (Nat.ne_of_beq_eq_false rfl) rfl ?_ rfl
  dsimp only
  rw [if_neg (Nat.not_lt.mpr good)]
  exact if_neg (Nat.not_lt.mpr within)

theorem adaptFreeze_freezes (t : s.Takes (.adaptFreeze h 1) h x) :
    s.Served (.adaptFreeze h 1) h x { s.accepted with tnd := { s.hw.tnd with frozen := true } } (ansOk (le 1 s.hw.tnd.inForce)) :=
  State.served_of t (Nat.ne_of_beq_eq_false rfl) rfl rfl t.2.quiet rfl (.inl (t.2.header.alone rfl))

theorem adaptFreeze_thaws (t : s.Takes (.adaptFreeze h 0) h x) :
    s.Served (.adaptFreeze h 0) h x { s.accepted with tnd := { s.hw.tnd with frozen := false, faultFrozen := false } } (ansOk (le 1 s.hw.tnd.inForce)) :=
  State.served_of t (Nat.ne_of_beq_eq_false rfl) rfl rfl t.2.quiet rfl (.inl (t.2.header.alone rfl))

theorem placementRead_begins {e : U8} (t : s.Takes (.placementRead h e) h x) (free : s.cmd.held [srcTnd] = false) {p : Placement}
    (found : s.hw.tnd.history.find? (fun p => decide (p.epoch = e.toNat)) = some p) :
    s.Begins (.placementRead h e) h x { s.accepted with free := s.hw.free + 2 } { stepOp 0x34 [srcTnd] [e.toNat] with bytes := placementBytes p } := by
  refine State.begins_of (hw := s.accepted) t (Nat.ne_of_beq_eq_false rfl) rfl ?_ t.2.quiet rfl (.inr (.inl rfl))
  have found' : (s.took h x).hw.tnd.history.find? (fun p => decide (p.epoch = e.toNat)) = some p := found
  simp only [State.took_held, free, Bool.false_eq_true, if_false, found']
  rfl

theorem placementRead_unknown {e : U8} (t : s.Takes (.placementRead h e) h x) (free : s.cmd.held [srcTnd] = false)
    (unknown : s.hw.tnd.history.find? (fun p => decide (p.epoch = e.toNat)) = none) :
    s.Served (.placementRead h e) h x s.accepted (ansBad 16) := by
  refine State.served_read t (Nat.ne_of_beq_eq_false rfl) rfl ?_ rfl
  have unknown' : (s.took h x).hw.tnd.history.find? (fun p => decide (p.epoch = e.toNat)) = none := unknown
  simp only [State.took_held, free, Bool.false_eq_true, if_false, unknown']

theorem roiSet_served {r : U8} {f p : List Byte} (t : s.Takes (.roiSet h r f) h x) (good : r.toNat ≤ 15) (next : s.hw.tnd.nextPlan = some p)
    (sound : (roiChecks f 0).find? (fun e => !e.2) = none) :
    s.Served (.roiSet h r f) h x { s.accepted with tnd := { s.hw.tnd with
      nextPlan := some (p.take (64 + 16 * r.toNat) ++ bytesAt f 0 16 ++ p.drop (80 + 16 * r.toNat)) } } (ansOk []) := by
  refine State.served_of t (Nat.ne_of_beq_eq_false rfl) rfl ?_ t.2.quiet rfl (.inl (t.2.header.alone rfl))
  have next' : (s.took h x).hw.tnd.nextPlan = some p := next
  have after : 64 + 16 * r.toNat + 16 = 80 + 16 * r.toNat := by omega
  rw [if_neg (Nat.not_lt.mpr good)]
  simp only [sound, next', after]
  rfl

theorem frameRateSet_served {r : U32} {p : List Byte} (t : s.Takes (.frameRateSet h r) h x) (next : s.hw.tnd.nextPlan = some p)
    (good : 1000 ≤ r.toNat ∧ r.toNat ≤ 100000) :
    s.Served (.frameRateSet h r) h x { s.accepted with tnd := { s.hw.tnd with
      nextPlan := some (p.take 16 ++ le 4 r.toNat ++ p.drop 20) } } (ansOk []) := by
  refine State.served_of t (Nat.ne_of_beq_eq_false rfl) rfl ?_ t.2.quiet rfl (.inl (t.2.header.alone rfl))
  have next' : (s.took h x).hw.tnd.nextPlan = some p := next
  rw [if_neg (by omega)]
  simp only [next']
  rfl

end Plan

/-- Settles O32: each of the eight rows by its meaning on the accepted state. -/
theorem planCommandsAreServed : Obligations.PlanCommandsAreServed := by
  unfold Obligations.PlanCommandsAreServed
  intro s h x
  refine ⟨fun total slot data t fits good free slots => planLoad_begins t fits good free slots,
    fun ck slot data o t later known live up same mine params total off fits =>
      planLoad_next t later known (Option.isNone_iff_eq_none.mpr live) up same mine params total off fits,
    fun ck slot data t later unknown => planLoad_unknown t later unknown, fun slot bad => planCommands_badSlot bad,
    fun slot good => ⟨planActivate_served good, planActivate_refused good, planCheck_served good, fun o => planGet_served good⟩,
    adaptFreeze_freezes, adaptFreeze_thaws, fun e t free => ⟨fun p => placementRead_begins t free, placementRead_unknown t free⟩,
    fun r f p t good next => roiSet_served t good next,
    fun r p t next => ⟨frameRateSet_served t next, fun bad => State.served_read t (Nat.ne_of_beq_eq_false rfl) rfl (if_pos bad) rfl⟩⟩

end Sys2Proof.Machine
end

section
/-! PROOFS. The six camera opcodes. -/

namespace Sys2Proof.Machine

@[simp] theorem State.accepted_port (s : State) (p : Nat) : s.accepted.port p = s.hw.port p := rfl

/-- A port that is disabled withdraws its maps. -/
theorem Hw.enableCam_off (w : Hw) (p : Nat) : (w.enableCam p false).port p = { w.port p with
    en := false, state := .disabled, inFrame := false, lines := [], received := 0, front := none, back := false } := by
  simp [Hw.enableCam, Hw.withdrawMaps]

/-- A read of 1 to 32 bytes passes the checks of its parameters. -/
theorem cciRead_passes {n : U8} {q : Nat} {A : Type} {busy badDelay badLength write read : A} (least : 1 ≤ n.toNat) (most : n.toNat ≤ 32) :
    (if n.toNat = 0 ∧ 16 ≤ q then busy else if 3 < (0 : U8).toNat ∨ (n.toNat ≠ 0 ∧ (0 : U8) ≠ 0) then badDelay
      else if 32 < n.toNat then badLength else if n.toNat = 0 then write else read) = read := by
  rw [if_neg (by omega), if_neg (by simp), if_neg (by omega), if_neg (by omega)]

/-- At 100 kbit/s a transfer of more than 8 bytes is not over in time. -/
theorem cciInTime_slow (n : Nat) : cciInTime 0 n = decide (n ≤ 8) := by
  rw [cciInTime, if_pos rfl]
  exact decide_eq_decide.mpr (by omega)

section Cameras
variable {s : State} {h : Hdr} {x : Session}

/-! ### CAM_CONFIG and CAM_ENABLE -/

section Config
variable {p l f : U8} {w g : U16} {r : U32} (t : s.Takes (.camConfig h p l f w g r) h x)
include t

theorem camConfig_noPort (bad : 1 < p.toNat) : s.Served (.camConfig h p l f w g r) h x s.accepted (ansBad 16) :=
  State.served_read t (Nat.ne_of_beq_eq_false rfl) rfl (if_pos bad) rfl

variable (port : p.toNat ≤ 1)
include port

theorem camConfig_enabled (on : (s.hw.port p.toNat).en = true) : s.Served (.camConfig h p l f w g r) h x s.accepted ansBusy :=
  State.served_read t (Nat.ne_of_beq_eq_false rfl) rfl ((if_neg (Nat.not_lt.mpr port)).trans (if_pos on)) rfl

theorem camConfig_bad (off : (s.hw.port p.toNat).en = false) {o : Nat} (bad : badCam l.toNat f.toNat w.toNat g.toNat r.toNat = some o) :
    s.Served (.camConfig h p l f w g r) h x s.accepted (ansBad o) := by
  refine State.served_read t (Nat.ne_of_beq_eq_false rfl) rfl ((if_neg (Nat.not_lt.mpr port)).trans ((if_neg (ne_true_of_eq_false off)).trans ?_)) rfl
  simp only [bad]

theorem camConfig_served (off : (s.hw.port p.toNat).en = false) (good : badCam l.toNat f.toNat w.toNat g.toNat r.toNat = none) :
    s.Served (.camConfig h p l f w g r) h x (s.accepted.setPort p.toNat { s.hw.port p.toNat with
      lanes := l.toNat, format := f.toNat, width := w.toNat, height := g.toNat, rate := r.toNat }) (ansOk []) := by
  refine State.served_of t (Nat.ne_of_beq_eq_false rfl) rfl
    ((if_neg (Nat.not_lt.mpr port)).trans ((if_neg (ne_true_of_eq_false off)).trans ?_)) t.2.quiet rfl (.inr (.inl rfl))
  simp only [good]
  rfl

end Config

section Enable
variable {p : U8} (port : p.toNat ≤ 1) (there : (s.hw.port p.toNat).state ≠ .offline)
include port there

theorem camEnable_again (t : s.Takes (.camEnable h p 1) h x) (on : (s.hw.port p.toNat).en = true) :
    s.Served (.camEnable h p 1) h x s.accepted (ansOk []) := by
  have same : s.accepted.enableCam p.toNat true = s.accepted := if_pos on
  refine State.served_read t (Nat.ne_of_beq_eq_false rfl) rfl ((if_neg (Nat.not_lt.mpr port)).trans ((if_neg there).trans ?_)) rfl
  exact congrArg (fun w : Hw => (({ s.took h x with hw := w } : State), ansOk [])) same

theorem camEnable_served (t : s.Takes (.camEnable h p 1) h x) (off : (s.hw.port p.toNat).en = false) :
    s.Served (.camEnable h p 1) h x
      (s.accepted.setPort p.toNat { s.hw.port p.toNat with en := true, state := .waiting, quietAt := s.hw.ticks }) (ansOk []) := by
  have waits : s.accepted.enableCam p.toNat true =
      s.accepted.setPort p.toNat { s.hw.port p.toNat with en := true, state := .waiting, quietAt := s.hw.ticks } := if_neg (ne_true_of_eq_false off)
  refine State.served_of t (Nat.ne_of_beq_eq_false rfl) rfl ((if_neg (Nat.not_lt.mpr port)).trans ((if_neg there).trans ?_)) t.2.quiet rfl (.inr (.inl rfl))
  exact congrArg (fun w : Hw => (({ s.took h x with hw := w } : State), ansOk [])) waits

theorem camEnable_disables (t : s.Takes (.camEnable h p 0) h x) : ∃ u, exec (.camEnable h p 0) s = .next u ∧
    u.hw.port p.toNat = { s.hw.port p.toNat with
      en := false, state := .disabled, inFrame := false, lines := [], received := 0, front := none, back := false } ∧
    (u.cmd.out h.tr).getLast? = some (s.hw.replyTo 0x91 h (ansOk [])) := by
  refine ⟨_, State.exec_answers_quiet t (Nat.ne_of_beq_eq_false rfl) rfl rfl
    ((if_neg (Nat.not_lt.mpr port)).trans (if_neg there)) rfl t.2.quiet, ?_, ?_⟩
  · exact (Hw.enableCam_off s.accepted p.toNat).trans (by rw [State.accepted_port])
  · rw [State.out_reply, List.getLast?_concat]
    rfl

end Enable

/-! ### CCI_XFER -/

section Cci
variable {p a d n : U8} {b : List Byte} {k : Bool} {v : List Byte} (port : p.toNat ≤ 1)
include port

theorem cciWrite_full (t : s.Takes (.cciXfer h p a d 0 b k v) h x) (full : (s.hw.port p.toNat).queue.length = 16) :
    s.Served (.cciXfer h p a d 0 b k v) h x s.accepted ansBusy :=
  State.served_read t (Nat.ne_of_beq_eq_false rfl) rfl ((if_neg (Nat.not_lt.mpr port)).trans (if_pos ⟨rfl, full.ge⟩)) rfl

theorem cciWrite_queued (t : s.Takes (.cciXfer h p a d 0 b k v) h x) (room : (s.hw.port p.toNat).queue.length < 16) (delay : d.toNat ≤ 3) :
    s.Served (.cciXfer h p a d 0 b k v) h x
      (s.accepted.setPort p.toNat { s.hw.port p.toNat with queue := (s.hw.port p.toNat).queue ++
        [{ addr := a.toNat, bytes := b, delay := d.toNat, frame := ((s.hw.port p.toNat).frame + 1 + d.toNat) % 2 ^ 32 }] })
      (ansOk (le 4 (((s.hw.port p.toNat).frame + 1 + d.toNat) % 2 ^ 32))) := by
  refine State.served_of t (Nat.ne_of_beq_eq_false rfl) rfl ((if_neg (Nat.not_lt.mpr port)).trans ((if_neg ?_).trans ((if_neg ?_).trans rfl))) t.2.quiet rfl
    (.inr (.inl rfl))
  · exact fun c => Nat.not_le.mpr room c.2
  · rintro (c | c)
    · exact Nat.not_lt.mpr delay c
    · exact c.1 rfl

variable (least : 1 ≤ n.toNat) (most : n.toNat ≤ 32)
include least most

theorem cciRead_unanswered (t : s.Takes (.cciXfer h p a 0 n b false v) h x) : s.Served (.cciXfer h p a 0 n b false v) h x s.accepted (ansPre 0x0901) :=
  State.served_read t (Nat.ne_of_beq_eq_false rfl) rfl ((if_neg (Nat.not_lt.mpr port)).trans (cciRead_passes least most)) rfl

variable (slow : bits (s.hw.glzP p.toNat 0x1078) 0 2 = 0)
include slow

theorem cciRead_late (t : s.Takes (.cciXfer h p a 0 n b true v) h x) (long : 8 < b.length + n.toNat) :
    s.Served (.cciXfer h p a 0 n b true v) h x s.accepted { status := 0x07 } := by
  refine State.served_read t (Nat.ne_of_beq_eq_false rfl) rfl ((if_neg (Nat.not_lt.mpr port)).trans ((cciRead_passes least most).trans ((if_neg (not_not.mpr rfl)).trans (if_pos ?_)))) rfl
  rw [show bits ((s.took h x).hw.glzP p.toNat 0x1078) 0 2 = 0 from slow, cciInTime_slow]
  simpa using long

theorem cciRead_served (t : s.Takes (.cciXfer h p a 0 n b true v) h x) (short : b.length + n.toNat ≤ 8) :
    s.Served (.cciXfer h p a 0 n b true v) h x s.accepted (ansOk (bytesAt v 0 n.toNat ++ le 4 (s.hw.port p.toNat).frame)) := by
  refine State.served_read t (Nat.ne_of_beq_eq_false rfl) rfl ((if_neg (Nat.not_lt.mpr port)).trans ((cciRead_passes least most).trans ((if_neg (not_not.mpr rfl)).trans (if_neg ?_)))) rfl
  rw [show bits ((s.took h x).hw.glzP p.toNat 0x1078) 0 2 = 0 from slow, cciInTime_slow]
  simpa using short

end Cci

/-! ### CAM_STATS, CAM_MESH_LOAD and CAM_STATUS -/

theorem camStats_served {p k : U8} (t : s.Takes (.camStats h p k) h x) (port : p.toNat ≤ 1) (part : k.toNat ≤ 3) :
    s.Served (.camStats h p k) h x s.accepted (ansOk (le 4 (s.hw.port p.toNat).stats.frame ++ le 2 (s.hw.port p.toNat).stats.settings ++
      (s.hw.port p.toNat).stats.part k.toNat)) :=
  State.served_read t (Nat.ne_of_beq_eq_false rfl) rfl ((if_neg (Nat.not_lt.mpr port)).trans (if_neg (Nat.not_lt.mpr part))) rfl

theorem camStatus_served {p : U8} (t : s.Takes (.camStatus h p) h x) (port : p.toNat ≤ 1) :
    s.Served (.camStatus h p) h x s.accepted (ansOk (le 4 (s.hw.port p.toNat).frame ++ le 4 (s.hw.glzP p.toNat 0x1060) ++
      le 4 (s.hw.glzP p.toNat 0x1064) ++ le 1 (s.hw.port p.toNat).state.code)) :=
  State.served_read t (Nat.ne_of_beq_eq_false rfl) rfl (if_neg (Nat.not_lt.mpr port)) rfl

theorem camMeshLoad_begins {p : U8} {b : List Byte} (t : s.Takes (.camMeshLoad h ⟨0, 0, 3072⟩ p b) h x) (port : p.toNat ≤ 1) (whole : b.length = 3072)
    (free : s.cmd.held [srcGlz p.toNat] = false) (slots : s.cmd.liveOps < 4) :
    s.Begins (.camMeshLoad h ⟨0, 0, 3072⟩ p b) h x { s.accepted with free := s.hw.free + 2 }
      { stepOp 0x94 [srcGlz p.toNat] [p.toNat] with state := 1, bytes := b, total := 3072 } := by
  have same : p.toNat % 2 = p.toNat := Nat.mod_eq_of_lt (Nat.lt_succ_of_le port)
  have fits : b.length ≤ (3072 : U32).toNat := whole.le
  refine State.begins_of (hw := s.accepted) t (Nat.ne_of_beq_eq_false rfl) rfl ?_ t.2.quiet rfl (.inr (.inl rfl))
  dsimp only
  rw [if_neg (by simp), if_neg (Nat.not_lt.mpr port), same, State.upload_first (by rw [State.took_held]; exact free) (by simpa using slots) fits,
    le_one_map p.isLt, if_pos (show b.length = (3072 : U32).toNat from whole)]
  rfl

theorem camMeshLoad_badTotal {n : U32} {p : U8} {b : List Byte} (t : s.Takes (.camMeshLoad h ⟨0, 0, n⟩ p b) h x) (bad : n ≠ 3072) (fits : b.length ≤ n.toNat)
    (free : s.cmd.held [srcGlz (p.toNat % 2)] = false) (slots : s.cmd.liveOps < 4) :
    s.Served (.camMeshLoad h ⟨0, 0, n⟩ p b) h x s.accepted (ansBad 24) := by
  refine State.served_read t (Nat.ne_of_beq_eq_false rfl) rfl ?_ rfl
  dsimp only
  rw [if_pos bad]
  exact State.upload_refused (by rw [State.took_held]; exact free) (by simpa using slots) fits _

end Cameras

/-- Settles O44: each of the six rows by its meaning on the accepted state. -/
theorem cameraCommandsAreServed : Obligations.CameraCommandsAreServed := by
  unfold Obligations.CameraCommandsAreServed
  intro s h x
  exact ⟨fun p l f w g r t => ⟨camConfig_noPort t, camConfig_enabled t, fun port off o bad => camConfig_bad t port off bad, camConfig_served t⟩,
    fun p port there => ⟨camEnable_again port there, camEnable_served port there, camEnable_disables port there⟩,
    fun p a d b k v port t => ⟨cciWrite_full port t, cciWrite_queued port t⟩,
    fun p a n b v port least most => ⟨cciRead_unanswered port least most, fun t slow => cciRead_late port least most slow t,
      fun t slow => cciRead_served port least most slow t⟩,
    fun p k t => camStats_served t, fun p b t => camMeshLoad_begins t, fun n p b t => camMeshLoad_badTotal t, fun p t => camStatus_served t⟩

end Sys2Proof.Machine
end

section
/-! SUPPORT. What Watch's functions leave of the hardware's signals: none they did not find (R36, R52). -/

namespace Sys2Proof.Machine

/-! ### Steps of the hardware and ends of operations -/

theorem Hw.LogOnly.outbox {a b : Hw} (h : a.LogOnly b) : b.outbox = a.outbox := by
  obtain ⟨_, _, _, _, rfl⟩ := h
  rfl

/-- Nothing that was delivered before is undelivered after. -/
def State.Quiets (s t : State) : Prop := s.hw.outbox = [] → t.hw.outbox = []

@[simp] theorem State.hwStep_outbox (s : State) (f : Hw → Hw) : (s.hwStep f).hw.outbox = [] := State.drain_outbox _

@[simp] theorem State.finishOp_outbox (s : State) (k st : Nat) (r : List Byte) : (s.finishOp k st r).hw.outbox = s.hw.outbox :=
  (State.finishOp_logOnly s k st r).outbox

@[simp] theorem State.doneOk_outbox (s : State) (o : StepOp) (r : List Byte) : (s.doneOk o r).hw.outbox = s.hw.outbox := State.finishOp_outbox _ _ _ _
@[simp] theorem State.doneWith_outbox (s : State) (o : StepOp) (a : Ans) : (s.doneWith o a).hw.outbox = s.hw.outbox := State.finishOp_outbox _ _ _ _
@[simp] theorem State.modeFails_outbox (s : State) (o : StepOp) (code dev : Nat) : (s.modeFails o code dev).hw.outbox = [] := by
  unfold State.modeFails
  rw [State.doneWith_outbox, State.hwStep_outbox]
@[simp] theorem State.commit_outbox (s : State) (o : StepOp) (f : Hw → Hw) (r : List Byte) : (s.commit o f r).hw.outbox = [] := by
  unfold State.commit
  rw [State.doneOk_outbox, State.hwStep_outbox]

section
variable {s : State}

theorem State.quiets_of_outbox {t : State} (h : t.hw.outbox = s.hw.outbox) : s.Quiets t := fun q => h.trans q
theorem State.quiets_of_empty {t : State} (h : t.hw.outbox = []) : s.Quiets t := fun _ => h
theorem State.Quiets.refl (s : State) : s.Quiets s := id
theorem State.Quiets.trans {t u : State} (h : s.Quiets t) (k : t.Quiets u) : s.Quiets u := fun q => k (h q)
theorem State.quiets_hwStep (f : Hw → Hw) : s.Quiets (s.hwStep f) := State.quiets_of_empty (State.hwStep_outbox s f)
theorem State.quiets_hw {w : Hw} (h : w.outbox = s.hw.outbox) : s.Quiets { s with hw := w } := State.quiets_of_outbox h

theorem State.Quiets.ite {t u : State} {p : Prop} [Decidable p] (h : s.Quiets t) (k : s.Quiets u) : s.Quiets (if p then t else u) := by
  split
  · exact h
  · exact k

theorem State.Quiets.foldl {A : Type} {f : State → A → State} (h : ∀ (s : State) (a : A), s.Quiets (f s a)) (l : List A) (s : State) :
    s.Quiets (l.foldl f s) := by
  induction l generalizing s with
  | nil => exact .refl s
  | cons a l ih => exact (h s a).trans (ih _)

end

theorem State.ceaseCal_outbox (s : State) (o : StepOp) : (s.ceaseCal o).1.hw.outbox = [] := by
  unfold State.ceaseCal
  dsimp only
  split
  · exact State.hwStep_outbox _ _
  · exact State.hwStep_outbox _ _

theorem State.cease_quiets (s : State) (o : StepOp) (status : Nat) (result : List Byte) : s.Quiets (s.cease o status result) := by
  unfold State.cease
  dsimp only
  split
  · exact State.quiets_of_outbox (State.finishOp_outbox _ _ _ _)
  · exact State.quiets_of_outbox (State.finishOp_outbox _ _ _ _)
  · refine State.quiets_of_outbox ((State.finishOp_outbox _ _ _ _).trans ?_)
    split <;> rfl
  · exact State.quiets_of_empty ((State.finishOp_outbox _ _ _ _).trans (State.ceaseCal_outbox s o))
  · exact State.quiets_of_empty ((State.finishOp_outbox _ _ _ _).trans (State.hwStep_outbox _ _))
  · exact State.quiets_of_empty ((State.finishOp_outbox _ _ _ _).trans (State.hwStep_outbox _ _))
  · exact State.quiets_of_outbox (State.finishOp_outbox _ _ _ _)
  · exact State.quiets_of_outbox (State.finishOp_outbox _ _ _ _)

/-! ### The steps of an operation (R44) -/

theorem State.modeFinal_quiets (s : State) (o : StepOp) (obs : StepObs) : s.Quiets (s.modeFinal o obs) := by
  have fails : ∀ code dev, s.Quiets (s.modeFails o code dev) := fun code dev => State.quiets_of_empty (State.modeFails_outbox s o code dev)
  unfold State.modeFinal
  split
  · exact State.quiets_of_outbox (State.doneWith_outbox _ _ _)
  · dsimp only
    split
    · exact State.quiets_of_outbox (State.doneOk_outbox _ _ _)
    · split
      · exact .refl s
      · split
        · exact fails _ _
        · refine .ite (.ite (fails _ _) (State.quiets_hwStep _)) (State.quiets_of_empty ?_)
          split
          · rw [State.doneOk_outbox, State.hwStep_outbox]
          · rw [State.doneWith_outbox, State.hwStep_outbox]

theorem State.lanesFinal_quiets (s : State) (o : StepOp) : s.Quiets (s.lanesFinal o) := by
  unfold State.lanesFinal
  dsimp only
  split
  · exact State.quiets_of_empty (State.commit_outbox _ _ _ _)
  · exact State.quiets_of_empty ((State.doneWith_outbox _ _ _).trans (State.hwStep_outbox _ _))

theorem State.filterStep_quiets (s : State) (o : StepOp) : s.Quiets (s.filterStep o) := by
  have faded : ∀ t : State, s.Quiets t → s.Quiets (if (t.hw.sftc (o.params.getD 0 0)).fading then t else t.doneOk o []) := fun t k =>
    .ite k (k.trans (State.quiets_of_outbox (State.doneOk_outbox _ _ _)))
  unfold State.filterStep
  dsimp only
  split
  · next e =>
    split at e
    · split at e
      · cases e
        exact State.quiets_of_outbox (State.doneWith_outbox _ _ _)
      · cases e
    · cases e
  · next e =>
    split at e
    · split at e
      · cases e
      · cases e
        exact faded _ (State.quiets_hwStep _)
    · cases e
  · exact faded s (.refl s)

theorem State.mapFinal_quiets (s : State) (o : StepOp) : s.Quiets (s.mapFinal o) := by
  unfold State.mapFinal
  dsimp only
  split
  · exact State.quiets_of_outbox (State.doneWith_outbox _ _ _)
  · exact .ite (State.quiets_of_outbox (State.doneWith_outbox _ _ _))
      (State.quiets_of_empty ((State.doneOk_outbox _ _ _).trans (State.hwStep_outbox _ _)))

theorem State.fwFinal_outbox (s : State) (o : StepOp) : (s.fwFinal o).hw.outbox = [] := by
  unfold State.fwFinal
  dsimp only
  split
  · rw [State.doneWith_outbox, State.drain_outbox]
  · exact State.commit_outbox _ _ _ _

theorem Hw.calBegin_outbox (w : Hw) (mask : Nat) : (w.calBegin mask).outbox = w.outbox := by
  unfold Hw.calBegin Hw.calNext
  dsimp only
  split <;> rfl

theorem State.calFinal_outbox (s : State) (o : StepOp) (obs : StepObs) : (s.calFinal o obs).hw.outbox = [] := by
  unfold State.calFinal
  dsimp only
  split
  · exact State.hwStep_outbox _ _
  · rw [State.finishOp_outbox, State.hwStep_outbox]

theorem State.calStepOp_quiets (s : State) (o : StepOp) (obs : StepObs) : s.Quiets (s.calStepOp o obs) := by
  unfold State.calStepOp
  refine .ite (.trans (.foldl (fun s e => .ite ?_ (.refl s)) s.cmd.ops s) (State.quiets_of_outbox (Hw.calBegin_outbox _ _)))
    (.ite (State.quiets_of_empty (State.calFinal_outbox s o obs)) (.refl s))
  split
  · exact State.cease_quiets s e _ _
  · exact State.cease_quiets s e _ _

theorem State.bistFinal_quiets (s : State) (o : StepOp) (obs : StepObs) : s.Quiets (s.bistFinal o obs) := by
  unfold State.bistFinal
  split
  · exact State.quiets_of_outbox (State.doneOk_outbox _ _ _)
  · next k _ _ =>
    have drained := State.drain_outbox { s with hw := (s.hw.bistTest k obs).1 }
    refine .ite (State.quiets_of_empty drained) (.ite ?_ ?_)
    · exact State.quiets_of_empty ((State.doneOk_outbox _ _ _).trans drained)
    · exact State.quiets_of_empty ((State.finishOp_outbox _ _ _ _).trans drained)

theorem State.finalStep_quiets (s : State) (o : StepOp) (obs : StepObs) : s.Quiets (s.finalStep o obs) := by
  have commits : ∀ (f : Hw → Hw) r, s.Quiets (s.commit o f r) := fun f r => State.quiets_of_empty (State.commit_outbox s o f r)
  have ends : ∀ r, s.Quiets (s.doneOk o r) := fun r => State.quiets_of_outbox (State.doneOk_outbox s o r)
  unfold State.finalStep
  dsimp only
  split
  · exact commits _ _
  · exact State.modeFinal_quiets s o obs
  · exact commits _ _
  · exact commits _ _
  · exact ends _
  · exact State.mapFinal_quiets s o
  · exact State.lanesFinal_quiets s o
  · exact .ite (.refl s) (ends _)
  · exact commits _ _
  · exact State.bistFinal_quiets s o obs
  · exact State.quiets_of_empty (State.fwFinal_outbox s o)
  · exact ends _

theorem State.stepOp_quiets (s : State) (tok : Nat) (obs : StepObs) : s.Quiets (s.stepOp tok obs) := by
  unfold State.stepOp
  split
  · exact .refl s
  · refine .ite (.refl s) ?_
    split
    · exact State.cease_quiets s _ _ _
    · refine .trans (t := s.counted tok) (State.quiets_of_outbox rfl) ?_
      dsimp only
      split
      · exact State.filterStep_quiets _ _
      · exact State.calStepOp_quiets _ _ _
      · exact .ite (State.lanesFinal_quiets _ _) (State.quiets_hwStep _)
      · exact .ite (State.finalStep_quiets _ _ _) (.refl _)

theorem State.calAuto_quiets (s : State) : s.Quiets s.calAuto := by
  unfold State.calAuto
  exact .ite (.refl s) (State.quiets_of_outbox (Hw.calBegin_outbox _ _))

/-! ### Epochs and units (R411 to R421) -/

theorem State.plannedSwap_quiets (s : State) (cause : Nat) : s.Quiets (s.plannedSwap cause) := State.quiets_of_empty (State.hwStep_outbox _ _)

theorem State.swapAfterStep_quiets (s : State) : s.Quiets s.swapAfterStep := by
  unfold State.swapAfterStep
  split
  · exact State.plannedSwap_quiets s _
  · exact .refl s

theorem State.boundary_quiets (s : State) : s.Quiets s.boundary := by
  unfold State.boundary
  dsimp only
  split
  · exact State.plannedSwap_quiets s _
  · exact State.quiets_of_outbox rfl

theorem State.epochBoundary_quiets (s : State) : s.Quiets s.epochBoundary := by
  unfold State.epochBoundary
  refine .ite (.refl s) ?_
  have early : ∀ p : Prop, ∀ [Decidable p] (w : WchSt), s.Quiets (if p then s else { s with hw := { s.hw with wch := w } }) := fun p _ w =>
    .ite (.refl s) (State.quiets_of_outbox rfl)
  exact .ite ((early _ _).trans (State.boundary_quiets _)) (State.quiets_of_empty (State.hwStep_outbox _ _))

theorem State.epochSeal_quiets (s : State) : s.Quiets s.epochSeal := by
  unfold State.epochSeal
  dsimp only
  split
  · exact .refl s
  · refine .trans (State.quiets_of_outbox ?_) (.ite (State.boundary_quiets _) (.refl _))
    rfl

theorem State.promote_outbox (s : State) (u : Nat) : (s.promote u).hw.outbox = [] := by
  unfold State.promote
  dsimp only
  rw [State.hwStep_outbox]

theorem State.loseWatch_outbox (s : State) (u : Nat) : (s.loseWatch u).hw.outbox = [] := by
  unfold State.loseWatch
  dsimp only
  rw [State.hwStep_outbox]

theorem State.failDeclare_quiets (s : State) (u : Nat) (internal : Bool) : s.Quiets (s.failDeclare u internal) := by
  unfold State.failDeclare
  exact .ite (.refl s) (.ite (State.quiets_hwStep _)
    (.ite (State.quiets_of_empty (State.promote_outbox _ u)) (State.quiets_of_empty (State.loseWatch_outbox _ u))))

end Sys2Proof.Machine
end

section
/-! PROOFS. Every command, every event and the tick of an empty queue deliver what the hardware hands over (R36, R52). -/

namespace Sys2Proof.Machine

/-! ### Reads of registers -/

theorem Hw.pmcLatch_outbox (w : Hw) (off : Nat) : (w.pmcLatch off).outbox = w.outbox := by
  unfold Hw.pmcLatch
  repeat' split
  all_goals rfl

theorem Hw.evtLatch_outbox (w : Hw) (off : Nat) : (w.evtLatch off).outbox = w.outbox := by
  unfold Hw.evtLatch
  repeat' split
  all_goals rfl

theorem Hw.latchRead_outbox (w : Hw) (a : Nat) : (w.latchRead a).outbox = w.outbox := by
  unfold Hw.latchRead
  dsimp only
  split
  case h_9 => exact Hw.pmcLatch_outbox w _
  case h_10 => exact Hw.evtLatch_outbox w _
  all_goals repeat' split
  all_goals rfl

theorem Hw.rcClear_outbox (w : Hw) (a : Nat) : (w.rcClear a).outbox = w.outbox := by
  unfold Hw.rcClear
  dsimp only
  repeat' split
  all_goals rfl

theorem Hw.tileTabRead_outbox (w : Hw) (n : Nat) : (w.tileTabRead n).outbox = w.outbox := by
  unfold Hw.tileTabRead
  dsimp only
  split <;> rfl

theorem sftPop_outbox (w : Hw) : (sftPop w).outbox = w.outbox := by
  unfold sftPop Hw.popVal
  dsimp only
  split <;> rfl

theorem Hw.readReg_outbox (w : Hw) (a : Nat) : (w.readReg a).1.outbox = w.outbox := by
  unfold Hw.readReg
  dsimp only
  split
  · exact sftPop_outbox w
  · split
    · exact Hw.tileTabRead_outbox w _
    · rw [Hw.rcClear_outbox, Hw.latchRead_outbox]

theorem State.readReg_outbox (s : State) (a : Nat) : (s.readReg a).1.hw.outbox = s.hw.outbox := by
  by_cases h : a = 0x00001000
  · subst h
    rfl
  · by_cases h' : a = 0x00001004
    · subst h'
      rfl
    · rw [State.readReg_of_hw s h h']
      exact Hw.readReg_outbox s.hw a

/-! ### Serving a command (R31, R36) -/

section
variable {s : State} {h : Hdr} {sp : Spec} {params : List Byte} {body : Caller → State → State × Ans}

theorem State.await_hw (s : State) (t : Transport) (w : Wait) (p : Packet) : (s.await t w p).hw = s.hw := by
  unfold State.await
  split
  · rfl
  · split <;> rfl

theorem State.resend_hw (s : State) (t : Transport) (e : Cached) : (s.resend t e).hw = s.hw := by
  unfold State.resend
  split <;> rfl

theorem State.forward_outbox (s : State) (h : Hdr) (op : Nat) (params : List Byte) : (s.forward h op params).hw.outbox = s.hw.outbox := by
  unfold State.forward
  dsimp only
  split <;> rfl

/-- A command that runs delivers all that its meaning hands over, whatever the meaning is. -/
theorem State.run_outbox : (s.run h sp params body).hw.outbox = [] := by
  unfold State.run
  dsimp only
  split
  · rw [State.await_hw, State.drain_outbox]
  · exact State.drain_outbox _

theorem State.start_quiets : s.Quiets (s.start h sp params body) := by
  unfold State.start
  split
  · exact State.quiets_of_empty State.run_outbox
  · split
    · exact State.quiets_of_outbox rfl
    · exact .ite (State.quiets_of_outbox (State.forward_outbox s h _ _)) (State.quiets_of_outbox rfl)

theorem State.intake_quiets (i : Instr) (seqBad : Bool) : s.Quiets (s.intake i h sp params seqBad body) := by
  unfold State.intake
  split
  · exact State.quiets_of_outbox rfl
  · split
    · exact State.start_quiets
    · exact .ite State.start_quiets (.ite (State.quiets_of_outbox rfl) (.ite (State.quiets_of_outbox rfl) State.start_quiets))

theorem State.serve_quiets (i : Instr) : s.Quiets (s.serve i h sp params body) := by
  have put : ∀ x : Session, s.Quiets (s.putSession h.tr (some x)) := fun _ => State.quiets_of_outbox rfl
  unfold State.serve
  refine .ite (.refl s) (.ite (State.quiets_of_outbox rfl) ?_)
  split
  · exact State.intake_quiets i _
  · next x _ =>
    refine .ite ((put _).trans State.start_quiets) ?_
    dsimp only
    refine .ite ((put _).trans (State.intake_quiets i _)) ?_
    split
    · exact (put _).trans (State.quiets_of_outbox (by rw [State.resend_hw]))
    · refine .ite (.trans (t := s.took h x) (State.quiets_of_outbox rfl) (State.intake_quiets i _)) ((put _).trans (State.intake_quiets i _))

end

theorem exec_quiets_of_hdr {c : Instr} {h : Hdr} (e : hdrOf c = some h) {s t : State} (k : exec c s = .next t) : s.Quiets t := by
  obtain ⟨_, body, -, he, -⟩ := servedFairly_of_hdr e
  rw [he] at k
  cases k
  exact State.serve_quiets c

/-! ### The lanes (R231, R233, R246) -/

theorem State.sendLp_quiets (s : State) (l : Nat) : s.Quiets (s.sendLp l) := by
  unfold State.sendLp
  refine .ite (.refl s) ?_
  split
  · exact State.quiets_of_outbox rfl
  · refine .trans (t := { s with hw := { s.hw with free := s.hw.free + 1 } }) (State.quiets_of_outbox rfl) ?_
    dsimp only
    split
    · next vc body t e =>
      obtain ⟨v, -, hv⟩ := List.exists_of_findSome?_eq_some e
      obtain ⟨a, ha, e⟩ := Option.map_eq_some_iff.mp hv
      cases e
      exact .ite ((State.quiets_of_outbox (State.takeReady_sheds _ _ _ _ ha).outbox).trans (State.quiets_of_outbox rfl)) (.refl _)
    · exact .refl _

theorem State.sendDatagram_quiets (s : State) (l : Nat) : s.Quiets (s.sendDatagram l) := by
  unfold State.sendDatagram
  refine .ite (.refl s) ?_
  split
  · exact State.quiets_of_empty (State.drain_outbox _)
  · dsimp only
    split
    · exact State.quiets_of_empty (State.hwStep_outbox _ _)
    · exact .refl s

/-! ### Watch's own events -/

theorem State.regPollEnd_quiets {tr : Transport} {s t : State} (k : execRegPollEnd tr s = .next t) : s.Quiets t := by
  cases k
  split
  · exact .refl s
  · split
    · have read := fun a => State.quiets_of_outbox (s := s) (State.readReg_outbox s a)
      exact .ite ((read _).trans (State.quiets_of_outbox rfl)) (.ite ((read _).trans (State.quiets_of_outbox rfl)) (read _))
    · exact .refl s

theorem State.ackSession_quiets (okA okB : Bool) (s : State) (t : Transport) : s.Quiets (s.ackSession okA okB t) := by
  unfold State.ackSession
  split
  · exact .refl s
  · split
    · split
      · exact State.quiets_of_outbox rfl
      · exact State.quiets_of_empty (State.drain_outbox _)
    · exact .refl s

theorem State.cascadeForward_quiets (s : State) (i : Nat) (p : CasPacket) : s.Quiets (s.cascadeForward i p) :=
  .ite (.refl s) (.ite (State.quiets_hwStep _) (.ite (State.quiets_of_outbox rfl) (State.quiets_of_empty (State.hwStep_outbox _ _))))

theorem State.stepProgress_quiets {tok : U32} {s t : State} (k : execStepProgress tok s = .next t) : s.Quiets t := by
  cases k
  split
  · exact .refl s
  · dsimp only
    split
    · exact .refl s
    · exact .ite (State.quiets_of_outbox rfl) (.refl s)

theorem State.resultRelease_quiets {tok : U32} {s t : State} (k : execResultRelease tok s = .next t) : s.Quiets t := by
  cases k
  split
  · exact .refl s
  · split
    · exact .refl s
    · exact .ite (State.quiets_of_outbox rfl) (.refl s)

theorem State.uploadTimeout_quiets {tok : U32} {s t : State} (k : execUploadTimeout tok s = .next t) : s.Quiets t := by
  cases k
  split
  · exact .refl s
  · exact .ite (State.quiets_of_outbox (State.finishOp_outbox _ _ _ _)) (.refl s)

theorem State.eventsLost_quiets {tr : Transport} {s t : State} (k : execEventsLost tr s = .next t) : s.Quiets t := by
  cases k
  split
  · exact .refl s
  · exact .ite (.refl s) (State.quiets_of_outbox rfl)

theorem State.spiShiftOut_quiets {n : Nat} {s t : State} (k : execSpiShiftOut n s = .next t) : s.Quiets t := by
  cases k
  split
  · exact .refl s
  · exact .ite (.refl s) (State.quiets_of_outbox rfl)

theorem exec_quiets_of_watchEvent {c : Instr} (hw : watchEvent c = true) {s t : State} (k : exec c s = .next t) : s.Quiets t := by
  cases c <;> cases hw
  case packetDiscarded =>
    cases k
    exact .ite (State.quiets_of_outbox rfl) (.refl s)
  case crcError =>
    cases k
    exact .ite (State.quiets_of_outbox rfl) (.refl s)
  case spiShiftOut => exact State.spiShiftOut_quiets k
  case sessionHeartbeatTimeout =>
    cases k
    split
    · exact .refl s
    · exact .ite (State.quiets_of_empty (State.drain_outbox _)) (.refl s)
  case steppedOpStep =>
    cases k
    exact (State.stepOp_quiets s _ _).trans (State.swapAfterStep_quiets _)
  case stepProgress => exact State.stepProgress_quiets k
  case uploadTimeout => exact State.uploadTimeout_quiets k
  case resultRelease => exact State.resultRelease_quiets k
  case eventsLost => exact State.eventsLost_quiets k
  case calAutoStart =>
    cases k
    exact State.calAuto_quiets s
  case lpTransmit l =>
    cases k
    exact .ite (.refl s) (.ite (State.sendDatagram_quiets s l) (State.sendLp_quiets s l))
  case epochBoundary =>
    cases k
    exact State.epochBoundary_quiets s
  case epochSeal =>
    cases k
    exact State.epochSeal_quiets s
  case watchFailDeclare =>
    cases k
    exact State.failDeclare_quiets s _ _
  case cascadeForward =>
    cases k
    exact State.cascadeForward_quiets s _ _
  case regPollEnd => exact State.regPollEnd_quiets k
  case safeAckSelftestEnd =>
    cases k
    exact .foldl (fun s t => State.ackSession_quiets _ _ s t) _ s

theorem State.HwMove.quiets {s t : State} (m : s.HwMove t) : s.Quiets t := by
  rcases m with rfl | ⟨f, rfl⟩
  · exact .refl t
  · exact State.quiets_hwStep f

theorem exec_quiets {c : Instr} {s t : State} (k : exec c s = .next t) : s.Quiets t := by
  cases e : hdrOf c with
  | some h => exact exec_quiets_of_hdr e k
  | none =>
    cases hw : watchEvent c with
    | true => exact exec_quiets_of_watchEvent hw k
    | false => exact (hwMove_of_exec e hw k).quiets

/-! ### The tick of an empty queue -/

theorem Hw.injectEvent_outbox (w : Hw) (k : Nat) : (w.injectEvent k).outbox = w.outbox := by
  unfold Hw.injectEvent
  dsimp only
  split
  · rfl
  · split <;> rfl

theorem Hw.inject_outbox (w : Hw) : w.inject.outbox = w.outbox := by
  unfold Hw.inject
  split
  · rfl
  · refine List.foldlRecOn (motive := fun v : Hw => v.outbox = w.outbox) _ _ rfl fun v hv k _ => ?_
    split
    · exact (Hw.injectEvent_outbox v k).trans hv
    · exact hv

theorem State.endDenied_quiets (s : State) (t : Transport) : s.Quiets (s.endDenied t) := by
  unfold State.endDenied
  split
  · split
    · exact .ite (State.quiets_of_outbox rfl) (.refl s)
    · exact .refl s
  · exact .refl s

theorem State.idle_quiets (s : State) : s.Quiets s.idle := by
  unfold State.idle
  split
  · exact State.quiets_of_outbox rfl
  · have late : s.Quiets s.lateReplies := State.quiets_of_outbox rfl
    exact (late.trans (.foldl State.endDenied_quiets _ _)).trans (State.quiets_hw (Hw.inject_outbox _))

/-- Settles O4: a command delivers before it answers, an event as its last act, and the rest hand nothing over. -/
theorem stepKeepsNothingUndelivered : Obligations.StepKeepsNothingUndelivered := by
  unfold Obligations.StepKeepsNothingUndelivered
  intro s t q k
  unfold step at k
  split at k
  · next r _ => exact exec_quiets k q
  · cases k
    exact State.idle_quiets s q

end Sys2Proof.Machine
end

section
/-! SUPPORT. What a step of the hardware that only records leaves, and how the tiles retire (R170, R171). -/

namespace Sys2Proof.Machine

/-! ### Records -/

/-- Faults and events were recorded: what is raised stays raised, and the records wait for delivery. -/
def Hw.Records (a b : Hw) : Prop :=
  ∃ e l, b = { a with evt := e, outbox := a.outbox ++ l } ∧ (∀ x ∈ l, x.mild = true) ∧ ∀ f, a.isRaised f = true → b.isRaised f = true

section
variable {a b c : Hw}

theorem Hw.Records.refl (a : Hw) : a.Records a := ⟨a.evt, [], by simp, by simp, fun _ h => h⟩

theorem Hw.Records.trans (h : a.Records b) (k : b.Records c) : a.Records c := by
  obtain ⟨e, l, rfl, mild, keeps⟩ := h
  obtain ⟨e', l', rfl, mild', keeps'⟩ := k
  refine ⟨e', l ++ l', by simp, fun x hx => ?_, fun f hf => keeps' f (keeps f hf)⟩
  exact (List.mem_append.mp hx).elim (mild x) (mild' x)

theorem Hw.Records.ite {p : Prop} [Decidable p] (h : a.Records b) (k : a.Records c) : a.Records (if p then b else c) := by
  split
  · exact h
  · exact k

/-- No signal waits but those that change no more than the event log. -/
def Hw.Mild (w : Hw) : Prop := ∀ x ∈ w.outbox, x.mild = true

theorem Hw.mild_of_empty (q : a.outbox = []) : a.Mild := by simp [Hw.Mild, q]

theorem Hw.Records.mild (h : a.Records b) (q : a.Mild) : b.Mild := by
  obtain ⟨e, l, rfl, mild, -⟩ := h
  exact fun x hx => (List.mem_append.mp hx).elim (q x) (mild x)

theorem Hw.Records.raised (h : a.Records b) {f : FaultId} (hf : a.isRaised f = true) : b.isRaised f = true := by
  obtain ⟨_, _, -, -, keeps⟩ := h
  exact keeps f hf

theorem Hw.Records.tiles (h : a.Records b) : b.tiles = a.tiles := by
  obtain ⟨_, _, rfl, -⟩ := h
  rfl

theorem Hw.Records.dev (h : a.Records b) : b.dev = a.dev := by
  obtain ⟨_, _, rfl, -⟩ := h
  rfl

end

theorem Hw.recordFault_records (w : Hw) (f : FaultId) (x : List Byte) : w.Records (w.recordFault f x) := by
  obtain ⟨r, e, q, table⟩ := Hw.recordFault_shape w f x
  refine ⟨e, [.record r], q, fun y hy => ?_, fun g hg => ?_⟩
  · obtain rfl := List.mem_singleton.mp hy
    rfl
  · rw [q]
    unfold Hw.isRaised
    dsimp only
    rw [table]
    exact raiseEntry_keeps f g _ _ hg

/-- A fault of class INFO, WARN or DEGRADE is recorded, and no more. -/
theorem Hw.raise_records (w : Hw) (f : FaultId) (x : List Byte) (h : f.cls < 3) : w.Records (w.raise f x) := by
  rw [Hw.raise_mild w f x h]
  exact Hw.recordFault_records w f x

theorem Hw.isRaised_raise (w : Hw) (f : FaultId) (x : List Byte) (h : f.cls < 3) (room : w.evt.table.length < 1024) : (w.raise f x).isRaised f = true := by
  rw [Hw.raise_mild w f x h]
  exact Hw.isRaised_recordFault w f x room

section
variable {a b : Hw} (h : a.LogOnly b)
include h

theorem Hw.LogOnly.tiles : b.tiles = a.tiles := by
  obtain ⟨_, _, _, _, rfl⟩ := h
  rfl

theorem Hw.LogOnly.isRaised (f : FaultId) : b.isRaised f = a.isRaised f := by
  obtain ⟨_, _, _, _, rfl⟩ := h
  rfl

end

/-- A step whose signals are mild: the tiles and the fault table are as its function leaves them. -/
theorem State.hwStep_mild (s : State) (f : Hw → Hw) (h : (f s.hw).Mild) :
    (s.hwStep f).hw.tiles = (f s.hw).tiles ∧ ∀ g, (s.hwStep f).hw.isRaised g = (f s.hw).isRaised g :=
  have log := State.hwStep_logOnly s f h
  ⟨log.tiles, log.isRaised⟩

/-! ### The retirement of a tile -/

theorem srcTile_cls (n cls k : Nat) (h : k < 0x2000) : (fid (srcTile n) cls k).cls = cls := by
  simp only [fid, FaultId.cls]
  omega

theorem Hw.lossOfPinned_open (w : Hw) (b : Bool) (h : w.dev.mode ≠ .guard) : w.lossOfPinned b = w := by
  unfold Hw.lossOfPinned
  rw [if_neg (by simp [h])]

/-- Outside GUARD a tile that retires is marked, and the fault recorded. -/
theorem retireNow_eq (n cause : Nat) (w : Hw) (live : (w.tile n).retired = false) (h : w.dev.mode ≠ .guard) :
    retireNow n cause w = (w.setTile n { w.tile n with retired := true, cause := cause, retireDue := 0 }).raise (fid (srcTile n) 2 13)
      (le 2 n ++ le 2 cause) := by
  unfold retireNow
  rw [if_neg (by simp [live]), Hw.lossOfPinned_open]
  rw [(Hw.raise_records _ _ _ (by simp [srcTile_cls])).dev]
  exact h

theorem retireTile_now (n cause : Nat) (w : Hw) (h : w.dev.mode = .config ∨ w.dev.mode = .boot) : retireTile n cause w = retireNow n cause w := by
  unfold retireTile
  rcases h with h | h <;> rw [h]

theorem retireTile_later (n cause : Nat) (w : Hw) (h : w.dev.mode = .scan ∨ w.dev.mode = .guard ∨ w.dev.mode = .service) :
    retireTile n cause w = if (w.tile n).retired ∨ (w.tile n).retireDue ≠ 0 then w else w.setTile n { w.tile n with retireDue := cause } := by
  unfold retireTile
  rcases h with h | h | h <;> rw [h]

/-- What a retirement leaves of the tile: all but the marks of the retirement. -/
structure Retiring (n : Nat) (a b : Hw) : Prop where
  tile : ∃ r c d, b.tile n = { a.tile n with retired := r, cause := c, retireDue := d }
  raised : ∀ f, a.isRaised f = true → b.isRaised f = true
  mild : a.Mild → b.Mild

theorem Hw.Records.retiring (n : Nat) {a b : Hw} (h : a.Records b) : Retiring n a b :=
  ⟨⟨_, _, _, show b.tile n = a.tile n by rw [Hw.tile, h.tiles, Hw.tile]⟩, fun _ hf => h.raised hf, h.mild⟩

theorem Retiring.trans {n : Nat} {a b c : Hw} (h : Retiring n a b) (k : Retiring n b c) : Retiring n a c := by
  obtain ⟨_, _, _, e⟩ := h.tile
  obtain ⟨r, c', d, e'⟩ := k.tile
  exact ⟨⟨r, c', d, by rw [e', e]⟩, fun f hf => k.raised f (h.raised f hf), fun q => k.mild (h.mild q)⟩

theorem Retiring.refl (n : Nat) (a : Hw) : Retiring n a a := ⟨⟨_, _, _, rfl⟩, fun _ h => h, fun h => h⟩

theorem retireNow_retiring (n cause : Nat) (w : Hw) (h : w.dev.mode ≠ .guard) : Retiring n w (retireNow n cause w) := by
  cases live : (w.tile n).retired with
  | true =>
    rw [retireNow, if_pos live]
    exact .refl n w
  | false =>
    rw [retireNow_eq n cause w live h]
    have told := Hw.raise_records (w.setTile n { w.tile n with retired := true, cause := cause, retireDue := 0 }) (fid (srcTile n) 2 13)
      (le 2 n ++ le 2 cause) (by simp [srcTile_cls])
    exact ⟨⟨true, cause, 0, by rw [Hw.tile, told.tiles]; exact Hw.tile_setTile w n _⟩, fun f hf => told.raised hf, fun q => told.mild q⟩

theorem retireTile_retiring (n cause : Nat) (w : Hw) : Retiring n w (retireTile n cause w) := by
  have later : w.dev.mode = .scan ∨ w.dev.mode = .guard ∨ w.dev.mode = .service → Retiring n w (retireTile n cause w) := by
    intro h
    rw [retireTile_later n cause w h]
    split
    · exact .refl n w
    · exact ⟨⟨_, _, _, Hw.tile_setTile w n _⟩, fun _ hf => hf, fun q => q⟩
  cases m : w.dev.mode with
  | config =>
    rw [retireTile_now n cause w (.inl m)]
    exact retireNow_retiring n cause w (by simp [m])
  | boot =>
    rw [retireTile_now n cause w (.inr m)]
    exact retireNow_retiring n cause w (by simp [m])
  | dormant =>
    rw [retireTile, m]
    exact .refl n w
  | scan => exact later (.inl m)
  | guard => exact later (.inr (.inl m))
  | service => exact later (.inr (.inr m))

end Sys2Proof.Machine
end

section
/-! PROOFS. Tile and DET rows (R41, R159 to R174). -/

namespace Sys2Proof.Machine

/-! ### Histograms and the peak finder -/

theorem settleTile_settled {w : Hw} {n : Nat} (h : w.settled n) : settleTile n w = w := by
  unfold settleTile
  unfold Hw.settled at h
  revert h
  generalize w.descs.drop (w.tile n).taken = l
  intro h
  cases l with
  | nil => rfl
  | cons d r =>
    rw [retireMissing, if_neg]
    simp [h d rfl]

theorem State.clocked_run {s : State} {n : Nat} (f : Hw → Hw) (h : s.hw.awake n = true) : s.clocked n f = s.hwStep f := by
  rw [State.clocked, if_pos h]

/-- A clocked step whose function is known to leave `t`, with nothing to deliver. -/
theorem next_clocked {s : State} {n : Nat} (q : s.hw.outbox = []) (on : s.hw.awake n = true) {f : Hw → Hw} {t : Hw} (e : f s.hw = t)
    (h : t.outbox = s.hw.outbox) : (.next (s.clocked n f) : Out) = .next { s with hw := t } := by
  rw [State.clocked_run f on]
  exact next_hwStep e (h.trans q)

section
variable {s : State} (q : s.hw.outbox = []) (on : s.hw.awake 15 = true)
include q on

theorem exec_zoomIn {k i : Nat} (settled : s.hw.settled (k / 16)) (due : (List.range 2).find? (fun i =>
      let h := ((s.hw.tile (k / 16)).chan (k % 16)).buf i
      decide (h.state = .accum) && !h.zoomed && (match h.zoomDue with | some w => decide (w ≤ s.hw.fineNow) | none => false)) = some i) :
    ∃ u w, (((s.hw.tile (k / 16)).chan (k % 16)).buf i).zoomDue = some w ∧ exec (.zoomIn k) s = .next u ∧ u.cmd = s.cmd ∧
      ((u.hw.tile (k / 16)).chan (k % 16)).buf i = placeWindows w (((s.hw.tile (k / 16)).chan (k % 16)).buf i) := by
  have hit := List.find?_some due
  obtain ⟨w, hw⟩ : ∃ w, (((s.hw.tile (k / 16)).chan (k % 16)).buf i).zoomDue = some w := by
    cases e : (((s.hw.tile (k / 16)).chan (k % 16)).buf i).zoomDue with
    | none => simp [e] at hit
    | some w => exact ⟨w, rfl⟩
  have zoomed : zoomIn k s.hw = s.hw.setTile (k / 16) ((s.hw.tile (k / 16)).setChan (k % 16)
      (((s.hw.tile (k / 16)).chan (k % 16)).setBuf i (placeWindows w (((s.hw.tile (k / 16)).chan (k % 16)).buf i)))) := by
    unfold zoomIn
    dsimp only
    rw [settleTile_settled settled]
    split
    · next j e =>
      obtain rfl : j = i := Option.some.inj (e.symm.trans due)
      rw [hw, Option.getD_some]
    · next e => cases e.symm.trans due
  exact ⟨_, w, hw, next_clocked q on zoomed rfl, rfl, by simp⟩

theorem exec_histogramClose {k i : Nat} (settled : s.hw.settled (k / 16)) (due : (List.range 2).find? (fun i =>
      let h := ((s.hw.tile (k / 16)).chan (k % 16)).buf i
      decide (h.state = .accum) && decide (h.nAcc ≤ h.assigned) && decide (h.closeDue ≤ s.hw.fineNow)) = some i) :
    ∃ u, let h := ((s.hw.tile (k / 16)).chan (k % 16)).buf i
      exec (.histogramClose k) s = .next u ∧ u.cmd = s.cmd ∧ (u.hw.tile (k / 16)).closed = ((s.hw.tile (k / 16)).closed + 1) % 2 ^ 32 ∧
      ((u.hw.tile (k / 16)).chan (k % 16)).buf i =
        { h with state := .queued, closeTime := BitVec.ofNat 64 (ceilDiv h.closeDue 80), dead := s.hw.spd.dead.contains k } := by
  have closed : ∃ (c : Chan) (t : Tile), closeHist k s.hw = s.hw.setTile (k / 16) t ∧ t.chans = mset {} (s.hw.tile (k / 16)).chans (k % 16) c ∧
      t.closed = ((s.hw.tile (k / 16)).closed + 1) % 2 ^ 32 ∧ c.buf i = { ((s.hw.tile (k / 16)).chan (k % 16)).buf i with
        state := .queued, closeTime := BitVec.ofNat 64 (ceilDiv (((s.hw.tile (k / 16)).chan (k % 16)).buf i).closeDue 80)
        dead := s.hw.spd.dead.contains k } := by
    unfold closeHist
    dsimp only
    rw [settleTile_settled settled]
    split
    · next j e =>
      obtain rfl : j = i := Option.some.inj (e.symm.trans due)
      exact ⟨_, _, rfl, rfl, rfl, by simp [Chan.buf, Chan.setBuf]⟩
    · next e => cases e.symm.trans due
  obtain ⟨c, t, he, hc, ht, hb⟩ := closed
  refine ⟨_, next_clocked q on he rfl, rfl, by simpa using ht, ?_⟩
  simpa [Tile.chan, hc] using hb

theorem exec_peakFindStart {n p i : Nat} (settled : s.hw.settled n) (free : (s.hw.tile n).peak = none)
    (due : oldestQueued (s.hw.tile n) = some (p, i)) :
    ∃ u, exec (.peakFindStart n) s = .next u ∧ u.cmd = s.cmd ∧ (u.hw.tile n).peak = some (p, i) ∧
      (u.hw.tile n).peakEnd = s.hw.ticks + 1500 ∧ (((u.hw.tile n).chan p).buf i).state = .peak := by
  have started : peakStart n s.hw = s.hw.setTile n { (s.hw.tile n).setChan p
      (((s.hw.tile n).chan p).setBuf i { ((s.hw.tile n).chan p).buf i with state := .peak }) with
      peak := some (p, i), peakEnd := s.hw.ticks + 1500 } := by
    unfold peakStart
    dsimp only
    rw [settleTile_settled settled, free, due]
  refine ⟨_, next_clocked q on started rfl, rfl, by simp, by simp, ?_⟩
  simp [Tile.chan, Tile.setChan]

theorem exec_peakFindDone_idle {n : Nat} (e : Bool) (settled : s.hw.settled n) (free : (s.hw.tile n).peak = none) :
    exec (.peakFindDone n e) s = .next s := by
  have same : peakDone n e s.hw = s.hw := by
    unfold peakDone
    dsimp only
    rw [settleTile_settled settled, free]
  exact next_clocked q on same rfl

/-- The tile as the peak finder leaves it. -/
def Tile.found (t : Tile) (p i : Nat) (e : Bool) : Tile :=
  { t.setChan p { (t.chan p).setBuf i { (t.chan p).buf i with state := .done, parity := ((t.chan p).buf i).parity || e } with view := some i } with
    peak := none, parityErr := t.parityErr + b2n e }

theorem exec_peakFindDone {n p i : Nat} (e : Bool) (settled : s.hw.settled n) (busy : (s.hw.tile n).peak = some (p, i))
    (due : (s.hw.tile n).peakEnd ≤ s.hw.ticks) :
    ∃ u, exec (.peakFindDone n e) s = .next u ∧ (u.hw.tile n).peak = none ∧ ((u.hw.tile n).chan p).view = some i ∧
      (((u.hw.tile n).chan p).buf i).state = .done ∧
      (((u.hw.tile n).chan p).buf i).parity = ((((s.hw.tile n).chan p).buf i).parity || e) ∧
      (e = true → s.hw.evt.table.length < 1024 → u.hw.isRaised (fid (srcTile n) 1 12) = true) := by
  obtain ⟨told, records, raised, done⟩ : ∃ told, (s.hw.setTile n ((s.hw.tile n).found p i e)).Records told ∧
      (e = true → s.hw.evt.table.length < 1024 → told.isRaised (fid (srcTile n) 1 12) = true) ∧ Retiring n told (peakDone n e s.hw) := by
    have cls : (fid (srcTile n) 1 12).cls < 3 := by simp [srcTile_cls]
    unfold peakDone
    dsimp only
    rw [settleTile_settled settled, busy]
    dsimp only
    rw [if_pos due]
    cases e with
    | false => exact ⟨_, .refl _, by simp, .refl n _⟩
    | true =>
      rw [if_pos rfl]
      refine ⟨_, Hw.raise_records _ _ (le 2 n ++ le 2 (16 * n + p)) cls, fun _ room => Hw.isRaised_raise _ _ _ cls room, ?_⟩
      split
      · exact retireTile_retiring n 2 _
      · exact .refl n _
  have all := (records.retiring n).trans done
  obtain ⟨tiles, same⟩ := State.hwStep_mild s (peakDone n e) (all.mild (Hw.mild_of_empty q))
  obtain ⟨r, c, d, tile⟩ := all.tile
  have tile : (s.hwStep (peakDone n e)).hw.tile n = { (s.hw.tile n).found p i e with retired := r, cause := c, retireDue := d } := by
    rw [Hw.tile, tiles]
    exact tile.trans (by rw [Hw.tile_setTile])
  refine ⟨s.hwStep (peakDone n e), congrArg _ (State.clocked_run _ on), by rw [tile]; rfl, ?_, ?_, ?_, fun he room => by rw [same]; exact done.raised _ (raised he room)⟩
  all_goals
    rw [tile]
    simp [Tile.found, Tile.chan, Tile.setChan, Chan.buf, Chan.setBuf]

end

/-! ### Rows of the register map (R41, R167, R170, R174) -/

/-- Outside the blocks with a rule of their own a register with an RWL field is locked in GUARD. -/
theorem Hw.locked_other (w : Hw) {a : Nat} {d : RegDesc} (hd : regDesc a = some d) (hr : d.rwl ≠ 0) (h2 : a / 0x10000 ≠ 0x02)
    (h3 : a / 0x10000 ≠ 0x03) (h70 : a / 0x10000 ≠ 0x70) : w.locked a = decide (w.dev.mode = .guard) := by
  unfold Hw.locked
  rw [hd]
  dsimp only
  split
  · exact absurd ‹_› h2
  · exact absurd ‹_› h3
  · exact absurd ‹_› h70
  · simp [hr]

theorem regDesc_tileCtl : ∀ n < 48, regDesc (tileReg n 0) = regDesc (tileReg 0 0) := by decide

theorem Hw.storeReg_tileCtl (w : Hw) (sv : Bool) {n : Nat} (v : Nat) (hn : n < 48) : w.storeReg sv (tileReg n 0) v = tileCtlStore n v w := by
  interval_cases n <;> rfl

section
variable (w : Hw) {n : Nat} (hn : n < 48)
include hn

theorem Hw.locked_tileCtl : w.locked (tileReg n 0) = decide (w.dev.mode = .guard) :=
  Hw.locked_other w (regDesc_tileCtl n hn) (by decide) (by unfold tileReg; omega) (by unfold tileReg; omega) (by unfold tileReg; omega)

theorem Hw.writeReg_tileCtl (v : Nat) (hg : w.dev.mode ≠ .guard) : w.writeReg false (tileReg n 0) v = tileCtlStore n v w := by
  rw [Hw.writeReg_unlocked w false v (by unfold tileReg; omega) (regDesc_tileCtl n hn) (by simp [Hw.locked_tileCtl w hn, hg])]
  exact Hw.storeReg_tileCtl w false v hn

theorem Hw.writeReg_tileCtl_guard (v : Nat) (hg : w.dev.mode = .guard) :
    w.writeReg false (tileReg n 0) v = { w with ack := 0x0A, ackData := le 4 (tileReg n 0) } :=
  Hw.writeReg_locked w false v (by unfold tileReg; omega) (regDesc_tileCtl n hn) (by simp [Hw.locked_tileCtl w hn, hg])

end

/-- Registers stored, and acknowledged. -/
def Hw.acked (w : Hw) (r : SMap Word) : Hw := { w with ack := 0, ackData := [], regs := r }

/-- The access codes of a register store in the registers, and acknowledge. -/
theorem Hw.plainWrite_acked (w : Hw) {a : Nat} (v : Nat) {d : RegDesc} (hd : regDesc a = some d) : ∃ r, w.plainWrite a v = w.acked r :=
  ⟨_, Hw.plainWrite_eq w v hd⟩

theorem bits_putBit_zero (x : Nat) : bits (putBit x 0 true) 8 6 = bits x 8 6 := by
  unfold bits putBit
  cases h : x.testBit 0 with
  | true => simp
  | false =>
    have : x % 2 = 0 := by simpa [Nat.testBit_zero] using h
    simp only [Bool.false_eq_true, if_false, if_true]
    omega

theorem tb_putBit_true (x i : Nat) : tb (putBit x i true) i = true := by
  unfold tb putBit
  cases h : x.testBit i with
  | true => simp [h]
  | false => simp [Nat.add_comm x, Nat.testBit_two_pow_add_eq, h]

/-- RETIRE stores its bit and retires the tile (R171). -/
theorem tileCtlStore_retire (w : Hw) {n : Nat} (hn : n < 48) (plain : bits (w.reg (tileReg n 0)) 8 6 = 0) :
    ∃ r r', tileCtlStore n (putBit (w.reg (tileReg n 0)) 0 true) w =
      (retireTile n 3 (w.acked r)).acked r' := by
  obtain ⟨r, hr⟩ := Hw.plainWrite_acked w (putBit (w.reg (tileReg n 0)) 0 true) (regDesc_tileCtl n hn)
  unfold tileCtlStore
  dsimp only
  rw [if_neg (by simp [bits_putBit_zero, plain]), if_pos (tb_putBit_true _ 0), hr]
  exact ⟨r, _, rfl⟩

section
variable {s : State} (q : s.hw.outbox = []) {n : Nat} (hn : n < 48)
include q hn

theorem exec_tileCtlWrite (v : Word) (hg : s.hw.dev.mode ≠ .guard) :
    (bits v.toNat 8 6 ≠ 0 → s.hw.dev.mode ≠ .service →
      exec (.tileCtlWrite n v) s = .next { s with hw := { s.hw with ack := 0x03, ackData := le 1 s.hw.dev.mode.code } }) ∧
    (bits v.toNat 8 6 = 0 ∨ s.hw.dev.mode = .service → tb v.toNat 0 = false →
      exec (.tileCtlWrite n v) s = .next { s with hw := s.hw.plainWrite (tileReg n 0) v.toNat }) := by
  have write : ∀ t, tileCtlStore n v.toNat s.hw = t → t.outbox = [] → exec (.tileCtlWrite n v) s = .next { s with hw := t } := fun t e h =>
    (congrArg _ (if_pos hn)).trans (next_hwStep ((Hw.writeReg_tileCtl s.hw hn v.toNat hg).trans e) h)
  refine ⟨fun stack service => write _ (if_pos ⟨stack, service⟩) q, fun field retire => write _ ?_ ((Hw.plainWrite_outbox _ _ _).trans q)⟩
  unfold tileCtlStore
  rw [if_neg (by tauto)]
  exact if_neg (by simp [retire])

theorem exec_tileRetire (plain : bits (s.hw.reg (tileReg n 0)) 8 6 = 0) (live : (s.hw.tile n).retired = false) (idle : (s.hw.tile n).retireDue = 0) :
    (s.hw.dev.mode ∈ [.scan, .service] → ∃ u, exec (.tileRetire n) s = .next u ∧ u.cmd = s.cmd ∧
      u.hw.tile n = { s.hw.tile n with retireDue := 3 }) ∧
    (s.hw.dev.mode = .config → s.hw.evt.table.length < 1024 → ∃ u, exec (.tileRetire n) s = .next u ∧
      u.hw.tile n = { s.hw.tile n with retired := true, cause := 3 } ∧ u.hw.isRaised (fid (srcTile n) 2 13) = true) := by
  obtain ⟨r, r', store⟩ := tileCtlStore_retire s.hw hn plain
  have write := fun hg => (Hw.writeReg_tileCtl s.hw hn (putBit (s.hw.reg (tileReg n 0)) 0 true) hg).trans store
  have step : exec (.tileRetire n) s = .next (s.hwStep (fun hw => hw.writeReg false (tileReg n 0) (putBit (hw.reg (tileReg n 0)) 0 true))) :=
    congrArg _ (if_pos hn)
  refine ⟨fun hm => ?_, fun hm room => ⟨_, step, ?_⟩⟩
  · have mode : s.hw.dev.mode = .scan ∨ s.hw.dev.mode = .service := by simpa using hm
    rw [retireTile_later n 3 (s.hw.acked r) (mode.imp_right .inr), if_neg (show ¬ (((s.hw.acked r).tile n).retired = true ∨ ((s.hw.acked r).tile n).retireDue ≠ 0) from not_or.mpr ⟨Bool.eq_false_iff.mp live, not_not.mpr idle⟩)] at write
    refine ⟨_, step.trans (next_hwStep (write (by rcases mode with m | m <;> simp [m])) q), rfl, ?_⟩
    exact Hw.tile_setTile s.hw n _
  · have write := write (by simp [hm])
    rw [retireTile_now n 3 (s.hw.acked r) (.inl hm), retireNow_eq n 3 (s.hw.acked r) live (ne_of_eq_of_ne hm (by decide))] at write
    have cls : (fid (srcTile n) 2 13).cls < 3 := by simp [srcTile_cls]
    have told := Hw.raise_records ((s.hw.acked r).setTile n { s.hw.tile n with retired := true, cause := 3, retireDue := 0 })
      (fid (srcTile n) 2 13) (le 2 n ++ le 2 3) cls
    obtain ⟨tiles, raised⟩ := State.hwStep_mild s (fun hw => hw.writeReg false (tileReg n 0) (putBit (hw.reg (tileReg n 0)) 0 true))
      (by rw [write]; exact told.mild (Hw.mild_of_empty q))
    rw [raised, Hw.tile, tiles]
    dsimp only
    rw [write]
    refine ⟨?_, Hw.isRaised_raise _ _ _ cls room⟩
    rw [idle]
    exact (congrArg (fun m => mget ({} : Tile) m n) told.tiles).trans (Hw.tile_setTile s.hw n _)

theorem exec_tileRows_guard (hg : s.hw.dev.mode = .guard) :
    exec (.tileRetire n) s = .next { s with hw := { s.hw with ack := 0x0A, ackData := le 4 (tileReg n 0) } } ∧
    ∀ v, exec (.tileCtlWrite n v) s = .next { s with hw := { s.hw with ack := 0x0A, ackData := le 4 (tileReg n 0) } } :=
  ⟨(congrArg _ (if_pos hn)).trans (next_hwStep (Hw.writeReg_tileCtl_guard s.hw hn (putBit (s.hw.reg (tileReg n 0)) 0 true) hg) q), fun v =>
    (congrArg _ (if_pos hn)).trans (next_hwStep (Hw.writeReg_tileCtl_guard s.hw hn v.toNat hg) q)⟩

theorem exec_tileTabDataRead (room : bits (s.hw.reg (tileReg n 0x18)) 0 6 < tileTabWords (bits (s.hw.reg (tileReg n 0x18)) 16 2)) :
    let next := putBits (s.hw.reg (tileReg n 0x18)) 0 6 (bits (s.hw.reg (tileReg n 0x18)) 0 6 + 1)
    exec (.tileTabDataRead n) s = .next { s with hw := s.hw.setReg (tileReg n 0x18) next } :=
  (congrArg _ (if_pos hn)).trans (next_hwStep (if_pos room) q)

end

theorem regDesc_detCtl : regDesc 0x00500000 = some { base := 0x00500000, rw := 0, rwl := 459537, w1s := 8388608, reset := 196864 } := by decide

theorem Hw.locked_detCtl (w : Hw) : w.locked 0x00500000 = decide (w.dev.mode = .guard) :=
  Hw.locked_other w regDesc_detCtl (by decide) (by decide) (by decide) (by decide)

theorem exec_detTabCommit_guard {s : State} (q : s.hw.outbox = []) (hg : s.hw.dev.mode = .guard) :
    exec .detTabCommit s = .next { s with hw := { s.hw with ack := 0x0A, ackData := le 4 0x00500000 } } :=
  next_hwStep (Hw.writeReg_locked s.hw false _ rfl regDesc_detCtl (by simp [Hw.locked_detCtl, hg])) q

theorem exec_detTabCommit {s : State} (q : s.hw.outbox = []) (hg : s.hw.dev.mode ≠ .guard) :
    ∃ u, exec .detTabCommit s = .next u ∧ u.cmd = s.cmd ∧ u.hw.det = { s.hw.det with pending := true } ∧ u.hw.ack = 0 := by
  let v := putBit (s.hw.reg 0x00500000) 23 true
  obtain ⟨r, hr⟩ := Hw.plainWrite_acked s.hw v regDesc_detCtl
  have store : s.hw.writeReg false 0x00500000 v = { s.hw.acked r with det := { s.hw.det with pending := true } } := by
    rw [Hw.writeReg_unlocked s.hw false v rfl regDesc_detCtl (by simp [Hw.locked_detCtl, hg])]
    change detCtlStore v s.hw = _
    unfold detCtlStore
    rw [hr, if_pos (tb_putBit_true _ 23)]
    exact if_neg hg
  exact ⟨_, next_hwStep store q, rfl, rfl, rfl⟩

/-- Settles O26: a tile that has settled takes one step of its pipeline, and a row writes its register unless GUARD locks it. -/
theorem tileRowsTakeEffect : Obligations.TileRowsTakeEffect := by
  unfold Obligations.TileRowsTakeEffect
  intro s q
  refine ⟨fun on => ⟨fun k i => exec_zoomIn q on, fun k i => exec_histogramClose q on, fun n p i => exec_peakFindStart q on,
    fun n p i e => exec_peakFindDone q on e, fun n e => exec_peakFindDone_idle q on e⟩, fun n v hn => exec_tileCtlWrite q hn v,
    fun n hn => exec_tileRetire q hn, fun n hn => exec_tileTabDataRead q hn, exec_detTabCommit q,
    fun hg => ⟨exec_detTabCommit_guard q hg, fun n hn => exec_tileRows_guard q hn hg⟩⟩

end Sys2Proof.Machine
end

section
/-! SUPPORT. What the end of a scan leaves of the array, the Keepers, Bell and the faults that are raised (R62, R64, R65). -/

namespace Sys2Proof.Machine

/-- The regions, the Keepers, Bell, the cascade and the mode stay; what is raised or inhibited stays so; nothing but mild signals goes out. -/
structure Hw.Winds (a b : Hw) : Prop where
  regions : b.spd.regions = a.spd.regions
  dev : b.dev = a.dev
  kpr : b.kpr = a.kpr
  bel : b.bel = a.bel
  cas : b.cas = a.cas
  inhibited : a.bcn.inhibited = true → b.bcn.inhibited = true
  raised : ∀ f, a.isRaised f = true → b.isRaised f = true
  mild : a.Mild → b.Mild

section
variable {a b c : Hw}

theorem Hw.Winds.refl (a : Hw) : a.Winds a := ⟨rfl, rfl, rfl, rfl, rfl, id, fun _ => id, id⟩

theorem Hw.Winds.trans (h : a.Winds b) (k : b.Winds c) : a.Winds c :=
  ⟨k.regions.trans h.regions, k.dev.trans h.dev, k.kpr.trans h.kpr, k.bel.trans h.bel, k.cas.trans h.cas, fun e => k.inhibited (h.inhibited e),
    fun f hf => k.raised f (h.raised f hf), fun m => k.mild (h.mild m)⟩

/-- A change to none of what is kept. -/
theorem Hw.Winds.of_same (hs : b.spd.regions = a.spd.regions) (hd : b.dev = a.dev) (hk : b.kpr = a.kpr) (hb : b.bel = a.bel)
    (hi : b.bcn.inhibited = a.bcn.inhibited) (ht : b.evt.table = a.evt.table) (ho : b.outbox = a.outbox) (hc : b.cas = a.cas := by rfl) :
    a.Winds b :=
  ⟨hs, hd, hk, hb, hc, fun e => hi.trans e, fun f hf => by rw [← hf, Hw.isRaised, Hw.isRaised, ht], fun m => by rw [Hw.Mild, ho]; exact m⟩

theorem Hw.Winds.ite {p : Prop} [Decidable p] (h : a.Winds b) (k : a.Winds c) : a.Winds (if p then b else c) := by
  split
  · exact h
  · exact k

theorem Hw.Winds.foldl {A : Type} {f : Hw → A → Hw} (h : ∀ (w : Hw) (x : A), w.Winds (f w x)) (l : List A) (w : Hw) : w.Winds (l.foldl f w) := by
  induction l generalizing w with
  | nil => exact .refl w
  | cons x l ih => exact (h w x).trans (ih _)

theorem Hw.Records.winds (h : a.Records b) : a.Winds b := by
  have raised := fun f (hf : a.isRaised f = true) => h.raised hf
  have mild := h.mild
  obtain ⟨_, _, rfl, -⟩ := h
  exact ⟨rfl, rfl, rfl, rfl, rfl, id, raised, mild⟩

end

theorem Hw.post_records (w : Hw) (src code : Nat) (p : List Byte) (logged : Bool) : w.Records (w.post src code p logged) := by
  obtain ⟨r, l, h, n, e⟩ := Hw.post_shape w src code p logged
  refine ⟨_, [.record r], e, fun y hy => ?_, fun g hg => by rw [e]; exact hg⟩
  obtain rfl := List.mem_singleton.mp hy
  rfl

/-! ### Missing shots, tiles and tests (R140, R62, R109) -/

section
variable (w : Hw)

theorem offerShot_winds (n p : Nat) (s : Shot) (seen : Seen) : w.Winds (offerShot n p s seen w) := by
  unfold offerShot
  dsimp only
  split
  · exact .refl w
  · split
    · exact .refl w
    · refine .foldl (fun v col => ?_) _ w
      have stuck : ∀ (v : Hw) t k, v.Winds (if k = 0 then v.setTile n t else (v.setTile n t).stick (tileReg n 0x10) k) := fun v t k =>
        .ite (.of_same rfl rfl rfl rfl rfl rfl rfl) (.of_same rfl rfl rfl rfl rfl rfl rfl)
      exact .ite ((stuck v _ _).trans (Hw.recordFault_records _ _ _).winds) (stuck v _ _)

theorem tellMissing_winds (n : Nat) (d : Descriptor) : w.Winds (tellMissing n d w) := by
  unfold tellMissing
  split
  · exact .foldl (fun v s => .foldl (fun v p => offerShot_winds v n p s _) _ v) _ w
  · exact .refl w

theorem endTile_winds (n : Nat) : w.Winds (endTile n w) :=
  .trans (.foldl (fun v d => tellMissing_winds v n d) _ w) (.of_same rfl rfl rfl rfl rfl rfl rfl)

theorem Hw.disarmAll_shape : ∃ b, w.disarmAll = { w with bcn := b } ∧ b.inhibited = w.bcn.inhibited := by
  unfold Hw.disarmAll Hw.busCommand
  exact ⟨_, rfl, rfl⟩

theorem Hw.disarmAll_winds : w.Winds w.disarmAll := by
  obtain ⟨b, e, h⟩ := w.disarmAll_shape
  rw [e]
  exact .of_same rfl rfl rfl rfl h rfl rfl

theorem Hw.inhibit_winds : w.Winds w.inhibit ∧ w.inhibit.bcn.inhibited = true := by
  unfold Hw.inhibit
  dsimp only
  have missed := Hw.Winds.foldl (fun (h : Hw) (s : Shot) => Hw.Winds.of_same (b := h.sendMissing s .skipped) rfl rfl rfl rfl rfl rfl rfl)
    ((List.range 4).flatMap (fun b => (mget {} w.bcn.banks b).inFlight)) w
  revert missed
  generalize ((List.range 4).flatMap (fun b => (mget {} w.bcn.banks b).inFlight)).foldl (fun h s => h.sendMissing s .skipped) w = v
  intro missed
  have stopped : ∀ m, v.Winds { v with bcn := { v.bcn with inhibited := true, banks := m } } := fun m =>
    ⟨rfl, rfl, rfl, rfl, rfl, fun _ => rfl, fun _ hf => hf, fun m => m⟩
  exact ⟨(missed.trans (stopped _)).trans (Hw.disarmAll_winds _), (Hw.disarmAll_winds _).inhibited rfl⟩

theorem Hw.scanEnd_winds : w.Winds w.scanEnd := by
  have frames : w.Winds (w.endFrames true) := .of_same rfl rfl rfl rfl rfl rfl rfl
  have tiles := frames.trans (.foldl (fun v n => endTile_winds v n) (List.range 48) _)
  unfold Hw.scanEnd
  dsimp only
  revert tiles
  generalize (List.range 48).foldl (fun h n => endTile n h) (w.endFrames true) = v
  intro tiles
  exact tiles.trans (.of_same rfl rfl rfl rfl rfl rfl rfl)

theorem Hw.draw_winds : w.Winds w.draw.2 := .of_same rfl rfl rfl rfl rfl rfl rfl

theorem Hw.pinTest_winds (mask : Nat) : w.Winds (w.pinTest mask) := by
  unfold Hw.pinTest
  have found : w.Winds (w.disarmAll.setReg 0x00020090 (mask % 2 ^ 32)) := w.disarmAll_winds.trans (.of_same rfl rfl rfl rfl rfl rfl rfl)
  exact .ite found (found.trans (Hw.recordFault_records _ _ _).winds)

theorem Hw.lampTest_winds (live : Nat) : w.Winds (w.lampTest live) := by
  unfold Hw.lampTest
  refine .trans (b := (({ w with spd := { w.spd with
    lampLive := live % 2 ^ 64, lampUnfit := unfitGroups live w.refK } } : Hw).restUnfit (unfitGroups live w.refK))) (.of_same rfl rfl rfl rfl rfl rfl rfl) ?_
  exact .foldl (fun v g => (Hw.recordFault_records v _ _).winds) _ _

theorem Hw.configTests_winds (pins lamp : Option Nat) : w.Winds (w.configTests pins lamp) := by
  have tested : ∀ (v : Hw) p l, v.Winds ((v.pinTest p).lampTest l) := fun v p l => (v.pinTest_winds p).trans (Hw.lampTest_winds _ l)
  have mapped : ∀ (v : Hw) d, v.Winds { v with bcn := { v.bcn with drivers := d } } := fun v d => .of_same rfl rfl rfl rfl rfl rfl rfl
  unfold Hw.configTests
  split
  next p v e =>
  have first : w.Winds v := by
    cases pins <;> cases e
    · exact w.draw_winds
    · exact .refl w
  split
  next l u e' =>
  have second : v.Winds u := by
    cases lamp <;> cases e'
    · exact v.draw_winds
    · exact .refl v
  exact ((first.trans second).trans (tested u _ _)).trans (mapped _ _)

end

end Sys2Proof.Machine
end

section
/-! SUPPORT. The Keepers' outputs, the effects of a fault of any class, and a fold over the regions of the array (R64, R65, R117, R376). -/

namespace Sys2Proof.Machine

/-! ### What any fault leaves -/

/-- Events were recorded, no fault. -/
def Hw.Tells (a b : Hw) : Prop :=
  ∃ e l, b = { a with evt := e, outbox := a.outbox ++ l } ∧ e.table = a.evt.table ∧ ∀ x ∈ l, x.mild = true

theorem Hw.Tells.refl (a : Hw) : a.Tells a := ⟨a.evt, [], by simp, rfl, by simp⟩

theorem Hw.Tells.trans {a b c : Hw} (h : a.Tells b) (k : b.Tells c) : a.Tells c := by
  obtain ⟨e, l, rfl, table, mild⟩ := h
  obtain ⟨e', l', rfl, table', mild'⟩ := k
  exact ⟨e', l ++ l', by simp, table'.trans table, fun x hx => (List.mem_append.mp hx).elim (mild x) (mild' x)⟩

theorem Hw.Tells.foldl {A : Type} {f : Hw → A → Hw} (h : ∀ (w : Hw) (x : A), w.Tells (f w x)) (l : List A) (w : Hw) : w.Tells (l.foldl f w) := by
  induction l generalizing w with
  | nil => exact .refl w
  | cons x l ih => exact (h w x).trans (ih _)

theorem Hw.event_tells (w : Hw) (src code : Nat) (p : List Byte) : w.Tells (w.event src code p) := by
  obtain ⟨r, l, h, n, e⟩ := Hw.post_shape w src code p false
  refine ⟨_, [.record r], e, rfl, fun y hy => ?_⟩
  obtain rfl := List.mem_singleton.mp hy
  rfl

/-- Commands to the pairs change the Keepers, and the events of a pair that changes are recorded. -/
theorem Hw.drive2_tells (w : Hw) (a b : Nat) : (w.command a b).Tells (w.drive2 a b) := by
  refine Hw.Tells.foldl (f := fun h p => if tb w.kpr.pairsOn p != tb h.kpr.pairsOn p then h.kprEvent 0xE002 p else h) (fun v p => ?_) (List.range 2) (w.command a b)
  split
  · exact v.event_tells _ _ _
  · exact .refl v

/-- The regions and SPAD_HV_EN stay, what is raised stays raised, and nothing but mild signals goes out. -/
structure Hw.Stands (a b : Hw) : Prop where
  regions : b.spd.regions = a.spd.regions
  bias : b.dev.hvEnable = a.dev.hvEnable
  raised : ∀ f, a.isRaised f = true → b.isRaised f = true
  mild : a.Mild → b.Mild

section
variable {a b c : Hw}

theorem Hw.Stands.refl (a : Hw) : a.Stands a := ⟨rfl, rfl, fun _ => id, id⟩

theorem Hw.Stands.trans (h : a.Stands b) (k : b.Stands c) : a.Stands c :=
  ⟨k.regions.trans h.regions, k.bias.trans h.bias, fun f hf => k.raised f (h.raised f hf), fun m => k.mild (h.mild m)⟩

theorem Hw.Stands.region (h : a.Stands b) (r : Nat) : b.region r = a.region r := by rw [Hw.region, h.regions, Hw.region]

theorem Hw.Stands.ite {p : Prop} [Decidable p] (h : a.Stands b) (k : a.Stands c) : a.Stands (if p then b else c) := by
  split
  · exact h
  · exact k

theorem Hw.Winds.stands (h : a.Winds b) : a.Stands b := ⟨h.regions, by rw [h.dev], h.raised, h.mild⟩

theorem Hw.Stands.of_same (hs : b.spd.regions = a.spd.regions) (hd : b.dev.hvEnable = a.dev.hvEnable) (ht : b.evt.table = a.evt.table)
    (ho : b.outbox = a.outbox) : a.Stands b :=
  ⟨hs, hd, fun f hf => by rw [← hf, Hw.isRaised, Hw.isRaised, ht], fun m => by rw [Hw.Mild, ho]; exact m⟩

/-- One more mild signal. -/
theorem Hw.Stands.of_told {x : Signal} (hx : x.mild = true) (hs : b.spd.regions = a.spd.regions) (hd : b.dev.hvEnable = a.dev.hvEnable)
    (ht : b.evt.table = a.evt.table) (ho : b.outbox = a.outbox ++ [x]) : a.Stands b := by
  refine ⟨hs, hd, fun f hf => by rw [← hf, Hw.isRaised, Hw.isRaised, ht], fun m y hy => ?_⟩
  rw [ho] at hy
  exact (List.mem_append.mp hy).elim (m y) fun k => by rw [List.mem_singleton.mp k]; exact hx

end

section
variable (w : Hw)

theorem Hw.drive2_stands (x y : Nat) : w.Stands (w.drive2 x y) := by
  obtain ⟨e, l, h, table, mild⟩ := w.drive2_tells x y
  rw [h]
  refine ⟨rfl, rfl, fun f hf => ?_, fun m z hz => (List.mem_append.mp hz).elim (m z) (mild z)⟩
  rw [← hf, Hw.isRaised, Hw.isRaised, table]
  rfl

theorem Hw.safeEffect_stands (f : FaultId) : w.Stands (w.safeEffect f) :=
  (w.drive2_stands 0 0).trans (.of_same rfl rfl rfl rfl)

theorem Hw.safe001_stands : w.Stands w.safe001 := (Hw.recordFault_records w _ []).winds.stands.trans (Hw.safeEffect_stands _ _)

theorem Hw.stopEffect_stands (src : Nat) (x : List Byte) : w.Stands (w.stopEffect src x) := by
  have unscheduled : w.Stands { w with dev := { w.dev with sched := none } } := .of_same rfl rfl rfl rfl
  unfold Hw.stopEffect
  dsimp only
  split
  · exact unscheduled
  · exact .of_same rfl rfl rfl rfl
  · split
    · exact .of_told (x := .stopInTransition) rfl rfl rfl rfl rfl
    · exact .of_same rfl rfl rfl rfl
  · have ended := (unscheduled.trans (Hw.inhibit_winds _).1.stands).trans (Hw.scanEnd_winds _).stands
    have left : ∀ v : Hw, v.Stands (v.toMode .config 0x02) := fun v => .of_same rfl rfl rfl rfl
    have due : ∀ v : Hw, v.Stands { v with outbox := v.outbox ++ [.modeLeft], slt := { v.slt with testDue := true } } := fun v =>
      .of_told (x := .modeLeft) rfl rfl rfl rfl rfl
    exact ((ended.trans (left _)).trans (Hw.configTests_winds _ none none).stands).trans (due _)
  · exact .ite ((unscheduled.trans (Hw.inhibit_winds _).1.stands).trans (Hw.safe001_stands _)) unscheduled
  · exact unscheduled.trans (Hw.inhibit_winds _).1.stands

theorem Hw.casInhibit_stands (src : Nat) (f : FaultId) (b : Bool) : w.Stands (w.casInhibit src f b) := by
  obtain ⟨c, h⟩ := w.casInhibit_shape src f b
  rw [h]
  exact .of_same rfl rfl rfl rfl

theorem Hw.raise_stands (f : FaultId) (x : List Byte) : (w.recordFault f x).Stands (w.raise f x) := by
  unfold Hw.raise
  dsimp only
  exact .ite ((Hw.casInhibit_stands _ _ _ _).trans (Hw.stopEffect_stands _ _ _)) (.ite (Hw.safeEffect_stands _ f) (.refl _))

end

theorem raiseEntry_length (f : FaultId) (t : U64) (e : EvtSt) : (raiseEntry f t e).table.length ≤ e.table.length + 1 := by
  unfold raiseEntry
  split
  · simp
  · split
    · simp
    · simp

theorem Hw.safe001_table (w : Hw) : w.safe001.evt.table.length ≤ w.evt.table.length + 1 := by
  obtain ⟨r, e, h, table⟩ := Hw.recordFault_shape w (fid (srcKpr 0) 4 1) []
  obtain ⟨e', l, h', table', -⟩ := Hw.drive2_tells (w.recordFault (fid (srcKpr 0) 4 1) []) 0 0
  unfold Hw.safe001 Hw.safeEffect
  dsimp only
  rw [h']
  dsimp only
  rw [table']
  change (w.recordFault (fid (srcKpr 0) 4 1) []).evt.table.length ≤ _
  rw [h]
  dsimp only
  rw [table]
  exact raiseEntry_length _ _ _

/-! ### The regions one after the other -/

/-- A fold over the regions in order, each step of which sets its own region by what it was at first. -/
theorem foldRegions {P : Hw → Prop} {f : Hw → Nat → Hw} {g : Nat → Region → Prop} {w : Hw} {n : Nat}
    (step : ∀ h r, P h → r < n → h.region r = w.region r → P (f h r) ∧ g r ((f h r).region r) ∧ ∀ q, q ≠ r → (f h r).region q = h.region q)
    (hw : P w) : P ((List.range n).foldl f w) ∧ ∀ r < n, g r (((List.range n).foldl f w).region r) := by
  suffices ∀ m ≤ n, P ((List.range m).foldl f w) ∧ (∀ r < m, g r (((List.range m).foldl f w).region r)) ∧
      ∀ r, m ≤ r → ((List.range m).foldl f w).region r = w.region r from ⟨(this n le_rfl).1, (this n le_rfl).2.1⟩
  intro m
  induction m with
  | zero => exact fun _ => ⟨hw, by simp, fun _ _ => rfl⟩
  | succ m ih =>
    intro hm
    obtain ⟨hp, done, rest⟩ := ih (by omega)
    rw [List.range_succ, List.foldl_append, List.foldl_cons, List.foldl_nil]
    obtain ⟨kp, own, others⟩ := step _ m hp (by omega) (rest m le_rfl)
    refine ⟨kp, fun r hr => ?_, fun r hr => (others r (by omega)).trans (rest r (by omega))⟩
    by_cases e : r = m
    · exact e ▸ own
    · rw [others r e]
      exact done r (by omega)

end Sys2Proof.Machine
end

section
/-! SUPPORT. Trims and the bias supply of the array (R116, R117, R118, R470). -/

namespace Sys2Proof.Machine

theorem Hw.region_setRegion_ne (w : Hw) {r q : Nat} (x : Region) (h : r ≠ q) : (w.setRegion r x).region q = w.region q := mget_mset_ne _ _ _ _ _ h

/-- The hardware with other regions of the array. -/
def Hw.withRegions (w : Hw) (m : SMap Region) : Hw := { w with spd := { w.spd with regions := m } }

/-- One hardware is another but for the regions of the array. -/
def Hw.LikeBut (w h : Hw) : Prop := ∃ m, h = w.withRegions m

theorem Hw.LikeBut.refl (w : Hw) : w.LikeBut w := ⟨w.spd.regions, rfl⟩

theorem Hw.LikeBut.setRegion {w h : Hw} (k : w.LikeBut h) (r : Nat) (x : Region) : w.LikeBut (h.setRegion r x) := by
  obtain ⟨m, rfl⟩ := k
  exact ⟨_, rfl⟩

/-- The trim of a region reads of the regions that one alone. -/
theorem Hw.LikeBut.trimOf {w h : Hw} (k : w.LikeBut h) {r : Nat} (hold : Option Nat) (held : Bool) (same : h.region r = w.region r) :
    h.trimOf r hold held = w.trimOf r hold held := by
  unfold Hw.trimOf
  rw [same]
  obtain ⟨m, rfl⟩ := k
  rfl

/-! ### The recompute (R116) -/

/-- One region recomputed: its trim is due. -/
def Hw.recomputed (frozen held : Bool) : Hw → Nat → Hw := fun h r =>
  let x := h.region r
  let (c, s, v) := h.trimOf r (if frozen then some x.trim else none) held
  h.setRegion r { x with nextTrim := c, nextState := s, nextVex := v, due := true }

/-- A region that has its next trim and otherwise is as it was. -/
def Hw.TrimDue (w : Hw) (frozen held : Bool) (r : Nat) (y : Region) : Prop :=
  y.due = true ∧ y.state = (w.region r).state ∧
    (y.nextTrim, y.nextState, y.nextVex) = w.trimOf r (if frozen then some (w.region r).trim else none) held

/-- Every region recomputed. -/
theorem Hw.recomputed_all (w : Hw) (frozen held : Bool) (n : Nat) :
    w.LikeBut ((List.range n).foldl (Hw.recomputed frozen held) w) ∧
      ∀ r < n, w.TrimDue frozen held r (((List.range n).foldl (Hw.recomputed frozen held) w).region r) := by
  refine foldRegions (P := w.LikeBut) (fun h r like _ same => ?_) (.refl w)
  refine ⟨like.setRegion r _, ?_, fun q hq => Hw.region_setRegion_ne h _ hq.symm⟩
  unfold Hw.recomputed
  dsimp only
  rw [Hw.region_setRegion, like.trimOf _ _ same, same]
  exact ⟨rfl, rfl, rfl⟩

section
variable {w : Hw}

/-- The recompute that is due, before anything takes effect. -/
def Hw.trimmed (w : Hw) : Hw :=
  (List.range 1153).foldl (Hw.recomputed w.trimFrozen w.regionsHeld) { w with spd := { w.spd with trimAt := some w.ticks } }

theorem Hw.trimmed_all (w : Hw) : { w with spd := { w.spd with trimAt := some w.ticks } }.LikeBut w.trimmed ∧
    ∀ r < 1153, w.TrimDue w.trimFrozen w.regionsHeld r (w.trimmed.region r) :=
  Hw.recomputed_all { w with spd := { w.spd with trimAt := some w.ticks } } w.trimFrozen w.regionsHeld 1153

theorem Hw.trimmed_dev (w : Hw) : w.trimmed.dev = w.dev := by
  obtain ⟨m, e⟩ := w.trimmed_all.1
  rw [e]
  rfl

theorem Hw.trimmed_mild {w : Hw} (q : w.Mild) : w.trimmed.Mild := by
  obtain ⟨m, e⟩ := w.trimmed_all.1
  rw [e]
  exact q

theorem Hw.trimmed_trimAt (w : Hw) : w.trimmed.spd.trimAt = some w.ticks := by
  obtain ⟨m, e⟩ := w.trimmed_all.1
  rw [e]
  rfl

theorem trimRecompute_early {t : Nat} (h : w.spd.trimAt = some t) (early : w.ticks < t + 800000 * w.trimPeriod) : trimRecompute w = w := by
  unfold trimRecompute
  rw [h]
  exact if_pos (by simpa using early)

section
variable (due : ∀ t, w.spd.trimAt = some t → t + 800000 * w.trimPeriod ≤ w.ticks)
include due

theorem trimRecompute_later (hm : w.dev.mode = .scan ∨ w.dev.mode = .guard ∨ w.dev.mode = .service) : trimRecompute w = w.trimmed := by
  have mode := w.trimmed_dev
  unfold trimRecompute
  refine (if_neg ?_).trans ?_
  · split
    · next t e => simpa using due t e
    · simp
  · unfold Hw.trimmed Hw.recomputed at *
    dsimp only at *
    rw [mode]
    rcases hm with h | h | h <;> rw [h]

theorem trimRecompute_now (hs : w.dev.mode ≠ .scan) (hg : w.dev.mode ≠ .guard) (hv : w.dev.mode ≠ .service) :
    trimRecompute w = w.trimmed.applyRegions := by
  have mode := w.trimmed_dev
  unfold trimRecompute
  refine (if_neg ?_).trans ?_
  · split
    · next t e => simpa using due t e
    · simp
  · unfold Hw.trimmed Hw.recomputed at *
    dsimp only at *
    rw [mode]
    split
    · exact absurd ‹_› hs
    · exact absurd ‹_› hg
    · exact absurd ‹_› hv
    · rfl

end

end

/-! ### The next trims taken into force (R117) -/

/-- The next trim of a region, computed anew where a frozen trim keeps its code. -/
def Hw.nextOf (h : Hw) (r : Nat) : Region :=
  let x := h.region r
  if h.trimFrozen ∧ x.nextTrim ≠ x.trim then
    let (c, s, v) := h.trimOf r (some x.trim) h.regionsHeld
    { x with nextTrim := c, nextState := s, nextVex := v }
  else x

theorem Hw.nextOf_thawed {h : Hw} (r : Nat) (thawed : h.trimFrozen = false) : h.nextOf r = h.region r := by
  unfold Hw.nextOf
  exact if_neg (by simp [thawed])

/-- While the regions are held a trim has no other state than OFF (R118). -/
theorem Hw.nextOf_held {h : Hw} {r : Nat} (held : h.regionsHeld = true) (off : (h.region r).nextState = 3) : (h.nextOf r).nextState = 3 := by
  unfold Hw.nextOf
  dsimp only
  split
  · unfold Hw.trimOf
    exact if_pos (.inr (.inl held))
  · exact off

/-- A region as its next trim takes effect. -/
def Region.TookNext (x y : Region) : Prop := y.state = x.nextState ∧ y.trim = x.nextTrim ∧ y.vex = x.nextVex ∧ y.due = false

theorem Hw.applyRegion_due {h : Hw} {r : Nat} (due : (h.region r).due = true) :
    ∃ y, (h.nextOf r).TookNext y ∧ (h.setRegion r y).Records (h.applyRegion r) ∧ (h.spd.hvInSince = none → h.applyRegion r = h.setRegion r y) := by
  have outside : h.spd.hvInSince = none → ¬ h.spd.hvInSince.isSome = true := fun off => by simp [off]
  unfold Hw.applyRegion Hw.nextOf
  dsimp only
  by_cases k : h.trimFrozen = true ∧ (h.region r).nextTrim ≠ (h.region r).trim
  · rw [if_pos k, if_neg (not_not.mpr due)]
    refine ⟨_, ?_, ?_, fun off => if_neg fun on => outside off on.2.2.2⟩
    · exact ⟨rfl, rfl, rfl, rfl⟩
    · exact .ite (Hw.raise_records _ (fid srcSpd 2 3) _ (by decide)) (.refl _)
  · rw [if_neg k, if_neg (not_not.mpr due)]
    refine ⟨_, ?_, ?_, fun off => if_neg fun on => outside off on.2.2.2⟩
    · exact ⟨rfl, rfl, rfl, rfl⟩
    · exact .ite (Hw.raise_records _ (fid srcSpd 2 3) _ (by decide)) (.refl _)

theorem Hw.Records.setRegion {v h : Hw} {m : SMap Region} (k : (v.withRegions m).Records h) (r : Nat) (y : Region) :
    ∃ m', (v.withRegions m').Records (h.setRegion r y) := by
  obtain ⟨e, l, rfl, mild, raised⟩ := k
  exact ⟨mset {} m r y, e, l, rfl, mild, raised⟩

theorem Hw.Records.trimFrozen {a b : Hw} (k : a.Records b) : b.trimFrozen = a.trimFrozen := by
  obtain ⟨_, _, rfl, -⟩ := k
  rfl

theorem Hw.Records.spd {a b : Hw} (k : a.Records b) : b.spd = a.spd := by
  obtain ⟨_, _, rfl, -⟩ := k
  rfl

theorem Hw.Records.region {a b : Hw} (k : a.Records b) (r : Nat) : b.region r = a.region r := by rw [Hw.region, k.spd, Hw.region]

section
variable {v : Hw}

/-- Every trim that is due takes effect. -/
theorem Hw.applyRegion_all (thawed : v.trimFrozen = false) (due : ∀ r < 1153, (v.region r).due = true) :
    (∃ m, (v.withRegions m).Records ((List.range 1153).foldl (fun h r => h.applyRegion r) v)) ∧
      ∀ r < 1153, (v.region r).TookNext (((List.range 1153).foldl (fun h r => h.applyRegion r) v).region r) := by
  refine foldRegions (P := fun h => ∃ m, (v.withRegions m).Records h) (fun h r like hr same => ?_) ⟨v.spd.regions, .refl v⟩
  obtain ⟨m, told⟩ := like
  obtain ⟨y, took, raised, -⟩ := Hw.applyRegion_due (h := h) (r := r) (by rw [same]; exact due r hr)
  rw [Hw.nextOf_thawed r (told.trimFrozen.trans thawed), same] at took
  obtain ⟨m', set⟩ := told.setRegion r y
  refine ⟨⟨m', set.trans raised⟩, ?_, fun q hq => ?_⟩
  · rw [raised.region, Hw.region_setRegion]
    exact took
  · rw [raised.region, Hw.region_setRegion_ne h y hq.symm]

/-- Every region goes OFF where the bias is outside its window (R118). -/
theorem Hw.applyRegion_off (outside : v.spd.hvInSince = none) (due : ∀ r < 1153, (v.region r).due = true ∧ (v.region r).nextState = 3) :
    v.LikeBut ((List.range 1153).foldl (fun h r => h.applyRegion r) v) ∧
      ∀ r < 1153, (((List.range 1153).foldl (fun h r => h.applyRegion r) v).region r).state = 3 := by
  refine foldRegions (P := v.LikeBut) (g := fun _ y => y.state = 3) (fun h r like hr same => ?_) (.refl v)
  have off : h.spd.hvInSince = none := by
    obtain ⟨m, rfl⟩ := like
    exact outside
  have held : h.regionsHeld = true := by simp [Hw.regionsHeld, off]
  obtain ⟨y, took, -, quiet⟩ := Hw.applyRegion_due (h := h) (r := r) (by rw [same]; exact (due r hr).1)
  rw [quiet off]
  refine ⟨like.setRegion r y, ?_, fun q hq => Hw.region_setRegion_ne h y hq.symm⟩
  rw [Hw.region_setRegion, took.1]
  exact Hw.nextOf_held held (by rw [same]; exact (due r hr).2)

end

theorem Hw.recount_open (w : Hw) (h : w.dev.mode ≠ .guard) : ∃ d, w.recount = { w with spd := { w.spd with dead := d } } :=
  ⟨_, Hw.lossOfPinned_open _ _ h⟩

theorem Hw.recount_stands (w : Hw) : w.Stands w.recount ∧ w.recount.evt.table.length ≤ w.evt.table.length + 1 := by
  have counted : w.Stands { w with spd := { w.spd with dead := w.deadChans } } := .of_same rfl rfl rfl rfl
  unfold Hw.recount Hw.lossOfPinned
  dsimp only
  split
  · exact ⟨counted.trans (Hw.safe001_stands _), Hw.safe001_table _⟩
  · exact ⟨counted, Nat.le_succ _⟩

/-! ### The bias supply (R118, R470) -/

/-- Every region is to go OFF. -/
def Hw.regionsOff (w : Hw) : Hw :=
  (List.range 1153).foldl (fun (h : Hw) r =>
    let x := h.region r
    h.setRegion r { x with nextState := 3, due := true }) w

theorem Hw.regionsOff_all (w : Hw) : w.LikeBut w.regionsOff ∧ ∀ r < 1153, (w.regionsOff.region r).due = true ∧ (w.regionsOff.region r).nextState = 3 :=
  foldRegions (P := w.LikeBut) (g := fun _ y => y.due = true ∧ y.nextState = 3) (fun h r like _ _ =>
    ⟨like.setRegion r _, by rw [Hw.region_setRegion]; exact ⟨rfl, rfl⟩, fun q hq => Hw.region_setRegion_ne h _ hq.symm⟩) (.refl w)

theorem Hw.regionsOff_applied {w : Hw} (outside : w.spd.hvInSince = none) :
    (w.Mild → w.regionsOff.applyRegions.Mild) ∧ w.regionsOff.applyRegions.evt.table.length ≤ w.evt.table.length + 1 ∧
      ∀ r < 1153, (w.regionsOff.applyRegions.region r).state = 3 := by
  obtain ⟨⟨m, like⟩, due⟩ := w.regionsOff_all
  obtain ⟨⟨m', like'⟩, off⟩ := Hw.applyRegion_off (v := w.regionsOff) (by rw [like]; exact outside) due
  obtain ⟨stands, table⟩ := Hw.recount_stands ((List.range 1153).foldl (fun h r => h.applyRegion r) w.regionsOff)
  have evt : ((List.range 1153).foldl (fun h r => h.applyRegion r) w.regionsOff).evt = w.evt := by
    rw [like', like]
    rfl
  have outbox : ((List.range 1153).foldl (fun h r => h.applyRegion r) w.regionsOff).outbox = w.outbox := by
    rw [like', like]
    rfl
  rw [Hw.applyRegions]
  refine ⟨fun q => stands.mild (by rw [Hw.Mild, outbox]; exact q), ?_, fun r hr => ?_⟩
  · rw [evt] at table
    exact table
  · rw [stands.region]
    exact off r hr

/-- SPAD_HV_EN falls. -/
def Hw.biasLow (w : Hw) (d : DevSt) : Hw := { w with dev := { d with hvEnable := false } }

theorem Hw.hvCheck_off {w : Hw} (out : w.hvInWindow w.spd.hvMeas = false) (on : w.spd.biasOn = true) :
    w.hvCheck = (let v := ({ w with spd := { w.spd with hvInSince := none } } : Hw).regionsOff
      let b := v.applyRegions.biasLow v.dev
      if b.isRaised (fid srcSpd 3 2) then b else b.raise (fid srcSpd 3 2) []) := by
  unfold Hw.hvCheck Hw.regionsOff Hw.biasLow
  rw [if_neg (by simp [out])]
  dsimp only
  rw [if_neg (by simp [on])]

/-- F.SPD.002 is raised with SPAD_HV_EN low, and the regions stay. -/
theorem Hw.raise_bias {u c : Hw} {d : DevSt} (mild : u.Mild) (room : u.evt.table.length < 1024)
    (e : c = if (u.biasLow d).isRaised (fid srcSpd 3 2) then u.biasLow d else (u.biasLow d).raise (fid srcSpd 3 2) []) :
    c.Mild ∧ c.dev.hvEnable = false ∧ c.isRaised (fid srcSpd 3 2) = true ∧ ∀ r, c.region r = u.region r := by
  subst e
  split
  · next raised => exact ⟨mild, rfl, raised, fun _ => rfl⟩
  · have told := Hw.recordFault_records (u.biasLow d) (fid srcSpd 3 2) []
    have stands := told.winds.stands.trans (Hw.raise_stands _ (fid srcSpd 3 2) [])
    exact ⟨stands.mild mild, stands.bias, (Hw.raise_stands _ _ []).raised _ (Hw.isRaised_recordFault _ _ _ room), stands.region⟩

/-- The supply outside its window, with the bias on. -/
theorem Hw.hvCheck_outside {w : Hw} (out : w.hvInWindow w.spd.hvMeas = false) (on : w.spd.biasOn = true) (room : w.evt.table.length + 2 ≤ 1024) (q : w.Mild) :
    w.hvCheck.Mild ∧ w.hvCheck.dev.hvEnable = false ∧ w.hvCheck.isRaised (fid srcSpd 3 2) = true ∧ ∀ r < 1153, (w.hvCheck.region r).state = 3 := by
  obtain ⟨mild, table, off⟩ := Hw.regionsOff_applied (w := { w with spd := { w.spd with hvInSince := none } }) rfl
  obtain ⟨mild, low, raised, same⟩ := Hw.raise_bias (mild q) (Nat.lt_of_le_of_lt table (show w.evt.table.length + 1 < 1024 by omega))
    (Hw.hvCheck_off out on)
  exact ⟨mild, low, raised, fun r hr => (congrArg Region.state (same r)).trans (off r hr)⟩

end Sys2Proof.Machine
end

section
/-! PROOFS. Trims, the bias supply, the masks and the table window of the array (R111 to R131, R470). -/

namespace Sys2Proof.Machine

/-! ### Trims (R116, R117) -/

/-- Outside GUARD the count of the live regions keeps what the trims left. -/
theorem Hw.recount_told {w v : Hw} {m : SMap Region} (told : (w.withRegions m).Records v) (hg : w.dev.mode ≠ .guard) (q : w.Mild) :
    v.recount.Mild ∧ v.recount.spd.trimAt = w.spd.trimAt ∧ ∀ r, v.recount.region r = v.region r := by
  obtain ⟨d, e⟩ := v.recount_open (by rw [told.dev]; exact hg)
  rw [e]
  have trimAt : v.spd.trimAt = w.spd.trimAt := by
    rw [told.spd]
    rfl
  exact ⟨told.mild q, trimAt, fun _ => rfl⟩

/-- Outside SCAN, GUARD and SERVICE the trims take effect at once. -/
theorem Hw.trimmed_applied {w : Hw} (hg : w.dev.mode ≠ .guard) (hv : w.dev.mode ≠ .service) (q : w.Mild) :
    w.trimmed.applyRegions.Mild ∧ w.trimmed.applyRegions.spd.trimAt = some w.ticks ∧ ∀ r < 1153,
      (w.trimmed.applyRegions.region r).due = false ∧ ((w.trimmed.applyRegions.region r).trim, (w.trimmed.applyRegions.region r).state,
        (w.trimmed.applyRegions.region r).vex) = w.trimOf r (if w.trimFrozen = true then some (w.region r).trim else none) w.regionsHeld := by
  have due := w.trimmed_all.2
  have thawed : w.trimmed.trimFrozen = false := by
    rw [Hw.trimFrozen, w.trimmed_dev]
    simp [hv]
  obtain ⟨⟨m, told⟩, took⟩ := Hw.applyRegion_all thawed fun r hr => (due r hr).1
  obtain ⟨mild, trimAt, same⟩ := Hw.recount_told told (by rw [w.trimmed_dev]; exact hg) (Hw.trimmed_mild q)
  rw [Hw.applyRegions]
  refine ⟨mild, trimAt.trans w.trimmed_trimAt, fun r hr => ?_⟩
  obtain ⟨state, trim, vex, off⟩ := took r hr
  rw [same]
  exact ⟨off, by rw [state, trim, vex]; exact (due r hr).2.2⟩

theorem Hw.LogOnly.spd {a b : Hw} (h : a.LogOnly b) : b.spd = a.spd := by
  obtain ⟨_, _, _, _, rfl⟩ := h
  rfl

theorem Hw.LogOnly.dev {a b : Hw} (h : a.LogOnly b) : b.dev = a.dev := by
  obtain ⟨_, _, _, _, rfl⟩ := h
  rfl

/-- A step whose signals are mild: the array, the mode and the fault table are as its function leaves them. -/
theorem State.hwStep_array (s : State) (f : Hw → Hw) (h : (f s.hw).Mild) :
    (s.hwStep f).hw.spd = (f s.hw).spd ∧ (s.hwStep f).hw.dev = (f s.hw).dev ∧ ∀ g, (s.hwStep f).hw.isRaised g = (f s.hw).isRaised g :=
  have log := State.hwStep_logOnly s f h
  ⟨log.spd, log.dev, log.isRaised⟩

theorem Hw.hvInWindow_capped (w : Hw) (mv : Nat) : w.hvInWindow (min 65535 mv) = w.hvInWindow mv := by
  have high : w.hvHigh ≤ 32000 := Nat.min_le_left _ _
  unfold Hw.hvInWindow
  rw [decide_eq_decide]
  omega

theorem hvMeasUpdate_early {w : Hw} {t : Nat} (mv : Nat) (h : w.spd.hvAt = some t) (early : w.ticks < t + 80000) : hvMeasUpdate mv w = w := by
  unfold hvMeasUpdate
  rw [h]
  exact if_pos (by simpa using early)

/-- The measurement noted (R118). -/
def Hw.hvNoted (w : Hw) (mv : Nat) : Hw := { w with spd := { w.spd with hvMeas := min 65535 mv, hvAt := some w.ticks } }

theorem hvMeasUpdate_due {w : Hw} (mv : Nat) (due : ∀ t, w.spd.hvAt = some t → t + 80000 ≤ w.ticks) : hvMeasUpdate mv w = (w.hvNoted mv).hvCheck := by
  unfold hvMeasUpdate
  refine if_neg ?_
  split
  · next t e => simpa using due t e
  · simp

section
variable {s : State} (q : s.hw.outbox = [])
include q

theorem exec_clocked_idle {f : Hw → Hw} {n : Nat} (e : f s.hw = s.hw) : (.next (s.clocked n f) : Out) = .next s := by
  unfold State.clocked
  split
  · exact next_hwStep e q
  · rfl

theorem exec_trimRecompute (on : s.hw.awake 5 = true) (due : ∀ t, s.hw.spd.trimAt = some t → t + 800000 * s.hw.trimPeriod ≤ s.hw.ticks) :
    ∃ u, exec .trimRecompute s = .next u ∧ u.hw.spd.trimAt = some s.hw.ticks ∧ ∀ r < 1153,
      let x := s.hw.trimOf r (if s.hw.trimFrozen = true then some (s.hw.region r).trim else none) s.hw.regionsHeld
      let y := u.hw.region r
      (s.hw.dev.mode ∈ [.scan, .guard, .service] → y.due = true ∧ y.state = (s.hw.region r).state ∧ (y.nextTrim, y.nextState, y.nextVex) = x) ∧
      (s.hw.dev.mode = .config → y.due = false ∧ (y.trim, y.state, y.vex) = x) := by
  refine ⟨s.hwStep trimRecompute, congrArg _ (State.clocked_run _ on), ?_⟩
  by_cases runs : s.hw.dev.mode = .scan ∨ s.hw.dev.mode = .guard ∨ s.hw.dev.mode = .service
  · obtain ⟨⟨m, like⟩, trims⟩ := s.hw.trimmed_all
    have e := trimRecompute_later due runs
    obtain ⟨spd, -, -⟩ := State.hwStep_array s trimRecompute (by rw [e, like]; exact Hw.mild_of_empty q)
    rw [spd, e]
    refine ⟨by rw [like]; rfl, fun r hr => ⟨fun _ => ?_, fun config => by simp [config] at runs⟩⟩
    have same : (s.hwStep trimRecompute).hw.region r = s.hw.trimmed.region r := by rw [Hw.region, spd, e, Hw.region]
    rw [same]
    exact trims r hr
  · rw [not_or, not_or] at runs
    obtain ⟨scan, guard, service⟩ := runs
    obtain ⟨mild, trimAt, trims⟩ := Hw.trimmed_applied guard service (Hw.mild_of_empty q)
    have e := trimRecompute_now due scan guard service
    obtain ⟨spd, -, -⟩ := State.hwStep_array s trimRecompute (by rw [e]; exact mild)
    rw [spd, e]
    refine ⟨trimAt, fun r hr => ⟨fun mode => by simp [scan, guard, service] at mode, fun _ => ?_⟩⟩
    have same : (s.hwStep trimRecompute).hw.region r = s.hw.trimmed.applyRegions.region r := by rw [Hw.region, spd, e, Hw.region]
    rw [same]
    exact trims r hr

theorem exec_trimRecompute_early {t : Nat} (h : s.hw.spd.trimAt = some t) (early : s.hw.ticks < t + 800000 * s.hw.trimPeriod) :
    exec .trimRecompute s = .next s := exec_clocked_idle q (trimRecompute_early h early)

/-! ### The bias supply (R118, R470) -/

theorem exec_hvMeasUpdate (mv : Nat) (on : s.hw.awake 5 = true) (due : ∀ t, s.hw.spd.hvAt = some t → t + 80000 ≤ s.hw.ticks) :
    let noted := { s.hw.spd with hvMeas := min 65535 mv, hvAt := some s.hw.ticks }
    (s.hw.hvInWindow mv = true → exec (.hvMeasUpdate mv) s =
      .next { s with hw := { s.hw with spd := { noted with hvInSince := some (s.hw.spd.hvInSince.getD s.hw.ticks) } } }) ∧
    (s.hw.hvInWindow mv = false → s.hw.spd.biasOn = false → exec (.hvMeasUpdate mv) s =
      .next { s with hw := { s.hw with spd := { noted with hvInSince := none } } }) ∧
    (s.hw.hvInWindow mv = false → s.hw.spd.biasOn = true → s.hw.evt.table.length + 2 ≤ 1024 → ∃ u, exec (.hvMeasUpdate mv) s = .next u ∧
      u.hw.dev.hvEnable = false ∧ u.hw.isRaised (fid srcSpd 3 2) = true ∧ ∀ r < 1153, (u.hw.region r).state = 3) := by
  have measured := hvMeasUpdate_due mv due
  have window : (s.hw.hvNoted mv).hvInWindow (s.hw.hvNoted mv).spd.hvMeas = s.hw.hvInWindow mv := s.hw.hvInWindow_capped mv
  refine ⟨fun inside => ?_, fun outside off => ?_, fun outside bias room => ⟨s.hwStep (hvMeasUpdate mv), congrArg _ (State.clocked_run _ on), ?_⟩⟩
  · exact next_clocked q on (measured.trans (if_pos (window.trans inside))) rfl
  · have check : (s.hw.hvNoted mv).hvCheck = { s.hw with spd := { (s.hw.hvNoted mv).spd with hvInSince := none } } := by
      unfold Hw.hvCheck
      rw [if_neg (by rw [window, outside]; decide)]
      exact if_pos (by rw [← Bool.not_eq_true] at off; exact off)
    exact next_clocked q on (measured.trans check) rfl
  · obtain ⟨mild, low, raised, states⟩ := Hw.hvCheck_outside (w := s.hw.hvNoted mv) (window.trans outside) bias room (Hw.mild_of_empty q)
    rw [← measured] at mild low raised states
    obtain ⟨spd, dev, same⟩ := State.hwStep_array s (hvMeasUpdate mv) mild
    refine ⟨by rw [dev]; exact low, by rw [same]; exact raised, fun r hr => ?_⟩
    rw [Hw.region, spd]
    exact states r hr

end

end Sys2Proof.Machine
end

section
/-! PROOFS. Regions off their target, the masks and the table window of the array (R111, R117, R119, R120, R126, R131). -/

namespace Sys2Proof.Machine

theorem Hw.safe001_spd (w : Hw) : w.safe001.spd = w.spd := by
  obtain ⟨e, l, h, -⟩ := Hw.drive2_tells (w.recordFault (fid (srcKpr 0) 4 1) []) 0 0
  unfold Hw.safe001 Hw.safeEffect
  rw [h]
  exact (Hw.recordFault_records w (fid (srcKpr 0) 4 1) []).spd

theorem Hw.recount_maskActive (w : Hw) : w.recount.spd.maskActive = w.spd.maskActive := by
  unfold Hw.recount Hw.lossOfPinned
  dsimp only
  split
  · rw [Hw.safe001_spd]
  · rfl

/-! ### Regions off target (R117) -/

section
variable {s : State} (q : s.hw.outbox = [])
include q

theorem exec_regionOfftargetTimeout {r t : Nat} (on : s.hw.awake 5 = true) (off : (s.hw.region r).offSince = some t) (hr : r < 1153) :
    (t + 800000000 < s.hw.ticks → s.hw.evt.table.length < 1024 → ∃ u, exec (.regionOfftargetTimeout r) s = .next u ∧
      u.hw.isRaised (fid srcSpd 1 4) = true ∧ u.hw.spd = s.hw.spd ∧ u.hw.dev = s.hw.dev) ∧
    (s.hw.ticks ≤ t + 800000000 → exec (.regionOfftargetTimeout r) s = .next s) := by
  refine ⟨fun late room => ⟨s.hwStep (regionOffTarget r), congrArg _ (State.clocked_run _ on), ?_⟩, fun early => exec_clocked_idle q ?_⟩
  · have e : regionOffTarget r s.hw = s.hw.raise (fid srcSpd 1 4) (le 2 r) := by
      unfold regionOffTarget
      rw [off]
      exact if_pos ⟨late, hr⟩
    have told := Hw.raise_records s.hw (fid srcSpd 1 4) (le 2 r) (by decide)
    obtain ⟨spd, dev, same⟩ := State.hwStep_array s (regionOffTarget r) (by rw [e]; exact told.mild (Hw.mild_of_empty q))
    rw [spd, dev, same, e]
    exact ⟨Hw.isRaised_raise _ _ _ (by decide) room, told.spd, told.dev⟩
  · unfold regionOffTarget
    rw [off]
    exact if_neg (by omega)

theorem exec_regionOfftargetTimeout_none {r : Nat} (on : (s.hw.region r).offSince = none) : exec (.regionOfftargetTimeout r) s = .next s := by
  refine exec_clocked_idle q ?_
  unfold regionOffTarget
  rw [on]

/-! ### The masks (R119, R120, R131) -/

theorem exec_maskParityError {w : Nat} (on : s.hw.awake 5 = true) (hw : w < 36864) (room : s.hw.evt.table.length < 1024) :
    ∃ u, exec (.maskParityError w) s = .next u ∧
      u.hw.spd.maskActive = mset 0 s.hw.spd.maskActive w (mget 0 s.hw.pantry.mask w) ∧ u.hw.isRaised (fid srcSpd 1 12) = true := by
  let fixed : Hw := { s.hw with spd := { s.hw.spd with maskActive := mset 0 s.hw.spd.maskActive w (mget 0 s.hw.pantry.mask w) } }
  have e : maskParity w s.hw = (fixed.raise (fid srcSpd 1 12) (le 2 w)).recount := if_neg (by omega)
  have told := Hw.raise_records fixed (fid srcSpd 1 12) (le 2 w) (by decide)
  have stands := (Hw.recount_stands (fixed.raise (fid srcSpd 1 12) (le 2 w))).1
  obtain ⟨spd, -, same⟩ := State.hwStep_array s (maskParity w) (by rw [e]; exact stands.mild (told.mild (Hw.mild_of_empty q)))
  refine ⟨s.hwStep (maskParity w), congrArg _ (State.clocked_run _ on), ?_, ?_⟩
  · rw [spd, e, Hw.recount_maskActive, told.spd]
  · rw [same, e]
    exact stands.raised _ (Hw.isRaised_raise _ _ _ (by decide) room)

end

theorem regDesc_spdCtl : regDesc 0x00030000 = some { base := 0x00030000, rw := 0, rwl := 0x100, w1s := 3 } := by decide

theorem Hw.locked_spdCtl (w : Hw) : w.locked 0x00030000 = decide (w.dev.mode = .guard) := by
  unfold Hw.locked
  rw [regDesc_spdCtl]
  simp

/-- TRIM_FREEZE is kept when a mask command is written. -/
theorem tb_maskCommand (x : Nat) : tb (putBit (x &&& 0x100) 0 true) 0 = true ∧ tb (putBit (x &&& 0x100) 0 true) 1 = false ∧
    tb (putBit (x &&& 0x100) 1 true) 0 = false ∧ tb (putBit (x &&& 0x100) 1 true) 1 = true := by
  have freeze : x &&& 0x100 = (x.testBit 8).toNat * 2 ^ 8 := Nat.and_two_pow x 8
  rw [freeze]
  cases x.testBit 8 <;> decide

section
variable {s : State} (q : s.hw.outbox = [])
include q

theorem exec_maskRows_guard (hg : s.hw.dev.mode = .guard) :
    exec .maskCommit s = .next { s with hw := { s.hw with ack := 0x0A, ackData := le 4 0x00030000 } } ∧
    exec .maskSave s = .next { s with hw := { s.hw with ack := 0x0A, ackData := le 4 0x00030000 } } :=
  ⟨next_hwStep (Hw.writeReg_locked s.hw false _ rfl regDesc_spdCtl (by simp [Hw.locked_spdCtl, hg])) q,
    next_hwStep (Hw.writeReg_locked s.hw false _ rfl regDesc_spdCtl (by simp [Hw.locked_spdCtl, hg])) q⟩

end

/-- MASK_COMMIT is written through SPD_CTL. -/
theorem exec_maskCommit_eq {s : State} (hg : s.hw.dev.mode ≠ .guard) :
    ∃ r, ∀ t, (maskCommit (s.hw.acked r)).ackOk = t → t.outbox = [] → exec .maskCommit s = .next { s with hw := t } := by
  obtain ⟨r, hr⟩ := Hw.plainWrite_acked s.hw (putBit (s.hw.reg 0x00030000 &&& 0x100) 0 true) regDesc_spdCtl
  obtain ⟨commit, save, -, -⟩ := tb_maskCommand (s.hw.reg 0x00030000)
  refine ⟨r, fun t e h => next_hwStep (Eq.trans ?_ e) h⟩
  rw [Hw.writeReg_unlocked s.hw false _ rfl regDesc_spdCtl (by simp [Hw.locked_spdCtl, hg])]
  change spdCtlStore _ s.hw = _
  unfold spdCtlStore
  dsimp only
  rw [hr, if_pos commit, if_neg (by simp [save])]

section
variable {s : State} (q : s.hw.outbox = []) (hg : s.hw.dev.mode ≠ .guard)
include q hg

theorem exec_maskSave : ∃ u, exec .maskSave s = .next u ∧ u.cmd = s.cmd ∧ u.hw.pantry = { s.hw.pantry with mask := s.hw.spd.maskActive } ∧
    u.hw.spd = s.hw.spd ∧ u.hw.ack = 0 := by
  obtain ⟨r, hr⟩ := Hw.plainWrite_acked s.hw (putBit (s.hw.reg 0x00030000 &&& 0x100) 1 true) regDesc_spdCtl
  obtain ⟨-, -, commit, save⟩ := tb_maskCommand (s.hw.reg 0x00030000)
  have store : s.hw.writeReg false 0x00030000 (putBit (s.hw.reg 0x00030000 &&& 0x100) 1 true) = (maskSave (s.hw.acked r)).ackOk := by
    rw [Hw.writeReg_unlocked s.hw false _ rfl regDesc_spdCtl (by simp [Hw.locked_spdCtl, hg])]
    change spdCtlStore _ s.hw = _
    unfold spdCtlStore
    dsimp only
    rw [hr, if_pos save, if_neg (by simp [commit])]
  exact ⟨_, next_hwStep store q, rfl, rfl, rfl, rfl⟩

theorem exec_maskCommit_now (hm : s.hw.dev.mode = .config) : ∃ u, exec .maskCommit s = .next u ∧ u.cmd = s.cmd ∧
    u.hw.spd.maskActive = s.hw.spd.maskShadow ∧ u.hw.spd.maskShadow = s.hw.spd.maskShadow ∧ u.hw.spd.maskPending = false ∧ u.hw.ack = 0 := by
  obtain ⟨r, write⟩ := exec_maskCommit_eq hg
  obtain ⟨d, e⟩ := (s.hw.acked r).commitMask.recount_open hg
  have commit : maskCommit (s.hw.acked r) = (s.hw.acked r).commitMask.recount := by
    unfold maskCommit
    rw [show (s.hw.acked r).dev.mode = .config from hm]
  exact ⟨_, write _ (congrArg Hw.ackOk (commit.trans e)) q, rfl, rfl, rfl, rfl, rfl⟩

theorem exec_maskCommit_later (hm : s.hw.dev.mode = .scan ∨ s.hw.dev.mode = .service) : ∃ u, exec .maskCommit s = .next u ∧ u.cmd = s.cmd ∧
    u.hw.spd = { s.hw.spd with maskPending := true } ∧ u.hw.ack = 0 := by
  obtain ⟨r, write⟩ := exec_maskCommit_eq hg
  have commit : maskCommit (s.hw.acked r) = { s.hw.acked r with spd := { s.hw.spd with maskPending := true } } := by
    unfold maskCommit
    rcases hm with h | h
    · rw [show (s.hw.acked r).dev.mode = .scan from h]
      rfl
    · rw [show (s.hw.acked r).dev.mode = .service from h]
      rfl
  exact ⟨_, write _ (congrArg Hw.ackOk commit) q, rfl, rfl, rfl⟩

end

/-! ### The table window (R111, R126) -/

theorem regDesc_spdTab (i : Nat) (hi : i < 256) : regDesc (0x00030400 + 4 * i) = regDesc 0x00030400 := by
  have rows : ∀ a < 16, ∀ b < 16, regDesc (0x00030400 + 4 * (16 * a + b)) = regDesc 0x00030400 := by decide
  rw [← Nat.div_add_mod i 16]
  exact rows (i / 16) (by omega) (i % 16) (by omega)

section
variable (w : Hw) {i : Nat} (hi : i < 256)
include hi

theorem Hw.locked_spdTab : w.locked (0x00030400 + 4 * i) =
    (decide (w.dev.mode = .guard) && decide (bits (w.reg 0x00030030) 16 4 = 0 ∨ bits (w.reg 0x00030030) 16 4 = 2)) := by
  have hb : (0x00030400 + 4 * i) / 0x10000 = 0x03 := by omega
  have ho : 0x400 ≤ (0x00030400 + 4 * i) % 0x10000 := by omega
  obtain ⟨d, hd⟩ : ∃ d, regDesc (0x00030400 + 4 * i) = some d := ⟨_, (regDesc_spdTab i hi).trans rfl⟩
  unfold Hw.locked
  rw [hd, hb]
  exact if_pos ho

theorem Hw.writeReg_spdTab (v : Nat) (hg : w.dev.mode ≠ .guard) : w.writeReg false (0x00030400 + 4 * i) v = spdTabWrite i v w.ackOk := by
  have hb : (0x00030400 + 4 * i) / 0x10000 = 0x03 := by omega
  have ho : (0x00030400 + 4 * i) % 0x10000 = 0x400 + 4 * i := by omega
  rw [Hw.writeReg_unlocked w false v (by omega) ((regDesc_spdTab i hi).trans rfl) (by simp [Hw.locked_spdTab w hi, hg])]
  unfold Hw.storeReg
  simp only [hb, ho]
  rw [if_neg (by omega), if_neg (by omega), if_neg (by omega), if_neg (by omega), if_pos (by omega), show (0x400 + 4 * i - 0x400) / 4 = i by omega]

end

section
variable {w : Hw} {i v : Nat} (hg : w.dev.mode ≠ .guard)
include hg

theorem spdTabWrite_mask (ht : bits (w.reg 0x00030030) 16 4 = 0) (hx : bits (w.reg 0x00030030) 0 16 + i < 36864) (hv : v < 2 ^ 32) :
    spdTabWrite i v w = { w with spd := { w.spd with maskShadow := mset 0 w.spd.maskShadow (bits (w.reg 0x00030030) 0 16 + i) v } } := by
  unfold spdTabWrite
  dsimp only
  rw [ht]
  refine (if_neg (by simpa using hg)).trans ((if_pos hx).trans ?_)
  rw [Nat.mod_eq_of_lt hv]

/-- The enable and class of a region; the class is in force at once where no frame runs (R111). -/
theorem spdTabWrite_region (ht : bits (w.reg 0x00030030) 16 4 = 2) (hx : bits (w.reg 0x00030030) 0 16 + i < 1153) :
    ∃ y : Region, spdTabWrite i v w = w.setRegion (bits (w.reg 0x00030030) 0 16 + i) y ∧ y.enable = tb v 31 ∧ y.dtClass = bits v 29 2 ∧
      (w.dev.mode = .config → y.dtForce = bits v 29 2) ∧
      (w.dev.mode ∈ [.scan, .service] → y.dtForce = (w.region (bits (w.reg 0x00030030) 0 16 + i)).dtForce) := by
  unfold spdTabWrite
  dsimp only
  split
  · next h => exact absurd (ht.symm.trans h) (by decide)
  · rw [if_neg (by simpa using hg), if_pos hx]
    split
    · next h => exact ⟨_, rfl, rfl, rfl, fun k => absurd (h.symm.trans k) (by decide), fun _ => rfl⟩
    · next h => exact ⟨_, rfl, rfl, rfl, fun k => absurd (h.symm.trans k) (by decide), fun _ => rfl⟩
    · next hs hv =>
      refine ⟨_, rfl, rfl, rfl, fun _ => rfl, fun k => ?_⟩
      rcases List.mem_pair.mp k with k | k
      · exact absurd k hs
      · exact absurd k hv
  · next h => exact absurd ht h

end

/-- A word written through the window outside GUARD. -/
theorem exec_spdTabWinWrite_eq {s : State} {i : Nat} (hi : i < 256) (v : Word) (hg : s.hw.dev.mode ≠ .guard) {t : Hw}
    (e : spdTabWrite i v.toNat s.hw.ackOk = t) (h : t.outbox = []) : exec (.spdTabWinWrite i v) s = .next { s with hw := t } :=
  (congrArg _ (if_pos hi)).trans (next_hwStep ((Hw.writeReg_spdTab s.hw hi v.toNat hg).trans e) h)

section
variable {s : State} (q : s.hw.outbox = []) {i : Nat} (hi : i < 256) (v : Word)
include q hi

theorem exec_spdTabWinWrite_guard (hg : s.hw.dev.mode = .guard) (ht : bits (s.hw.reg 0x00030030) 16 4 = 0 ∨ bits (s.hw.reg 0x00030030) 16 4 = 2) :
    exec (.spdTabWinWrite i v) s = .next { s with hw := { s.hw with ack := 0x0A, ackData := le 4 (0x00030400 + 4 * i) } } :=
  (congrArg _ (if_pos hi)).trans (next_hwStep (Hw.writeReg_locked s.hw false v.toNat (by omega) ((regDesc_spdTab i hi).trans rfl)
    (by simp [Hw.locked_spdTab s.hw hi, hg, ht])) q)

theorem exec_spdTabWinWrite_mask (hg : s.hw.dev.mode ≠ .guard) (ht : bits (s.hw.reg 0x00030030) 16 4 = 0)
    (hx : bits (s.hw.reg 0x00030030) 0 16 + i < 36864) : ∃ u, exec (.spdTabWinWrite i v) s = .next u ∧ u.cmd = s.cmd ∧
      u.hw.spd = { s.hw.spd with maskShadow := mset 0 s.hw.spd.maskShadow (bits (s.hw.reg 0x00030030) 0 16 + i) v.toNat } :=
  ⟨_, exec_spdTabWinWrite_eq hi v hg (spdTabWrite_mask (w := s.hw.ackOk) hg ht hx v.isLt) q, rfl, rfl⟩

theorem exec_spdTabWinWrite_region (hg : s.hw.dev.mode ≠ .guard) (ht : bits (s.hw.reg 0x00030030) 16 4 = 2)
    (hx : bits (s.hw.reg 0x00030030) 0 16 + i < 1153) :
    let ix := bits (s.hw.reg 0x00030030) 0 16 + i
    ∃ u, exec (.spdTabWinWrite i v) s = .next u ∧ u.cmd = s.cmd ∧
      (u.hw.region ix).enable = tb v.toNat 31 ∧ (u.hw.region ix).dtClass = bits v.toNat 29 2 ∧
      (s.hw.dev.mode = .config → (u.hw.region ix).dtForce = bits v.toNat 29 2) ∧
      (s.hw.dev.mode ∈ [.scan, .service] → (u.hw.region ix).dtForce = (s.hw.region ix).dtForce) := by
  obtain ⟨y, e, enable, cls, now, later⟩ := spdTabWrite_region (w := s.hw.ackOk) (v := v.toNat) hg ht hx
  have same := s.hw.ackOk.region_setRegion (bits (s.hw.ackOk.reg 0x00030030) 0 16 + i) y
  exact ⟨_, exec_spdTabWinWrite_eq hi v hg e q, rfl, (congrArg Region.enable same).trans enable, (congrArg Region.dtClass same).trans cls,
    fun k => (congrArg Region.dtForce same).trans (now k), fun k => (congrArg Region.dtForce same).trans (later k)⟩

end

/-- Settles O25: what a row computes of the array is in force at once or waits for the boundary, and a mask is refused in GUARD. -/
theorem arrayRowsTakeEffect : Obligations.ArrayRowsTakeEffect := by
  unfold Obligations.ArrayRowsTakeEffect
  intro s q
  refine ⟨exec_trimRecompute q, fun t => exec_trimRecompute_early q, fun mv on due => exec_hvMeasUpdate q mv on due, fun mv t h early => ?_,
    fun r t on off hr => exec_regionOfftargetTimeout q on off hr, fun r => exec_regionOfftargetTimeout_none q,
    fun hm => exec_maskCommit_now q (by simp [hm]) hm, fun hm => ?_, fun hg => exec_maskSave q hg, exec_maskRows_guard q,
    fun w on hw room => exec_maskParityError q on hw room, fun i v hi => ?_⟩
  · exact exec_clocked_idle q (hvMeasUpdate_early mv h early)
  · have mode : s.hw.dev.mode = .scan ∨ s.hw.dev.mode = .service := by simpa using hm
    exact exec_maskCommit_later q (by rcases mode with h | h <;> simp [h]) mode
  · exact ⟨exec_spdTabWinWrite_mask q hi v, exec_spdTabWinWrite_region q hi v, exec_spdTabWinWrite_guard q hi v⟩

end Sys2Proof.Machine
end

section
/-! SUPPORT. What leaving GUARD does: the outputs off, Bell silent, the beacons inhibited, CONFIG entered (R60, R64). -/

namespace Sys2Proof.Machine

/-! ### The boundary of the calibration (R170) -/

section
variable (w : Hw)

theorem Hw.recount_winds (h : w.dev.mode ≠ .guard) : w.Winds w.recount := by
  obtain ⟨d, e⟩ := w.recount_open h
  rw [e]
  exact .of_same rfl rfl rfl rfl rfl rfl rfl

theorem maskCommit_winds : w.Winds (maskCommit w) := by
  unfold maskCommit
  split
  · next m => exact .trans (b := w.commitMask) (.of_same rfl rfl rfl rfl rfl rfl rfl) (w.commitMask.recount_winds (ne_of_eq_of_ne m (by decide)))
  · exact .of_same rfl rfl rfl rfl rfl rfl rfl
  · exact .of_same rfl rfl rfl rfl rfl rfl rfl
  · exact .of_same rfl rfl rfl rfl rfl rfl rfl
  · exact .refl w

theorem Hw.putGlobal_winds (q : Nat) (d : List Int) : w.Winds (w.putGlobal q d) := by
  unfold Hw.putGlobal
  dsimp only
  split
  · exact .of_same rfl rfl rfl rfl rfl rfl rfl
  · refine .trans ?_ (maskCommit_winds _)
    exact .of_same rfl rfl rfl rfl rfl rfl rfl
  · exact .of_same rfl rfl rfl rfl rfl rfl rfl
  · exact .of_same rfl rfl rfl rfl rfl rfl rfl
  · exact .refl w

theorem Hw.setReg_winds (a v : Nat) : w.Winds (w.setReg a v) := .of_same rfl rfl rfl rfl rfl rfl rfl

theorem Hw.applySets_winds : w.Winds w.applySets := by
  unfold Hw.applySets
  dsimp only
  generalize List.range 768 = codes, List.range 4 = banks, List.range 1632 = gains, List.range 64 = walks
  have codes := Hw.Winds.foldl (fun v k => v.setReg_winds (chanReg k 0) (cx 24 (interpolate w.activeSets w.tDie fun s => sx 24 (mget 0 s.skew k)))) codes w
  have banks := Hw.Winds.foldl (fun v b => v.setReg_winds (0x000280B0 + 4 * b) (interpolate w.activeSets w.tDie fun s => ((mget 0 s.xgain b : Nat) : Int)).toNat) banks
  refine codes.trans ((banks _).trans ?_)
  exact .of_same rfl rfl rfl rfl rfl rfl rfl

theorem Hw.putGlobals_winds (l : List (Nat × List Int)) : w.Winds (w.putGlobals l) :=
  Hw.Winds.foldl (f := fun (h : Hw) (e : Nat × List Int) => h.putGlobal e.1 e.2) (fun v e => v.putGlobal_winds e.1 e.2) l w

theorem Hw.calBoundary_winds : w.Winds w.calBoundary := by
  unfold Hw.calBoundary
  have put : w.Winds (({ w with cal := { w.cal with held := [] } } : Hw).putGlobals w.cal.held) := by
    refine .trans ?_ (Hw.putGlobals_winds _ _)
    exact .of_same rfl rfl rfl rfl rfl rfl rfl
  exact .ite (put.trans (Hw.applySets_winds _)) put

/-! ### The Keepers and Bell at the end of GUARD (R64, R400) -/

theorem KprSt.lines_off {k : KprSt} (h : k.a.on = 0) : k.lines = 0 := by
  have off : k.pairsOn = 0 := by rw [KprSt.pairsOn, h, Nat.zero_and]
  rw [KprSt.lines, off]
  rfl

/-- The commands to both Keepers fall, and with them every output. -/
theorem Hw.guardEnd_off : w.guardEnd.kpr.lines = 0 ∧ w.guardEnd.kpr.frozen = 0 ∧ w.guardEnd.cas = w.cas ∧ (w.Mild → w.guardEnd.Mild) := by
  obtain ⟨e, l, h, -, mild⟩ := w.drive2_tells 0 0
  unfold Hw.guardEnd
  rw [h]
  exact ⟨KprSt.lines_off rfl, rfl, rfl, fun m x hx => (List.mem_append.mp hx).elim (m x) (mild x)⟩

end

/-- What Bell does leaves the Keepers and the cascade. -/
structure Hw.Rings (a b : Hw) : Prop where
  kpr : b.kpr = a.kpr
  cas : b.cas = a.cas
  mild : a.Mild → b.Mild

section
variable {a b c : Hw}

theorem Hw.Rings.trans (h : a.Rings b) (k : b.Rings c) : a.Rings c := ⟨k.kpr.trans h.kpr, k.cas.trans h.cas, fun m => k.mild (h.mild m)⟩

theorem Hw.Rings.of_same (hk : b.kpr = a.kpr) (hc : b.cas = a.cas) (ho : b.outbox = a.outbox) : a.Rings b :=
  ⟨hk, hc, fun m => by rw [Hw.Mild, ho]; exact m⟩

theorem Hw.Rings.ite {p : Prop} [Decidable p] (h : a.Rings b) (k : a.Rings c) : a.Rings (if p then b else c) := by
  split
  · exact h
  · exact k

theorem Hw.Winds.rings (h : a.Winds b) : a.Rings b := ⟨h.kpr, h.cas, h.mild⟩

end

section
variable (w : Hw)

theorem Hw.raise_rings (f : FaultId) (x : List Byte) (h : f.cls < 3) : w.Rings (w.raise f x) := (w.raise_records f x h).winds.rings

theorem Hw.bellQueue_rings (f : List Byte) : w.Rings (w.bellQueue f) := by
  unfold Hw.bellQueue
  dsimp only
  refine .ite (.of_same rfl rfl rfl) (.ite (.of_same rfl rfl rfl) ?_)
  refine .trans ?_ (Hw.raise_rings _ _ _ (by decide))
  exact .of_same rfl rfl rfl

theorem Hw.bellBuild_rings (kind : Nat) : w.Rings (w.bellBuild kind) := by
  unfold Hw.bellBuild
  dsimp only
  refine .ite (.trans ?_ (Hw.bellQueue_rings _ _)) (.ite (.trans ?_ (Hw.raise_rings _ _ _ (by decide))) ?_)
  · exact .of_same rfl rfl rfl
  · exact .of_same rfl rfl rfl
  · exact .of_same rfl rfl rfl

theorem Hw.bellEnd_rings : w.Rings w.bellEnd ∧ w.bellEnd.bel.running = false := by
  unfold Hw.bellEnd
  split
  · exact ⟨(w.bellBuild_rings 3).trans (.of_same rfl rfl rfl), rfl⟩
  · next off => exact ⟨.of_same rfl rfl rfl, eq_false_of_ne_true off⟩

/-- CONFIG is entered with its tests; the Keepers, Bell and the cascade stay. -/
theorem Hw.enterConfig_ends (cause : Nat) (pins lamp : Option Nat) :
    (w.toMode .config cause).Winds (w.enterConfig cause pins lamp) := by
  unfold Hw.enterConfig
  refine ((Hw.calBoundary_winds _).trans (Hw.configTests_winds _ pins lamp)).trans ?_
  exact .of_same rfl rfl rfl rfl rfl rfl rfl

/-- Out of GUARD with everything off. -/
theorem Hw.leaveGuard_ends (pins lamp : Option Nat) :
    (w.leaveGuard pins lamp).dev.mode = .config ∧ (w.leaveGuard pins lamp).kpr.lines = 0 ∧ (w.leaveGuard pins lamp).kpr.frozen = 0 ∧
      (w.leaveGuard pins lamp).bel.running = false ∧ (w.leaveGuard pins lamp).bcn.inhibited = true ∧ (w.leaveGuard pins lamp).cas = w.cas ∧
      (w.Mild → (w.leaveGuard pins lamp).Mild) := by
  obtain ⟨lines, frozen, cas, mild⟩ := w.guardEnd_off
  obtain ⟨rings, silent⟩ := w.guardEnd.bellEnd_rings
  obtain ⟨winds, inhibited⟩ := w.guardEnd.bellEnd.inhibit_winds
  have ended := Hw.scanEnd_winds w.guardEnd.bellEnd.inhibit
  unfold Hw.leaveGuard
  dsimp only
  revert lines frozen cas mild rings silent winds inhibited ended
  generalize w.guardEnd.bellEnd.inhibit.scanEnd = c
  generalize w.guardEnd.bellEnd.inhibit = b
  generalize w.guardEnd.bellEnd = a
  generalize w.guardEnd = g
  intro lines frozen cas mild rings silent winds inhibited ended
  have after := Hw.enterConfig_ends { c with tnd := { c.tnd with unpinDue := true } } 5 pins lamp
  revert after
  generalize Hw.enterConfig _ 5 pins lamp = v
  intro after
  have before := winds.trans ended
  have kpr : v.kpr = g.kpr := after.kpr.trans (before.kpr.trans rings.kpr)
  refine ⟨congrArg DevSt.mode after.dev, kpr ▸ lines, kpr ▸ frozen, ?_, after.inhibited (ended.inhibited inhibited), ?_, fun m x hx => ?_⟩
  · exact (congrArg BelSt.running (after.bel.trans before.bel)).trans silent
  · exact after.cas.trans (before.cas.trans (rings.cas.trans cas))
  · exact (List.mem_append.mp hx).elim (after.mild (before.mild (rings.mild (mild m))) x) fun k => by rw [List.mem_singleton.mp k]; rfl

end

end Sys2Proof.Machine
end

section
/-! PROOFS. The protection opcodes but SAFE_ACK (R60, R377, R395, R400, R405). -/

namespace Sys2Proof.Machine

/-- BELL_CTL.TRANSPORT is written beside the others. -/
theorem putBit_zero_transport {x : Nat} (b : Bool) (h : x < 2 ^ 32) :
    putBit x 0 b < 2 ^ 32 ∧ bits (putBit x 0 b) 0 1 = b2n b ∧ bits (putBit x 0 b) 8 8 = bits x 8 8 := by
  have odd := Nat.mod_two_eq_one_iff_testBit_zero (x := x)
  have even := Nat.mod_two_eq_zero_iff_testBit_zero (x := x)
  unfold putBit bits b2n
  cases h0 : x.testBit 0 <;> cases b <;> simp [h0] at odd even ⊢ <;> omega

section Guarding
variable {s : State} {h : Hdr} {x : Session}

/-! ### GUARD_MAP_LOAD and GUARD_MAP_READ -/

section Load
variable {n : U32} {k : U8} {d : List Byte} (t : s.Takes (.guardMapLoad h ⟨0, 0, n⟩ k d) h x) (fits : d.length ≤ n.toNat)
  (free : s.cmd.held [srcKpr 0] = false) (slots : s.cmd.liveOps < 4)
include t fits free slots

theorem guardMapLoad_begins (set : k.toNat ≤ 7) :
    s.Begins (.guardMapLoad h ⟨0, 0, n⟩ k d) h x { s.accepted with free := s.hw.free + 2 }
      { stepOp 0x70 [srcKpr 0] [k.toNat] with state := if d.length = n.toNat then 1 else 0, bytes := d, total := n.toNat } := by
  refine State.begins_of (hw := s.accepted) t (Nat.ne_of_beq_eq_false rfl) rfl ?_ t.2.quiet rfl (.inr (.inl rfl))
  rw [if_neg (Nat.not_lt.mpr set), State.upload_first (by rw [State.took_held]; exact free) (by simpa using slots) fits, le_one_map k.isLt]
  rfl

theorem guardMapLoad_badSet (set : 7 < k.toNat) : s.Served (.guardMapLoad h ⟨0, 0, n⟩ k d) h x s.accepted (ansBad 28) := by
  refine State.served_read t (Nat.ne_of_beq_eq_false rfl) rfl ?_ rfl
  rw [if_pos set]
  exact State.upload_refused (by rw [State.took_held]; exact free) (by simpa using slots) fits _

end Load

section Read
variable {k : U8} {o : U32} (t : s.Takes (.guardMapRead h k o) h x)
include t

theorem guardMapRead_badSet (set : 7 < k.toNat) : s.Served (.guardMapRead h k o) h x s.accepted (ansBad 16) :=
  State.served_read t (Nat.ne_of_beq_eq_false rfl) rfl (if_pos set) rfl

variable (set : k.toNat ≤ 7)
include set

theorem guardMapRead_beyond (far : (s.hw.kpr.map k.toNat).length < o.toNat) : s.Served (.guardMapRead h k o) h x s.accepted (ansBad 17) :=
  State.served_read t (Nat.ne_of_beq_eq_false rfl) rfl ((if_neg (Nat.not_lt.mpr set)).trans (if_pos far)) rfl

theorem guardMapRead_served (near : o.toNat ≤ (s.hw.kpr.map k.toNat).length) : s.Served (.guardMapRead h k o) h x s.accepted
    (ansOk (le 4 (s.hw.kpr.setCrc k.toNat) ++ ((s.hw.kpr.map k.toNat).drop o.toNat).take (payloadLimit h.tr - 4))) :=
  State.served_read t (Nat.ne_of_beq_eq_false rfl) rfl ((if_neg (Nat.not_lt.mpr set)).trans (if_neg (Nat.not_lt.mpr near))) rfl

end Read

/-! ### GUARD_LEAVE -/

/-- A command that is taken by a device which stands alone, before it and after. -/
theorem State.exec_answers_single {c : Instr} {body : Caller → State → State × Ans} {t : State} {a : Ans} (k : s.Takes c h x) (hop : opOf c ≠ 0x01)
    (he : exec c s = .next (s.serve c h (rowOf c) (paramsOf c) body)) (hb : body (callerOf h (s.took h x).cmd) (s.took h x) = (t, a))
    (hw : a.wait = none) (single : t.hw.inCascade = false) : exec c s = .next (t.drain.reply h (opOf c) a) := by
  have ho := rowOf_op c h k.1
  rw [he, State.serve_done k.2 (ho ▸ hop) hb hw (.inl single), ho]

/-- A device that stands alone checks its own guard CRC only (R378). -/
theorem Hw.mapCrcOk_alone {w : Hw} (crc : Nat) (h : w.inCascade = false) : w.mapCrcOk crc = (w, decide (crc = w.guardCrc)) := by
  unfold Hw.mapCrcOk
  refine if_pos ?_
  rcases Bool.and_eq_false_iff.mp h with k | k
  · exact .inl (by simpa using k)
  · exact .inr (by simpa using k)

theorem Hw.inCascade_of_cas {a b : Hw} (h : b.cas = a.cas) : b.inCascade = a.inCascade := by
  simp only [Hw.inCascade, Hw.isSecondary, Hw.serves, Hw.secd, h]

/-- GUARD left in a step of the hardware. -/
theorem State.hwStep_leaves (u : State) (f : Hw → Hw) (e : f u.hw = u.hw.leaveGuard none none) (q : u.hw.outbox = []) :
    (u.hwStep f).hw.dev.mode = .config ∧ (u.hwStep f).hw.kpr.lines = 0 ∧ (u.hwStep f).hw.kpr.frozen = 0 ∧ (u.hwStep f).hw.bel.running = false ∧
      (u.hwStep f).hw.bcn.inhibited = true ∧ (u.hwStep f).hw.cas = u.hw.cas := by
  obtain ⟨mode, lines, frozen, silent, inhibited, cas, mild⟩ := u.hw.leaveGuard_ends none none
  rw [← e] at mode lines frozen silent inhibited cas mild
  obtain ⟨l, n, g, k, w⟩ := State.hwStep_logOnly u f (mild (Hw.mild_of_empty q))
  rw [w]
  exact ⟨mode, lines, frozen, silent, inhibited, cas⟩

section Leave
variable {c : U32} (t : s.Takes (.guardLeave h c) h x)
include t

theorem guardLeave_refused (other : c.toNat ≠ s.hw.guardCrc) : s.Served (.guardLeave h c) h x s.accepted (ansPre 0x0010) := by
  have single : (s.took h x).hw.inCascade = false := t.2.header.alone rfl
  refine State.served_read t (Nat.ne_of_beq_eq_false rfl) rfl ?_ rfl
  dsimp only
  rw [Hw.mapCrcOk_alone _ single]
  exact if_pos (ne_true_of_eq_false (decide_eq_false other))

theorem guardLeave_leaves (same : c.toNat = s.hw.guardCrc) : ∃ u, exec (.guardLeave h c) s = .next u ∧ u.hw.dev.mode = .config ∧ u.hw.kpr.lines = 0 ∧
    u.hw.kpr.frozen = 0 ∧ u.hw.bel.running = false ∧ u.hw.bcn.inhibited = true ∧
    (u.cmd.out h.tr).getLast? = some (s.hw.replyTo 0x72 h (ansOk [])) := by
  have single : (s.took h x).hw.inCascade = false := t.2.header.alone rfl
  have left := State.hwStep_leaves (s.took h x) (fun hw => if hw.inCascade then (hw.drive2 0 0).announceMode .config else hw.leaveGuard none none)
    (if_neg (ne_true_of_eq_false single)) t.2.quiet
  have matches' : c.toNat = (s.took h x).hw.guardCrc := same
  obtain ⟨mode, lines, frozen, silent, inhibited, cas⟩ := left
  refine ⟨_, State.exec_answers_single (a := ansOk []) t (Nat.ne_of_beq_eq_false rfl) rfl ?_ rfl ((Hw.inCascade_of_cas cas).trans single), ?_⟩
  · dsimp only
    rw [Hw.mapCrcOk_alone _ single]
    exact if_neg (by simp [matches'])
  · rw [State.drain_quiet _ (State.hwStep_outbox _ _)]
    refine ⟨mode, lines, frozen, silent, inhibited, ?_⟩
    rw [State.out_reply, List.getLast?_concat]
    unfold Hw.replyTo
    rw [cas]
    rfl

end Leave

/-! ### The status opcodes -/

theorem keeperStatus_served (t : s.Takes (.keeperStatus h) h x) : s.Served (.keeperStatus h) h x s.accepted (ansOk s.hw.keeperStatus) :=
  State.served_read t (Nat.ne_of_beq_eq_false rfl) rfl rfl rfl

theorem bellStatus_served (t : s.Takes (.bellStatus h) h x) : s.Served (.bellStatus h) h x s.accepted (ansOk s.hw.bellStatus) :=
  State.served_read t (Nat.ne_of_beq_eq_false rfl) rfl rfl rfl

theorem safetyConfig_served (t : s.Takes (.safetyConfig h) h x) : s.Served (.safetyConfig h) h x s.accepted (ansOk s.hw.safetyConfig) :=
  State.served_read t (Nat.ne_of_beq_eq_false rfl) rfl rfl rfl

/-! ### BELL_CONFIG -/

/-- The connection is unique where no other device is. -/
theorem Hw.identTaken_alone {w : Hw} (connection : Nat) (h : w.inCascade = false) : w.identTaken connection = (w, false) :=
  if_neg fun k => ne_true_of_eq_false h k.1

/-- The transport of a good configuration is SPI or Ethernet. -/
theorem Hw.bellBad_transport {w : Hw} {e k : Nat} (good : w.bellBad e k = none) : k ≤ 1 := by
  unfold Hw.bellBad at good
  split at good
  · cases good
  · split at good
    · cases good
    · next h => exact Nat.not_lt.mp fun k => h (.inl k)

/-- BELL_CONFIG writes three registers (R400). -/
def Hw.bellWritten (w : Hw) (connection expect : U32) (transport : U8) : Hw :=
  let w := (w.setReg 0x00890004 connection.toNat).setReg 0x00890008 expect.toNat
  w.setReg 0x00890000 (putBit (w.reg 0x00890000) 0 (decide (transport = 1)))

/-- The address that frames go to while none is configured. -/
def Hw.bellTo (w : Hw) (p : Peer) : Hw := { w with bel := { w.bel with src := p } }

theorem Hw.reg_lt (w : Hw) (a : Nat) : w.reg a < 2 ^ 32 := BitVec.isLt _

theorem wordOf_toNat (v : U32) : (wordOf v.toNat).toNat = v.toNat := by
  rw [wordOf, BitVec.toNat_ofNat, Nat.mod_eq_of_lt v.isLt]

theorem Hw.bellWritten_regs (w : Hw) (connection expect : U32) {transport : U8} (h : transport.toNat ≤ 1) :
    (w.bellWritten connection expect transport).reg 0x00890004 = connection.toNat ∧
    (w.bellWritten connection expect transport).reg 0x00890008 = expect.toNat ∧
    bits ((w.bellWritten connection expect transport).reg 0x00890000) 0 1 = transport.toNat ∧
    bits ((w.bellWritten connection expect transport).reg 0x00890000) 8 8 = bits (w.reg 0x00890000) 8 8 := by
  have one : b2n (decide (transport = 1)) = transport.toNat := by
    by_cases e : transport = 1
    · rw [e]
      rfl
    · have : transport.toNat ≠ 1 := fun k => e (BitVec.eq_of_toNat_eq k)
      rw [decide_eq_false e]
      exact (Nat.lt_one_iff.mp (by omega)).symm
  have before : ((w.setReg 0x00890004 connection.toNat).setReg 0x00890008 expect.toNat).reg 0x00890000 = w.reg 0x00890000 := by
    rw [Hw.reg_setReg_ne _ _ _ _ (by decide), Hw.reg_setReg_ne _ _ _ _ (by decide)]
  obtain ⟨small, own, others⟩ := putBit_zero_transport (decide (transport = 1)) (w.reg_lt 0x00890000)
  have ctl : (w.bellWritten connection expect transport).reg 0x00890000 = putBit (w.reg 0x00890000) 0 (decide (transport = 1)) := by
    rw [Hw.bellWritten, Hw.reg_setReg_same, before, wordOf, BitVec.toNat_ofNat, Nat.mod_eq_of_lt small]
  refine ⟨?_, ?_, ?_, ?_⟩
  · rw [Hw.bellWritten, Hw.reg_setReg_ne _ _ _ _ (by decide), Hw.reg_setReg_ne _ _ _ _ (by decide), Hw.reg_setReg_same, wordOf_toNat]
  · rw [Hw.bellWritten, Hw.reg_setReg_ne _ _ _ _ (by decide), Hw.reg_setReg_same, wordOf_toNat]
  · rw [ctl, own, one]
  · rw [ctl, others]

/-- The address of the Ethernet session that sent the command (R407). -/
theorem took_ethPeer (h : Hdr) (x : Session) (d : Peer) :
    (if h.tr = .eth then (((s.took h x).cmd.session .eth).map (·.peer)).getD {} else d) = if h.tr = .eth then x.peer else d := by
  split
  · next e =>
    rw [State.took_cmd, e, CmdSt.session_setSession]
    rfl
  · rfl

section Bell
variable {c e : U32} {k : U8} (t : s.Takes (.bellConfig h c e k) h x) (alone : s.hw.inCascade = false)
include t alone

theorem bellConfig_bad {o : Nat} (bad : s.hw.bellBad e.toNat k.toNat = some o) : s.Served (.bellConfig h c e k) h x s.accepted (ansBad (16 + o)) := by
  have single : (s.took h x).hw.inCascade = false := alone
  have worse : (s.took h x).hw.bellBad e.toNat k.toNat = some o := bad
  refine State.served_read t (Nat.ne_of_beq_eq_false rfl) rfl ?_ rfl
  dsimp only
  rw [Hw.identTaken_alone _ single]
  dsimp only
  rw [worse]
  rfl

theorem bellConfig_served (good : s.hw.bellBad e.toNat k.toNat = none) : ∃ u, exec (.bellConfig h c e k) s = .next u ∧
    u.hw.reg 0x00890004 = c.toNat ∧ u.hw.reg 0x00890008 = e.toNat ∧ bits (u.hw.reg 0x00890000) 0 1 = k.toNat ∧
    bits (u.hw.reg 0x00890000) 8 8 = bits (s.hw.reg 0x00890000) 8 8 ∧ u.hw.bel = { s.hw.bel with src := if h.tr = .eth then x.peer else s.hw.bel.src } ∧
    (u.cmd.out h.tr).getLast? = some (s.hw.replyTo 0x75 h (ansOk [])) := by
  have single : (s.took h x).hw.inCascade = false := alone
  have better : (s.took h x).hw.bellBad e.toNat k.toNat = none := good
  obtain ⟨connection, expect, transport, skips⟩ := (s.took h x).hw.bellWritten_regs c e (Hw.bellBad_transport good)
  have run := State.exec_answers_quiet (a := ansOk [])
    (t := { s.took h x with hw := ((s.took h x).hw.bellWritten c e k).bellTo (if h.tr = .eth then x.peer else s.hw.bel.src) })
    t (Nat.ne_of_beq_eq_false rfl) rfl rfl ?_ rfl t.2.quiet
  · refine ⟨_, run, connection, expect, transport, skips, rfl, ?_⟩
    rw [State.out_reply, List.getLast?_concat]
    rfl
  · dsimp only
    rw [Hw.identTaken_alone _ single]
    dsimp only
    rw [better]
    exact congrArg (fun p => (({ s.took h x with hw := ((s.took h x).hw.bellWritten c e k).bellTo p } : State), ansOk [])) (took_ethPeer h x _)

end Bell

end Guarding

end Sys2Proof.Machine
end

section
/-! SUPPORT. What leaves every wait and every packet pending: events sent, operations ended, mild signals delivered (R36, R52). -/

namespace Sys2Proof.Machine

/-- Each transport has a session as before, which waits as before; its packets stand before those sent since. -/
structure CmdSt.Informs (c d : CmdSt) : Prop where
  waits : ∀ t, (d.session t).map (·.wait) = (c.session t).map (·.wait)
  told : ∀ t, c.out t <+: d.out t

section
variable {c d e : CmdSt}

theorem CmdSt.Informs.refl (c : CmdSt) : c.Informs c := ⟨fun _ => rfl, fun _ => List.prefix_refl _⟩

theorem CmdSt.Informs.trans (h : c.Informs d) (k : d.Informs e) : c.Informs e :=
  ⟨fun t => (k.waits t).trans (h.waits t), fun t => (h.told t).trans (k.told t)⟩

theorem CmdSt.Informs.ite {p : Prop} [Decidable p] (h : c.Informs d) (k : c.Informs e) : c.Informs (if p then d else e) := by
  split
  · exact h
  · exact k

theorem CmdSt.Informs.foldl {A : Type} {f : CmdSt → A → CmdSt} (h : ∀ (c : CmdSt) (a : A), c.Informs (f c a)) (l : List A) (c : CmdSt) : c.Informs (l.foldl f c) := by
  induction l generalizing c with
  | nil => exact .refl c
  | cons a l ih => exact (h c a).trans (ih _)

/-- A change to neither sessions nor packets. -/
theorem CmdSt.Informs.of_same (hs : ∀ t, d.session t = c.session t) (ho : ∀ t, d.out t = c.out t) : c.Informs d :=
  ⟨fun t => by rw [hs], fun t => by rw [ho]⟩

theorem CmdSt.Informs.waiting (h : c.Informs d) {t : Transport} {x : Session} (hx : c.session t = some x) :
    ∃ y, d.session t = some y ∧ y.wait = x.wait := by
  have w := h.waits t
  rw [hx] at w
  exact Option.map_eq_some_iff.mp w

end

section
variable (c : CmdSt)

theorem CmdSt.push_informs (t : Transport) (p : Packet) : c.Informs (c.push t p) := by
  refine ⟨fun u => by simp [CmdSt.push], fun u => ?_⟩
  by_cases e : u = t
  · rw [e, CmdSt.out_push]
    exact List.prefix_append _ _
  · rw [CmdSt.push, CmdSt.out_setOut_ne _ e]

/-- A session that still waits as it did. -/
theorem CmdSt.setSession_informs {t : Transport} {x y : Session} (hx : c.session t = some x) (hw : y.wait = x.wait) : c.Informs (c.setSession t (some y)) := by
  refine ⟨fun u => ?_, fun u => by simp⟩
  by_cases e : u = t
  · rw [e, CmdSt.session_setSession, hx, Option.map_some, Option.map_some, hw]
  · rw [CmdSt.session_setSession_ne _ _ e]

theorem CmdSt.sendEvent_informs {t : Transport} {x y : Session} (hx : c.session t = some x) (hw : y.wait = x.wait) (index opcode : Nat)
    (payload : List Byte) (urgent : Bool) : c.Informs (c.sendEvent t y index opcode payload urgent) :=
  (c.setSession_informs (y := { y with eventSeq := (y.eventSeq + 1) % 65536 }) hx hw).trans (CmdSt.push_informs _ _ _)

theorem CmdSt.relayEvent_informs (index opcode : Nat) (payload : List Byte) (urgent : Bool) : c.Informs (c.relayEvent index opcode payload urgent) :=
  .ite (.refl c) (c.push_informs _ _)

theorem CmdSt.deliver_informs (index : Nat) (r : Record) (t : Transport) : c.Informs (c.deliver index r t) := by
  unfold CmdSt.deliver
  split
  · exact .refl c
  · next x hx =>
    refine .ite (.refl c) (.ite (c.setSession_informs hx rfl) (c.sendEvent_informs hx ?_ _ _ _ _))
    rfl

theorem CmdSt.deliverAll_informs (index : Nat) (r : Record) (relay : Bool) : c.Informs (c.deliverAll index r relay) := by
  have all := CmdSt.Informs.foldl (fun c t => CmdSt.deliver_informs c index r t) transports c
  exact .ite (all.trans (CmdSt.relayEvent_informs _ _ _ _ _)) all

theorem CmdSt.updOp_informs (k : Nat) (f : StepOp → StepOp) : c.Informs (c.updOp k f) :=
  .of_same (fun t => by simp) (fun t => by simp)

end

section
variable (s : State)

theorem State.finishOp_informs (k status : Nat) (result : List Byte) : s.cmd.Informs (s.finishOp k status result).cmd := by
  unfold State.finishOp
  split
  · exact .refl _
  · next o _ =>
    dsimp only
    generalize (if result.length ≤ 48 then _ else _) = payload
    refine CmdSt.Informs.trans (d := s.cmd.updOp k ?f) ?ended ?told
    case told =>
      split
      · next t x hx => exact CmdSt.sendEvent_informs _ ((CmdSt.updOp_session _ _ _ _).trans (CmdSt.ownerOf_session hx)) rfl _ _ _ _
      · exact .ite (CmdSt.relayEvent_informs _ _ _ _ _) (.refl _)
    case ended => exact CmdSt.updOp_informs s.cmd k _

theorem State.endOp_informs (k status : Nat) (result : List Byte) : s.cmd.Informs (s.endOp k status result).cmd := by
  unfold State.endOp
  split
  · exact .refl _
  · split
    · exact .refl _
    · split
      · exact s.finishOp_informs _ _ _
      · exact CmdSt.updOp_informs _ _ _

theorem State.endIf_informs (p : Prop) [Decidable p] (k status : Nat) (result : List Byte) :
    s.cmd.Informs (if p then s.endOp k status result else s).cmd := by
  split
  · exact s.endOp_informs _ _ _
  · exact .refl _

theorem State.foldOps_informs {f : State → StepOp → State} (h : ∀ (u : State) (o : StepOp), u.cmd.Informs (f u o).cmd) (l : List StepOp) :
    s.cmd.Informs (l.foldl f s).cmd := by
  induction l generalizing s with
  | nil => exact .refl _
  | cons o l ih => exact (h s o).trans (ih _)

theorem State.endAuto_informs : s.cmd.Informs s.endAuto.cmd := s.foldOps_informs (fun u _ => u.endIf_informs _ _ _ _) _

theorem State.endNotAllowed_informs : s.cmd.Informs s.endNotAllowed.cmd := s.foldOps_informs (fun u _ => u.endIf_informs _ _ _ _) _

theorem State.signal_informs {x : Signal} (h : x.mild = true) : s.cmd.Informs (s.signal x).cmd := by
  cases x with
  | record r =>
    have told := s.cmd.deliverAll_informs s.hw.cas.index r s.hw.isSecondary
    have ended := State.endAuto_informs { s with cmd := s.cmd.deliverAll s.hw.cas.index r s.hw.isSecondary }
    unfold State.signal
    dsimp only
    split
    · exact told.trans ended
    · exact told
  | modeLeft => exact s.endNotAllowed_informs
  | stopInTransition => exact s.foldOps_informs (fun u o => u.endIf_informs _ _ _ _) _
  | transportDown t => cases h
  | laneBack since =>
    refine ⟨fun t => ?_, fun t => by cases t <;> exact List.prefix_refl _⟩
    cases t
    · rfl
    · exact Option.map_map _ _ _
    · rfl
  | deviceReset => cases h

theorem State.signals_informs (l : List Signal) (h : ∀ x ∈ l, x.mild = true) (u : State) : u.cmd.Informs (l.foldl State.signal u).cmd := by
  induction l generalizing u with
  | nil => exact .refl _
  | cons x l ih => exact (u.signal_informs (h x (by simp))).trans (ih (fun y hy => h y (by simp [hy])) _)

theorem drainGo_informs (n : Nat) (u : State) (h : u.hw.Mild) : u.cmd.Informs (drainGo n u).cmd := by
  induction n generalizing u with
  | zero => exact .refl _
  | succ n ih =>
    refine (State.signals_informs u.hw.outbox h { u with hw := { u.hw with outbox := [] } }).trans (ih _ (Hw.mild_of_empty ?_))
    obtain ⟨_, _, _, _, e⟩ := State.signals_logOnly u.hw.outbox h { u with hw := { u.hw with outbox := [] } }
    rw [e]

theorem State.drain_informs (h : s.hw.Mild) : s.cmd.Informs s.drain.cmd := drainGo_informs 3 s h

end

end Sys2Proof.Machine
end

section
/-! PROOFS. SAFE_ACK and the end of the self-test that answers it (R392). -/

namespace Sys2Proof.Machine

/-! ### SAFE_ACK -/

/-- No SAFE fault has been raised since. -/
def Hw.safeAfresh (w : Hw) : Hw := { w with kpr := { w.kpr with safeSince := false } }

/-- What waits on an open session stands in it. -/
theorem State.await_session {s : State} {t : Transport} {x : Session} (hx : s.cmd.session t = some x) (w : Wait) (p : Packet) :
    s.await t w p = s.putSession t (some { x with wait := some (w, p) }) := by
  unfold State.await
  rw [hx]

section Ack
variable {s : State} {h : Hdr} {x : Session} {c : U16} (t : s.Takes (.safeAck h c) h x)
include t

theorem safeAck_unknown (none' : s.hw.latchedBy c.toNat = none) : s.Served (.safeAck h c) h x s.accepted (ansBad 16) := by
  have same : (s.took h x).hw.latchedBy c.toNat = none := none'
  refine State.served_read t (Nat.ne_of_beq_eq_false rfl) rfl ?_ rfl
  dsimp only
  rw [same]

variable {f : FaultId} (latched : s.hw.latchedBy c.toNat = some f)
include latched

theorem safeAck_persists (known : f.code % 1024 ≠ 10) (cause : s.hw.kprCause f = true) : s.Served (.safeAck h c) h x s.accepted (ansPre 0x0702) := by
  have same : (s.took h x).hw.latchedBy c.toNat = some f := latched
  refine State.served_read t (Nat.ne_of_beq_eq_false rfl) rfl ?_ rfl
  dsimp only
  rw [same]
  exact if_pos ⟨known, cause⟩

theorem safeAck_waits (gone : f.code % 1024 = 10 ∨ s.hw.kprCause f = false) : ∃ u y p, exec (.safeAck h c) s = .next u ∧
    u.hw = { s.accepted with kpr := { s.hw.kpr with safeSince := false } } ∧ u.cmd.session h.tr = some y ∧ y.wait = some (.safeAck c.toNat, p) ∧
    u.cmd.out h.tr = s.cmd.out h.tr := by
  have same : (s.took h x).hw.latchedBy c.toNat = some f := latched
  have waits : ¬ (f.code % 1024 ≠ 10 ∧ (s.took h x).hw.kprCause f = true) := by
    rintro ⟨known, cause⟩
    exact gone.elim known fun k => ne_true_of_eq_false k cause
  obtain ⟨p, e⟩ := State.exec_waits (t := { s.took h x with hw := (s.took h x).hw.safeAfresh }) (a := { wait := some (.safeAck c.toNat) })
    (w := .safeAck c.toNat) t (Nat.ne_of_beq_eq_false rfl) rfl rfl (by
      dsimp only
      rw [same]
      refine (if_neg waits).trans ?_
      rw [State.hwStep_quiet _ _ t.2.quiet]
      rfl) rfl
  have quiet : ({ s.took h x with hw := (s.took h x).hw.safeAfresh } : State).hw.outbox = [] := t.2.quiet
  have mine : ({ s.took h x with hw := (s.took h x).hw.safeAfresh } : State).cmd.session h.tr = some ((x.heard s.hw.ticks).accept h) :=
    CmdSt.session_setSession _ _ _
  rw [State.drain_quiet _ quiet, State.await_session mine] at e
  exact ⟨_, _, p, e, rfl, CmdSt.session_setSession _ _ _, rfl, by simp⟩

end Ack

/-! ### The end of the self-test -/

/-- The result of the self-test is noted. -/
def Hw.tested (w : Hw) (a b : Bool) : Hw :=
  { w with kpr := { w.kpr with a := { w.kpr.a with selfBad := !a }, b := { w.kpr.b with selfBad := !b } } }

/-- The self-test is the cause of fault 10 alone. -/
theorem Hw.kprCause_tested (w : Hw) (a b : Bool) {f : FaultId} (h : f.code % 1024 ≠ 10) : (w.tested a b).kprCause f = w.kprCause f := by
  have clock : ∀ k, ((w.tested a b).keeper k).clockBad = (w.keeper k).clockBad := fun k => by
    unfold Hw.keeper KprSt.keeper
    split
    · rfl
    · rfl
  unfold Hw.kprCause
  dsimp only
  split
  case h_9 => exact clock _
  case h_10 n => exact absurd n h
  all_goals rfl

theorem Hw.clearFault_rings (w : Hw) (f : FaultId) : w.Rings (w.clearFault f) := by
  unfold Hw.clearFault
  dsimp only
  refine .ite (.trans ?_ (Hw.post_records _ _ _ _ _).winds.rings) (.of_same rfl rfl rfl)
  exact .of_same rfl rfl rfl

/-- The faults latched stay, and the outputs that await a restart. -/
structure Hw.Holds (a b : Hw) : Prop where
  latched : b.kpr.latched = a.kpr.latched
  restart : b.kpr.needRestart = a.kpr.needRestart
  mild : a.Mild → b.Mild

theorem Hw.Holds.trans {a b c : Hw} (h : a.Holds b) (k : b.Holds c) : a.Holds c :=
  ⟨k.latched.trans h.latched, k.restart.trans h.restart, fun m => k.mild (h.mild m)⟩

theorem Hw.Holds.foldl {A : Type} {f : Hw → A → Hw} (h : ∀ (w : Hw) (x : A), w.Holds (f w x)) (l : List A) (w : Hw) : w.Holds (l.foldl f w) := by
  induction l generalizing w with
  | nil => exact ⟨rfl, rfl, id⟩
  | cons x l ih => exact (h w x).trans (ih _)

theorem Hw.Rings.holds {a b : Hw} (h : a.Rings b) : a.Holds b := ⟨by rw [h.kpr], by rw [h.kpr], h.mild⟩

section
variable (w : Hw)

theorem Hw.drive2_holds (a b : Nat) : w.Holds (w.drive2 a b) := by
  obtain ⟨e, l, h, -, mild⟩ := w.drive2_tells a b
  rw [h]
  exact ⟨rfl, rfl, fun m x hx => (List.mem_append.mp hx).elim (m x) (mild x)⟩

theorem Hw.protect_holds : w.Holds w.protect := by
  unfold Hw.protect
  dsimp only
  refine .trans (w.drive2_holds _ _) (.foldl (fun v _ => ?_) _ _)
  exact ⟨rfl, rfl, id⟩

theorem Hw.reviewCond_holds : w.Holds w.reviewCond := ⟨rfl, rfl, id⟩

/-- The vote moves the outputs, not the latched faults. -/
theorem Hw.vote_holds : w.Holds w.vote := w.protect_holds.trans (Hw.reviewCond_holds _)

end

/-- The fault acknowledged is latched no more; with the last of them both outputs await a restart (R392). -/
def Hw.acknowledged (w : Hw) (f : FaultId) : Hw :=
  { w with kpr := { w.kpr with
      latched := w.kpr.latched.filter (fun x => decide (x ≠ f))
      needRestart := if (w.kpr.latched.filter (fun x => decide (x ≠ f))).isEmpty then 3 else w.kpr.needRestart } }

theorem Hw.acknowledged_holds (w : Hw) (f : FaultId) : (w.acknowledged f).Holds ((w.acknowledged f).clearFault f).vote :=
  (Hw.clearFault_rings _ f).holds.trans (Hw.vote_holds _)

/-- What is answered at the end of a self-test. -/
def ackAnswer (r : Option Nat) : Ans := r.elim (ansOk []) ansPre

section
variable {w : Hw} {code : Nat} {f : FaultId} (latched : w.latchedBy code = some f) (a b : Bool)
include latched

theorem Hw.safeAckEnd_raised (since : w.kpr.safeSince = true) : w.safeAckEnd code a b = (w.tested a b, some 0x0702) := by
  have same : (w.tested a b).latchedBy code = some f := latched
  change (match (w.tested a b).latchedBy code with | none => _ | some f => _) = _
  rw [same]
  exact if_pos (.inl since)

variable (known : f.code % 1024 ≠ 10) (gone : w.kprCause f = false) (since : w.kpr.safeSince = false)
include known gone since

theorem Hw.safeAckEnd_gone : w.safeAckEnd code a b = if ¬ a ∨ ¬ b then (w.tested a b, some 0x0703)
    else if w.pins.readback ≠ 0 then (w.tested a b, some 0x0704) else ((((w.tested a b).acknowledged f).clearFault f).vote, none) := by
  have same : (w.tested a b).latchedBy code = some f := latched
  have clear : ¬ ((w.tested a b).kpr.safeSince = true ∨ (f.code % 1024 ≠ 10 ∧ (w.tested a b).kprCause f = true)) := by
    rw [w.kprCause_tested a b known, gone]
    simp [show (w.tested a b).kpr.safeSince = false from since]
  change (match (w.tested a b).latchedBy code with | none => _ | some f => _) = _
  rw [same]
  exact if_neg clear

/-- With both Keepers passing and the readback low the fault is acknowledged, else it stays latched. -/
theorem Hw.safeAckEnd_ends (mild : w.Mild) :
    ∃ v r, w.safeAckEnd code a b = (v, r) ∧ v.Mild ∧ (ackAnswer r).status = (if a && b && decide (w.pins.readback = 0) then 0x00 else 0x06) ∧
      v.kpr.latched = (if a && b && decide (w.pins.readback = 0) then w.kpr.latched.filter (fun x => decide (x ≠ f)) else w.kpr.latched) ∧
      (a = true → b = true → w.pins.readback = 0 → w.kpr.latched = [f] → v.kpr.needRestart = 3) := by
  have e := Hw.safeAckEnd_gone latched a b known gone since
  by_cases failed : ¬ a = true ∨ ¬ b = true
  · have refused : ¬ (a && b && decide (w.pins.readback = 0)) = true := by
      rcases failed with k | k <;> simp [k]
    refine ⟨_, _, e.trans (if_pos failed), mild, (if_neg refused).symm, (if_neg refused).symm, fun ka kb => absurd failed (by simp [ka, kb])⟩
  · by_cases high : w.pins.readback = 0
    · have accepted : (a && b && decide (w.pins.readback = 0)) = true := by simpa [high] using failed
      have held := (w.tested a b).acknowledged_holds f
      refine ⟨_, _, e.trans ((if_neg failed).trans (if_neg (not_not.mpr high))), held.mild mild, (if_pos accepted).symm, ?_, fun _ _ _ one => ?_⟩
      · rw [if_pos accepted]
        exact held.latched
      · have none' : (w.tested a b).kpr.latched.filter (fun x => decide (x ≠ f)) = [] := by
          rw [show (w.tested a b).kpr.latched = [f] from one]
          simp
        exact held.restart.trans (if_pos (by rw [none']; rfl))
    · have refused : ¬ (a && b && decide (w.pins.readback = 0)) = true := by simp [high]
      exact ⟨_, _, e.trans ((if_neg failed).trans (if_pos high)), mild, (if_neg refused).symm, (if_neg refused).symm, fun _ _ k => absurd k high⟩

end

/-! ### The session that waits -/

/-- Nothing on the transport waits for the end of a self-test. -/
def CmdSt.AckIdle (c : CmdSt) (t : Transport) : Prop := ∀ y, c.session t = some y → ∀ n p, y.wait ≠ some (.safeAck n, p)

theorem State.ackSession_idle {s : State} {t : Transport} (a b : Bool) (h : s.cmd.AckIdle t) : s.ackSession a b t = s := by
  unfold State.ackSession
  split
  · rfl
  · next x hx =>
    split
    · next n p hw => exact absurd hw (h x hx n p)
    · rfl

theorem exec_safeAckSelftestEnd_idle {s : State} (a b : Bool) (h : ∀ t, s.cmd.AckIdle t) : exec (.safeAckSelftestEnd a b) s = .next s := by
  change Host.Outcome.next (((s.ackSession a b .spi).ackSession a b .link).ackSession a b .eth) = _
  rw [State.ackSession_idle a b (h .spi), State.ackSession_idle a b (h .link), State.ackSession_idle a b (h .eth)]

/-- One session waits: it alone is answered. -/
theorem exec_safeAckSelftestEnd_one {s u : State} {t : Transport} (a b : Bool) (e : s.ackSession a b t = u)
    (before : ∀ v, v ≠ t → s.cmd.AckIdle v) (after : ∀ v, v ≠ t → u.cmd.AckIdle v) : exec (.safeAckSelftestEnd a b) s = .next u := by
  change Host.Outcome.next (((s.ackSession a b .spi).ackSession a b .link).ackSession a b .eth) = _
  cases t with
  | spi => rw [e, State.ackSession_idle a b (after .link (by decide)), State.ackSession_idle a b (after .eth (by decide))]
  | link => rw [State.ackSession_idle a b (before .spi (by decide)), e, State.ackSession_idle a b (after .eth (by decide))]
  | eth => rw [State.ackSession_idle a b (before .spi (by decide)), State.ackSession_idle a b (before .link (by decide)), e]

/-- The end of a wait on an open session: its reply goes out. -/
theorem State.endWait_ends (s : State) (t : Transport) (x : Session) (p : Packet) (a : Ans) :
    (∃ z, (s.endWait t x p a).cmd.session t = some z ∧ z.wait = none) ∧ (∀ v, v ≠ t → (s.endWait t x p a).cmd.session v = s.cmd.session v) ∧
      (s.endWait t x p a).cmd.out t = s.cmd.out t ++ [{ p with status := a.status, payload := a.data }] := by
  have open' : (s.cmd.setSession t (some { x with wait := none })).session t = some { x with wait := none } := CmdSt.session_setSession _ _ _
  unfold State.endWait CmdSt.answer
  dsimp only
  rw [open']
  refine ⟨⟨_, by simp only [CmdSt.push, CmdSt.session_setOut, Option.elim, CmdSt.session_setSession]; rfl, rfl⟩, fun v h => ?_, by simp⟩
  simp [CmdSt.push, CmdSt.session_setSession_ne _ _ h]

section
variable {s : State} {t : Transport} {y : Session} {c : Nat} {p : Packet} {f : FaultId} (mine : s.cmd.session t = some y)
  (waits : y.wait = some (.safeAck c, p)) (latched : s.hw.latchedBy c = some f)
include mine waits latched

theorem State.ackSession_answers {a b : Bool} {v : Hw} {r : Option Nat} (e : s.hw.safeAckEnd c a b = (v, r)) :
    s.ackSession a b t = (({ s with hw := v } : State).endWait t y p (ackAnswer r)).drain := by
  unfold State.ackSession
  rw [mine]
  dsimp only
  rw [waits]
  dsimp only
  rw [latched]
  dsimp only
  rw [e]
  cases r <;> rfl

/-- The session waits no more, its reply is pending, and the other sessions wait as before. -/
theorem exec_safeAckSelftestEnd_answers {a b : Bool} {v : Hw} {r : Option Nat} (e : s.hw.safeAckEnd c a b = (v, r)) (mild : v.Mild)
    (others : ∀ t' y', t' ≠ t → s.cmd.session t' = some y' → y'.wait = none) :
    ∃ u z, exec (.safeAckSelftestEnd a b) s = .next u ∧ u.cmd.session t = some z ∧ z.wait = none ∧ u.hw.kpr = v.kpr ∧
      ∃ q ∈ u.cmd.out t, q.tag = p.tag ∧ q.status = (ackAnswer r).status ∧ q.payload = (ackAnswer r).data := by
  obtain ⟨⟨z, own, ended⟩, rest, out⟩ := State.endWait_ends { s with hw := v } t y p (ackAnswer r)
  have informs := State.drain_informs (({ s with hw := v } : State).endWait t y p (ackAnswer r)) mild
  obtain ⟨l, n, g, k, log⟩ := State.drain_logOnly (({ s with hw := v } : State).endWait t y p (ackAnswer r)) mild
  obtain ⟨z', own', same⟩ := informs.waiting own
  have idle : ∀ t', t' ≠ t → s.cmd.AckIdle t' := fun t' h y' hy n q hw => by simp [others t' y' h hy] at hw
  have pending := (informs.told t).subset (by rw [out]; exact List.mem_append_right _ (List.mem_singleton_self _))
  refine ⟨_, z', exec_safeAckSelftestEnd_one a b (State.ackSession_answers mine waits latched e) idle (fun t' h x' hx n q hw => ?_), own',
    same.trans ended, by rw [log]; rfl, _, pending, rfl, rfl, rfl⟩
  have w := informs.waits t'
  rw [rest t' h, hx] at w
  obtain ⟨y', hy, hw'⟩ := Option.map_eq_some_iff.mp w.symm
  exact idle t' h y' hy n q (hw'.trans hw)

end

/-- Settles O46: the rows by their meaning on the accepted state, GUARD left by what leaving does, and the wait of SAFE_ACK ended by the self-test. -/
theorem guardCommandsAreServed : Obligations.GuardCommandsAreServed := by
  unfold Obligations.GuardCommandsAreServed
  intro s h x
  refine ⟨fun n k d t fits free slots => ⟨guardMapLoad_begins t fits free slots, guardMapLoad_badSet t fits free slots⟩,
    fun k o t => ⟨guardMapRead_badSet t, guardMapRead_beyond t, guardMapRead_served t⟩, fun c t => ⟨guardLeave_refused t, guardLeave_leaves t⟩,
    fun c t => ⟨safeAck_unknown t, fun f => safeAck_persists t, fun f => safeAck_waits t⟩, keeperStatus_served, bellStatus_served, safetyConfig_served,
    fun c e w t alone => ⟨fun o => bellConfig_bad t alone, bellConfig_served t alone⟩,
    fun a b none' => exec_safeAckSelftestEnd_idle a b none', ?_, ?_⟩
  · intro a b t y c p f quiet mine waits others latched known gone since
    obtain ⟨v, r, e, mild, status, left, restart⟩ := Hw.safeAckEnd_ends latched a b known gone since (Hw.mild_of_empty quiet)
    obtain ⟨u, z, run, own, ended, kpr, q, pending, tag, told, -⟩ := exec_safeAckSelftestEnd_answers mine waits latched e mild others
    exact ⟨u, z, run, own, ended, kpr ▸ left, fun ka kb low one => kpr ▸ restart ka kb low one, q, pending, tag, told.trans status⟩
  · intro a b t y c p f quiet mine waits others latched since
    have e := Hw.safeAckEnd_raised latched a b since
    obtain ⟨u, z, run, own, ended, kpr, q, pending, tag, told, data⟩ :=
      exec_safeAckSelftestEnd_answers mine waits latched e (Hw.mild_of_empty quiet) others
    exact ⟨u, z, run, own, ended, (congrArg KprSt.latched kpr).trans rfl, q, pending, tag, told, data⟩

end Sys2Proof.Machine
end

section
/-! PROOFS. A decision of Beacon: what the pattern engine and the set-up leave, and when a shot joins those in flight (R81 to R106). -/

namespace Sys2Proof.Machine

/-! ### The pattern engine -/

/-- The engine changes its own place, its ramps and the writes that wait. -/
theorem patternAdvance_shape (n : Nat) (w : Hw) :
    ∃ p l, patternAdvance n w = { w with bcn := { w.bcn with pattern := p, writes := l } } := by
  induction n generalizing w with
  | zero => exact ⟨_, _, rfl⟩
  | succ n ih =>
    have go : ∀ (p : Pattern) (l : List ProfileWrite),
        ∃ p' l', patternAdvance n { w with bcn := { w.bcn with pattern := p, writes := l } } =
          { w with bcn := { w.bcn with pattern := p', writes := l' } } := fun p l => ih _
    unfold patternAdvance
    split
    · exact ⟨_, _, rfl⟩
    · dsimp only
      split
      · exact go _ _
      · exact go _ _
      · exact go _ _
      · exact go _ _
      · split
        · exact ⟨_, _, rfl⟩
        · exact go _ _
      · exact ⟨_, _, rfl⟩

theorem Hw.patternWait_shape (w : Hw) : ∃ p l, w.patternWait = { w with bcn := { w.bcn with pattern := p, writes := l } } := by
  unfold Hw.patternWait
  split
  · split
    · exact patternAdvance_shape _ { w with bcn := { w.bcn with pattern := _ } }
    · exact ⟨_, _, rfl⟩
  · exact ⟨_, _, rfl⟩

theorem Hw.patternShot_shape (w : Hw) (t : Target) (a : Option Nat) (granted : Bool) :
    ∃ p l, w.patternShot t a granted = { w with bcn := { w.bcn with pattern := p, writes := l } } := by
  unfold Hw.patternShot
  split
  · dsimp only
    split
    · exact ⟨_, _, rfl⟩
    · exact patternAdvance_shape _ { w with bcn := { w.bcn with pattern := _ } }
  · exact ⟨_, _, rfl⟩

/-! ### Shots in flight -/

/-- No shot joins or leaves those in flight, and nothing is handed over. -/
structure Hw.SameFlights (a b : Hw) : Prop where
  flights : ∀ k, (b.bank k).inFlight = (a.bank k).inFlight
  outbox : b.outbox = a.outbox

theorem Hw.SameFlights.refl (a : Hw) : a.SameFlights a := ⟨fun _ => rfl, rfl⟩

theorem Hw.SameFlights.trans {a b c : Hw} (h : a.SameFlights b) (k : b.SameFlights c) : a.SameFlights c :=
  ⟨fun i => (k.flights i).trans (h.flights i), k.outbox.trans h.outbox⟩

theorem Hw.SameFlights.of_banks {a b : Hw} (h : b.bcn.banks = a.bcn.banks) (o : b.outbox = a.outbox) : a.SameFlights b :=
  ⟨fun k => by rw [Hw.bank, h, Hw.bank], o⟩

theorem Hw.SameFlights.foldl {A : Type} {f : Hw → A → Hw} (h : ∀ (w : Hw) (x : A), w.SameFlights (f w x)) (l : List A) (w : Hw) :
    w.SameFlights (l.foldl f w) := by
  induction l generalizing w with
  | nil => exact .refl w
  | cons x l ih => exact (h w x).trans (ih _)

theorem Hw.setBank_sameFlights (w : Hw) (b : Nat) (k : BeaconBank) (h : k.inFlight = (w.bank b).inFlight) : w.SameFlights (w.setBank b k) := by
  refine ⟨fun i => ?_, rfl⟩
  by_cases e : b = i
  · subst e
    rw [Hw.bank_setBank, h]
  · rw [Hw.bank_setBank_ne w b i k e]

theorem Hw.setAhead_sameFlights (w : Hw) (b : Nat) (x : Option Bool) : w.SameFlights (w.setAhead b x) := by
  unfold Hw.setAhead
  split
  · exact .of_banks rfl rfl
  · exact w.setBank_sameFlights b _ rfl

theorem Hw.approach_sameFlights (w : Hw) : w.SameFlights w.approach := by
  unfold Hw.approach
  split
  · exact .refl w
  · refine .foldl (fun v b => ?_) _ w
    split
    · split
      · exact .refl v
      · exact v.setAhead_sameFlights b _
    · exact .refl v

/-- The set-up of a shot moves its fire tick, not its energy or its cells. -/
theorem Hw.startSetUp_keeps (w : Hw) (x : Shot) (t prev : Nat) :
    w.SameFlights (w.startSetUp x t prev).1 ∧ (w.startSetUp x t prev).2.cells = x.cells ∧ (w.startSetUp x t prev).2.dq = x.dq := by
  refine ⟨?_, rfl, rfl⟩
  unfold Hw.startSetUp
  dsimp only
  refine .of_banks ?_ ?_ <;> (repeat' split) <;> rfl

/-! ### The decision -/

/-- One shot more for bank `b` at most, and that within every limit of every cell it lights. -/
def Hw.GrantsWithin (a : Hw) (b : Nat) (c : Hw) : Prop :=
  ∀ k, (c.bank k).inFlight = (a.bank k).inFlight ∨
    (k = b ∧ (a.bank b).inFlight.length < 4 ∧ a.suppresses b = false ∧ ∃ x, (c.bank b).inFlight = (a.bank b).inFlight ++ [x] ∧
      ∀ w < 3, ∀ c ∈ x.cells, a.lnt.used16 b w c + 16 * (reservedIn (a.bank b).inFlight c + x.dq) ≤ 65536 * a.lnt.limit b w)

theorem Hw.SameFlights.grantsWithin {a c : Hw} (h : a.SameFlights c) (b : Nat) : a.GrantsWithin b c := fun k => .inl (h.flights k)

/-- A shot that Lantern grants joins its bank's. -/
theorem Hw.GrantsWithin.of_grant {a v : Hw} {b : Nat} {x : Shot} (same : a.SameFlights v) (four : (a.bank b).inFlight.length < 4)
    (granted : a.grants b x.dq x.cells = true) :
    a.GrantsWithin b (v.setBank b { v.bank b with inFlight := (v.bank b).inFlight ++ [x] }) := by
  intro k
  by_cases e : b = k
  · subst e
    simp only [Hw.grants, Bool.and_eq_true, Bool.not_eq_true', List.all_eq_true, List.mem_range, LntSt.fits, decide_eq_true_eq] at granted
    obtain ⟨free, fits⟩ := granted
    refine .inr ⟨rfl, four, free, x, ?_, fits⟩
    rw [Hw.bank_setBank, same.flights]
  · exact .inl ((congrArg BeaconBank.inFlight (Hw.bank_setBank_ne v b k _ e)).trans (same.flights k))

theorem Hw.putShot_decides (w : Hw) (x : Shot) (a : Nat) (four : (w.bank x.bank).inFlight.length < 4) :
    w.GrantsWithin x.bank (w.putShot x a) ∧ (w.putShot x a).outbox = w.outbox := by
  unfold Hw.putShot
  extract_lets b k
  split
  extract_lets _ v _ free
  split
  extract_lets z
  have noted : w.SameFlights v := w.setBank_sameFlights b _ rfl
  refine iteInduction (motive := fun u => w.GrantsWithin b u ∧ u.outbox = w.outbox) (fun granted => ?_) fun _ =>
    ⟨(noted.trans (.of_banks rfl rfl)).grantsWithin b, rfl⟩
  have granted : w.grants b z.dq z.cells = true := by
    unfold Hw.grants at granted ⊢
    rwa [show (mget {} v.bcn.banks b).inFlight = (mget {} w.bcn.banks b).inFlight from noted.flights b] at granted
  have freed : w.SameFlights free := noted.trans (.of_banks rfl rfl)
  split
  next u y e =>
  split at e
  · cases e
    exact ⟨.of_grant freed four granted, rfl⟩
  · obtain ⟨same, cells, dq⟩ := free.startSetUp_keeps z _ k.earliest
    rw [e] at same cells dq
    have set := freed.trans same
    exact ⟨.of_grant set four (by rw [cells, dq]; exact granted), set.outbox⟩

theorem Hw.decideShot_decides (w : Hw) (b : Nat) (t : Target) (pattern : Bool) :
    w.GrantsWithin b (w.decideShot b t pattern) ∧ (w.decideShot b t pattern).outbox = w.outbox := by
  have skipped : ∀ x, w.GrantsWithin b (w.skipShot x) ∧ (w.skipShot x).outbox = w.outbox := fun x =>
    ⟨Hw.SameFlights.grantsWithin (.of_banks rfl rfl) b, rfl⟩
  unfold Hw.decideShot
  dsimp only
  split
  · refine iteInduction (motive := fun v => w.GrantsWithin b v ∧ v.outbox = w.outbox) (fun _ => skipped _) fun h => ?_
    exact w.putShot_decides (w.protoShot b t pattern) _ (Nat.not_le.mp fun full => h (.inr (.inl full)))
  · exact skipped _

theorem Hw.GrantsWithin.then {a v u : Hw} {b : Nat} (h : a.GrantsWithin b v) (k : v.SameFlights u) : a.GrantsWithin b u := fun i => by
  rw [k.flights, k.flights]
  exact h i

theorem Hw.patternShot_sameFlights (w : Hw) (t : Target) (a : Option Nat) (granted : Bool) : w.SameFlights (w.patternShot t a granted) := by
  obtain ⟨p, l, e⟩ := w.patternShot_shape t a granted
  rw [e]
  exact .of_banks rfl rfl

/-- The program's next shot decided, and the engine moved on. -/
def Hw.decidePattern (w : Hw) (b : Nat) (t : Target) : Hw :=
  (w.decideShot b t true).patternShot t (w.driverOf b t.row)
    (decide ((w.bank b).inFlight.length < ((w.decideShot b t true).bank b).inFlight.length))

theorem Hw.decidePattern_decides (w : Hw) (b : Nat) (t : Target) :
    w.GrantsWithin b (w.decidePattern b t) ∧ (w.decidePattern b t).outbox = w.outbox := by
  obtain ⟨within, quiet⟩ := w.decideShot_decides b t true
  have same := (w.decideShot b t true).patternShot_sameFlights t (w.driverOf b t.row)
    (decide ((w.bank b).inFlight.length < ((w.decideShot b t true).bank b).inFlight.length))
  exact ⟨within.then same, same.outbox.trans quiet⟩

/-- SHOT_DECISION is made in SCAN, GUARD and SERVICE, of a bank that exists, while nothing inhibits the emitters (R64, R81). -/
def Hw.decides (w : Hw) (b : Nat) : Prop :=
  (w.dev.mode = .scan ∨ w.dev.mode = .guard ∨ w.dev.mode = .service) ∧ w.bcn.inhibited = false ∧ b < 4

theorem shotDecision_idle {w : Hw} {b : Nat} (h : ¬ w.decides b) : shotDecision b w = w := by
  refine if_pos ?_
  unfold Hw.decides at h
  rw [← Bool.not_eq_true, ← Nat.not_le] at h
  tauto

theorem shotDecision_live {w : Hw} {b : Nat} (h : w.decides b) : shotDecision b w = match w.bcn.source with
    | 0 => match w.gridTarget b with
      | some (t, p) => if w.crosses (w.aheadOf b) t.aim 0
        then ({ w with tnd := { w.tnd with grid := mset {} w.tnd.grid b p } } : Hw).decideShot b t false else w.approach
      | none => w
    | 1 => match w.patternWait.patternTarget b with
      | some t => if w.patternWait.crosses w.patternWait.bcn.pattern.ahead t.aim 0 then w.patternWait.decidePattern b t
        else w.patternWait.approach
      | none => w.patternWait.approach
    | _ => w := by
  refine if_neg ?_
  obtain ⟨live, free, bank⟩ := h
  simp only [free, Nat.not_le.mpr bank]
  tauto

theorem shotDecision_decides (w : Hw) (b : Nat) : w.GrantsWithin b (shotDecision b w) ∧ (shotDecision b w).outbox = w.outbox := by
  have kept : ∀ v, w.SameFlights v → w.GrantsWithin b v ∧ v.outbox = w.outbox := fun v same => ⟨same.grantsWithin b, same.outbox⟩
  by_cases h : w.decides b
  · rw [shotDecision_live h]
    split
    · split
      · split
        · exact Hw.decideShot_decides { w with tnd := { w.tnd with grid := _ } } b _ false
        · exact kept _ w.approach_sameFlights
      · exact kept _ (.refl w)
    · obtain ⟨p, l, e⟩ := w.patternWait_shape
      have looked : w.SameFlights w.patternWait.approach := by
        refine .trans ?_ w.patternWait.approach_sameFlights
        rw [e]
        exact .of_banks rfl rfl
      split
      · split
        · rw [e]
          exact Hw.decidePattern_decides { w with bcn := { w.bcn with pattern := p, writes := l } } b _
        · exact kept _ looked
      · exact kept _ looked
    · exact kept _ (.refl w)
  · rw [shotDecision_idle h]
    exact kept _ (.refl w)

/-- Nothing is handed over in a decision. -/
theorem exec_shotDecision {s : State} (q : s.hw.outbox = []) (b : Nat) :
    exec (.shotDecision b) s = .next (if s.hw.awake 15 then { s with hw := shotDecision b s.hw } else s) := by
  change (.next (s.clocked 15 (shotDecision b)) : Out) = _
  unfold State.clocked
  rw [State.hwStep_quiet s _ ((shotDecision_decides s.hw b).2.trans q)]

/-- Settles O20: a decision puts at most one shot in flight, and only as Lantern's grant rule lets it. -/
theorem shotDecisionsObeyLantern : Obligations.ShotDecisionsObeyLantern := by
  intro s b q
  rw [exec_shotDecision q b]
  refine ⟨fun h => ?_, fun t e => ?_, fun mode off free bank => ?_⟩
  · have idle : ¬ s.hw.decides b := by
      rintro ⟨live, free, -⟩
      rcases h with ⟨h1, h2, h3⟩ | h
      · tauto
      · simp [h] at free
    rw [shotDecision_idle idle, ite_self]
  · cases e
    split
    · exact (shotDecision_decides s.hw b).1
    · exact Hw.SameFlights.grantsWithin (.refl s.hw) b
  · have live : s.hw.decides b := ⟨by simpa using mode, free, bank⟩
    have on : s.hw.awake 15 = true := by
      rcases live.1 with m | m | m <;> simp [Hw.awake, off, m]
    rw [if_pos on, shotDecision_live live]
    refine ⟨fun g p source target reached => ?_, fun g source stays target reached => ?_⟩
    · rw [source, target]
      simp only [reached, if_true]
    · rw [source, stays, target]
      simp only [reached, if_true]
      rfl

end Sys2Proof.Machine
end

section
/-! PROOFS. Resets, wakes and the boot steps (R55, R66 to R79). -/

namespace Sys2Proof.Machine

/-! ### Resets and wakes -/

/-- A reset as Watch hears of it: the command side and the images are gone, the queue stays. -/
theorem State.hwStep_reset (s : State) (f : Hw → Hw) {w : Hw} (e : f s.hw = { w with outbox := [.deviceReset] }) :
    s.hwStep f = { pending := s.pending, hw := { w with outbox := [] } } := by
  unfold State.hwStep
  rw [e]
  rfl

/-- A reset that is no power-up: everything is gone but what the always-on island, the Pantry, the pins and the straps hold. -/
theorem State.hwStep_restart (s : State) (f : Hw → Hw) {cause : Nat} (hc : cause ≠ 0) {d : DevSt} {w : Hw}
    (same : w = { s.hw with free := w.free }) (e : f s.hw = { w.restart cause with dev := d }) :
    s.hwStep f = resetTo s (islandAfter s cause) (strapsAfter s) d w.free := by
  have left : { w.restart cause with dev := d } = { (resetTo s (islandAfter s cause) (strapsAfter s) d w.free).hw with outbox := [.deviceReset] } := by
    rw [same]
    simp only [Hw.restart, if_neg hc]
    rfl
  exact State.hwStep_reset s f (e.trans left)

theorem State.hwStep_restarts (s : State) (f : Hw → Hw) {cause : Nat} (hc : cause ≠ 0) {w : Hw} (same : w = { s.hw with free := w.free })
    (e : f s.hw = w.restart cause) :
    s.hwStep f = resetTo s (islandAfter s cause) (strapsAfter s) { step := 1, startCause := cause } w.free :=
  State.hwStep_restart s f hc same e

theorem exec_powerUp (s : State) : exec .powerUp s = .next (resetTo s { resetCause := 1 } {} { step := 1 } s.hw.free) := rfl

section
variable (s : State)

theorem exec_resetNLow_resets {ns : Nat} (live : s.hw.dev.inReset = false) (long : 10000 ≤ ns) :
    exec (.resetNLow ns) s = .next (resetTo s (islandAfter s 1) (strapsAfter s)
      { step := 1, startCause := 1, inReset := true, hotHold := s.hw.dev.hotHold } (s.hw.free + 1)) := by
  refine congrArg _ (State.hwStep_restart s (resetNLow ns) (by decide) (w := s.hw.draw.2) rfl (if_neg ?_))
  rintro (h | h | ⟨h, -⟩)
  · exact Bool.noConfusion (live.symm.trans h)
  · omega
  · omega

theorem exec_resetNLow_ignored {ns : Nat} (q : s.hw.outbox = []) (short : ns < 2000) :
    exec (.resetNLow ns) s = .next { s with hw := s.hw.draw.2 } :=
  next_hwStep (f := resetNLow ns) (if_pos (.inr (.inl short))) q

theorem exec_resetNRise {x : Nat} (q : s.hw.outbox = []) (low : s.hw.dev.inReset = true) :
    exec (.resetNRise x) s = .next { s with hw := { s.hw with
      dev := { s.hw.dev with inReset := false }, cas := { s.hw.cas with index := x % 4 } } } :=
  next_hwStep (f := resetNRise x) (if_pos low) q

theorem exec_coreSupplyFault_resets {us : Nat} (live : s.hw.held = false) (long : 10 < us) :
    exec (.coreSupplyFault us) s =
      .next (resetTo s (islandAfter s 4) (strapsAfter s) { step := 1, startCause := 4 } s.hw.free) :=
  congrArg _ (State.hwStep_restarts s (coreSupplyFault us) (by decide) (w := s.hw) rfl
    (if_neg (not_or.mpr ⟨ne_true_of_eq_false live, Nat.not_le.mpr long⟩)))

theorem exec_coreSupplyFault_ignored {us : Nat} (q : s.hw.outbox = []) (short : us ≤ 10) : exec (.coreSupplyFault us) s = .next s :=
  next_hwStep (f := coreSupplyFault us) (if_pos (.inr short)) q

theorem exec_wakeEdge_wakes {ns : Nat} (asleep : s.hw.dev.mode = .dormant) (live : s.hw.held = false) (armed : tb s.hw.dev.wakeMask 0 = true)
    (long : 1000 ≤ ns) :
    exec (.wakeEdge ns) s = .next (resetTo s (islandAfter s 3) (strapsAfter s) { step := 1, startCause := 3 } s.hw.free) :=
  congrArg _ (State.hwStep_restarts s (wakeEdge ns) (by decide) (w := s.hw) rfl
    (if_pos ⟨asleep, ne_true_of_eq_false live, armed, long⟩))

theorem exec_wakeEdge_ignored {ns : Nat} (q : s.hw.outbox = []) (h : s.hw.dev.mode ≠ .dormant ∨ tb s.hw.dev.wakeMask 0 = false ∨ ns < 1000) :
    exec (.wakeEdge ns) s = .next s := by
  refine next_hwStep (f := wakeEdge ns) (if_neg ?_) q
  rintro ⟨asleep, -, armed, long⟩
  rcases h with h | h | h
  · exact h asleep
  · exact Bool.noConfusion (h.symm.trans armed)
  · omega

theorem exec_lane0Wake_wakes {us mv : Nat} (asleep : s.hw.dev.mode = .dormant) (live : s.hw.held = false) (armed : tb s.hw.dev.wakeMask 1 = true)
    (long : 10 ≤ us) (swing : 100 < mv) :
    exec (.lane0WakeActivity us mv) s =
      .next (resetTo s (islandAfter s 3) (strapsAfter s) { step := 1, startCause := 3 } (s.hw.free + 1)) := by
  refine congrArg _ (State.hwStep_restarts s (lane0Wake us mv) (by decide) (w := s.hw.draw.2) rfl (if_pos ?_))
  exact ⟨asleep, ne_true_of_eq_false live, armed, long, .inl swing⟩

theorem exec_lane0Wake_ignored {us mv : Nat} (q : s.hw.outbox = [])
    (h : s.hw.dev.mode ≠ .dormant ∨ tb s.hw.dev.wakeMask 1 = false ∨ us < 10 ∨ mv < 50) :
    exec (.lane0WakeActivity us mv) s = .next { s with hw := s.hw.draw.2 } := by
  refine next_hwStep (f := lane0Wake us mv) (if_neg ?_) q
  rintro ⟨asleep, -, armed, long, swing⟩
  rcases h with h | h | h | h
  · exact h asleep
  · exact Bool.noConfusion (h.symm.trans armed)
  · omega
  · omega

end

/-- Settles O15: a reset keeps what its own state function keeps, and Watch forgets its command side. -/
theorem resetCausesStartBoot : Obligations.ResetCausesStartBoot := fun s =>
  ⟨exec_powerUp s, fun _ => exec_resetNLow_resets s, fun _ => exec_resetNLow_ignored s, fun _ => exec_resetNRise s,
    fun _ => exec_coreSupplyFault_resets s, fun _ => exec_coreSupplyFault_ignored s, fun _ => exec_wakeEdge_wakes s,
    fun _ => exec_wakeEdge_ignored s, fun _ _ => exec_lane0Wake_wakes s, fun _ _ => exec_lane0Wake_ignored s⟩

/-! ### The boot steps -/

/-- Neither halted nor held, BOOT judges an attempt of its step. -/
def Hw.booting (w : Hw) : Prop := w.dev.mode = .boot ∧ w.dev.halted = false ∧ w.held = false

section
variable {w : Hw} {o : BootObs} (run : w.booting)
include run

theorem Hw.booting_idle : ¬ (w.dev.mode ≠ .boot ∨ w.dev.halted = true ∨ w.held = true) := by
  obtain ⟨boot, going, live⟩ := run
  simp [boot, going, live]

/-- S01 counts the start as soon as the rails are good, and waits until they are. -/
theorem bootAttempt_first (first : w.dev.step = 1) : bootAttempt o false w = if w.attemptOk o false
    then ({ w with
      pantry := { w.pantry with boot := { w.pantry.boot with start := (w.pantry.boot.start + 1) % 65536 } }
      on := { w.on with restartSeenOpen := w.on.restartSeenOpen || !w.pins.restart } } : Hw).endStep .main (w.dev.attempt + 1) 0 false 0
    else w :=
  (if_neg (Hw.booting_idle run)).trans (if_pos first)

/-- S02 and S06 attempt their main path three times, whatever their count, and have no alternate. -/
theorem bootAttempt_thrice (late : Bool) (step : w.dev.step = 2 ∨ w.dev.step = 6) : bootAttempt o late w =
    if w.attemptOk o late then w.finish .main o (w.dev.attempt + 1) 0 false
    else if w.dev.attempt + 1 < 3 then w.tryAgain (w.dev.attempt + 1)
    else w.finish .halted o (w.dev.attempt + 1) (min 3 (w.pantry.boot.count w.dev.step + 1)) true := by
  unfold bootAttempt
  rw [if_neg (Hw.booting_idle run)]
  rcases step with e | e <;> simp [e, stepAlways, stepAlternate, stepAttempts]

end

theorem Hw.stepLate_fuses {w : Hw} (step : w.dev.step = 2) (a b : Bool) : w.stepLate a = w.stepLate b := by
  simp [Hw.stepLate, Hw.stepTimeout, step]

theorem Hw.attemptOk_late (w : Hw) (o : BootObs) : w.attemptOk o true = false := by simp [Hw.attemptOk]

/-- Before S07 ends an entry of the Logbook waits in the always-on island (R78). -/
theorem Hw.writeLog_early {w : Hw} (early : w.dev.step ≤ 6) (e : List Byte) :
    w.writeLog e = { w with on := { w.on with heldLog := w.on.heldLog ++ [e] } } := if_pos early

section
variable {w v : Hw} {tries : Nat}

/-- A step that fails for good: its fault, its count and the alternate as given, its entry, and BOOT halts there (R74 to R77). -/
theorem Hw.endStep_halted (c detail : Nat) (alt : Bool) (h1 : w.dev.step ≠ 1) (h7 : w.dev.step ≠ 7) (h14 : w.dev.step ≠ 14)
    (raised : ({ w with dev := { w.dev with attempt := tries, degraded := true } } : Hw).raise
      (fid srcDev (stepClass w.dev.step) (100 + w.dev.step)) [] = v) :
    let u := (v.setBootCount w.dev.step c alt).writeLog
      (logEntry (if w.dev.step ≤ 5 then 0 else v.clk.time.toNat) w.dev.step 4 tries c (v.setBootCount w.dev.step c alt).pantry.boot.start detail)
    w.endStep .halted tries c alt detail = { u with dev := { u.dev with stopFails := 0, halted := true } } := by
  subst raised
  unfold Hw.endStep
  simp only [h1, h7, h14, reduceCtorEq, or_self, false_and, if_false, if_true]
  rfl

/-- S02 that fails for good. -/
theorem Hw.finish_fuses (o : BootObs) (c : Nat) (step : w.dev.step = 2)
    (raised : ({ w with dev := { w.dev with attempt := tries, degraded := true } } : Hw).raise (fid srcDev 3 102) [] = v) (same : v.dev.step = 2) :
    w.finish .halted o tries c true = { v with
      on := { v.on with heldLog := v.on.heldLog ++ [logEntry 0 2 4 tries c v.pantry.boot.start 0] }
      pantry := { v.pantry with boot := (v.pantry.boot.setCount 2 c).setAlt 2 true }
      dev := { v.dev with bootFails := putBits v.pantry.boot.counts 2 2 c, stopFails := 0, halted := true } } := by
  have body : w.finish .halted o tries c true = w.endStep .halted tries c true 0 := by
    unfold Hw.finish
    rw [step]
    rfl
  have early : (v.setBootCount 2 c true).dev.step ≤ 6 := same.le.trans (by decide)
  have ended := Hw.endStep_halted (w := w) (v := v) (tries := tries) c 0 true (by omega) (by omega) (by omega) (by rw [step]; exact raised)
  rw [step, Hw.writeLog_early early] at ended
  exact body.trans ended

end

/-- S06 on its main path: the reference locked, device time at 0, its entry, and S07 begins (R74, R135). -/
theorem Hw.finish_clock (w : Hw) (o : BootObs) (tries : Nat) (step : w.dev.step = 6) :
    w.finish .main o tries 0 false = { w.bootClock with
      on := { w.on with heldLog := w.on.heldLog ++ [logEntry 0 6 0 tries 0 w.pantry.boot.start 0] }
      pantry := { w.pantry with boot := (w.pantry.boot.setCount 6 0).setAlt 6 false }
      dev := { w.dev with bootFails := putBits w.pantry.boot.counts 10 2 0, step := 7, attempt := 0, stopFails := 0, stepAt := w.ticks } } := by
  have body : w.finish .main o tries 0 false = w.bootClock.endStep .main tries 0 false 0 := by
    unfold Hw.finish
    rw [step]
    rfl
  have at6 : w.bootClock.dev.step = 6 := step
  rw [body]
  unfold Hw.endStep
  rw [at6]
  have early : (({ w.bootClock with dev := { w.bootClock.dev with attempt := tries } } : Hw).setBootCount 6 0 false).dev.step ≤ 6 := step.le
  simp only [true_or, if_true, OfNat.ofNat_ne_one, if_false, reduceCtorEq, and_false]
  rw [Hw.writeLog_early early]
  rfl

/-- S01 ends: its entry waits in the always-on island, and S02 begins (R78). -/
theorem Hw.endStep_first (w : Hw) (tries : Nat) (step : w.dev.step = 1) :
    w.endStep .main tries 0 false 0 = { w with
      on := { w.on with heldLog := w.on.heldLog ++ [logEntry 0 1 0 tries 0 w.pantry.boot.start 0] }
      dev := { w.dev with step := 2, attempt := 0, stopFails := 0, stepAt := w.ticks } } := by
  have early : ({ w with dev := { w.dev with attempt := tries } } : Hw).dev.step ≤ 6 := step.le.trans (by decide)
  unfold Hw.endStep
  rw [step]
  simp only [true_or, if_true, if_false, reduceCtorEq, and_false]
  rw [Hw.writeLog_early early]
  rfl

section
variable {s : State} {o : BootObs} (q : s.hw.outbox = []) (run : s.hw.booting)
include q run

theorem exec_firstStep_done (step : s.hw.dev.step = 1) (good : o.ok = true) (clean : s.hw.dev.stopFails = 0) :
    ∃ t, exec (.bootStepComplete o) s = .next t ∧
      t.hw.pantry = { s.hw.pantry with boot := { s.hw.pantry.boot with start := (s.hw.pantry.boot.start + 1) % 65536 } } ∧
      t.hw.on.heldLog = s.hw.on.heldLog ++ [logEntry 0 1 0 (s.hw.dev.attempt + 1) 0 ((s.hw.pantry.boot.start + 1) % 65536) 0] ∧
      t.hw.dev = { s.hw.dev with step := 2, attempt := 0, stopFails := 0, stepAt := s.hw.ticks } ∧ t.cmd = s.cmd ∧ t.pending = s.pending := by
  have reached : s.hw.attemptOk o false = true := by simp [Hw.attemptOk, step, good, clean]
  have done := bootAttempt_first (o := o) run step
  rw [if_pos reached, Hw.endStep_first _ _ (by exact step)] at done
  exact ⟨_, next_hwStep done q, rfl, rfl, rfl, rfl, rfl⟩

theorem exec_firstStep_waits (step : s.hw.dev.step = 1) (bad : o.ok = false) : exec (.bootStepComplete o) s = .next s := by
  have missed : ¬ s.hw.attemptOk o false = true := by simp [Hw.attemptOk, bad]
  exact next_hwStep ((bootAttempt_first run step).trans (if_neg missed)) q

omit run in
theorem exec_bootStepTimeout_early (early : s.hw.stepLate (s.hw.lanesMissing o.items) = false) : exec (.bootStepTimeout o) s = .next s :=
  next_hwStep (f := bootTimeout o) (if_pos (.inr (ne_true_of_eq_false early))) q

omit q in
/-- An attempt of S02 that timed out: the next one, and after the third the end. -/
theorem bootTimeout_fuses (step : s.hw.dev.step = 2) (late : s.hw.stepLate true = true) : bootTimeout o s.hw =
    if s.hw.dev.attempt + 1 < 3 then s.hw.tryAgain (s.hw.dev.attempt + 1)
    else s.hw.finish .halted o (s.hw.dev.attempt + 1) (min 3 (s.hw.pantry.boot.count 2 + 1)) true := by
  have ended : ¬ (s.hw.dev.step = 1 ∨ ¬ s.hw.stepLate (s.hw.lanesMissing o.items) = true) := by
    rw [Hw.stepLate_fuses step _ true, late, step]
    decide
  refine (if_neg ended).trans ((bootAttempt_thrice run true (.inl step)).trans ?_)
  rw [if_neg (ne_true_of_eq_false (Hw.attemptOk_late s.hw o)), step]

theorem exec_fuses_again (step : s.hw.dev.step = 2) (late : s.hw.stepLate true = true) (few : s.hw.dev.attempt < 2) :
    exec (.bootStepTimeout o) s =
      .next { s with hw := { s.hw with dev := { s.hw.dev with attempt := s.hw.dev.attempt + 1, stopFails := 0, stepAt := s.hw.ticks } } } :=
  next_hwStep ((bootTimeout_fuses run step late).trans (if_pos (by omega))) q

theorem exec_fuses_halt (step : s.hw.dev.step = 2) (late : s.hw.stepLate true = true) (third : s.hw.dev.attempt = 2)
    (room : s.hw.evt.table.length < 1024) :
    ∃ t, exec (.bootStepTimeout o) s = .next t ∧ t.hw.dev.halted = true ∧ t.hw.dev.step = 2 ∧
      t.hw.isRaised (fid srcDev 3 102) = true ∧ t.hw.dev.degraded = true ∧
      t.hw.pantry.boot.counts = putBits s.hw.pantry.boot.counts 2 2 (min 3 (s.hw.pantry.boot.count 2 + 1)) ∧
      t.hw.pantry.boot.altNext = putBit s.hw.pantry.boot.altNext 2 true := by
  obtain ⟨r, e, k, raised, table⟩ := Hw.raise_boot
    { s.hw with dev := { s.hw.dev with attempt := s.hw.dev.attempt + 1, degraded := true } } (fid srcDev 3 102) [] (by decide) run.1
  have done := (bootTimeout_fuses run step late).trans ((if_neg (by omega)).trans
    (Hw.finish_fuses o (min 3 (s.hw.pantry.boot.count 2 + 1)) step raised step))
  have mild : (bootTimeout o s.hw).Mild := by
    rw [done]
    intro x hx
    rw [q] at hx
    obtain rfl := List.mem_singleton.mp hx
    rfl
  obtain ⟨l, g, n, f, left⟩ := State.hwStep_logOnly s (bootTimeout o) mild
  refine ⟨_, rfl, ?_⟩
  rw [left, done]
  refine ⟨rfl, step, ?_, rfl, rfl, rfl⟩
  unfold Hw.isRaised
  dsimp only
  rw [table]
  exact raiseEntry_raised _ _ _ (.inl room)

theorem exec_clock_done (step : s.hw.dev.step = 6) (early : s.hw.stepLate false = false) (good : o.ok = true) (clean : s.hw.dev.stopFails = 0) :
    ∃ t, exec (.bootStepComplete o) s = .next t ∧
      t.hw.clk =
        { s.hw.clk with refLock := true, xtalOk := true, time := 0, timeValid := !s.hw.isSecondary, ppsMissAt := s.hw.ticks + 1200000000 } ∧
      t.hw.dev.step = 7 ∧ t.hw.pantry.boot.counts = putBits s.hw.pantry.boot.counts 10 2 0 := by
  have reached : s.hw.attemptOk o false = true := by simp [Hw.attemptOk, step, early, good, clean]
  have done := (bootAttempt_thrice run false (.inr step)).trans ((if_pos reached).trans (s.hw.finish_clock o _ step))
  exact ⟨_, next_hwStep done q, rfl, rfl, rfl⟩

end

/-- Settles O16: an attempt is judged by its step, and the path taken ends it by its policy. -/
theorem bootStepsEndByTheirPolicies : Obligations.BootStepsEndByTheirPolicies := fun _ _ q boot going live room =>
  have run : Hw.booting _ := ⟨boot, going, live⟩
  ⟨exec_firstStep_done q run, exec_firstStep_waits q run, exec_bootStepTimeout_early q, exec_fuses_again q run,
    fun step late third => exec_fuses_halt q run step late third room, exec_clock_done q run⟩

end Sys2Proof.Machine
end

section
/-! PROOFS. STATUS_GET and its fault_summary (R73). -/

namespace Sys2Proof.Machine

/-! ### The mask of a range -/

/-- A mask gathered in rising order has exactly the bits chosen. -/
theorem maskOf_range (p : Nat → Bool) (n : Nat) : maskOf ((List.range n).filter p) < 2 ^ n ∧
    ∀ i, tb (maskOf ((List.range n).filter p)) i = (decide (i < n) && p i) := by
  unfold tb
  induction n with
  | zero => exact ⟨Nat.one_pos, fun i => by simp [maskOf]⟩
  | succ n ih =>
    obtain ⟨below, holds⟩ := ih
    rw [List.range_succ, List.filter_append]
    generalize hl : (List.range n).filter p = l at below holds
    cases chosen : p n with
    | false =>
      simp only [List.filter_cons, chosen, Bool.false_eq_true, if_false, List.filter_nil, List.append_nil]
      refine ⟨below.trans (Nat.pow_lt_pow_right (by decide) (by omega)), fun i => (holds i).trans ?_⟩
      by_cases e : i = n
      · simp [e, chosen]
      · exact congrArg (· && p i) (decide_eq_decide.mpr (by omega))
    | true =>
      have clear : (maskOf l).testBit n = false := Nat.testBit_lt_two_pow below
      have added : maskOf (l ++ List.filter p [n]) = 2 ^ n + maskOf l := by
        simp only [List.filter_cons, chosen, if_true, List.filter_nil, maskOf, List.foldl_append, List.foldl_cons, List.foldl_nil]
        exact (if_neg (ne_true_of_eq_false clear)).trans (Nat.add_comm _ _)
      have bound : 2 ^ n + maskOf l < 2 ^ (n + 1) := by rw [Nat.pow_succ]; omega
      rw [added]
      refine ⟨bound, fun i => ?_⟩
      rcases Nat.lt_trichotomy i n with h | h | h
      · rw [Nat.testBit_two_pow_add_gt h, holds]
        exact congrArg (· && p i) (decide_eq_decide.mpr (by omega))
      · rw [h, Nat.testBit_two_pow_add_eq, clear, chosen]
        simp
      · rw [Nat.testBit_lt_two_pow (bound.trans_le (Nat.pow_le_pow_right (by decide) h))]
        simp [Nat.not_lt.mpr (Nat.succ_le_of_lt h)]

/-! ### The summary -/

theorem Hw.classRaised_iff (w : Hw) (c : Nat) : w.classRaised c = true ↔ ∃ e ∈ w.evt.table, e.raised = true ∧ e.id.cls = c := by
  simp only [Hw.classRaised, List.any_eq_true, Bool.and_eq_true, decide_eq_true_eq]
  exact exists_congr fun e => and_congr_right fun _ => and_comm

theorem Hw.faultSummary_boot {w : Hw} (boot : w.dev.mode = .boot) : w.faultSummary = (w.readReg 0x0000000C).2 := by
  have read : w.peek 0x0000000C = w.devView 0x0C := rfl
  exact (if_pos boot).trans read.symm

/-- Outside BOOT a bit for each class with a fault raised. -/
theorem Hw.faultSummary_classes {w : Hw} (up : w.dev.mode ≠ .boot) :
    w.faultSummary < 2 ^ 5 ∧ ∀ c < 5, (tb w.faultSummary c = true ↔ ∃ e ∈ w.evt.table, e.raised = true ∧ e.id.cls = c) := by
  obtain ⟨below, bits⟩ := maskOf_range (fun c => w.classRaised c) 5
  rw [show w.faultSummary = maskOf ((List.range 5).filter fun c => w.classRaised c) from if_neg up]
  refine ⟨below, fun c hc => ?_⟩
  rw [bits, decide_eq_true hc, Bool.true_and, w.classRaised_iff]

/-! ### A row that asks for no role and no mode, writes nothing and starts nothing -/

section
variable {s : State} {sp : Spec} {c : Caller}

theorem CmdSt.held_none (c : CmdSt) : c.held [] = false := by simp [CmdSt.held, StepOp.clashes]

/-- What the gate lets through of a row that only reads, outside the modes of Table 2.3 too. -/
theorem State.judge_reader (hw : sp.writes = []) (hs : sp.stepped = false) (hg : s.gate sp c = none)
    (hm : s.hw.dev.mode ∈ sp.modes ∨ s.hw.dev.mode = .boot ∨ s.hw.dev.mode = .dormant) : s.judge sp c = none := by
  have listed : ¬ ((decide (s.hw.dev.mode ≠ .dormant) && !s.hw.wch.lost && decide (s.hw.dev.mode ≠ .boot)) = true ∧
      ¬ sp.modes.contains s.hw.dev.mode = true) := by
    rcases hm with h | h | h <;> simp [h]
  unfold State.judge
  rw [hg]
  dsimp only
  rw [if_neg listed, hw, CmdSt.held_none, hs]
  simp

end

/-- The row of STATUS_GET. -/
def statusRow : Spec := { op := 0x04, role := 0 }

/-- What STATUS_GET answers. -/
def Hw.statusAns (w : Hw) : Ans :=
  ansOk (le 1 w.dev.mode.code ++ le 1 w.wch.active ++ le 1 w.wch.epoch ++ le 4 w.faultSummary ++ le 8 w.clk.time.toNat)

theorem exec_statusGet (s : State) (h : Hdr) :
    exec (.statusGet h) s = .next (s.serve (.statusGet h) h statusRow [] fun _ t => (t, t.hw.statusAns)) := rfl

theorem statusRow_judged {s : State} {c : Caller} (hg : s.gate statusRow c = none) : s.judge statusRow c = none :=
  State.judge_reader rfl rfl hg (by cases s.hw.dev.mode <;> simp [statusRow])

/-- STATUS_GET that is let through answers, and no more. -/
theorem State.run_status {s : State} {h : Hdr} (q : s.hw.outbox = []) (hg : s.gate statusRow (callerOf h s.cmd) = none) :
    s.run h statusRow [] (fun _ t => (t, t.hw.statusAns)) = s.reply h 0x04 s.hw.statusAns := by
  have told : s.perform h statusRow [] (fun _ t => (t, t.hw.statusAns)) = (s, s.hw.statusAns) := by
    unfold State.perform
    rw [statusRow_judged hg]
    rfl
  unfold State.run
  rw [told]
  dsimp only
  rw [State.drain_quiet s q]
  rfl

section
variable {s : State} {h : Hdr}

theorem statusGet_session {x : Session} (k : s.Hears (.statusGet h) h x) (role : h.role.toNat ≤ x.role) (up : s.hw.wch.lost = false)
    (awake : s.hw.dev.mode ≠ .dormant) : s.Served (.statusGet h) h x s.accepted s.hw.statusAns := by
  have passes : (s.took h x).gate statusRow (callerOf h (s.took h x).cmd) = none := by
    have lost : s.accepted.wch.lost = false := up
    have granted : ¬ (x.role < h.role.toNat) := Nat.not_lt.mpr role
    rw [State.gate_session (x := (x.heard s.hw.ticks).accept h) (by decide) (by simp [statusRow, safetyOp]) (by simp [callerOf])]
    simp [statusRow, bootOp, callerOf, awake, lost, Session.accept, Session.heard, granted]
  unfold State.Served
  rw [exec_statusGet, State.serve_arrives (sp := statusRow) (params := []) k.2 (by decide), State.run_status (s := s.took h x) k.2.quiet passes]
  rfl

theorem statusGet_unsessioned (none : s.cmd.session h.tr = none) (hears : s.hw.hears h.tr = true) (good : s.HeaderGood h false)
    (q : s.hw.outbox = []) (spi : h.tr = .spi) : exec (.statusGet h) s = .next (s.reply h 0x04 s.hw.statusAns) := by
  have passes : s.gate statusRow (callerOf h s.cmd) = Option.none := by
    unfold State.gate
    rw [show s.cmd.session (callerOf h s.cmd).tr = Option.none from none]
    simp [statusRow, safetyOp, noSession, bootOp, dormantOp, callerOf, spi]
  rw [exec_statusGet, State.serve_unsessioned hears (Nat.zero_le _) none, State.intake_unsessioned (Hw.badHeader_good good) none]
  unfold State.start
  rw [if_pos good.here, State.run_status q passes]

end

/-- Settles O58: STATUS_GET carries the summary, which BOOT and the other modes make as they do. -/
theorem faultSummaryIsWhatStatusGetCarries : Obligations.FaultSummaryIsWhatStatusGetCarries := by
  intro s h
  refine ⟨s.hw.faultSummary, Hw.faultSummary_boot, Hw.faultSummary_classes, fun x k role up awake => ?_, fun none hears good q spi => ?_⟩
  · exact ⟨_, rfl, statusGet_session k role up awake⟩
  · exact ⟨_, rfl, statusGet_unsessioned none hears good q spi⟩

end Sys2Proof.Machine
end

section
/-! PROOFS. Scheduled transitions and those a cascade announces (R57 to R63, R275). -/

namespace Sys2Proof.Machine

/-! ### Transitions between CONFIG and SCAN -/

theorem Hw.Records.bcn {a b : Hw} (h : a.Records b) : b.bcn = a.bcn := by
  obtain ⟨_, _, rfl, -⟩ := h
  rfl

section
variable (w : Hw)

theorem Hw.computePlacement_shape (first : Bool) : ∃ t, (w.computePlacement first).1 = { w with tnd := t } := by
  unfold Hw.computePlacement
  split
  · exact ⟨_, rfl⟩
  · exact ⟨w.tnd, rfl⟩

/-- The tables go to the blocks, and a fault of tracks left out may be recorded (R202, R207). -/
theorem placementReady_records (us : Nat) : ∃ t, Hw.Records { w with tnd := t } (placementReady us w) := by
  unfold placementReady
  split
  · next p _ =>
    exact ⟨{ w.tnd with shadow := some p, computing := none, planTime := us % 65536 }, .ite (Hw.raise_records _ _ _ (by decide)) (.refl _)⟩
  · exact ⟨w.tnd, .refl w⟩

/-- Frames start with what Tender computes at once (R203). -/
theorem Hw.startFrames_records : ∃ t, Hw.Records { w with tnd := t } w.startFrames := by
  unfold Hw.startFrames
  obtain ⟨t, e⟩ := w.computePlacement_shape (decide (w.tnd.active = none))
  dsimp only
  rw [e]
  exact placementReady_records { w with tnd := { t with computing := _, frameOn := false, cutDone := true } } _

/-- What a transition leaves: the mode and its cause, the emitters inhibited or free; the schedule and the cascade stay. -/
structure Hw.Enters (m : Mode) (cause : Nat) (inhibited : Bool) (a b : Hw) : Prop where
  mode : b.dev.mode = m
  cause : b.dev.lastCause = cause
  sched : b.dev.sched = a.dev.sched
  cas : b.cas = a.cas
  inhibited : b.bcn.inhibited = inhibited
  mild : a.Mild → b.Mild

theorem Hw.enterScan_enters (cause : Nat) : w.Enters .scan cause false (w.enterScan cause) := by
  obtain ⟨t, started⟩ := Hw.startFrames_records { w.toMode .scan cause with bcn := { w.bcn with inhibited := false } }
  have dev : (w.enterScan cause).dev = (w.toMode .scan cause).dev := started.dev
  have inhibited : (w.enterScan cause).bcn.inhibited = false := congrArg BcnSt.inhibited started.bcn
  exact ⟨by rw [dev]; rfl, by rw [dev]; rfl, by rw [dev]; rfl, started.winds.cas, inhibited, started.mild⟩

/-- SCAN ends with no shot left to fire, and CONFIG is entered with its tests (R59). -/
theorem Hw.leaveScan_enters (cause : Nat) (pins lamp : Option Nat) : w.Enters .config cause true (w.leaveScan cause pins lamp) := by
  obtain ⟨stopped, inhibited⟩ := w.inhibit_winds
  have ended := stopped.trans (Hw.scanEnd_winds _)
  have inhibited := (Hw.scanEnd_winds _).inhibited inhibited
  have entered := w.inhibit.scanEnd.enterConfig_ends cause pins lamp
  unfold Hw.leaveScan
  dsimp only
  revert ended inhibited entered
  generalize w.inhibit.scanEnd = v
  intro ended inhibited entered
  refine ⟨congrArg DevSt.mode entered.dev, congrArg DevSt.lastCause entered.dev, ?_, entered.cas.trans ended.cas, entered.inhibited inhibited,
    fun m x hx => ?_⟩
  · rw [entered.dev, ← ended.dev]
    rfl
  · exact (List.mem_append.mp hx).elim (entered.mild (ended.mild m) x) fun k => by rw [List.mem_singleton.mp k]; rfl

end

/-! ### Steps of the hardware -/

/-- A clocked step whose signals are mild: what its function makes of the hardware, and what delivery logs. -/
theorem State.clocked_logOnly {s : State} {n : Nat} (on : s.hw.awake n = true) (f : Hw → Hw) {v : Hw} (e : f s.hw = v) (m : v.Mild) :
    ∃ u, (.next (s.clocked n f) : Out) = .next u ∧ Hw.LogOnly { v with outbox := [] } u.hw := by
  subst e
  exact ⟨_, congrArg _ (State.clocked_run f on), State.hwStep_logOnly s f m⟩

/-- A clocked step that finds nothing to do. -/
theorem next_clocked_same {s : State} {n : Nat} (q : s.hw.outbox = []) {f : Hw → Hw} (e : f s.hw = s.hw) : (.next (s.clocked n f) : Out) = .next s := by
  unfold State.clocked
  split
  · exact next_hwStep e q
  · rfl

section
variable {a b : Hw} (h : a.LogOnly b)
include h

theorem Hw.LogOnly.bcn : b.bcn = a.bcn := by obtain ⟨_, _, _, _, rfl⟩ := h; rfl
theorem Hw.LogOnly.cas : b.cas = a.cas := by obtain ⟨_, _, _, _, rfl⟩ := h; rfl
theorem Hw.LogOnly.recent : b.evt.recent = a.evt.recent := by obtain ⟨_, _, _, _, rfl⟩ := h; rfl

end

/-! ### MODE_SET_AT_TICK -/

/-- The hardware with the schedule dropped. -/
def Hw.unscheduled (w : Hw) : Hw := { w with dev := { w.dev with sched := none } }

theorem modeSetAtTick_idle {w : Hw} (h : w.dev.sched = none) : modeSetAtTick w = w := by
  unfold modeSetAtTick
  rw [h]

theorem modeSetAtTick_early {w : Hw} {m : Mode} {t : U64} (h : w.dev.sched = some (m, t)) (early : w.clk.time.toNat < t.toNat) : modeSetAtTick w = w := by
  unfold modeSetAtTick
  rw [h]
  exact if_pos early

theorem modeSetAtTick_due {w : Hw} {m : Mode} {t : U64} (h : w.dev.sched = some (m, t)) (due : t.toNat ≤ w.clk.time.toNat) :
    modeSetAtTick w = match (generalizing := false) w.dev.mode, m with
      | .config, .scan => match w.preScan with
        | some c => w.unscheduled.draw.2.event srcDev (0xE000 + w.unscheduled.draw.1 % 0x2000) (le 2 c)
        | none => w.unscheduled.enterScan 1
      | .scan, .config => w.unscheduled.leaveScan 1 none none
      | _, _ => w.unscheduled := by
  unfold modeSetAtTick
  rw [h]
  exact if_neg (Nat.not_lt.mpr due)

/-- The record of an event is the newest of its source. -/
theorem Hw.event_recent (w : Hw) (src code : Nat) (p : List Byte) : ∃ r l, mget [] (w.event src code p).evt.recent src = r :: l ∧
    r.code = code ∧ r.payload = p.take 48 := by
  refine ⟨_, (mget [] w.evt.recent src).take 63, (mget_mset_same _ _ _ _).trans List.take_succ_cons, rfl, rfl⟩

section
variable {s : State} (q : s.hw.outbox = []) (on : s.hw.awake 15 = true)
include q on

theorem modeSetAtTick_enters {m : Mode} {t : U64} (h : s.hw.dev.sched = some (m, t)) (due : t.toNat ≤ s.hw.clk.time.toNat)
    (config : s.hw.dev.mode = .config) (scan : m = .scan) (ready : s.hw.preScan = none) :
    ∃ u, exec .modeSetAtTick s = .next u ∧ u.hw.dev.mode = .scan ∧ u.hw.dev.sched = none ∧ u.hw.dev.lastCause = 1 ∧ u.hw.bcn.inhibited = false := by
  have entered := s.hw.unscheduled.enterScan_enters 1
  have done := modeSetAtTick_due h due
  rw [config, scan, ready] at done
  obtain ⟨u, run, log⟩ := State.clocked_logOnly on modeSetAtTick done (entered.mild (Hw.mild_of_empty q))
  refine ⟨u, run, ?_⟩
  rw [log.dev, log.bcn]
  exact ⟨entered.mode, entered.sched, entered.cause, entered.inhibited⟩

theorem modeSetAtTick_refused {m : Mode} {t : U64} (h : s.hw.dev.sched = some (m, t)) (due : t.toNat ≤ s.hw.clk.time.toNat) (c : Nat)
    (config : s.hw.dev.mode = .config) (scan : m = .scan) (failed : s.hw.preScan = some c) :
    ∃ u r l, exec .modeSetAtTick s = .next u ∧ u.hw.dev = { s.hw.dev with sched := none } ∧ u.hw.bcn = s.hw.bcn ∧
      mget [] u.hw.evt.recent srcDev = r :: l ∧ 0xE000 ≤ r.code ∧ r.payload = le 2 c := by
  have done := modeSetAtTick_due h due
  rw [config, scan, failed] at done
  dsimp only at done
  obtain ⟨e, told, shape, -, mild⟩ := Hw.event_tells s.hw.unscheduled.draw.2 srcDev (0xE000 + s.hw.unscheduled.draw.1 % 0x2000) (le 2 c)
  obtain ⟨r, l, newest, code, payload⟩ := Hw.event_recent s.hw.unscheduled.draw.2 srcDev (0xE000 + s.hw.unscheduled.draw.1 % 0x2000) (le 2 c)
  rw [shape] at done newest
  obtain ⟨u, run, log⟩ := State.clocked_logOnly on modeSetAtTick done
    (fun x hx => (List.mem_append.mp hx).elim (fun k => by rw [show s.hw.unscheduled.draw.2.outbox = [] from q] at k; cases k) (mild x))
  refine ⟨u, r, l, run, log.dev, log.bcn, ?_, by omega, payload⟩
  rw [log.recent]
  exact newest

theorem modeSetAtTick_leaves {m : Mode} {t : U64} (h : s.hw.dev.sched = some (m, t)) (due : t.toNat ≤ s.hw.clk.time.toNat)
    (scan : s.hw.dev.mode = .scan) (config : m = .config) :
    ∃ u, exec .modeSetAtTick s = .next u ∧ u.hw.dev.mode = .config ∧ u.hw.dev.sched = none ∧ u.hw.dev.lastCause = 1 ∧ u.hw.bcn.inhibited = true := by
  have entered := s.hw.unscheduled.leaveScan_enters 1 none none
  have done := modeSetAtTick_due h due
  rw [config, scan] at done
  obtain ⟨u, run, log⟩ := State.clocked_logOnly on modeSetAtTick done (entered.mild (Hw.mild_of_empty q))
  refine ⟨u, run, ?_⟩
  rw [log.dev, log.bcn]
  exact ⟨entered.mode, entered.sched, entered.cause, entered.inhibited⟩

theorem modeSetAtTick_drops {m : Mode} {t : U64} (h : s.hw.dev.sched = some (m, t)) (due : t.toNat ≤ s.hw.clk.time.toNat)
    (config : s.hw.dev.mode ≠ .config) (scan : s.hw.dev.mode ≠ .scan) :
    exec .modeSetAtTick s = .next { s with hw := { s.hw with dev := { s.hw.dev with sched := none } } } := by
  refine next_clocked q on (f := modeSetAtTick) ((modeSetAtTick_due h due).trans ?_) rfl
  split
  · exact absurd ‹_› config
  · exact absurd ‹_› scan
  · rfl

end

/-! ### CASCADE_MODE_TICK -/

/-- The hardware with nothing announced. -/
def Hw.unannounced (w : Hw) : Hw := { w with cas := { w.cas with modeAt := none } }

theorem cascadeModeTick_idle {w : Hw} (h : w.cas.modeAt = none) : cascadeModeTick w = w := by
  unfold cascadeModeTick
  rw [h]

theorem cascadeModeTick_early {w : Hw} {c t : Nat} (h : w.cas.modeAt = some (c, t)) (early : w.clk.time.toNat < t) : cascadeModeTick w = w := by
  unfold cascadeModeTick
  rw [h]
  exact if_pos early

theorem cascadeModeTick_due {w : Hw} {c t : Nat} (h : w.cas.modeAt = some (c, t)) (due : t ≤ w.clk.time.toNat) :
    cascadeModeTick w = if (c = 3 ∨ c = 4) ∧ w.classRaised 3 then w.unannounced
      else match (generalizing := false) w.dev.mode, Mode.ofCode c with
      | .config, some .guard => if w.isIS then w.unannounced.enterGuard else w.unannounced
      | .guard, some .config => w.unannounced.leaveGuard none none
      | .config, some .dormant => w.unannounced.sleep (if w.dev.wakeMask = 0 then 1 else w.dev.wakeMask)
      | _, some m => w.unannounced.goMode m 0 none none
      | _, none => w.unannounced := by
  unfold cascadeModeTick
  rw [h]
  exact if_neg (Nat.not_lt.mpr due)

section
variable {s : State} (q : s.hw.outbox = []) (on : s.hw.awake 15 = true) {c t : Nat} (h : s.hw.cas.modeAt = some (c, t))
  (due : t ≤ s.hw.clk.time.toNat)
include q on h due

theorem cascadeModeTick_stopped (target : c = 3 ∨ c = 4) (stop : s.hw.classRaised 3 = true) :
    exec .cascadeModeTick s = .next { s with hw := s.hw.unannounced } :=
  next_clocked q on (f := cascadeModeTick) ((cascadeModeTick_due h due).trans (if_pos ⟨target, stop⟩)) rfl

theorem cascadeModeTick_stays (target : c = 2) (config : s.hw.dev.mode = .config) :
    exec .cascadeModeTick s = .next { s with hw := s.hw.unannounced } := by
  refine next_clocked q on (f := cascadeModeTick) ((cascadeModeTick_due h due).trans ?_) rfl
  subst target
  rw [if_neg (by simp), config]
  change s.hw.unannounced.goMode .config 0 none none = s.hw.unannounced
  unfold Hw.goMode
  rw [show s.hw.unannounced.dev.mode = .config from config]

omit h due in
/-- A tick at which the device goes over to another mode. -/
theorem cascadeModeTick_goes {m : Mode} {inhibited : Bool} {v : Hw} (e : cascadeModeTick s.hw = v) (mode : v.dev.mode = m)
    (cas : v.cas = s.hw.unannounced.cas) (off : v.bcn.inhibited = inhibited) (mild : s.hw.unannounced.Mild → v.Mild) :
    ∃ u, exec .cascadeModeTick s = .next u ∧ u.hw.dev.mode = m ∧ u.hw.cas.modeAt = none ∧ u.hw.bcn.inhibited = inhibited := by
  obtain ⟨u, run, log⟩ := State.clocked_logOnly on cascadeModeTick e (mild (Hw.mild_of_empty q))
  refine ⟨u, run, ?_⟩
  rw [log.dev, log.bcn, log.cas]
  exact ⟨mode, congrArg CasSt.modeAt cas, off⟩

theorem cascadeModeTick_scans (target : c = 3) (config : s.hw.dev.mode = .config) (clear : s.hw.classRaised 3 = false) :
    ∃ u, exec .cascadeModeTick s = .next u ∧ u.hw.dev.mode = .scan ∧ u.hw.cas.modeAt = none ∧ u.hw.bcn.inhibited = false := by
  have goes : cascadeModeTick s.hw = s.hw.unannounced.enterScan 0 := by
    rw [cascadeModeTick_due h due, if_neg (by simp [clear]), target, config]
    change s.hw.unannounced.goMode .scan 0 none none = _
    unfold Hw.goMode
    rw [show s.hw.unannounced.dev.mode = .config from config]
  have entered := s.hw.unannounced.enterScan_enters 0
  exact cascadeModeTick_goes q on goes entered.mode entered.cas entered.inhibited entered.mild

theorem cascadeModeTick_ends (target : c = 2) (live : s.hw.dev.mode = .scan ∨ s.hw.dev.mode = .guard) :
    ∃ u, exec .cascadeModeTick s = .next u ∧ u.hw.dev.mode = .config ∧ u.hw.cas.modeAt = none ∧ u.hw.bcn.inhibited = true := by
  rcases live with scan | guard
  · have goes : cascadeModeTick s.hw = s.hw.unannounced.leaveScan 0 none none := by
      rw [cascadeModeTick_due h due, if_neg (by omega), target, scan]
      change s.hw.unannounced.goMode .config 0 none none = _
      unfold Hw.goMode
      rw [show s.hw.unannounced.dev.mode = .scan from scan]
    have entered := s.hw.unannounced.leaveScan_enters 0 none none
    exact cascadeModeTick_goes q on goes entered.mode entered.cas entered.inhibited entered.mild
  · have goes : cascadeModeTick s.hw = s.hw.unannounced.leaveGuard none none := by
      rw [cascadeModeTick_due h due, if_neg (by omega), target, guard]
      rfl
    obtain ⟨mode, -, -, -, inhibited, cas, mild⟩ := s.hw.unannounced.leaveGuard_ends none none
    exact cascadeModeTick_goes q on goes mode cas inhibited mild

end

/-- Settles O56: at its tick a transition is judged by the mode, its target and what has failed since. -/
theorem scheduledTransitionsHappenAtTheirTick : Obligations.ScheduledTransitionsHappenAtTheirTick := fun _ q =>
  ⟨fun h => next_clocked_same q (modeSetAtTick_idle h), fun _ _ h early => next_clocked_same q (modeSetAtTick_early h early),
    fun _ _ on h due => ⟨modeSetAtTick_enters q on h due, modeSetAtTick_refused q on h due, modeSetAtTick_leaves q on h due,
      modeSetAtTick_drops q on h due⟩,
    fun h => next_clocked_same q (cascadeModeTick_idle h), fun _ _ h early => next_clocked_same q (cascadeModeTick_early h early),
    fun _ _ on h due => ⟨cascadeModeTick_stopped q on h due, cascadeModeTick_scans q on h due, cascadeModeTick_ends q on h due,
      cascadeModeTick_stays q on h due⟩⟩

end Sys2Proof.Machine
end

section
/-! SUPPORT. What the work of a frame boundary leaves: the mode, the pins, the cascade, Tender (R122, R174, R198). -/

namespace Sys2Proof.Machine

/-- The mode, the pins, the cascade and Tender stay; what is raised stays so; nothing but mild signals goes out. -/
structure Hw.Works (a b : Hw) : Prop where
  dev : b.dev = a.dev
  pins : b.pins = a.pins
  cas : b.cas = a.cas
  tnd : b.tnd = a.tnd
  raised : ∀ f, a.isRaised f = true → b.isRaised f = true
  mild : a.Mild → b.Mild

section
variable {a b c : Hw}

theorem Hw.Works.refl (a : Hw) : a.Works a := ⟨rfl, rfl, rfl, rfl, fun _ => id, id⟩

theorem Hw.Works.trans (h : a.Works b) (k : b.Works c) : a.Works c :=
  ⟨k.dev.trans h.dev, k.pins.trans h.pins, k.cas.trans h.cas, k.tnd.trans h.tnd, fun f hf => k.raised f (h.raised f hf), fun m => k.mild (h.mild m)⟩

/-- A change to none of what is kept. -/
theorem Hw.Works.of_same (hd : b.dev = a.dev) (hp : b.pins = a.pins) (hc : b.cas = a.cas) (ht : b.tnd = a.tnd) (he : b.evt.table = a.evt.table)
    (ho : b.outbox = a.outbox) : a.Works b :=
  ⟨hd, hp, hc, ht, fun f hf => by rw [← hf, Hw.isRaised, Hw.isRaised, he], fun m => by rw [Hw.Mild, ho]; exact m⟩

theorem Hw.Works.ite {p : Prop} [Decidable p] (h : a.Works b) (k : a.Works c) : a.Works (if p then b else c) := by
  split
  · exact h
  · exact k

theorem Hw.Works.foldl {A : Type} {f : Hw → A → Hw} (h : ∀ (w : Hw) (x : A), w.Works (f w x)) (l : List A) (w : Hw) : w.Works (l.foldl f w) := by
  induction l generalizing w with
  | nil => exact .refl w
  | cons x l ih => exact (h w x).trans (ih _)

theorem Hw.Records.works (h : a.Records b) : a.Works b := by
  have raised := fun f (hf : a.isRaised f = true) => h.raised hf
  have mild := h.mild
  obtain ⟨_, _, rfl, -⟩ := h
  exact ⟨rfl, rfl, rfl, rfl, raised, mild⟩

theorem Hw.Tells.works (h : a.Tells b) : a.Works b := by
  obtain ⟨e, l, rfl, table, mild⟩ := h
  exact ⟨rfl, rfl, rfl, rfl, fun f hf => by rw [← hf, Hw.isRaised, Hw.isRaised, table],
    fun m x hx => (List.mem_append.mp hx).elim (m x) (mild x)⟩

end

section
variable (w : Hw)

/-! ### The Keepers' part: something pinned is lost (R64) -/

theorem Hw.safe001_works : w.Works w.safe001 := by
  have off : ∀ v : Hw, v.Works (v.safeEffect (fid (srcKpr 0) 4 1)) := fun v => by
    have commanded : v.Works (v.command 0 0) := .of_same rfl rfl rfl rfl rfl rfl
    exact (commanded.trans (v.drive2_tells 0 0).works).trans (.of_same rfl rfl rfl rfl rfl rfl)
  exact (Hw.recordFault_records w _ []).works.trans (off _)

theorem Hw.lossOfPinned_works (pinned : Bool) : w.Works (w.lossOfPinned pinned) := .ite w.safe001_works (.refl w)

theorem Hw.recount_works : w.Works w.recount := by
  have counted : w.Works { w with spd := { w.spd with dead := w.deadChans } } := .of_same rfl rfl rfl rfl rfl rfl
  exact counted.trans (Hw.lossOfPinned_works _ _)

theorem retireNow_works (n cause : Nat) : w.Works (retireNow n cause w) := by
  have marked : w.Works (w.setTile n { w.tile n with retired := true, cause := cause, retireDue := 0 }) := .of_same rfl rfl rfl rfl rfl rfl
  have told := Hw.raise_records (w.setTile n { w.tile n with retired := true, cause := cause, retireDue := 0 }) (fid (srcTile n) 2 13)
    (le 2 n ++ le 2 cause) (by simp [srcTile_cls])
  exact .ite (.refl w) ((marked.trans told.works).trans (Hw.lossOfPinned_works _ _))

/-! ### The array and the blocks -/

theorem Hw.applyRegion_works (r : Nat) : w.Works (w.applyRegion r) := by
  have took : ∀ y, w.Works (w.setRegion r y) := fun y => .of_same rfl rfl rfl rfl rfl rfl
  unfold Hw.applyRegion
  dsimp only
  refine .ite (.refl w) (.ite ((took _).trans (Hw.raise_records _ (fid srcSpd 2 3) _ (by decide)).works) (took _))

theorem Hw.spdBoundary_works : w.Works w.spdBoundary := by
  have committed : w.Works (if w.spd.maskPending ∧ w.dev.mode ≠ .guard then w.commitMask else w) :=
    .ite (.of_same rfl rfl rfl rfl rfl rfl) (.refl w)
  have applied : ∀ v : Hw, v.Works v.applyRegions := fun v => by
    unfold Hw.applyRegions
    generalize List.range 1153 = regions
    exact (Hw.Works.foldl (fun u r => u.applyRegion_works r) regions v).trans (Hw.recount_works _)
  have timed : ∀ v : Hw, v.Works v.applyDeadTimes := fun v => .of_same rfl rfl rfl rfl rfl rfl
  exact (committed.trans (applied _)).trans (timed _)

theorem Hw.tileBoundary_works : w.Works w.tileBoundary := by
  unfold Hw.tileBoundary
  dsimp only
  generalize List.range 48 = tiles
  have retired := Hw.Works.foldl (f := fun (h : Hw) n => if (h.tile n).retireDue = 0 then h else retireNow n (h.tile n).retireDue h)
    (fun v n => .ite (.refl v) (retireNow_works v n _)) tiles w
  revert retired
  generalize tiles.foldl _ w = v
  intro retired
  exact retired.trans (.of_same rfl rfl rfl rfl rfl rfl)

theorem Hw.detBoundary_works : w.Works w.detBoundary := by
  unfold Hw.detBoundary
  dsimp only
  split
  · split
    · refine .trans ?_ (Hw.raise_records _ (fid srcDet 1 1) _ (by decide)).works
      exact .of_same rfl rfl rfl rfl rfl rfl
    · exact .of_same rfl rfl rfl rfl rfl rfl
  · exact .of_same rfl rfl rfl rfl rfl rfl

/-- A change of Beacon alone. -/
theorem Hw.Works.of_bcn (x : BcnSt) : w.Works { w with bcn := x } := .of_same rfl rfl rfl rfl rfl rfl

theorem patternAdvance_works (n : Nat) : w.Works (patternAdvance n w) := by
  obtain ⟨p, l, e⟩ := patternAdvance_shape n w
  rw [e]
  exact .of_bcn w _

theorem Hw.sourceBoundary_works : w.Works w.sourceBoundary := by
  unfold Hw.sourceBoundary
  extract_lets p timeMode origin _ v x
  have given : w.Works v := .ite (.of_bcn w _) (.refl w)
  have engine : ∀ y : BcnSt, w.Works (patternAdvance patternFuel { v with bcn := y }) := fun y =>
    (given.trans (.of_bcn v y)).trans (patternAdvance_works _ _)
  split
  · exact engine _
  · split
    · split
      · exact .ite (engine _) given
      · exact given
    · exact given.trans (.of_bcn v _)

theorem Hw.approach_works : w.Works w.approach := by
  unfold Hw.approach
  refine .ite (.refl w) (.foldl (fun v b => ?_) _ w)
  split
  · refine .ite (.refl v) ?_
    exact .ite (.of_bcn v _) (.of_bcn v _)
  · exact .refl v

/-! ### The output and the statistics -/

theorem Hw.closePacket_works (b : Nat) (last : Bool) : w.Works (w.closePacket b last) := .ite (.refl w) (.of_same rfl rfl rfl rfl rfl rfl)

theorem Hw.closeLast_works : w.Works w.closeLast := by
  have points : w.Works w.closePoints := .foldl (fun v b => by
    dsimp only
    exact .ite (v.closePacket_works b true) (.refl v)) _ w
  exact points.trans (.foldl (fun v r => by
    dsimp only
    exact .ite (.of_same rfl rfl rfl rfl rfl rfl) (.refl v)) _ _)

theorem Hw.latchStats_works : w.Works w.latchStats := .foldl (fun v r => by
    dsimp only
    exact .ite (.of_same rfl rfl rfl rfl rfl rfl) (.refl v)) _ w

/-! ### What CAL holds for the boundary -/

theorem maskCommit_works : w.Works (maskCommit w) := by
  unfold maskCommit
  split
  · have committed : w.Works w.commitMask := .of_same rfl rfl rfl rfl rfl rfl
    exact committed.trans (Hw.recount_works _)
  · exact .of_same rfl rfl rfl rfl rfl rfl
  · exact .of_same rfl rfl rfl rfl rfl rfl
  · exact .of_same rfl rfl rfl rfl rfl rfl
  · exact .refl w

theorem Hw.putGlobal_works (q : Nat) (d : List Int) : w.Works (w.putGlobal q d) := by
  unfold Hw.putGlobal
  dsimp only
  split
  · exact .of_same rfl rfl rfl rfl rfl rfl
  · refine .trans ?_ (maskCommit_works _)
    exact .of_same rfl rfl rfl rfl rfl rfl
  · exact .of_same rfl rfl rfl rfl rfl rfl
  · exact .of_same rfl rfl rfl rfl rfl rfl
  · exact .refl w

theorem Hw.applySets_works : w.Works w.applySets := by
  have stored : ∀ (v : Hw) a x, v.Works (v.setReg a x) := fun v a x => .of_same rfl rfl rfl rfl rfl rfl
  unfold Hw.applySets
  dsimp only
  generalize List.range 768 = codes, List.range 4 = banks, List.range 1632 = gains, List.range 64 = walks
  have skews := Hw.Works.foldl (fun v k => stored v (chanReg k 0) (cx 24 (interpolate w.activeSets w.tDie fun s => sx 24 (mget 0 s.skew k)))) codes w
  have gained := Hw.Works.foldl (fun v b => stored v (0x000280B0 + 4 * b)
    (interpolate w.activeSets w.tDie fun s => ((mget 0 s.xgain b : Nat) : Int)).toNat) banks
  refine skews.trans ((gained _).trans ?_)
  exact .of_same rfl rfl rfl rfl rfl rfl

theorem Hw.calBoundary_works : w.Works w.calBoundary := by
  have freed : w.Works { w with cal := { w.cal with held := [] } } := .of_same rfl rfl rfl rfl rfl rfl
  have put : w.Works (({ w with cal := { w.cal with held := [] } } : Hw).putGlobals w.cal.held) :=
    freed.trans (.foldl (f := fun (h : Hw) (e : Nat × List Int) => h.putGlobal e.1 e.2) (fun v e => v.putGlobal_works e.1 e.2) _ _)
  exact .ite (put.trans (Hw.applySets_works _)) put

end

end Sys2Proof.Machine
end

section
/-! PROOFS. The frame boundary and the placements (R60, R122, R198 to R210). -/

namespace Sys2Proof.Machine

section
variable (w : Hw)

/-! ### The frame that ends -/

/-- Skipped targets are counted and marked missing; the grid advances. -/
theorem skipTargets_shape (n b : Nat) :
    ∃ g r d, skipTargets n b w = { w with tnd := { w.tnd with grid := g }, regs := r, descs := d } := by
  induction n generalizing w with
  | zero => exact ⟨w.tnd.grid, w.regs, w.descs, rfl⟩
  | succ n ih =>
    unfold skipTargets
    split
    · next t pos _ =>
      exact ih (({ w with tnd := { w.tnd with grid := mset {} w.tnd.grid b pos } } : Hw).skipShot (w.protoShot b t false))
    · exact ⟨w.tnd.grid, w.regs, w.descs, rfl⟩

theorem Hw.skipRest_shape : ∃ g r d, w.skipRest = { w with tnd := { w.tnd with grid := g }, regs := r, descs := d } := by
  have each : ∀ (p : Placement) (l : List Nat) (v : Hw), ∃ g r d,
      l.foldl (fun h b => skipTargets (bankShots p.plan p.gridN b) b h) v = { v with tnd := { v.tnd with grid := g }, regs := r, descs := d } := by
    intro p l
    induction l with
    | nil => exact fun v => ⟨v.tnd.grid, v.regs, v.descs, rfl⟩
    | cons b l ih =>
      intro v
      obtain ⟨g, r, d, e⟩ := skipTargets_shape v (bankShots p.plan p.gridN b) b
      rw [List.foldl_cons, e]
      exact ih _
  unfold Hw.skipRest
  split
  · split
    · exact each _ _ w
    · exact ⟨w.tnd.grid, w.regs, w.descs, rfl⟩
  · exact ⟨w.tnd.grid, w.regs, w.descs, rfl⟩

theorem Hw.latchAmbient_shape : ∃ x, w.latchAmbient = { w with spd := x } := by
  unfold Hw.latchAmbient
  dsimp only
  split
  · exact ⟨_, rfl⟩
  · exact ⟨_, rfl⟩

/-- What the frame that ends leaves (R198, R204). -/
def Hw.frameEnd : Hw :=
  if w.tnd.frameOn then
    let v := w.skipRest.latchAmbient
    ({ v with tnd := { v.tnd with stats := v.frameStats } } : Hw).endFrames false
  else w.latchAmbient

theorem Hw.frameEnd_shape : ∃ g m r d x o,
    w.frameEnd = { w with tnd := { w.tnd with grid := g, stats := m }, regs := r, descs := d, spd := x, out := o } := by
  unfold Hw.frameEnd
  split
  · obtain ⟨g, r, d, e⟩ := w.skipRest_shape
    obtain ⟨x, e'⟩ := w.skipRest.latchAmbient_shape
    dsimp only
    rw [e', e]
    exact ⟨_, _, _, _, _, _, rfl⟩
  · obtain ⟨x, e⟩ := w.latchAmbient_shape
    exact ⟨w.tnd.grid, w.tnd.stats, w.regs, w.descs, x, w.out, e⟩

/-! ### The swap (R122, R209) -/

/-- Tender with a placement in force. -/
def TndSt.adopting (t : TndSt) (p : Placement) : TndSt :=
  { t with active := some p, epoch := p.epoch, plan := some p.plan, slot := p.slot
           history := (p :: t.history.filter (fun x => decide (x.epoch ≠ p.epoch))).take 16 }

theorem Hw.adopt_works (p : Placement) : Hw.Works { w with tnd := w.tnd.adopting p } (w.adopt p p.slot) := by
  have routed : Hw.Works { w with tnd := w.tnd.adopting p } { w with tnd := w.tnd.adopting p, out := { w.out with routes := p.routes } } :=
    .of_same rfl rfl rfl rfl rfl rfl
  have reviewed : ∀ v : Hw, v.Works (v.reviewExports p) := fun v => .ite (.refl v) (.of_same rfl rfl rfl rfl rfl rfl)
  exact (routed.trans (reviewed _)).trans (Hw.recount_works _)

/-- Two Tenders that agree leave the same work. -/
theorem Hw.Works.with_tnd {a b : Hw} (h : a.Works b) (f : TndSt → TndSt) : Hw.Works { a with tnd := f a.tnd } { b with tnd := f b.tnd } :=
  ⟨h.dev, h.pins, h.cas, congrArg f h.tnd, h.raised, h.mild⟩

/-- Whether a placement is the one in force under another table's name. -/
def Hw.sameEpoch (p : Placement) : Bool := match w.tnd.active with
  | some a => decide (a.epoch = p.epoch)
  | none => false

/-- The refusal of a placement whose channel `k` fails the check. -/
def Hw.refuseSwap (k : Nat) : Hw :=
  let v := (w.raise (fid srcSpd 2 20) (le 2 k)).raise (fid srcTnd 2 3) []
  { v with tnd := { v.tnd with faultFrozen := true, adapt := v.tnd.adaptOld } }

theorem Hw.swap_waiting {p : Placement} (waits : w.tnd.shadow = some p) : w.swap = if w.sameEpoch p then w.spdBoundary.adopt p p.slot
    else match (generalizing := false) p.badChan with
      | none => w.spdBoundary.blank.adopt p p.slot
      | some k => w.refuseSwap k := by
  unfold Hw.swap
  rw [waits]
  rfl

theorem Hw.blank_works : w.Works w.blank := .of_same rfl rfl rfl rfl rfl rfl

/-- A placement taken into force after work that leaves Tender. -/
theorem Hw.Works.adopt {w v : Hw} (h : w.Works v) (p : Placement) : Hw.Works { w with tnd := w.tnd.adopting p } (v.adopt p p.slot) :=
  (h.with_tnd (·.adopting p)).trans (v.adopt_works p)

/-- A placement that passes the check is in force. -/
theorem Hw.swap_adopts {p : Placement} (waits : w.tnd.shadow = some p) (good : p.badChan = none) :
    Hw.Works { w with tnd := w.tnd.adopting p } w.swap := by
  have bound := w.spdBoundary_works
  rw [w.swap_waiting waits, good]
  exact .ite (bound.adopt p) ((bound.trans (Hw.blank_works _)).adopt p)

/-- The refusal of a placement: the faults are raised, and adaptation freezes. -/
theorem Hw.refuseSwap_works (k : Nat) : Hw.Works { w with tnd := { w.tnd with faultFrozen := true, adapt := w.tnd.adaptOld } } (w.refuseSwap k) ∧
    (w.evt.table.length + 2 ≤ 1024 → (w.refuseSwap k).isRaised (fid srcSpd 2 20) = true ∧ (w.refuseSwap k).isRaised (fid srcTnd 2 3) = true) := by
  have first := Hw.raise_records w (fid srcSpd 2 20) (le 2 k) (by decide)
  have second := Hw.raise_records (w.raise (fid srcSpd 2 20) (le 2 k)) (fid srcTnd 2 3) [] (by decide)
  refine ⟨(first.trans second).works.with_tnd fun t => { t with faultFrozen := true, adapt := t.adaptOld }, fun few => ?_⟩
  have room : (w.raise (fid srcSpd 2 20) (le 2 k)).evt.table.length ≤ w.evt.table.length + 1 := by
    obtain ⟨r, e, h, table⟩ := Hw.raise_shape w (fid srcSpd 2 20) (le 2 k) (by decide)
    rw [h]
    exact table ▸ raiseEntry_length _ _ _
  exact ⟨second.raised (Hw.isRaised_raise w _ _ (by decide) (by omega)), Hw.isRaised_raise _ (fid srcTnd 2 3) [] (by decide) (by omega)⟩

theorem Hw.swap_refuses {p : Placement} {k : Nat} (waits : w.tnd.shadow = some p) (bad : p.badChan = some k)
    (other : ∀ q, w.tnd.active = some q → q.epoch ≠ p.epoch) : w.swap = w.refuseSwap k := by
  have differs : w.sameEpoch p = false := by
    unfold Hw.sameEpoch
    split
    · next a h => exact decide_eq_false (other a h)
    · rfl
  rw [w.swap_waiting waits, differs, bad]
  rfl

/-- Whatever it does, the swap changes Tender beside what it leaves. -/
theorem Hw.swap_works : ∃ t, Hw.Works { w with tnd := t } w.swap := by
  have bound := w.spdBoundary_works
  cases waits : w.tnd.shadow with
  | none =>
    refine ⟨w.tnd, ?_⟩
    unfold Hw.swap
    rw [waits]
    exact .ite (bound.trans (Hw.raise_records _ (fid srcTnd 1 2) [] (by decide)).works) bound
  | some p =>
    rw [w.swap_waiting waits]
    split
    · exact ⟨_, bound.adopt p⟩
    · split
      · exact ⟨_, (bound.trans (Hw.blank_works _)).adopt p⟩
      · exact ⟨_, (w.refuseSwap_works _).1⟩

/-! ### The frame that starts -/

/-- What follows the swap up to the start of the frame. -/
def Hw.blockBoundary : Hw := w.tileBoundary.detBoundary.sourceBoundary

theorem Hw.blockBoundary_works : w.Works w.blockBoundary :=
  (w.tileBoundary_works.trans (Hw.detBoundary_works _)).trans (Hw.sourceBoundary_works _)

/-- What follows the start of the frame. -/
def Hw.frameBegun : Hw :=
  ({ w with bcn := { w.bcn with banks := mmap {} (fun k => { k with ahead := none }) w.bcn.banks } } : Hw).approach.closeLast.latchStats

theorem Hw.frameBegun_works : w.Works w.frameBegun :=
  (((Hw.Works.of_bcn w _).trans (Hw.approach_works _)).trans (Hw.closeLast_works _)).trans (Hw.latchStats_works _)

/-- What the start of a frame leaves: the placement in force, and everything outside Tender, the output, the lanes and the cascade. -/
structure Hw.Starts (b : Hw) : Prop where
  active : b.tnd.active = w.tnd.active
  epoch : b.tnd.epoch = w.tnd.epoch
  faultFrozen : b.tnd.faultFrozen = w.tnd.faultFrozen
  shadow : b.tnd.shadow = none
  frameOn : b.tnd.frameOn = true
  frame : w.isSecondary = false → b.tnd.frame = if w.tnd.firstFrame = true then w.tnd.frame else (w.tnd.frame + 1) % 2 ^ 32
  pins : b.pins = w.pins
  raised : ∀ f, w.isRaised f = true → b.isRaised f = true
  mild : w.Mild → b.Mild

theorem Hw.startFrame_starts : w.Starts w.startFrame := by
  refine ⟨rfl, rfl, rfl, rfl, rfl, fun primary => ?_, rfl, fun _ => id, id⟩
  unfold Hw.startFrame
  rw [primary]

theorem Hw.Starts.then {w a b : Hw} (h : w.Starts a) (k : a.Works b) : w.Starts b := by
  obtain ⟨_, pins, _, tnd, raised, mild⟩ := k
  exact ⟨by rw [tnd, h.active], by rw [tnd, h.epoch], by rw [tnd, h.faultFrozen], by rw [tnd, h.shadow], by rw [tnd, h.frameOn],
    fun primary => by rw [tnd, h.frame primary], pins.trans h.pins, fun f hf => raised f (h.raised f hf), fun m => mild (h.mild m)⟩

theorem Hw.Works.starts {a w b : Hw} (h : a.Works w) (k : w.Starts b) : a.Starts b := by
  obtain ⟨_, pins, cas, tnd, raised, mild⟩ := h
  exact ⟨by rw [k.active, tnd], by rw [k.epoch, tnd], by rw [k.faultFrozen, tnd], k.shadow, k.frameOn,
    fun primary => by rw [k.frame (by rw [Hw.isSecondary, cas]; exact primary), tnd], k.pins.trans pins, fun f hf => k.raised f (raised f hf),
    fun m => k.mild (mild m)⟩

/-- The boundary of a frame that is due: the frame ends, the swap is made, the next one starts. -/
theorem boundaryAll_due {w : Hw} (run : w.framesRun = true) (due : w.boundaryDue = true) :
    boundaryAll w = w.frameEnd.swap.blockBoundary.startFrame.frameBegun.calBoundary := by
  have begun : frameBoundary w = w.frameEnd.swap.blockBoundary.startFrame.frameBegun := by
    unfold frameBoundary
    rw [if_neg (not_not.mpr run), if_neg (not_not.mpr due)]
    unfold Hw.frameEnd Hw.blockBoundary Hw.frameBegun
    dsimp only
  unfold boundaryAll
  rw [run, due, begun]
  exact if_pos rfl

theorem Hw.swap_starts : w.swap.Starts w.swap.blockBoundary.startFrame.frameBegun.calBoundary :=
  (Hw.blockBoundary_works _).starts (((Hw.startFrame_starts _).then (Hw.frameBegun_works _)).then (Hw.calBoundary_works _))

end

/-! ### FRAME_BOUNDARY -/

theorem Hw.LogOnly.tnd {a b : Hw} (h : a.LogOnly b) : b.tnd = a.tnd := by obtain ⟨_, _, _, _, rfl⟩ := h; rfl
theorem Hw.LogOnly.pins {a b : Hw} (h : a.LogOnly b) : b.pins = a.pins := by obtain ⟨_, _, _, _, rfl⟩ := h; rfl

section
variable {s : State} (q : s.hw.outbox = []) (on : s.hw.awake 15 = true)
include q on

theorem exec_frameBoundary_idle (idle : s.hw.framesRun = false) : exec .frameBoundary s =
    .next (if s.hw.dev.mode = .config ∧ s.hw.tnd.unpinDue = true
      then { s with hw := { s.hw with tnd := { s.hw.tnd with pinned := [], pins := false, unpinDue := false } } } else s) := by
  have done : boundaryAll s.hw = if s.hw.dev.mode = .config ∧ s.hw.tnd.unpinDue = true
      then { s.hw with tnd := { s.hw.tnd with pinned := [], pins := false, unpinDue := false } } else s.hw := by
    unfold boundaryAll frameBoundary
    simp only [idle, Bool.false_and, Bool.false_eq_true, not_false_eq_true, if_true, if_false]
  refine (next_clocked q on done ?_).trans ?_
  · split <;> rfl
  · split <;> rfl

theorem exec_frameBoundary_early (run : s.hw.framesRun = true) (early : s.hw.boundaryDue = false) : exec .frameBoundary s = .next s := by
  refine next_clocked q on (f := boundaryAll) (t := s.hw) ?_ rfl
  unfold boundaryAll frameBoundary
  simp only [run, early, Bool.true_and, Bool.false_eq_true, not_true_eq_false, not_false_eq_true, if_true, if_false]

section
variable (run : s.hw.framesRun = true) (due : s.hw.boundaryDue = true)
include run due

/-- A boundary that is due: what the swap of the ended frame leaves, the next frame started. -/
theorem exec_frameBoundary_due : s.hw.frameEnd.swap.Mild ∧
    ∃ u v, exec .frameBoundary s = .next u ∧ s.hw.frameEnd.swap.Starts v ∧ Hw.LogOnly { v with outbox := [] } u.hw := by
  have starts := s.hw.frameEnd.swap_starts
  obtain ⟨t, works⟩ := s.hw.frameEnd.swap_works
  have swapped : s.hw.frameEnd.swap.Mild := by
    obtain ⟨_, _, _, _, _, _, e⟩ := s.hw.frameEnd_shape
    refine works.mild (Hw.mild_of_empty ?_)
    rw [e]
    exact q
  obtain ⟨u, ran, log⟩ := State.clocked_logOnly on boundaryAll (boundaryAll_due run due) (starts.mild swapped)
  exact ⟨swapped, u, _, ran, starts, log⟩

theorem exec_frameBoundary_pins : ∃ u, exec .frameBoundary s = .next u ∧ u.pending = s.pending ∧ u.hw.pins = s.hw.pins := by
  obtain ⟨-, u, v, ran, starts, log⟩ := exec_frameBoundary_due q on run due
  obtain ⟨t, works⟩ := s.hw.frameEnd.swap_works
  obtain ⟨_, _, _, _, _, _, e⟩ := s.hw.frameEnd_shape
  refine ⟨u, ran, (exec_keeps ran).pending, ?_⟩
  rw [log.pins]
  exact (starts.pins.trans works.pins).trans (by rw [e])

theorem exec_frameBoundary_adopts {p : Placement} (primary : s.hw.isSecondary = false) (waits : s.hw.tnd.shadow = some p) (good : p.badChan = none) :
    ∃ u, exec .frameBoundary s = .next u ∧ u.hw.tnd.active = some p ∧ u.hw.tnd.epoch = p.epoch ∧
      u.hw.tnd.frame = (if s.hw.tnd.firstFrame = true then s.hw.tnd.frame else (s.hw.tnd.frame + 1) % 2 ^ 32) ∧
      u.hw.tnd.frameOn = true ∧ u.hw.tnd.shadow = none := by
  obtain ⟨-, u, v, ran, starts, log⟩ := exec_frameBoundary_due q on run due
  obtain ⟨_, _, _, _, _, _, e⟩ := s.hw.frameEnd_shape
  have starts := (s.hw.frameEnd.swap_adopts (p := p) (by rw [e]; exact waits) good).starts starts
  refine ⟨u, ran, ?_⟩
  rw [log.tnd]
  refine ⟨starts.active, starts.epoch, (starts.frame ?_).trans ?_, starts.frameOn, starts.shadow⟩
  · rw [e]
    exact primary
  · rw [e]
    rfl

theorem exec_frameBoundary_refuses {p : Placement} (waits : s.hw.tnd.shadow = some p) (bad : p.badChan ≠ none)
    (other : ∀ a, s.hw.tnd.active = some a → a.epoch ≠ p.epoch) (room : s.hw.evt.table.length + 2 ≤ 1024) :
    ∃ u, exec .frameBoundary s = .next u ∧ u.hw.tnd.active = s.hw.tnd.active ∧ u.hw.tnd.faultFrozen = true ∧
      u.hw.isRaised (fid srcSpd 2 20) = true ∧ u.hw.isRaised (fid srcTnd 2 3) = true := by
  obtain ⟨k, fails⟩ := Option.ne_none_iff_exists'.mp bad
  obtain ⟨-, u, v, ran, starts, log⟩ := exec_frameBoundary_due q on run due
  obtain ⟨_, _, _, _, _, _, e⟩ := s.hw.frameEnd_shape
  obtain ⟨works, raised⟩ := s.hw.frameEnd.refuseSwap_works k
  have refused := s.hw.frameEnd.swap_refuses (p := p) (by rw [e]; exact waits) fails (by rw [e]; exact other)
  rw [refused] at starts
  obtain ⟨spd, tnd⟩ := raised (by rw [e]; exact room)
  have left := works.starts starts
  refine ⟨u, ran, ?_⟩
  rw [log.tnd, log.isRaised, log.isRaised]
  refine ⟨left.active.trans ?_, left.faultFrozen, starts.raised _ spd, starts.raised _ tnd⟩
  rw [e]

end

/-! ### PLACEMENT_CUT and PLACEMENT_READY -/

omit on in
theorem exec_placementCut_idle (h : s.hw.framesRun = false ∨ s.hw.tnd.frameOn = false ∨ s.hw.tnd.cutDone = true) :
    exec .placementCut s = .next s := by
  refine next_clocked_same q (f := placementCut) (if_neg ?_)
  rintro ⟨run, frame, open', -⟩
  rcases h with h | h | h
  · exact Bool.noConfusion (h.symm.trans run)
  · exact Bool.noConfusion (h.symm.trans frame)
  · exact open' h

omit q on in
theorem Hw.announceFrame_shape (w : Hw) : ∃ c, w.announceFrame = { w with cas := c } := by
  unfold Hw.announceFrame
  split
  · exact ⟨_, rfl⟩
  · exact ⟨w.cas, rfl⟩

/-- The cut in its time: the placement of the coming frame is computed, once. -/
theorem exec_placementCut (run : s.hw.framesRun = true) (frame : s.hw.tnd.frameOn = true) (once : s.hw.tnd.cutDone = false)
    (due : s.hw.tnd.frameTick + s.hw.framePeriod.1 ≤ s.hw.ticks + 1600000 ∨ s.hw.bcn.source = 1) :
    ∃ u, exec .placementCut s = .next u ∧ u.hw.tnd.cutDone = true ∧ u.hw.tnd.computing = (s.hw.computePlacement false).2 ∧ u.cmd = s.cmd := by
  obtain ⟨t, e⟩ := s.hw.computePlacement_shape false
  obtain ⟨c, e'⟩ := ({ s.hw with tnd := t } : Hw).announceFrame_shape
  have cut : placementCut s.hw = { s.hw with
      tnd := { t with cutDone := true, computing := (s.hw.computePlacement false).2 }, lnk := { s.hw.lnk with restored := false }, cas := c } := by
    unfold placementCut
    dsimp only
    rw [if_pos ⟨run, frame, ne_true_of_eq_false once, due⟩, e, e']
  exact ⟨_, next_clocked q on cut rfl, rfl, rfl, rfl⟩

/-- Tender hands the placement over; F.TND.001 where another number of tracks is left out than in the one in force. -/
theorem exec_placementReady {p : Placement} (us : Nat) (h : s.hw.tnd.computing = some p) :
    ∃ u, exec (.placementReady us) s = .next u ∧
      u.hw.tnd = { s.hw.tnd with shadow := some p, computing := none, planTime := us % 65536 } ∧
      (p.unplaced ≠ 0 → p.unplaced ≠ ((s.hw.tnd.active.map (·.unplaced)).getD 0) → s.hw.evt.table.length < 1024 →
        u.hw.isRaised (fid srcTnd 2 1) = true) := by
  have handed : placementReady us s.hw =
      let v : Hw := { s.hw with tnd := { s.hw.tnd with shadow := some p, computing := none, planTime := us % 65536 } }
      if p.unplaced ≠ 0 ∧ p.unplaced ≠ ((s.hw.tnd.active.map (·.unplaced)).getD 0) then v.raise (fid srcTnd 2 1) (le 2 p.unplaced) else v := by
    unfold placementReady
    rw [h]
    dsimp only
    cases s.hw.tnd.active <;> rfl
  have told := Hw.raise_records { s.hw with tnd := { s.hw.tnd with shadow := some p, computing := none, planTime := us % 65536 } }
    (fid srcTnd 2 1) (le 2 p.unplaced) (by decide)
  have works : Hw.Works { s.hw with tnd := { s.hw.tnd with shadow := some p, computing := none, planTime := us % 65536 } } (placementReady us s.hw) := by
    rw [handed]
    exact .ite told.works (.refl _)
  obtain ⟨u, ran, log⟩ := State.clocked_logOnly on (placementReady us) rfl (works.mild (Hw.mild_of_empty q))
  refine ⟨u, ran, log.tnd.trans works.tnd, fun some' differs room => ?_⟩
  rw [log.isRaised]
  change (placementReady us s.hw).isRaised _ = true
  rw [handed]
  dsimp only
  rw [if_pos ⟨some', differs⟩]
  exact Hw.isRaised_raise _ _ _ (by decide) room

omit on in
theorem exec_placementReady_idle (us : Nat) (h : s.hw.tnd.computing = none) : exec (.placementReady us) s = .next s := by
  refine next_clocked_same q (f := placementReady us) ?_
  unfold placementReady
  rw [h]

end

/-- Settles O24: the boundary, the cut and the hand-over by what each finds due. -/
theorem framesAndPlacementsAdvance : Obligations.FramesAndPlacementsAdvance := fun _ q on =>
  ⟨exec_frameBoundary_idle q on, exec_frameBoundary_early q on, exec_frameBoundary_pins q on,
    fun _ _ run due primary waits => ⟨exec_frameBoundary_adopts q on run due primary waits, exec_frameBoundary_refuses q on run due waits⟩,
    exec_placementCut q on, exec_placementCut_idle q, fun _ us => exec_placementReady q on us, exec_placementReady_idle q⟩

end Sys2Proof.Machine
end

section
/-! PROOFS. The mode opcodes, RESET_SOFT, SLEEP and CASCADE_STATUS (R55 to R63, R70, R275). -/

namespace Sys2Proof.Machine

section
variable {s : State} {h : Hdr} {x : Session}

/-- The answer of a command whose meaning sees to the other devices of a cascade itself. -/
theorem State.exec_answers_own {c : Instr} {body : Caller → State → State × Ans} {t : State} {a : Ans} (k : s.Takes c h x) (hop : opOf c ≠ 0x01)
    (own : (rowOf c).alone = true) (he : exec c s = .next (s.serve c h (rowOf c) (paramsOf c) body))
    (hb : body (callerOf h (s.took h x).cmd) (s.took h x) = (t, a)) (hw : a.wait = none) (q : t.hw.outbox = []) :
    exec c s = .next (t.reply h (opOf c) a) := by
  rw [he, State.serve_still k.2 (rowOf_op c h k.1 ▸ hop) hb hw (.inr (.inr own)) q, rowOf_op c h k.1]

/-! ### RESET_SOFT -/

theorem resetSoft_boots (t : s.Takes (.resetSoft h 0) h x) : exec (.resetSoft h 0) s = .next ((resetTo (s.took h x) (islandAfter s 2) (strapsAfter s)
    { step := 1, startCause := 2 } s.hw.free).reply h 0x06 (ansOk [])) := by
  have reset := State.hwStep_restarts (s.took h x) (fun hw => if (0 : U8).toNat = 0 then hw.restart 2 else hw.sleepByReset) (cause := 2) (by decide)
    (w := (s.took h x).hw) rfl rfl
  refine State.exec_answers_own (a := ansOk []) t (Nat.ne_of_beq_eq_false rfl) rfl rfl ?_ rfl rfl
  exact (if_neg (by decide)).trans ((if_neg (by simp)).trans (congrArg (·, ansOk []) reset))

theorem resetSoft_sleeps (t : s.Takes (.resetSoft h 1) h x) : exec (.resetSoft h 1) s = .next ((resetTo (s.took h x) (islandAfter s 2) (strapsAfter s)
    { mode := .dormant, step := 0, startCause := 2, wakeMask := 1, faultLow := true } s.hw.free).reply h 0x06 (ansOk [])) := by
  have reset := State.hwStep_restart (s.took h x) (fun hw => if (1 : U8).toNat = 0 then hw.restart 2 else hw.sleepByReset) (cause := 2) (by decide)
    (d := { mode := .dormant, step := 0, startCause := 2, wakeMask := 1, faultLow := true }) (w := (s.took h x).hw) rfl rfl
  have awake : s.hw.dev.mode ≠ .boot := t.2.mode.2.2
  refine State.exec_answers_own (a := ansOk []) t (Nat.ne_of_beq_eq_false rfl) rfl rfl ?_ rfl rfl
  exact (if_neg (by decide)).trans ((if_neg fun e => awake e.2).trans (congrArg (·, ansOk []) reset))

/-! ### MODE_GET and MODE_HISTORY -/

theorem modeGet_served (t : s.Takes (.modeGet h) h x) : s.Served (.modeGet h) h x s.accepted
    (ansOk (le 1 s.hw.dev.mode.code ++ le 1 (match s.hw.dev.target with | some m => m.code | none => 0xFF))) :=
  State.served_read t (Nat.ne_of_beq_eq_false rfl) rfl rfl rfl

theorem ModeEntry.bytes_length (e : ModeEntry) : e.bytes.length = 12 := rfl

theorem modeHistory_length (l : List ModeEntry) : (l.flatMap ModeEntry.bytes).length = 12 * l.length := by
  simp [List.length_flatMap, ModeEntry.bytes_length, Nat.mul_comm]

theorem modeHistory_served (t : s.Takes (.modeHistory h) h x) (few : s.hw.dev.history.length ≤ 16) : ∃ bytes : List Byte, bytes.length = 192 ∧
    bytes.take (12 * s.hw.dev.history.length) = s.hw.dev.history.flatMap ModeEntry.bytes ∧ s.Served (.modeHistory h) h x s.accepted (ansOk bytes) := by
  have length := modeHistory_length s.hw.dev.history
  refine ⟨s.hw.dev.history.flatMap ModeEntry.bytes ++ List.replicate (192 - (s.hw.dev.history.flatMap ModeEntry.bytes).length) 0, ?_,
    List.take_left' length, State.served_read t (Nat.ne_of_beq_eq_false rfl) rfl rfl rfl⟩
  rw [List.length_append, List.length_replicate]
  omega

/-! ### MODE_SET and MODE_SET_AT -/

theorem Mode.ofCode_code (m : Mode) : Mode.ofCode m.code = some m := by cases m <;> rfl

/-- An operation that a session began is none that yields (R366). -/
theorem State.endAuto_owned (u : State) (owned : ∀ o ∈ u.cmd.ops, o.owner.isSome = true) : u.endAuto = u := by
  unfold State.endAuto
  generalize u.cmd.ops = l at owned
  induction l with
  | nil => rfl
  | cons o l ih =>
    have some' := owned o List.mem_cons_self
    rw [List.foldl_cons, if_neg (fun e => by simp [Option.isNone_iff_eq_none.mp e.2] at some')]
    exact ih fun p hp => owned p (List.mem_cons_of_mem _ hp)

section
variable {g : U8}

theorem modeSet_same (t : s.Takes (.modeSet h g) h x) (same : g.toNat = s.hw.dev.mode.code) : s.Served (.modeSet h g) h x s.accepted (ansOk []) := by
  refine State.served_read t (Nat.ne_of_beq_eq_false rfl) rfl ?_ rfl
  rw [same, Mode.ofCode_code]
  exact if_pos rfl

theorem modeSet_begins {m : Mode} (t : s.Takes (.modeSet h g) h x) (target : m ∈ [Mode.config, .scan, .service]) (code : g.toNat = m.code)
    (other : m ≠ s.hw.dev.mode) (slots : s.cmd.liveOps < 4) (owned : ∀ o ∈ s.cmd.ops, o.owner.isSome = true) : s.Begins (.modeSet h g) h x
      { s.accepted with free := s.hw.free + 2, dev := { s.hw.dev with target := some m, sched := none } }
      { stepOp 0x21 [] [m.code] with holdAll := true } := by
  have kept := State.endAuto_owned { s.took h x with hw := { s.accepted with dev := { s.hw.dev with target := some m, sched := none } } }
    (by simpa using owned)
  refine State.begins_of (hw := { s.accepted with dev := { s.hw.dev with target := some m, sched := none } }) t (Nat.ne_of_beq_eq_false rfl) rfl ?_
    t.2.quiet rfl (.inr (.inr rfl))
  rw [code, Mode.ofCode_code]
  refine (if_neg other).trans ((if_neg (not_not.mpr (List.contains_iff_mem.mpr target))).trans ((if_neg (by simpa using slots)).trans ?_))
  exact congrArg (fun u : State => u.begin _ _) kept

theorem modeSetAt_served {time : U64} {m : Mode} (t : s.Takes (.modeSetAt h g time) h x) (code : g.toNat = m.code)
    (goes : (s.hw.dev.mode = .config ∧ m = .scan ∧ s.hw.preScan = none) ∨ (s.hw.dev.mode = .scan ∧ m = .config))
    (near : s.hw.clk.time.toNat + 800000 ≤ time.toNat) (far : time.toNat ≤ s.hw.clk.time.toNat + 48000000000) :
    s.Served (.modeSetAt h g time) h x { s.accepted with dev := { s.hw.dev with sched := some (m, time) } } (ansOk []) := by
  have allowed : (s.hw.dev.mode = .config ∧ m = .scan) ∨ (s.hw.dev.mode = .scan ∧ m = .config) := goes.imp_left fun e => ⟨e.1, e.2.1⟩
  have met : (if m = .scan then (s.took h x).hw.preScan else none) = none := by
    split
    · next scan => exact goes.elim (fun e => e.2.2) (fun e => by rw [e.2] at scan; cases scan)
    · rfl
  refine State.served_of t (Nat.ne_of_beq_eq_false rfl) rfl ?_ t.2.quiet rfl (.inl (t.2.header.alone rfl))
  rw [code, Mode.ofCode_code]
  refine (if_neg (not_not.mpr allowed)).trans ((if_neg (not_or.mpr ⟨Nat.not_lt.mpr near, Nat.not_lt.mpr far⟩)).trans ?_)
  rw [met]
  rfl

end

/-! ### GUARD_ARM and GUARD_ENTER -/

section Wch
variable (w : Hw) (W : WchSt)

theorem Hw.guardPlaceable_wch : ({ w with wch := W } : Hw).guardPlaceable = w.guardPlaceable := by
  have e := fun first => Hw.computePlacement_wch { w with tnd := { w.tnd with pinned := w.guardRows, pins := true } } W first
  exact congrArg (fun p : Option Placement => match p with
    | some p => w.guardRows.all (fun k => p.tracks.any (fun e => decide (trackKey (e.2.row, e.2.strip) = k)))
    | none => w.guardRows.isEmpty) (e _)

/-- The conditions of GUARD do not read Watch. -/
theorem Hw.preGuard_wch (crcOk tokenOk : Bool) : ({ w with wch := W } : Hw).preGuard crcOk tokenOk = w.preGuard crcOk tokenOk := by
  simp only [Hw.preGuard, Hw.guardPlaceable_wch]
  rfl

end Wch

theorem took_preGuard (crcOk tokenOk : Bool) : (s.took h x).hw.preGuard crcOk tokenOk = s.hw.preGuard crcOk tokenOk := Hw.preGuard_wch s.hw _ crcOk tokenOk

theorem took_mapCrcOk (single : (s.took h x).hw.inCascade = false) (crc : U32) :
    (s.took h x).hw.mapCrcOk crc.toNat = ((s.took h x).hw, decide (crc.toNat = s.hw.guardCrc)) := Hw.mapCrcOk_alone _ single

section Arm
variable {a : U8} {crc : U32} (t : s.Takes (.guardArm h a crc) h x) (set : a.toNat < 8) (closed : s.hw.sec.scopeD = none)
include t set closed

theorem guardArm_common {code : Nat} (failed : s.hw.preGuard (decide (crc.toNat = s.hw.guardCrc)) true = some code) :
    s.Served (.guardArm h a crc) h x s.accepted (ansPre code) := by
  refine State.served_read t (Nat.ne_of_beq_eq_false rfl) rfl ?_ rfl
  refine (if_neg (Nat.not_lt.mpr (Nat.le_of_lt_succ set))).trans ((if_neg (ne_true_of_eq_false (congrArg Option.isSome closed))).trans ?_)
  rw [took_mapCrcOk (t.2.header.alone rfl)]
  dsimp only
  rw [took_preGuard, failed]

theorem guardArm_own {code : Nat} (ready : s.hw.preGuard (decide (crc.toNat = s.hw.guardCrc)) true = none) (failed : s.hw.preArm a.toNat = some code) :
    s.Served (.guardArm h a crc) h x s.accepted (ansPre code) := by
  have found : (s.took h x).hw.preArm a.toNat = some code := failed
  refine State.served_read t (Nat.ne_of_beq_eq_false rfl) rfl ?_ rfl
  refine (if_neg (Nat.not_lt.mpr (Nat.le_of_lt_succ set))).trans ((if_neg (ne_true_of_eq_false (congrArg Option.isSome closed))).trans ?_)
  rw [took_mapCrcOk (t.2.header.alone rfl)]
  dsimp only
  rw [took_preGuard, ready]
  dsimp only
  rw [found]

theorem guardArm_arms (ready : s.hw.preGuard (decide (crc.toNat = s.hw.guardCrc)) true = none) (fits : s.hw.preArm a.toNat = none) : ∃ token < 2 ^ 32,
    s.Served (.guardArm h a crc) h x { s.accepted with free := s.hw.free + 1, kpr := { s.hw.kpr with arm := some (token, a.toNat, s.hw.ticks) } }
      (ansOk (le 4 token)) := by
  have found : (s.took h x).hw.preArm a.toNat = none := fits
  refine ⟨s.hw.draw.1 % 2 ^ 32, Nat.mod_lt _ (by decide),
    State.served_of t (Nat.ne_of_beq_eq_false rfl) rfl ?_ t.2.quiet rfl (.inl (t.2.header.alone rfl))⟩
  refine (if_neg (Nat.not_lt.mpr (Nat.le_of_lt_succ set))).trans ((if_neg (ne_true_of_eq_false (congrArg Option.isSome closed))).trans ?_)
  rw [took_mapCrcOk (t.2.header.alone rfl)]
  dsimp only
  rw [took_preGuard, ready]
  dsimp only
  rw [found]
  rfl

end Arm

section Enter
variable {token crc : U32} (t : s.Takes (.guardEnter h token crc) h x)
include t

theorem guardEnter_refused {code : Nat} (failed : s.hw.preGuard (decide (crc.toNat = s.hw.guardCrc)) (s.hw.tokenOk token.toNat) = some code) :
    s.Served (.guardEnter h token crc) h x s.accepted (ansPre code) := by
  have found : (s.took h x).hw.preGuard (decide (crc.toNat = s.hw.guardCrc)) ((s.took h x).hw.tokenOk token.toNat) = some code :=
    (took_preGuard _ _).trans failed
  refine State.served_read t (Nat.ne_of_beq_eq_false rfl) rfl ?_ rfl
  dsimp only
  rw [took_mapCrcOk (t.2.header.alone rfl)]
  dsimp only
  rw [found]

theorem guardEnter_enters (ready : s.hw.preGuard (decide (crc.toNat = s.hw.guardCrc)) (s.hw.tokenOk token.toNat) = none) :
    exec (.guardEnter h token crc) s = .next (((s.took h x).hwStep (fun hw => hw.enterGuard)).reply h 0x23 (ansOk [])) := by
  have single : (s.took h x).hw.inCascade = false := t.2.header.alone rfl
  have found : (s.took h x).hw.preGuard (decide (crc.toNat = s.hw.guardCrc)) ((s.took h x).hw.tokenOk token.toNat) = none :=
    (took_preGuard _ _).trans ready
  have others : (s.took h x).hw.othersFail = ((s.took h x).hw, none) := if_pos (ne_true_of_eq_false single)
  refine State.exec_answers_own (a := ansOk []) t (Nat.ne_of_beq_eq_false rfl) rfl rfl ?_ rfl (State.hwStep_outbox _ _)
  dsimp only
  rw [took_mapCrcOk single]
  dsimp only
  rw [found, others]
  exact congrArg (fun w => (({ s.took h x with hw := w } : State).drain, ansOk [])) (if_neg (ne_true_of_eq_false single))

end Enter

end

/-! ### SLEEP -/

section
variable {w : Hw} (m : w.Mild)
include m

theorem Hw.Mild.of_same {v : Hw} (o : v.outbox = w.outbox) : v.Mild := by
  rw [Hw.Mild, o]
  exact m

theorem Hw.Mild.event (src code : Nat) (p : List Byte) : (w.event src code p).Mild := (Hw.post_records w src code p false).mild m

omit m in
theorem Hw.Mild.foldl {A : Type} {f : Hw → A → Hw} (h : ∀ (v : Hw) (y : A), v.Mild → (f v y).Mild) (l : List A) (v : Hw) (m : v.Mild) : (l.foldl f v).Mild := by
  induction l generalizing v with
  | nil => exact m
  | cons y l ih => exact ih _ (h v y m)

theorem Hw.Mild.swapLoop (a : Nat) (outer keep : Bool) : (w.swapLoop a outer false keep).Mild := by
  unfold Hw.swapLoop
  dsimp only
  split
  · exact m
  · rw [if_neg Bool.false_ne_true]
    exact Hw.Mild.event (m.of_same rfl) _ _ _

omit m in
theorem Hw.setAxis_outbox (w : Hw) (a : Nat) (x : Axis) : (w.setAxis a x).outbox = w.outbox := by
  unfold Hw.setAxis
  rfl

omit m in
theorem Hw.setDac_outbox (w : Hw) (n code slew : Nat) : (w.setDac n code slew).outbox = w.outbox := by
  unfold Hw.setDac
  rfl

omit m in
theorem Hw.stopOutputs_outbox (w : Hw) (a : Nat) (s : AxisState) : (w.stopOutputs a s).outbox = w.outbox := by
  unfold Hw.stopOutputs
  dsimp only
  split
  · rw [Hw.setAxis_outbox]
  · split <;> simp only [Hw.setDac_outbox, Hw.setAxis_outbox]

/-- An axis tells its new state, and before it the sections it swaps in. -/
theorem Hw.Mild.axisTo (a : Nat) (s : AxisState) (cause : Nat) : (w.axisTo a s cause).Mild := by
  unfold Hw.axisTo
  dsimp only
  split
  · exact m
  · refine Hw.Mild.event ?_ _ _ _
    split
    · exact m.of_same rfl
    · exact m.of_same rfl
    · exact Hw.Mild.of_same ((m.swapLoop a false false).swapLoop a true false) (Hw.stopOutputs_outbox _ _ _)

/-- A lane tells its new state, and that a step over it has ended. -/
theorem Hw.Mild.toLane (l : Nat) (s : LaneState) (f : Lane → Lane) : (w.toLane l s f).Mild := by
  have stepped : ∀ (v : Hw) x, v.Mild → (v.stepOver x).Mild := by
    intro v x m
    unfold Hw.stepOver
    split
    · exact fun y hy => (List.mem_append.mp hy).elim (m y) fun e => by rw [List.mem_singleton.mp e]; rfl
    · exact m
  have moved := fun y x => stepped (w.setLane l y) x (m.of_same rfl)
  unfold Hw.toLane
  dsimp only
  split
  · exact moved _ _
  · exact Hw.Mild.event (moved _ _) _ _ _

/-- DORMANT is entered with the wake sources given; Watch is told last that its command side goes (R70). -/
theorem Hw.sleep_rests (k : Nat) : (w.sleep k).dev.mode = .dormant ∧ (w.sleep k).dev.wakeMask = k % 4 ∧ (w.sleep k).dev.hvEnable = false ∧
    ∃ l, (w.sleep k).outbox = l ++ [.deviceReset] ∧ ∀ y ∈ l, y.mild = true := by
  unfold Hw.sleep
  generalize List.range 4 = axes
  generalize List.range 8 = lanes
  dsimp only
  refine ⟨rfl, rfl, rfl, _, rfl, ?_⟩
  unfold Hw.toMode Hw.command
  refine Hw.Mild.foldl (f := fun v l => v.toLane l .anchored id) (fun v l m => m.toLane l .anchored id) lanes _ ?_
  refine Hw.Mild.foldl (fun v a m => ?_) axes w m
  split
  · exact (m.axisTo a .safe 3).axisTo a .off 3
  · exact m.axisTo a .off 3

end

theorem drainGo_quiet (n : Nat) {u : State} (q : u.hw.outbox = []) : drainGo n u = u := by
  have same : ({ u with hw := { u.hw with outbox := [] } } : State) = u := by rw [← q]
  induction n with
  | zero => exact same
  | succ n ih =>
    change drainGo n (u.hw.outbox.foldl State.signal { u with hw := { u.hw with outbox := [] } }) = u
    rw [same, q]
    exact ih

/-- Delivery that ends with a reset: the command side is gone, and of the hardware no more than the event log has changed. -/
theorem State.drain_reset (u : State) {l : List Signal} (e : u.hw.outbox = l ++ [.deviceReset]) (mild : ∀ y ∈ l, y.mild = true) :
    u.drain.cmd = {} ∧ Hw.LogOnly { u.hw with outbox := [] } u.drain.hw := by
  have log := State.signals_logOnly l mild { u with hw := { u.hw with outbox := [] } }
  obtain ⟨v, ev⟩ : ∃ v, v = l.foldl State.signal { u with hw := { u.hw with outbox := [] } } := ⟨_, rfl⟩
  rw [← ev] at log
  have empty : v.hw.outbox = [] := by
    obtain ⟨_, _, _, _, e⟩ := log
    rw [e]
  have done : u.drain = { v with cmd := {}, mirror := {} } := by
    change drainGo 2 (u.hw.outbox.foldl State.signal _) = _
    rw [e, List.foldl_append, ← ev]
    exact drainGo_quiet 2 (u := { v with cmd := {}, mirror := {} }) empty
  rw [done]
  exact ⟨rfl, log⟩

/-- The reply to a transport without a session changes no session and no operation. -/
theorem CmdSt.answer_fresh (t u : Transport) (p : Packet) : (({} : CmdSt).answer t p).session u = none ∧ (({} : CmdSt).answer t p).ops = [] := by
  have none' : ∀ v, ({} : CmdSt).session v = none := fun v => by cases v <;> rfl
  refine ⟨?_, CmdSt.ops_answer _ _ _⟩
  unfold CmdSt.answer
  rw [none', CmdSt.session_push]
  exact none' u

theorem sleep_rests {s : State} {h : Hdr} {x : Session} {m : U8} (t : s.Takes (.sleep h m) h x) (some' : 1 ≤ m.toNat) (few : m.toNat ≤ 3) :
    ∃ u, exec (.sleep h m) s = .next u ∧ u.hw.dev.mode = .dormant ∧ u.hw.dev.wakeMask = m.toNat ∧ u.hw.dev.hvEnable = false ∧
      u.cmd.session h.tr = none ∧ u.cmd.ops = [] := by
  have single : (s.took h x).hw.inCascade = false := t.2.header.alone rfl
  obtain ⟨mode, wake, bias, l, told, mild⟩ := Hw.sleep_rests (w := (s.took h x).hw) (Hw.mild_of_empty t.2.quiet) m.toNat
  obtain ⟨gone, log⟩ := State.drain_reset { s.took h x with hw := (s.took h x).hw.sleep m.toNat } told mild
  have good : ¬ (m = 0 ∨ 4 ≤ m.toNat) := by
    rintro (rfl | many)
    · exact absurd some' (by decide)
    · omega
  refine ⟨_, State.exec_answers_own (a := ansOk []) t (Nat.ne_of_beq_eq_false rfl) rfl rfl ((if_neg good).trans (congrArg (fun w =>
    (({ s.took h x with hw := w } : State).drain, ansOk [])) (if_neg (ne_true_of_eq_false single)))) rfl (State.drain_outbox _), ?_⟩
  obtain ⟨silent, idle⟩ := CmdSt.answer_fresh h.tr h.tr (Hw.replyTo (({ s.took h x with hw := (s.took h x).hw.sleep m.toNat } : State).drain.hw) 0x24 h (ansOk []))
  rw [← gone] at silent idle
  refine ⟨(congrArg DevSt.mode log.dev).trans mode, ((congrArg DevSt.wakeMask log.dev).trans wake).trans (by omega),
    (congrArg DevSt.hvEnable log.dev).trans bias, silent, idle⟩

/-! ### CASCADE_STATUS -/

section
variable (w : Hw)

/-- The entry of device `i`, its free bytes those that come after the entries before it. -/
def Hw.cascadeBytes (i : Nat) : List Byte := (({ w with free := w.free + 2 * i } : Hw).cascadeEntry i).2

theorem Hw.cascadeEntry_free (i : Nat) : (w.cascadeEntry i).1 = { w with free := w.free + 2 } ∧ (w.cascadeEntry i).2.length = 8 := by
  unfold Hw.cascadeEntry
  dsimp only [Hw.random, Hw.draw]
  split
  · split <;> exact ⟨rfl, rfl⟩
  · split
    · exact ⟨rfl, rfl⟩
    · split
      · exact ⟨rfl, rfl⟩
      · split <;> exact ⟨rfl, rfl⟩

theorem Hw.cascadeBytes_length (i : Nat) : (w.cascadeBytes i).length = 8 := (Hw.cascadeEntry_free _ i).2

theorem Hw.cascadeEntries {f : Hw × List Byte → Nat → Hw × List Byte} (step : ∀ e i, f e i = ((e.1.cascadeEntry i).1, e.2 ++ (e.1.cascadeEntry i).2)) (n : Nat) :
    (List.range n).foldl f (w, []) = ({ w with free := w.free + 2 * n }, (List.range n).flatMap w.cascadeBytes) := by
  induction n with
  | zero => rfl
  | succ n ih =>
    rw [List.range_succ, List.foldl_append, ih, List.flatMap_append, List.foldl_cons, List.foldl_nil, step, (Hw.cascadeEntry_free _ n).1,
      List.flatMap_singleton]
    rfl

theorem flatMap_range_length {f : Nat → List Byte} (eight : ∀ i, (f i).length = 8) (n : Nat) : ((List.range n).flatMap f).length = 8 * n := by
  simp [List.length_flatMap, eight, Nat.mul_comm]

/-- The entries from number `i` on. -/
theorem flatMap_range_drop {f : Nat → List Byte} (eight : ∀ i, (f i).length = 8) {n i : Nat} (inside : i < n) :
    ∃ r, ((List.range n).flatMap f).drop (8 * i) = f i ++ r := by
  induction n with
  | zero => exact absurd inside (Nat.not_lt_zero i)
  | succ n ih =>
    have length := flatMap_range_length eight n
    rw [List.range_succ, List.flatMap_append, List.flatMap_singleton]
    rcases Nat.lt_succ_iff_lt_or_eq.mp inside with before | rfl
    · obtain ⟨r, e⟩ := ih before
      exact ⟨r ++ f n, by rw [List.drop_append_of_le_length (by omega), e, List.append_assoc]⟩
    · exact ⟨[], by rw [List.drop_left' length, List.append_nil]⟩

end

section
variable {w : Hw}

theorem Hw.cascadeBytes_own (alone : w.cas.index = 0) (r : List Byte) : (w.cascadeBytes 0 ++ r).take 2 = le 1 1 ++ le 1 w.dev.mode.code ∧
    (w.cascadeBytes 0 ++ r)[3]? = (le 1 w.faultSummary)[0]? := by
  unfold Hw.cascadeBytes Hw.cascadeEntry
  dsimp only [Hw.random, Hw.draw]
  rw [if_pos alone.symm, if_pos rfl]
  exact ⟨rfl, rfl⟩

theorem Hw.cascadeBytes_serving (primary : w.isSecondary = false) (index : w.cas.index = 0) {i : Nat} (serves : w.serves i = true) (other : 1 ≤ i) (r : List Byte) :
    (w.cascadeBytes i ++ r).take 3 = le 1 1 ++ le 1 w.dev.mode.code ++ le 1 (if (w.lane (3 + i)).state = .active then 1 else 0) ∧
      ((w.cascadeBytes i ++ r).drop 4).take 4 = leInt 4 (w.secd i).drift := by
  have up : b2n (decide ((w.lane (3 + i)).state = .active)) = if (w.lane (3 + i)).state = .active then 1 else 0 := by simp [b2n]
  have found : w.cascadeBytes i = le 1 1 ++ le 1 w.dev.mode.code ++ le 1 (b2n (decide ((w.lane (3 + i)).state = .active))) ++
      (((Hw.random 2 { w with free := w.free + 2 * i }).1.drop 3).take 1) ++ leInt 4 (w.secd i).drift :=
    congrArg Prod.snd ((if_neg (show ¬ i = w.cas.index by omega)).trans ((if_neg (ne_true_of_eq_false primary)).trans (if_pos serves)))
  rw [found, up]
  exact ⟨rfl, rfl⟩

end

theorem cascadeStatus_served {s : State} {h : Hdr} {x : Session} (t : s.Takes (.cascadeStatus h) h x) : ∃ (bytes : List Byte) (n : Nat), bytes.length = 32 ∧
    s.Served (.cascadeStatus h) h x { s.accepted with free := n } (ansOk bytes) ∧
    (s.hw.isSecondary = false → s.hw.cas.index = 0 → bytes.take 2 = le 1 1 ++ le 1 s.hw.dev.mode.code ∧ bytes[3]? = (le 1 s.hw.faultSummary)[0]? ∧
      ∀ i, s.hw.serves i = true → 1 ≤ i → i ≤ 3 → (bytes.drop (8 * i)).take 3 = le 1 1 ++ le 1 s.hw.dev.mode.code ++
          le 1 (if (s.hw.lane (3 + i)).state = .active then 1 else 0) ∧ ((bytes.drop (8 * i)).drop 4).take 4 = leInt 4 (s.hw.secd i).drift) := by
  have eight := Hw.cascadeBytes_length s.accepted
  have length := flatMap_range_length eight 4
  have from' := fun i (few : i < 4) => flatMap_range_drop eight few
  have answered : s.Served (.cascadeStatus h) h x { s.accepted with free := s.hw.free + 8 } (ansOk ((List.range 4).flatMap s.accepted.cascadeBytes)) := by
    refine State.served_of t (Nat.ne_of_beq_eq_false rfl) rfl ?_ t.2.quiet rfl (.inr (.inl rfl))
    dsimp only
    rw [Hw.cascadeEntries (s.took h x).hw (fun _ _ => ?_) 4]
    · rfl
    · rfl
  revert length from' answered
  generalize (List.range 4).flatMap s.accepted.cascadeBytes = bytes
  intro length from' answered
  refine ⟨bytes, s.hw.free + 8, length, answered, fun primary index => ?_⟩
  obtain ⟨r, e⟩ := from' 0 (by decide)
  rw [Nat.mul_zero, List.drop_zero] at e
  obtain ⟨first, faults⟩ := Hw.cascadeBytes_own (w := s.accepted) index r
  rw [← e] at first faults
  refine ⟨first, faults, fun i serves other few => ?_⟩
  obtain ⟨r, e⟩ := from' i (Nat.lt_succ_of_le few)
  rw [e]
  exact Hw.cascadeBytes_serving (w := s.accepted) primary index serves other r

/-- Settles O29: each opcode's meaning on a device that stands alone is its row's, condition by condition. -/
theorem modeCommandsAreServed : Obligations.ModeCommandsAreServed := fun _ _ _ =>
  ⟨resetSoft_boots, resetSoft_sleeps, modeGet_served, modeHistory_served, fun _ => modeSet_same, fun _ _ => modeSet_begins,
    fun _ _ t set closed => ⟨fun _ => guardArm_common t set closed, fun _ => guardArm_own t set closed, guardArm_arms t set closed⟩,
    fun _ _ t => ⟨fun _ => guardEnter_refused t, guardEnter_enters t⟩, fun _ => sleep_rests, fun _ _ _ => modeSetAt_served, cascadeStatus_served⟩

end Sys2Proof.Machine
end

section
/-! PROOFS. Lantern's ledger, its grid and limits, the cross-check (R99 to R107). -/

namespace Sys2Proof.Machine

/-! ### Arithmetic and sparse arrays -/

theorem le_mul_ceilDiv (a : Nat) {b : Nat} (h : 0 < b) : a ≤ b * ceilDiv a b := by
  have parts := Nat.div_add_mod (a + b - 1) b
  have rest := Nat.mod_lt (a + b - 1) h
  unfold ceilDiv
  omega

theorem ceilDiv_zero {b : Nat} (h : 0 < b) : ceilDiv 0 b = 0 := Nat.div_eq_of_lt (by omega)

/-- A running maximum is at least its start and every value it met. -/
theorem le_foldl_max {A : Type} (f : A → Nat) (l : List A) (n : Nat) :
    n ≤ l.foldl (fun m e => max m (f e)) n ∧ ∀ e ∈ l, f e ≤ l.foldl (fun m e => max m (f e)) n := by
  induction l generalizing n with
  | nil => simp
  | cons a l ih =>
    obtain ⟨start, met⟩ := ih (max n (f a))
    rw [List.foldl_cons]
    refine ⟨(Nat.le_max_left _ _).trans start, fun e he => ?_⟩
    rcases List.mem_cons.mp he with rfl | he
    · exact (Nat.le_max_right _ _).trans start
    · exact met e he

section
variable {V : Type} (d : V)

theorem mget_absent {m : SMap V} {i : Nat} (h : ∀ e ∈ m, e.1 ≠ i) : mget d m i = d := by
  induction m with
  | nil => rfl
  | cons e m ih =>
    rw [mget, if_neg (h e (by simp))]
    exact ih fun a ha => h a (by simp [ha])

theorem mget_listed_or (m : SMap V) (i : Nat) : (∃ e ∈ m, e.1 = i) ∨ mget d m i = d := by
  by_cases h : ∃ e ∈ m, e.1 = i
  · exact .inl h
  · exact .inr (mget_absent d fun e he k => h ⟨e, he, k⟩)

variable [DecidableEq V]

/-- Every entry of an array changed as its key says; what becomes the default leaves the list. -/
def mmapAt (f : Nat → V → V) (m : SMap V) : SMap V := (m.map (fun e => (e.1, f e.1 e.2))).filter (fun e => decide (e.2 ≠ d))

theorem mmapAt_key {f : Nat → V → V} {m : SMap V} {e : Nat × V} (h : e ∈ mmapAt d f m) : ∃ a ∈ m, a.1 = e.1 := by
  obtain ⟨a, ha, rfl⟩ := List.mem_map.mp (List.mem_filter.mp h).1
  exact ⟨a, ha, rfl⟩

theorem mmapAt_sorted (f : Nat → V → V) {m : SMap V} (h : m.Pairwise (fun a b => a.1 < b.1)) : (mmapAt d f m).Pairwise (fun a b => a.1 < b.1) :=
  ((List.pairwise_map (f := fun e : Nat × V => (e.1, f e.1 e.2)) (R := fun a b => a.1 < b.1)).mpr h).filter _

theorem mget_mmapAt {f : Nat → V → V} {m : SMap V} (h : m.Pairwise (fun a b => a.1 < b.1)) {i : Nat} (hd : f i d = d) :
    mget d (mmapAt d f m) i = f i (mget d m i) := by
  induction m with
  | nil => exact hd.symm
  | cons e m ih =>
    obtain ⟨k, v⟩ := e
    obtain ⟨first, rest⟩ := List.pairwise_cons.mp h
    have tail := ih rest
    have unlisted : k = i → mget d (mmapAt d f m) i = d := fun e => mget_absent d fun a ha => by
      obtain ⟨b, hb, same⟩ := mmapAt_key d ha
      have later : k < b.1 := first b hb
      omega
    have step : mmapAt d f ((k, v) :: m) = if f k v = d then mmapAt d f m else (k, f k v) :: mmapAt d f m := by
      by_cases gone : f k v = d <;> simp [mmapAt, gone]
    rw [step]
    by_cases e : k = i
    · subst e
      split
      · next gone => rw [unlisted rfl, mget, if_pos rfl, gone]
      · rw [mget, if_pos rfl, mget, if_pos rfl]
    · split
      · rw [tail, mget, if_neg e]
      · rw [mget, if_neg e, tail, mget, if_neg e]

end

/-! ### Banks, windows and cells -/

theorem bw_div_mod (b : Nat) {w : Nat} (h : w < 3) : bw b w / 3 = b ∧ bw b w % 3 = w := by
  unfold bw
  omega

theorem bw_of_index (i : Nat) : bw (i / 3) (i % 3) = i := Nat.div_add_mod i 3

theorem cellIx_div (b w : Nat) {c : Nat} (h : c < 4096) : cellIx b w c / 4096 = bw b w ∧ cellIx b w c % 4096 = c := by
  unfold cellIx
  omega

theorem LntSt.used16_eq (l : LntSt) (b w c : Nat) : l.used16 b w c = 16 * (mget {} l.cells (cellIx b w c)).cur +
    l.cap b w * ((mget {} l.cells (cellIx b w c)).buckets.sum + (mget [] l.common (bw b w)).sum) := by
  rw [List.sum_eq_foldl, List.sum_eq_foldl]
  rfl

/-! ### LNT_BUCKET_CLOSE (R100) -/

theorem closeCell_empty (cap : Nat) : closeCell cap {} = {} := by
  have none := ceilDiv_zero (b := max 1 cap) (by omega)
  simp [closeCell, none]

/-- The bucket that closes holds what was open, rounded up. -/
theorem closeCell_covers {cap : Nat} (h : 0 < cap) (x : Cell) : 16 * x.cur ≤ cap * (closeCell cap x).buckets.headD 0 := by
  have up := le_mul_ceilDiv (16 * x.cur) (b := max 1 cap) (by omega)
  rw [show max 1 cap = cap by omega] at up
  unfold closeCell
  rw [show max 1 cap = cap by omega]
  dsimp only
  split
  · next zero =>
    have closed : ceilDiv (16 * x.cur) cap = 0 := of_decide_eq_true (List.all_eq_true.mp zero _ (by simp))
    rw [closed] at up
    exact up
  · simpa using up

/-- What the close of a window's buckets makes of the cell listed at a key. -/
def LntSt.slide (l : LntSt) (w k : Nat) (x : Cell) : Cell := if k / 4096 % 3 = w then closeCell (l.cap (k / 4096 / 3) w) x else x

theorem bucketClose_due {v : Hw} {w : Nat} (run : v.lnt.running = true) (window : w < 3) (due : mget 0 v.lnt.bucketAt w + 100 * v.lnt.window w ≤ v.ticks) :
    ∃ m, bucketClose w v = { v with lnt := { v.lnt with cells := mmapAt {} (v.lnt.slide w) v.lnt.cells, common := m
                                                        bucketAt := mset 0 v.lnt.bucketAt w v.ticks } } := by
  have cells : mmapAt {} (v.lnt.slide w) v.lnt.cells = (v.lnt.cells.map (fun e =>
      if (e.1 / 4096) % 3 = w then (e.1, closeCell (v.lnt.cap (e.1 / 4096 / 3) w) e.2) else e)).filter (fun e => decide (e.2 ≠ {})) := by
    unfold mmapAt LntSt.slide
    congr 2
    funext e
    split <;> rfl
  rw [cells]
  exact ⟨_, if_pos ⟨run, window, due⟩⟩

theorem bucketClose_idle {v : Hw} {w : Nat} (h : v.lnt.running = false ∨ 3 ≤ w ∨ v.ticks < mget 0 v.lnt.bucketAt w + 100 * v.lnt.window w) :
    bucketClose w v = v := by
  refine if_neg ?_
  rintro ⟨run, window, due⟩
  rcases h with h | h | h
  · simp [h] at run
  · omega
  · omega

theorem LntSt.mget_slide {l : LntSt} (sorted : msorted l.cells = true) {b w c : Nat} (window : w < 3) (cell : c < 4096) :
    mget {} (mmapAt {} (l.slide w) l.cells) (cellIx b w c) = closeCell (l.cap b w) (mget {} l.cells (cellIx b w c)) := by
  obtain ⟨bank, window'⟩ := bw_div_mod b window
  have own : ∀ x : Cell, l.slide w (cellIx b w c) x = closeCell (l.cap b w) x := by
    intro x
    rw [LntSt.slide, (cellIx_div b w cell).1, bank, window', if_pos rfl]
  exact (mget_mmapAt {} ((msorted_iff _).mp sorted) ((own _).trans (closeCell_empty _))).trans (own _)

section
variable {s : State} (q : s.hw.outbox = [])
include q

theorem exec_lntBucketClose {w : Nat} (sorted : msorted s.hw.lnt.cells = true) (on : s.hw.awake 5 = true) (run : s.hw.lnt.running = true) (window : w < 3)
    (due : mget 0 s.hw.lnt.bucketAt w + 100 * s.hw.lnt.window w ≤ s.hw.ticks) : ∃ u,
      exec (.lntBucketClose w) s = .next u ∧ mget 0 u.hw.lnt.bucketAt w = s.hw.ticks ∧ u.cmd = s.cmd ∧ u.hw.bcn = s.hw.bcn ∧
      ∀ b < 4, ∀ c < 4096, mget {} u.hw.lnt.cells (cellIx b w c) = closeCell (s.hw.lnt.cap b w) (mget {} s.hw.lnt.cells (cellIx b w c)) ∧
        (0 < s.hw.lnt.cap b w → 16 * (mget {} s.hw.lnt.cells (cellIx b w c)).cur ≤
          s.hw.lnt.cap b w * (mget {} u.hw.lnt.cells (cellIx b w c)).buckets.headD 0) := by
  obtain ⟨m, closed⟩ := bucketClose_due run window due
  refine ⟨_, next_clocked q on closed rfl, mget_mset_same _ _ _ _, rfl, rfl, fun b _ c cell => ?_⟩
  have slid := LntSt.mget_slide (b := b) sorted window cell
  exact ⟨slid, fun capped => (closeCell_covers capped _).trans (Nat.le_of_eq (by rw [← slid]))⟩

end

/-! ### LNT_GRID_WRITE (R103) -/

/-- What a cell keeps of its own where a common bucket takes the place of its newest. -/
def Cell.giveNewest (x : Cell) : Cell :=
  { x with buckets := match x.buckets with
      | _ :: r => if r.all (fun n => decide (n = 0)) then [] else 0 :: r
      | [] => [] }

/-- The cell listed at a key, where bank and window `i` take a common bucket. -/
def giveAt (i k : Nat) (x : Cell) : Cell := if k / 4096 = i then x.giveNewest else x

/-- The newest common bucket of a bank and window replaced. -/
def fillCommon (code : Nat) : List Nat → List Nat
  | _ :: r => if code = 0 ∧ r.all (fun n => decide (n = 0)) then [] else code :: r
  | [] => if code = 0 then [] else [code]

theorem LntSt.fill_eq (l : LntSt) (b w code : Nat) : l.fill b w code = { l with
    cells := mmapAt {} (giveAt (bw b w)) l.cells
    common := mupd [] l.common (bw b w) (fillCommon code) } := by
  have cells : (l.fill b w code).cells = mmapAt {} (giveAt (bw b w)) l.cells := by
    unfold LntSt.fill mmapAt giveAt
    dsimp only
    congr 2
    funext e
    split <;> rfl
  have common : (l.fill b w code).common = mupd [] l.common (bw b w) (fillCommon code) := by
    unfold LntSt.fill
    dsimp only
    congr 1
  rw [← cells, ← common]
  rfl

theorem fillCommon_covers (code : Nat) (x : List Nat) : code ≤ (fillCommon code x).sum := by
  unfold fillCommon
  split
  · split
    · next none => exact Nat.le_of_eq none.1
    · simp
  · split
    · next none => exact Nat.le_of_eq none
    · simp

theorem LntSt.mget_fill {l : LntSt} (sorted : msorted l.cells = true) (b w code b' w' : Nat) {c : Nat} (cell : c < 4096) :
    mget {} (l.fill b w code).cells (cellIx b' w' c) =
      if bw b' w' = bw b w then (mget {} l.cells (cellIx b' w' c)).giveNewest else mget {} l.cells (cellIx b' w' c) := by
  have empty : giveAt (bw b w) (cellIx b' w' c) {} = {} := by
    unfold giveAt
    split <;> rfl
  rw [LntSt.fill_eq]
  refine (mget_mmapAt {} ((msorted_iff _).mp sorted) empty).trans ?_
  rw [giveAt, (cellIx_div b' w' cell).1]

/-- No cell's use falls: every cap stays, the ledger stays in order. -/
structure LntSt.Covers (l m : LntSt) : Prop where
  cap : m.cap = l.cap
  sorted : msorted l.cells = true → msorted m.cells = true
  used : msorted l.cells = true → ∀ b, ∀ w < 3, ∀ c < 4096, l.used16 b w c ≤ m.used16 b w c

theorem LntSt.Covers.refl (l : LntSt) : l.Covers l := ⟨rfl, id, fun _ _ _ _ _ _ => Nat.le_refl _⟩

theorem LntSt.Covers.trans {l m n : LntSt} (h : l.Covers m) (k : m.Covers n) : l.Covers n :=
  ⟨k.cap.trans h.cap, fun e => k.sorted (h.sorted e), fun e b w hw c hc => (h.used e b w hw c hc).trans (k.used (h.sorted e) b w hw c hc)⟩

/-- The largest use of a bank and window, by its index. -/
def LntSt.top (l : LntSt) (i : Nat) : Nat :=
  (l.cells.filter (fun e => decide (e.1 / 4096 = i))).foldl (fun m e => max m (l.used16 (i / 3) (i % 3) (e.1 % 4096)))
    (l.cap (i / 3) (i % 3) * (mget [] l.common i).foldl (· + ·) 0)

theorem LntSt.used16_le_top (l : LntSt) (i : Nat) {c : Nat} (cell : c < 4096) : l.used16 (i / 3) (i % 3) c ≤ l.top i := by
  obtain ⟨common, listed⟩ := le_foldl_max (fun e : Nat × Cell => l.used16 (i / 3) (i % 3) (e.1 % 4096))
    (l.cells.filter (fun e => decide (e.1 / 4096 = i))) (l.cap (i / 3) (i % 3) * (mget [] l.common i).foldl (· + ·) 0)
  obtain ⟨group, place⟩ := cellIx_div (i / 3) (i % 3) cell
  rw [bw_of_index] at group
  rcases mget_listed_or {} l.cells (cellIx (i / 3) (i % 3) c) with ⟨e, he, key⟩ | unlisted
  · have own := listed e (List.mem_filter.mpr ⟨he, by rw [key, group]; exact decide_eq_true rfl⟩)
    rw [key, place] at own
    exact own
  · refine Nat.le_trans (Nat.le_of_eq ?_) common
    rw [LntSt.used16_eq, unlisted, bw_of_index, ← List.sum_eq_foldl]
    simp

/-- One bank and window whose newest bucket takes its largest use. -/
def LntSt.remap (l : LntSt) (i : Nat) : LntSt :=
  if l.top i = 0 then l else l.fill (i / 3) (i % 3) (ceilDiv (l.top i) (max 1 (l.cap (i / 3) (i % 3))))

theorem remapLedger_eq (v : Hw) : remapLedger v = v.withLedger ((List.range 12).foldl LntSt.remap v.lnt) := rfl

/-- A bank and window filled to their largest use: no cell has used less. -/
theorem LntSt.used16_le_fill (l : LntSt) (i : Nat) (sorted : msorted l.cells = true) {c : Nat} (cell : c < 4096) :
    l.used16 (i / 3) (i % 3) c ≤ (l.fill (i / 3) (i % 3) (ceilDiv (l.top i) (max 1 (l.cap (i / 3) (i % 3))))).used16 (i / 3) (i % 3) c := by
  generalize hn : ceilDiv (l.top i) (max 1 (l.cap (i / 3) (i % 3))) = n
  have cap : (l.fill (i / 3) (i % 3) n).cap = l.cap := rfl
  have common : mget [] (l.fill (i / 3) (i % 3) n).common (bw (i / 3) (i % 3)) = fillCommon n (mget [] l.common (bw (i / 3) (i % 3))) := by
    rw [LntSt.fill_eq]
    exact mget_mupd_same _ _ _ _
  rw [LntSt.used16_eq (l.fill _ _ _), LntSt.mget_fill sorted _ _ _ _ _ cell, if_pos rfl, cap, common]
  rcases Nat.eq_zero_or_pos (l.cap (i / 3) (i % 3)) with none | capped
  · rw [LntSt.used16_eq, none]
    simp [Cell.giveNewest]
  · have bound := l.used16_le_top i cell
    have up := le_mul_ceilDiv (l.top i) capped
    rw [show max 1 (l.cap (i / 3) (i % 3)) = l.cap (i / 3) (i % 3) by omega] at hn
    rw [hn] at up
    have more := Nat.mul_le_mul_left (l.cap (i / 3) (i % 3)) (fillCommon_covers n (mget [] l.common (bw (i / 3) (i % 3))))
    rw [Nat.mul_add]
    omega

theorem LntSt.remap_covers (l : LntSt) (i : Nat) : l.Covers (l.remap i) := by
  unfold LntSt.remap
  split
  · exact .refl l
  · refine ⟨rfl, fun sorted => ?_, fun sorted b w window c cell => ?_⟩
    · rw [LntSt.fill_eq, msorted_iff]
      exact mmapAt_sorted {} _ ((msorted_iff _).mp sorted)
    · by_cases own : bw b w = i
      · obtain ⟨bank, window'⟩ := bw_div_mod b window
        rw [own] at bank window'
        have used := l.used16_le_fill i sorted cell
        rw [bank, window'] at used ⊢
        exact used
      · refine Nat.le_of_eq ?_
        have cap : ∀ n, (l.fill (i / 3) (i % 3) n).cap = l.cap := fun _ => rfl
        have common : ∀ n, mget [] (l.fill (i / 3) (i % 3) n).common (bw b w) = mget [] l.common (bw b w) := fun n => by
          rw [LntSt.fill_eq]
          exact mget_mupd_ne _ _ _ _ _ (by rw [bw_of_index]; exact Ne.symm own)
        rw [LntSt.used16_eq, LntSt.used16_eq, LntSt.mget_fill sorted _ _ _ _ _ cell, if_neg (by rw [bw_of_index]; exact own), cap, common]

theorem LntSt.remaps_cover (is : List Nat) (l : LntSt) : l.Covers (is.foldl LntSt.remap l) := by
  induction is generalizing l with
  | nil => exact .refl l
  | cons i is ih => exact (l.remap_covers i).trans (ih _)

theorem Hw.plainWrite_lnt (v : Hw) (a x : Nat) : (v.plainWrite a x).lnt = v.lnt := by
  unfold Hw.plainWrite
  split <;> rfl

theorem Hw.withLedger_lnt (v : Hw) (l : LntSt) : (v.withLedger l).lnt = l := rfl
theorem Hw.withLedger_outbox (v : Hw) (l : LntSt) : (v.withLedger l).outbox = v.outbox := rfl

theorem remapLedger_covers (v : Hw) : (remapLedger v).outbox = v.outbox ∧ v.lnt.Covers (remapLedger v).lnt := by
  rw [remapLedger_eq, Hw.withLedger_lnt, Hw.withLedger_outbox]
  exact ⟨rfl, LntSt.remaps_cover _ v.lnt⟩

theorem lntGridStore_covers (off x : Nat) (v : Hw) : (lntGridStore off x v).outbox = v.outbox ∧ v.lnt.Covers (lntGridStore off x v).lnt := by
  unfold lntGridStore
  dsimp only
  have quiet := Hw.plainWrite_outbox v (0x00028000 + off) x
  have kept := Hw.plainWrite_lnt v (0x00028000 + off) x
  split
  · exact ⟨quiet, by rw [kept]; exact .refl _⟩
  · obtain ⟨remapped, covers⟩ := remapLedger_covers (v.plainWrite (0x00028000 + off) x)
    rw [kept] at covers
    exact ⟨remapped.trans quiet, covers⟩

theorem regDesc_grid : ∀ i < 5, (regDesc (0x00028090 + 4 * i)).isSome = true := by decide
theorem regDesc_limit : ∀ i < 12, (regDesc (0x00028040 + 4 * i)).isSome = true := by decide

section
variable (v : Hw) {i : Nat} (x : Nat)

/-- The grid registers are locked outside CONFIG. -/
theorem Hw.locked_grid (h : i < 5) : v.locked (0x00028090 + 4 * i) = decide (v.dev.mode ≠ .config) := by
  obtain ⟨d, hd⟩ := Option.isSome_iff_exists.mp (regDesc_grid i h)
  unfold Hw.locked
  rw [hd, show (0x00028090 + 4 * i) / 0x10000 = 0x02 by omega, show (0x00028090 + 4 * i) % 0x10000 = 0x8090 + 4 * i by omega]
  exact if_pos (by omega)

theorem Hw.writeReg_grid (h : i < 5) (config : v.dev.mode = .config) : v.writeReg false (0x00028090 + 4 * i) x = lntGridStore (0x90 + 4 * i) x v := by
  obtain ⟨d, hd⟩ := Option.isSome_iff_exists.mp (regDesc_grid i h)
  rw [Hw.writeReg_unlocked v false x (by omega) hd (by simp [Hw.locked_grid v h, config])]
  unfold Hw.storeReg
  simp only [show (0x00028090 + 4 * i) / 0x10000 = 0x02 by omega, show (0x00028090 + 4 * i) % 0x10000 = 0x8090 + 4 * i by omega]
  rw [if_neg (by omega), if_neg (by omega), if_neg (by omega), if_neg (by omega), if_pos (by omega), show 0x8090 + 4 * i - 0x8000 = 0x90 + 4 * i by omega]

theorem Hw.writeReg_limit (h : i < 12) (free : v.dev.mode ≠ .guard) : v.writeReg false (0x00028040 + 4 * i) x = lntLimitStore i x v := by
  obtain ⟨d, hd⟩ := Option.isSome_iff_exists.mp (regDesc_limit i h)
  have unlocked : v.locked (0x00028040 + 4 * i) = false := by
    unfold Hw.locked
    rw [hd, show (0x00028040 + 4 * i) / 0x10000 = 0x02 by omega, show (0x00028040 + 4 * i) % 0x10000 = 0x8040 + 4 * i by omega]
    refine (if_neg (by omega)).trans ?_
    simp [free]
  rw [Hw.writeReg_unlocked v false x (by omega) hd unlocked]
  unfold Hw.storeReg
  simp only [show (0x00028040 + 4 * i) / 0x10000 = 0x02 by omega, show (0x00028040 + 4 * i) % 0x10000 = 0x8040 + 4 * i by omega]
  rw [if_neg (by omega), if_neg (by omega), if_neg (by omega), if_pos (by omega), show (0x8040 + 4 * i - 0x8040) / 4 = i by omega]

end

/-! ### LNT_LIMIT_WRITE (R104) -/

theorem find?_mins (m : SMap Nat) (i n : Nat) (h : ∀ e ∈ m, e.1 ≠ i) : (mins m i n).find? (fun e => decide (e.1 = i)) = some (i, n) := by
  induction m with
  | nil => simp [mins]
  | cons a m ih =>
    obtain ⟨k, x⟩ := a
    have other : k ≠ i := h (k, x) (by simp)
    simp only [mins]
    split
    · simp
    · simpa [other] using ih fun e he => h e (by simp [he])

/-- A limit stored is in force at once, at most the cap. -/
theorem limit_storeLimit (i n : Nat) (v : Hw) : (storeLimit i n v).lnt.limit (i / 3) (i % 3) = min n (v.lnt.cap (i / 3) (i % 3)) := by
  have found : (storeLimit i n v).lnt.limits.find? (fun e => decide (e.1 = i)) = some (i, min n (v.lnt.cap (i / 3) (i % 3))) :=
    find?_mins _ _ _ fun e he => by simpa using (List.mem_filter.mp he).2
  unfold LntSt.limit
  rw [bw_of_index, found]
  exact Nat.min_eq_left (Nat.min_le_right _ _)

/-! ### LNT_XCHK_SAMPLE (R105) -/

section
variable {v : Hw} {b : Nat} {x : Int} {k : Nat}

theorem xchkSample_idle (h : v.lnt.running = false ∨ 4 ≤ b ∨ v.ticks < mget 0 v.lnt.xchkAt b) : xchkSample b x k v = v :=
  if_pos (by simpa using h)

section
variable (run : v.lnt.running = true) (bank : b < 4) (due : mget 0 v.lnt.xchkAt b ≤ v.ticks)
include run bank due

theorem xchk_due : ¬ (¬ v.lnt.running = true ∨ 4 ≤ b ∨ v.ticks < mget 0 v.lnt.xchkAt b) := by
  rintro (h | h | h)
  · exact h run
  · omega
  · omega

/-- A sample of a valid input within the tolerance ends the count of those above it. -/
theorem xchkSample_good (valid : v.monitorBad b = false)
    (within : x * 65536 * 256 ≤ ((v.reg (0x000280B0 + 4 * b) * mget 0 v.lnt.lastCur b : Nat) : Int) * (256 + bits (v.reg 0x000280A4) 24 8)) :
    xchkSample b x 0 v = { v with lnt := { v.lnt with
      xchkAt := mset 0 v.lnt.xchkAt b (v.ticks + 800 * bits (v.reg 0x000280A4) 8 16)
      invalid := putBit v.lnt.invalid b false, above := mset 0 v.lnt.above b 0 } } := by
  refine (if_neg (xchk_due run bank due)).trans ?_
  dsimp only
  rw [if_neg (by simp [valid]), decide_eq_false (Int.not_lt.mpr within)]
  rfl

/-- A sample of an invalid input marks it, and at most records F.LNT.004. -/
theorem xchkSample_bad (invalid : k ≠ 0 ∨ v.monitorBad b = true) : Hw.Records { v with lnt := { v.lnt with
      xchkAt := mset 0 v.lnt.xchkAt b (v.ticks + 800 * bits (v.reg 0x000280A4) 8 16), invalid := putBit v.lnt.invalid b true } } (xchkSample b x k v) := by
  unfold xchkSample
  dsimp only
  rw [if_neg (xchk_due run bank due), if_pos invalid]
  exact .ite (.refl _) (Hw.raise_records _ _ _ (by decide))

end

end

theorem Hw.Records.lnt {a b : Hw} (h : a.Records b) : b.lnt = a.lnt := by
  obtain ⟨_, _, rfl, -⟩ := h
  rfl

theorem Hw.LogOnly.lnt {a b : Hw} (h : a.LogOnly b) : b.lnt = a.lnt := by
  obtain ⟨_, _, _, _, rfl⟩ := h
  rfl

section
variable {s : State} (q : s.hw.outbox = [])
include q

theorem exec_lntGridWrite {i : Nat} (v : Word) (sorted : msorted s.hw.lnt.cells = true) (inside : i < 5) (config : s.hw.dev.mode = .config) : ∃ u,
    exec (.lntGridWrite i v) s = .next u ∧ u.cmd = s.cmd ∧ ∀ b < 4, ∀ w < 3, ∀ c < 4096, s.hw.lnt.used16 b w c ≤ u.hw.lnt.used16 b w c := by
  obtain ⟨quiet, covers⟩ := lntGridStore_covers (0x90 + 4 * i) v.toNat s.hw
  exact ⟨_, (congrArg _ (if_pos inside)).trans (next_hwStep (Hw.writeReg_grid s.hw v.toNat inside config) (quiet.trans q)), rfl,
    fun b _ => covers.used sorted b⟩

theorem exec_lntGridWrite_locked {i : Nat} (v : Word) (inside : i < 5) (other : s.hw.dev.mode ≠ .config) :
    exec (.lntGridWrite i v) s = .next { s with hw := { s.hw with ack := 0x0A, ackData := le 4 (0x00028090 + 4 * i) } } := by
  obtain ⟨d, named⟩ := Option.isSome_iff_exists.mp (regDesc_grid i inside)
  exact (congrArg _ (if_pos inside)).trans (next_hwStep (Hw.writeReg_locked s.hw false v.toNat (by omega) named
    (by simp [Hw.locked_grid s.hw inside, other])) q)

theorem exec_lntLimitWrite {i : Nat} (v : Word) (inside : i < 12) (free : s.hw.dev.mode ≠ .guard) : ∃ u, exec (.lntLimitWrite i v) s = .next u ∧
    u.cmd = s.cmd ∧ u.hw.lnt.limit (i / 3) (i % 3) = min v.toNat (s.hw.lnt.cap (i / 3) (i % 3)) := by
  refine ⟨_, (congrArg _ (if_pos inside)).trans (next_hwStep (Hw.writeReg_limit s.hw v.toNat inside free) q), rfl, ?_⟩
  exact (limit_storeLimit i (v.toNat % 2 ^ 32) s.hw).trans (by rw [Nat.mod_eq_of_lt v.isLt])

theorem exec_lntXchkSample_bad {b : Nat} {x : Int} {k : Nat} (on : s.hw.awake 15 = true) (run : s.hw.lnt.running = true) (bank : b < 4)
    (due : mget 0 s.hw.lnt.xchkAt b ≤ s.hw.ticks) (invalid : k ≠ 0 ∨ s.hw.monitorBad b = true) :
    ∃ u, exec (.lntXchkSample b x k) s = .next u ∧ tb u.hw.lnt.invalid b = true ∧ u.hw.lnt.cells = s.hw.lnt.cells := by
  have marked := xchkSample_bad (x := x) run bank due invalid
  obtain ⟨u, ran, log⟩ := State.clocked_logOnly on (xchkSample b x k) rfl (marked.mild (Hw.mild_of_empty q))
  have lnt := log.lnt.trans marked.lnt
  exact ⟨u, ran, by rw [lnt]; exact tb_putBit_true _ _, by rw [lnt]⟩

end

/-- Settles O23: a bucket that closes is rounded up, a remapped ledger covers the one before it, a limit stored is cut to its cap. -/
theorem ledgerNeverForgetsEarly : Obligations.LedgerNeverForgetsEarly := fun _ q sorted =>
  ⟨fun _ => exec_lntBucketClose q sorted, fun _ idle => next_clocked_same q (bucketClose_idle idle),
    fun _ v => exec_lntGridWrite q v sorted, fun _ v => exec_lntGridWrite_locked q v, fun _ v => exec_lntLimitWrite q v,
    fun _ _ on run bank due valid within => next_clocked q on (xchkSample_good run bank due valid within) rfl,
    fun _ _ _ => exec_lntXchkSample_bad q, fun _ _ _ idle => next_clocked_same q (xchkSample_idle idle)⟩

end Sys2Proof.Machine
end

section
/-! PROOFS. The emission and Lantern opcodes (R86, R92, R93, R95, R97, R104, R108). -/

namespace Sys2Proof.Machine

section
variable {s : State} {h : Hdr} {x : Session}

/-! ### Pattern programs -/

theorem patternLoad_served {p : U8} {l : List U64} (t : s.Takes (.patternLoad h p l) h x) (slot : p.toNat ≤ 7) (holds : 1 ≤ l.length) (few : l.length ≤ 256) :
    (badStep l = none → s.Served (.patternLoad h p l) h x
      { s.accepted with bcn := { s.hw.bcn with programs := mset [] s.hw.bcn.programs p.toNat l } }
      (ansOk (le 4 (crc32c (l.flatMap (fun w => le 8 w.toNat)))))) ∧
    (∀ i, badStep l = some i → s.Served (.patternLoad h p l) h x s.accepted (ansBad (19 + 8 * i))) := by
  have sized : ¬ (l.isEmpty = true ∨ 256 < l.length) := by
    rw [List.isEmpty_iff_length_eq_zero]
    omega
  refine ⟨fun good => State.served_of t (Nat.ne_of_beq_eq_false rfl) rfl ?_ t.2.quiet rfl (.inr (.inl rfl)),
    fun i bad => State.served_read t (Nat.ne_of_beq_eq_false rfl) rfl ?_ rfl⟩
  · dsimp only
    rw [if_neg (Nat.not_lt.mpr slot), if_neg sized, good]
    rfl
  · dsimp only
    rw [if_neg (Nat.not_lt.mpr slot), if_neg sized, bad]

theorem patternRun_served {p : U8} {n : U16} (t : s.Takes (.patternRun h p n) h x) (slot : p.toNat ≤ 7) (stored : mget [] s.hw.bcn.programs p.toNat ≠ []) :
    s.Served (.patternRun h p n) h x { s.accepted with
      bcn := { s.hw.bcn with pattern := { s.hw.bcn.pattern with armed := some (p.toNat, n.toNat) } } } (ansOk []) := by
  refine State.served_of t (Nat.ne_of_beq_eq_false rfl) rfl (if_neg ?_) t.2.quiet rfl (.inl (t.2.header.alone rfl))
  rintro (far | empty)
  · exact absurd far (Nat.not_lt.mpr slot)
  · exact stored (List.isEmpty_iff.mp empty)

theorem patternStop_served (t : s.Takes (.patternStop h) h x) : s.Served (.patternStop h) h x { s.accepted with bcn := { s.hw.bcn with
    pattern := { s.hw.bcn.pattern with armed := none, stopDue := s.hw.bcn.pattern.running.isSome } } } (ansOk []) :=
  State.served_of t (Nat.ne_of_beq_eq_false rfl) rfl rfl t.2.quiet rfl (.inl (t.2.header.alone rfl))

/-! ### What is read -/

theorem emitterStatus_served {b : U8} (t : s.Takes (.emitterStatus h b) h x) :
    (b.toNat ≤ 3 → s.Served (.emitterStatus h b) h x s.accepted (ansOk (s.hw.emitterBytes b.toNat))) ∧
    (3 < b.toNat → s.Served (.emitterStatus h b) h x s.accepted (ansBad 16)) :=
  ⟨fun inside => State.served_read t (Nat.ne_of_beq_eq_false rfl) rfl (if_neg (Nat.not_lt.mpr inside)) rfl,
    fun outside => State.served_read t (Nat.ne_of_beq_eq_false rfl) rfl (if_pos outside) rfl⟩

theorem driverStatus_served {a : U8} (t : s.Takes (.driverStatus h a) h x) :
    (a.toNat ≤ 15 → s.Served (.driverStatus h a) h x s.accepted
      (ansOk (le 2 (s.hw.driver a.toNat).status ++ le 2 (s.hw.driver a.toNat).faults))) ∧
    (15 < a.toNat → s.Served (.driverStatus h a) h x s.accepted (ansBad 16)) :=
  ⟨fun inside => State.served_read t (Nat.ne_of_beq_eq_false rfl) rfl (if_neg (Nat.not_lt.mpr inside)) rfl,
    fun outside => State.served_read t (Nat.ne_of_beq_eq_false rfl) rfl (if_pos outside) rfl⟩

/-! ### Stepped operations -/

theorem pinTest_begins (t : s.Takes (.pinTest h) h x) :
    s.Begins (.pinTest h) h x { s.accepted with free := s.hw.free + 2 } (stepOp 0x44 [srcBcn] []) :=
  State.begins_of (hw := s.accepted) t (Nat.ne_of_beq_eq_false rfl) rfl rfl t.2.quiet rfl (.inr (.inl rfl))

theorem lanternLedger_begins {b w : U8} (t : s.Takes (.lanternLedger h b w) h x) (free : s.cmd.held [srcLnt] = false)
    (bank : b.toNat ≤ 3) (window : w.toNat ≤ 2) :
    s.Begins (.lanternLedger h b w) h x { s.accepted with free := s.hw.free + 2 } (stepOp 0x46 [srcLnt] [b.toNat, w.toNat]) := by
  refine State.begins_of (hw := s.accepted) t (Nat.ne_of_beq_eq_false rfl) rfl ?_ t.2.quiet rfl (.inr (.inl rfl))
  have free' : ¬ (s.took h x).cmd.held [srcLnt] = true := by simp [free]
  exact (if_neg free').trans ((if_neg (Nat.not_lt.mpr bank)).trans (if_neg (Nat.not_lt.mpr window)))

/-! ### LANTERN_LIMIT -/

theorem lanternLimit_stores {b w : U8} {v : U32} (t : s.Takes (.lanternLimit h b w v) h x) (bank : b.toNat ≤ 3) (window : w.toNat ≤ 2)
    (within : v.toNat ≤ s.hw.lnt.cap b.toNat w.toNat) : ∃ u, exec (.lanternLimit h b w v) s = .next u ∧ u.hw.lnt.limit b.toNat w.toNat = v.toNat ∧
      u.hw.lnt.cells = s.hw.lnt.cells := by
  have stored := State.hwStep_quiet (s.took h x) (storeLimit (bw b.toNat w.toNat) v.toNat) t.2.quiet
  have served : s.Served (.lanternLimit h b w v) h x (storeLimit (bw b.toNat w.toNat) v.toNat s.accepted) _ :=
    State.served_of t (Nat.ne_of_beq_eq_false rfl) rfl ((if_neg (Nat.not_lt.mpr bank)).trans ((if_neg (Nat.not_lt.mpr window)).trans
      ((if_neg (Nat.not_lt.mpr within)).trans (congrArg (fun u => (u, ansOk (le 4 (u.hw.lnt.limit b.toNat w.toNat)))) stored)))) t.2.quiet rfl (.inr (.inl rfl))
  refine ⟨_, served, ?_, rfl⟩
  have place := bw_div_mod b.toNat (show w.toNat < 3 by omega)
  have limit := limit_storeLimit (bw b.toNat w.toNat) v.toNat s.accepted
  rw [place.1, place.2] at limit
  exact limit.trans (Nat.min_eq_left within)

theorem lanternLimit_refused {b w : U8} {v : U32} (t : s.Takes (.lanternLimit h b w v) h x) (bank : b.toNat ≤ 3) (window : w.toNat ≤ 2)
    (above : s.hw.lnt.cap b.toNat w.toNat < v.toNat) : s.Served (.lanternLimit h b w v) h x s.accepted (ansBad 18) :=
  State.served_read t (Nat.ne_of_beq_eq_false rfl) rfl
    ((if_neg (Nat.not_lt.mpr bank)).trans ((if_neg (Nat.not_lt.mpr window)).trans (if_pos above))) rfl

end

/-- Settles O33: each opcode's meaning on a device that stands alone is its row's. -/
theorem emissionCommandsAreServed : Obligations.EmissionCommandsAreServed := fun _ _ _ =>
  ⟨fun _ _ => patternLoad_served, fun _ _ => patternRun_served, patternStop_served, fun _ => emitterStatus_served, pinTest_begins,
    fun _ _ _ t bank window => ⟨lanternLimit_stores t bank window, lanternLimit_refused t bank window⟩, fun _ _ => lanternLedger_begins,
    fun _ => driverStatus_served⟩

end Sys2Proof.Machine
end

section
/-! SUPPORT. What a fault of any class leaves of Beacon's drivers: the replies it has of them and what excludes them (R65, R86). -/

namespace Sys2Proof.Machine

/-- What Beacon has of a driver's replies, and the faults that exclude it. -/
def Driver.report (d : Driver) : Nat × Nat × Nat × Nat := (d.silent, d.status, d.faults, d.excl)

/-- The report of every driver stays. -/
def Hw.SameReports (a b : Hw) : Prop := ∀ k, (b.driver k).report = (a.driver k).report

section
variable {a b c : Hw}

theorem Hw.SameReports.refl (a : Hw) : a.SameReports a := fun _ => rfl
theorem Hw.SameReports.trans (h : a.SameReports b) (k : b.SameReports c) : a.SameReports c := fun i => (k i).trans (h i)

theorem Hw.SameReports.of_drivers (h : b.bcn.drivers = a.bcn.drivers) : a.SameReports b := fun k => by rw [Hw.driver, h, Hw.driver]

theorem Hw.SameReports.ite {p : Prop} [Decidable p] (h : a.SameReports b) (k : a.SameReports c) : a.SameReports (if p then b else c) := by
  split
  · exact h
  · exact k

theorem Hw.SameReports.foldl {A : Type} {f : Hw → A → Hw} (h : ∀ (w : Hw) (x : A), w.SameReports (f w x)) (l : List A) (w : Hw) :
    w.SameReports (l.foldl f w) := by
  induction l generalizing w with
  | nil => exact .refl w
  | cons x l ih => exact (h w x).trans (ih _)

theorem Hw.Records.sameReports (h : a.Records b) : a.SameReports b := .of_drivers (by rw [h.bcn])

theorem Hw.Tells.sameReports (h : a.Tells b) : a.SameReports b := by
  obtain ⟨_, _, rfl, -⟩ := h
  exact .of_drivers rfl

theorem report_mupd (f : Driver → Driver) (keeps : ∀ d, (f d).report = d.report) (m : SMap Driver) (i k : Nat) :
    (mget {} (mupd {} m i f) k).report = (mget {} m k).report := by
  by_cases e : i = k
  · subst e
    rw [mget_mupd_same, keeps]
  · rw [mget_mupd_ne _ _ _ _ _ e]

/-- Drivers changed one after the other, none of them in its report. -/
theorem Hw.SameReports.of_updates {g : SMap Driver → Nat → SMap Driver} (keeps : ∀ m i k, (mget {} (g m i) k).report = (mget {} m k).report)
    (l : List Nat) (h : b.bcn.drivers = l.foldl g a.bcn.drivers) : a.SameReports b := by
  have all : ∀ (m : SMap Driver) k, (mget {} (l.foldl g m) k).report = (mget {} m k).report := by
    intro m k
    clear h
    induction l generalizing m with
    | nil => rfl
    | cons i l ih => exact (ih _).trans (keeps m i k)
  exact fun k => by rw [Hw.driver, h, all, Hw.driver]

end

section
variable (w : Hw)

theorem offerShot_sameReports (n p : Nat) (s : Shot) (seen : Seen) : w.SameReports (offerShot n p s seen w) := by
  unfold offerShot
  dsimp only
  split
  · exact .refl w
  · split
    · exact .refl w
    · refine .foldl (fun v col => ?_) _ w
      have stuck : ∀ (v : Hw) t k, v.SameReports (if k = 0 then v.setTile n t else (v.setTile n t).stick (tileReg n 0x10) k) := fun v t k =>
        .ite (.of_drivers rfl) (.of_drivers rfl)
      exact .ite ((stuck v _ _).trans (Hw.recordFault_records _ _ _).sameReports) (stuck v _ _)

theorem endTile_sameReports (n : Nat) : w.SameReports (endTile n w) := by
  have told : ∀ (v : Hw) d, v.SameReports (tellMissing n d v) := fun v d => by
    unfold tellMissing
    split
    · exact .foldl (fun v s => .foldl (fun v p => offerShot_sameReports v n p s _) _ v) _ v
    · exact .refl v
  exact .trans (.foldl told _ w) (.of_drivers rfl)

theorem Hw.disarmAll_drivers : w.disarmAll.bcn.drivers =
    (List.range 16).foldl (fun m i => mupd {} m i (fun d => { d with held := none })) w.bcn.drivers := by
  simp only [Hw.disarmAll, Hw.busCommand]

theorem Hw.disarmAll_sameReports : w.SameReports w.disarmAll :=
  .of_updates (report_mupd (fun d => { d with held := none }) fun _ => rfl) _ w.disarmAll_drivers

theorem Hw.inhibit_sameReports : w.SameReports w.inhibit := by
  have missed : ∀ l : List Shot, w.SameReports (l.foldl (fun h s => h.sendMissing s .skipped) w) := fun l =>
    .foldl (f := fun (h : Hw) s => h.sendMissing s .skipped) (fun _ _ => .of_drivers rfl) l w
  have stopped : ∀ (v : Hw) m, v.SameReports { v with bcn := { v.bcn with inhibited := true, banks := m } } := fun _ _ => .of_drivers rfl
  exact ((missed _).trans (stopped _ _)).trans (Hw.disarmAll_sameReports _)

theorem Hw.scanEnd_sameReports : w.SameReports w.scanEnd := by
  have frames : w.SameReports (w.endFrames true) := .of_drivers rfl
  have tiles := frames.trans (.foldl (fun v n => endTile_sameReports v n) (List.range 48) _)
  unfold Hw.scanEnd
  dsimp only
  revert tiles
  generalize (List.range 48).foldl (fun h n => endTile n h) (w.endFrames true) = v
  intro tiles
  exact tiles.trans (.of_drivers rfl)

theorem Hw.pinTest_sameReports (mask : Nat) : w.SameReports (w.pinTest mask) := by
  have found : w.SameReports (w.disarmAll.setReg 0x00020090 (mask % 2 ^ 32)) := w.disarmAll_sameReports.trans (.of_drivers rfl)
  exact .ite found (found.trans (Hw.recordFault_records _ _ _).sameReports)

theorem Hw.lampTest_sameReports (live : Nat) : w.SameReports (w.lampTest live) :=
  .trans (b := (({ w with spd := { w.spd with
    lampLive := live % 2 ^ 64, lampUnfit := unfitGroups live w.refK } } : Hw).restUnfit (unfitGroups live w.refK))) (.of_drivers rfl)
    (.foldl (fun v _ => (Hw.recordFault_records v _ _).sameReports) _ _)

theorem Hw.configTests_sameReports (pins lamp : Option Nat) : w.SameReports (w.configTests pins lamp) := by
  have drawn : ∀ v : Hw, v.SameReports v.draw.2 := fun _ => .of_drivers rfl
  have tested : ∀ (v : Hw) p l, v.SameReports ((v.pinTest p).lampTest l) := fun v p l => (v.pinTest_sameReports p).trans (Hw.lampTest_sameReports _ l)
  unfold Hw.configTests
  split
  next p v e =>
  have first : w.SameReports v := by
    cases pins <;> cases e
    · exact drawn w
    · exact .refl w
  split
  next l u e' =>
  have second : v.SameReports u := by
    cases lamp <;> cases e'
    · exact drawn v
    · exact .refl v
  have mapped : ∀ v : Hw, v.SameReports { v with bcn := { v.bcn with drivers := (List.range 16).foldl (fun m a =>
      if tb (v.reg (0x00020040 + 4 * a)) 7 then mupd {} m a (fun d => { d with mapDue := true }) else m) v.bcn.drivers } } := fun v =>
    .of_updates (g := fun m a => if tb (v.reg (0x00020040 + 4 * a)) 7 then mupd {} m a (fun d => { d with mapDue := true }) else m)
      (fun m i k => by
        split
        · exact report_mupd (fun d => { d with mapDue := true }) (fun _ => rfl) m i k
        · rfl) (List.range 16) rfl
  exact ((first.trans second).trans (tested u _ _)).trans (mapped _)

theorem Hw.safeEffect_sameReports (f : FaultId) : w.SameReports (w.safeEffect f) :=
  .trans (b := w.command 0 0) (.of_drivers rfl) ((w.drive2_tells 0 0).sameReports.trans (.of_drivers rfl))

theorem Hw.safe001_sameReports : w.SameReports w.safe001 := (Hw.recordFault_records w _ []).sameReports.trans (Hw.safeEffect_sameReports _ _)

theorem Hw.stopEffect_sameReports (src : Nat) (x : List Byte) : w.SameReports (w.stopEffect src x) := by
  have unscheduled : w.SameReports { w with dev := { w.dev with sched := none } } := .of_drivers rfl
  have inhibited := unscheduled.trans (Hw.inhibit_sameReports _)
  unfold Hw.stopEffect
  dsimp only
  split
  · exact unscheduled
  · exact .of_drivers rfl
  · exact .ite (.of_drivers rfl) (.of_drivers rfl)
  · have left : ∀ v : Hw, v.SameReports (v.toMode .config 0x02) := fun _ => .of_drivers rfl
    have due : ∀ v : Hw, v.SameReports { v with outbox := v.outbox ++ [.modeLeft], slt := { v.slt with testDue := true } } := fun _ => .of_drivers rfl
    exact ((((inhibited.trans (Hw.scanEnd_sameReports _)).trans (left _)).trans (Hw.configTests_sameReports _ none none))).trans (due _)
  · exact .ite (inhibited.trans (Hw.safe001_sameReports _)) unscheduled
  · exact inhibited

theorem Hw.raise_sameReports (f : FaultId) (x : List Byte) : w.SameReports (w.raise f x) := by
  have recorded := (Hw.recordFault_records w f x).sameReports
  have told : ∀ (v : Hw) src b, v.SameReports (v.casInhibit src f b) := fun v src b => by
    obtain ⟨c, e⟩ := v.casInhibit_shape src f b
    rw [e]
    exact .of_drivers rfl
  unfold Hw.raise
  dsimp only
  exact .ite (recorded.trans ((told _ _ _).trans (Hw.stopEffect_sameReports _ _ _)))
    (.ite (recorded.trans (Hw.safeEffect_sameReports _ f)) recorded)

theorem Hw.raise_mildly (f : FaultId) (x : List Byte) (m : w.Mild) : (w.raise f x).Mild :=
  (Hw.raise_stands w f x).mild ((Hw.recordFault_records w f x).mild m)

end

end Sys2Proof.Machine
end

section
/-! PROOFS. Polls of the drivers, MAP, profile writes and ramps (R81, R84 to R86, R94). -/

namespace Sys2Proof.Machine

/-- The ramps that run from now on. -/
def Hw.putRamps (w : Hw) (l : List Ramp) : Hw := { w with bcn := { w.bcn with pattern := { w.bcn.pattern with ramps := l } } }

/-! ### DRIVER_POLL -/

/-- STATUS_READ sent, and the next poll of the driver a period away. -/
def Hw.polled (w : Hw) (a : Nat) : Hw :=
  ({ w with bcn := { w.bcn with pollDue := mset 0 w.bcn.pollDue a (w.ticks + w.pollTicks) } }).busCommand (statusWord a) 736

/-- The faults a reply shows, each raised unless it is. -/
def Hw.raiseShown (w : Hw) (a f : Nat) : Hw :=
  ((List.range 7).filter (fun i => tb f i)).foldl (fun h i => if h.isRaised (driverFault i).1 then h else h.raise (driverFault i).1 (le 1 a)) w

/-- The exclusion bits of a reply's faults (Table 4.4). -/
def exclShown (f : Nat) : Nat := maskOf (((List.range 7).filter (fun i => tb f i)).filter (fun i => (driverFault i).2))

theorem exclShown_eq (f : Nat) : exclShown f = f &&& 0x16 := by
  have excluding : ∀ i < 7, (driverFault i).2 = Nat.testBit 0x16 i := by decide
  refine Nat.eq_of_testBit_eq fun i => ?_
  obtain ⟨-, holds⟩ := maskOf_range (fun i => (driverFault i).2 && tb f i) 7
  unfold exclShown
  rw [List.filter_filter, Nat.testBit_and]
  refine (holds i).trans ?_
  by_cases low : i < 7
  · rw [excluding i low, decide_eq_true low, Bool.true_and, Bool.and_comm]
    rfl
  · have high : Nat.testBit 0x16 i = false :=
      Nat.testBit_lt_two_pow (Nat.lt_of_lt_of_le (by decide : 0x16 < 2 ^ 7) (Nat.pow_le_pow_right (by decide) (Nat.not_lt.mp low)))
    rw [decide_eq_false low, Bool.false_and, high, Bool.and_false]

theorem Hw.raiseShown_keeps (w : Hw) (a f : Nat) : w.SameReports (w.raiseShown a f) ∧ (w.Mild → (w.raiseShown a f).Mild) :=
  ⟨.foldl (fun v _ => .ite (.refl v) (v.raise_sameReports _ _)) _ w, Hw.Mild.foldl (fun v _ m => by
    split
    · exact m
    · exact v.raise_mildly _ _ m) _ w⟩

section
variable {w : Hw} {a : Nat} (bus : a < 16) (here : tb (w.drvReg a) 7 = true) (due : mget 0 w.bcn.pollDue a ≤ w.ticks) (gap : w.busGap 736 = true)
include bus here due gap

theorem driverPoll_due : ¬ (16 ≤ a ∨ ¬ tb (w.drvReg a) 7 = true ∨ w.ticks < mget 0 w.bcn.pollDue a ∨ ¬ w.busGap 736 = true) := by
  simp [here, gap]
  omega

theorem driverPoll_reply (r : DriverReply) : driverPoll a (some r) w = ((w.polled a).setDriver a { w.driver a with
    silent := 0, status := r.status.toNat, faults := r.faults.toNat
    excl := (w.driver a).excl ||| (r.faults.toNat &&& 0x16) }).raiseShown a r.faults.toNat := by
  rw [← exclShown_eq]
  exact if_neg (driverPoll_due bus here due gap)

theorem driverPoll_counted (few : (w.driver a).silent < 2) :
    driverPoll a none w = (w.polled a).setDriver a { w.driver a with silent := (w.driver a).silent + 1 } := by
  have count : min 3 ((w.driver a).silent + 1) = (w.driver a).silent + 1 := by omega
  refine (if_neg (driverPoll_due bus here due gap)).trans ((if_neg ?_).trans ?_)
  · change ¬ (w.driver a).silent + 1 = 3
    omega
  · change (w.polled a).setDriver a { w.driver a with
      silent := min 3 ((w.driver a).silent + 1), excl := if 3 ≤ (w.driver a).silent + 1 then (w.driver a).excl ||| 128 else (w.driver a).excl } = _
    rw [count, if_neg (by omega)]

theorem driverPoll_excludes (third : (w.driver a).silent = 2) : driverPoll a none w =
    ((w.polled a).setDriver a { w.driver a with silent := 3, excl := (w.driver a).excl ||| 128 }).raise (fid srcBcn 2 27) (le 1 a) := by
  refine (if_neg (driverPoll_due bus here due gap)).trans ((if_pos ?_).trans ?_)
  · change (w.driver a).silent + 1 = 3
    omega
  · change ((w.polled a).setDriver a { w.driver a with
      silent := min 3 ((w.driver a).silent + 1), excl := if 3 ≤ (w.driver a).silent + 1 then (w.driver a).excl ||| 128 else (w.driver a).excl }).raise _ _ = _
    rw [third]
    rfl

end

section
variable {s : State} (q : s.hw.outbox = []) (on : s.hw.awake 15 = true)
include q on

section
variable {a : Nat} (bus : a < 16) (here : tb (s.hw.drvReg a) 7 = true) (due : mget 0 s.hw.bcn.pollDue a ≤ s.hw.ticks) (gap : s.hw.busGap 736 = true)
include bus here due gap

theorem exec_driverPoll_reply (r : DriverReply) : ∃ u, exec (.driverPoll a (some r)) s = .next u ∧ (u.hw.driver a).silent = 0 ∧
    (u.hw.driver a).status = r.status.toNat ∧ (u.hw.driver a).faults = r.faults.toNat ∧
    (u.hw.driver a).excl = (s.hw.driver a).excl ||| (r.faults.toNat &&& 0x16) := by
  obtain ⟨same, mild⟩ := ((s.hw.polled a).setDriver a { s.hw.driver a with
    silent := 0, status := r.status.toNat, faults := r.faults.toNat
    excl := (s.hw.driver a).excl ||| (r.faults.toNat &&& 0x16) }).raiseShown_keeps a r.faults.toNat
  obtain ⟨u, ran, log⟩ := State.clocked_logOnly on (driverPoll a (some r)) (driverPoll_reply bus here due gap r) (mild (Hw.mild_of_empty q))
  have report := same a
  rw [Hw.driver_setDriver] at report
  have told : (u.hw.driver a).report = (0, r.status.toNat, r.faults.toNat, (s.hw.driver a).excl ||| (r.faults.toNat &&& 0x16)) := by
    rw [Hw.driver, log.bcn]
    exact report
  simp only [Driver.report, Prod.mk.injEq] at told
  exact ⟨u, ran, told⟩

theorem exec_driverPoll_counted (few : (s.hw.driver a).silent < 2) : ∃ u, exec (.driverPoll a none) s = .next u ∧ u.cmd = s.cmd ∧
    u.hw.driver a = { s.hw.driver a with silent := (s.hw.driver a).silent + 1 } :=
  ⟨_, next_clocked q on (driverPoll_counted bus here due gap few) rfl, rfl, Hw.driver_setDriver _ _ _⟩

theorem exec_driverPoll_excludes (third : (s.hw.driver a).silent = 2) (room : s.hw.evt.table.length < 1024) : ∃ u,
    exec (.driverPoll a none) s = .next u ∧ u.hw.driver a = { s.hw.driver a with silent := 3, excl := (s.hw.driver a).excl ||| 128 } ∧
    u.hw.isRaised (fid srcBcn 2 27) = true := by
  have told := Hw.raise_records ((s.hw.polled a).setDriver a { s.hw.driver a with silent := 3, excl := (s.hw.driver a).excl ||| 128 })
    (fid srcBcn 2 27) (le 1 a) (by decide)
  obtain ⟨u, ran, log⟩ := State.clocked_logOnly on (driverPoll a none) (driverPoll_excludes bus here due gap third) (told.mild (Hw.mild_of_empty q))
  refine ⟨u, ran, ?_, (log.isRaised _).trans (Hw.isRaised_raise _ _ _ (by decide) room)⟩
  rw [Hw.driver, log.bcn]
  dsimp only
  rw [told.bcn]
  exact Hw.driver_setDriver _ _ _

end

/-! ### MAP_SEND -/

theorem exec_mapSend_clears {a : Nat} (gap : s.hw.busGap 384 = true) (due : (s.hw.driver a).clearDue = true) : exec (.mapSend a) s =
    .next { s with hw := (s.hw.setDriver a { s.hw.driver a with clearDue := false }).busCommand (faultClearWord a) 400 } :=
  next_clocked q on (f := mapSend a) ((if_neg (not_not.mpr gap)).trans (if_pos due)) rfl

theorem exec_mapSend_maps {a : Nat} (gap : s.hw.busGap 384 = true) (clear : (s.hw.driver a).clearDue = false) (due : (s.hw.driver a).mapDue = true) :
    exec (.mapSend a) s =
      .next { s with hw := (s.hw.setDriver a { s.hw.driver a with mapDue := false }).busCommand (mapWord a (tb (s.hw.drvReg a) 6)) 400 } :=
  next_clocked q on (f := mapSend a) ((if_neg (not_not.mpr gap)).trans ((if_neg (ne_true_of_eq_false clear)).trans (if_pos due))) rfl

omit on in
theorem exec_mapSend_idle {a : Nat} (h : ((s.hw.driver a).clearDue = false ∧ (s.hw.driver a).mapDue = false) ∨ s.hw.busGap 384 = false) :
    exec (.mapSend a) s = .next s := by
  refine next_clocked_same q (f := mapSend a) ?_
  rcases h with ⟨clear, map⟩ | closed
  · exact ite_eq_left_iff.mpr fun _ => (if_neg (ne_true_of_eq_false clear)).trans (if_neg (ne_true_of_eq_false map))
  · exact if_pos (by simp [closed])

/-! ### RAMP_UPDATE -/

omit on in
theorem exec_rampUpdate_idle (h : s.hw.busGap 384 = false ∨ (s.hw.bcn.writes = [] ∧ ∀ r ∈ s.hw.bcn.pattern.ramps, r.due = false)) :
    exec .rampUpdate s = .next s := by
  refine next_clocked_same q (f := rampUpdate) ?_
  unfold rampUpdate
  rcases h with closed | ⟨empty, idle⟩
  · exact if_pos (by simp [closed])
  · have rest : s.hw.bcn.pattern.ramps.find? (·.due) = none := List.find?_eq_none.mpr fun r hr => by simp [idle r hr]
    rw [empty, rest]
    exact ite_self _

theorem exec_rampUpdate_writes {w : ProfileWrite} {l : List ProfileWrite} (gap : s.hw.busGap 384 = true) (waits : s.hw.bcn.writes = w :: l) :
    exec .rampUpdate s = .next { s with hw := ({ s.hw with bcn := { s.hw.bcn with writes := l } } : Hw).writeProfile w } := by
  refine next_clocked q on (f := rampUpdate) ?_ rfl
  unfold rampUpdate
  rw [if_neg (not_not.mpr gap), waits]

omit q on in
theorem Hw.writeProfile_cur (w : Hw) (p : ProfileWrite) : mget 0 ((w.writeProfile p).driver p.driver).cur p.profile = p.cur := by
  have written : (w.writeProfile p).driver p.driver = { w.driver p.driver with
      oldCur := mset 0 (w.driver p.driver).oldCur p.profile (max (mget 0 (w.driver p.driver).oldCur p.profile) (mget 0 (w.driver p.driver).cur p.profile))
      cur := mset 0 (w.driver p.driver).cur p.profile p.cur, cols := mset 0 (w.driver p.driver).cols p.profile p.cols } := Hw.driver_setDriver w p.driver _
  rw [written]
  exact mget_mset_same _ _ _ _

omit q on in
theorem rampUpdate_moves {w : Hw} {r : Ramp} {c : Nat} (gap : w.busGap 384 = true) (empty : w.bcn.writes = []) (first : w.bcn.pattern.ramps.find? (·.due) = some r)
    (next : r.next (mget 0 (w.driver r.driver).cur r.profile) = c) : rampUpdate w =
      (w.writeProfile { driver := r.driver, profile := r.profile, cur := c, cols := mget 0 (w.driver r.driver).cols r.profile }).putRamps
        (if c = r.final then w.bcn.pattern.ramps.filter (fun x => decide (x ≠ r))
          else w.bcn.pattern.ramps.map (fun x => if x = r then { x with due := false } else x)) := by
  subst next
  unfold rampUpdate
  rw [if_neg (not_not.mpr gap), empty, first]
  rfl

theorem exec_rampUpdate_moves {r : Ramp} (gap : s.hw.busGap 384 = true) (empty : s.hw.bcn.writes = []) (first : s.hw.bcn.pattern.ramps.find? (·.due) = some r) :
    let c := r.next (mget 0 (s.hw.driver r.driver).cur r.profile)
    ∃ u, exec .rampUpdate s = .next u ∧ u.cmd = s.cmd ∧ mget 0 (u.hw.driver r.driver).cur r.profile = c ∧
      u.hw.bcn.pattern.ramps = if c = r.final then s.hw.bcn.pattern.ramps.filter (fun x => decide (x ≠ r))
        else s.hw.bcn.pattern.ramps.map (fun x => if x = r then { x with due := false } else x) := by
  intro c
  exact ⟨_, next_clocked q on (rampUpdate_moves gap empty first rfl) rfl, rfl,
    Hw.writeProfile_cur s.hw { driver := r.driver, profile := r.profile, cur := c, cols := mget 0 (s.hw.driver r.driver).cols r.profile }, rfl⟩

end

end Sys2Proof.Machine
end

section
/-! PROOFS. A fire, the close of a reference window, and the emission rows together (R81 to R101, R128). -/

namespace Sys2Proof.Machine

/-! ### Set-up -/

/-- Set-up leaves the banks, the pulses, the ledger, Tender and every counter below that of shots moved. -/
structure Hw.Arms (a b : Hw) : Prop where
  banks : b.bcn.banks = a.bcn.banks
  fire : b.bcn.fire = a.bcn.fire
  lnt : b.lnt = a.lnt
  tnd : b.tnd = a.tnd
  outbox : b.outbox = a.outbox
  reg : ∀ r < 0x000200D0, b.reg r = a.reg r

section
variable {a b c : Hw}

theorem Hw.Arms.refl (a : Hw) : a.Arms a := ⟨rfl, rfl, rfl, rfl, rfl, fun _ _ => rfl⟩

theorem Hw.Arms.trans (h : a.Arms b) (k : b.Arms c) : a.Arms c :=
  ⟨k.banks.trans h.banks, k.fire.trans h.fire, k.lnt.trans h.lnt, k.tnd.trans h.tnd, k.outbox.trans h.outbox, fun r hr => (k.reg r hr).trans (h.reg r hr)⟩

/-- One step more, where it is due. -/
theorem Hw.Arms.andThen {p : Prop} [Decidable p] (h : a.Arms b) (k : b.Arms c) : a.Arms (if p then c else b) := by
  split
  · exact h.trans k
  · exact h

theorem Hw.setReg_arms (w : Hw) (r v : Nat) (high : 0x000200D0 ≤ r) : w.Arms (w.setReg r v) :=
  ⟨rfl, rfl, rfl, rfl, rfl, fun x hx => w.reg_setReg_ne r x v (by omega)⟩

theorem Hw.setDriver_arms (w : Hw) (k : Nat) (d : Driver) : w.Arms (w.setDriver k d) := ⟨rfl, rfl, rfl, rfl, rfl, fun _ _ => rfl⟩

theorem Hw.startSetUp_arms (w : Hw) (x : Shot) (t prev : Nat) : w.Arms (w.startSetUp x t prev).1 ∧ (w.startSetUp x t prev).2.num = x.num := by
  have sent : ∀ (v : Hw) n f, v.Arms { v with bcn := { v.bcn with busUntil := n, busCmd := false, lastFrame := f } } := fun _ _ _ =>
    ⟨rfl, rfl, rfl, rfl, rfl, fun _ _ => rfl⟩
  refine ⟨?_, rfl⟩
  unfold Hw.startSetUp
  dsimp only
  exact .andThen (.andThen (.andThen (.andThen (.refl w) (w.setDriver_arms _ _)) (sent _ _ _)) (Hw.setReg_arms _ _ _ (by decide)))
    (Hw.setReg_arms _ _ _ (Nat.le_add_right _ _))

end

/-- One of a bank's shots in flight as a fire frees a driver: the hardware, the shots so far, the earliest next instant, whether a shot of the
driver has been met. -/
def freeStep (b driver t : Nat) (r : Hw × List Shot × Nat × Bool) (s : Shot) : Hw × List Shot × Nat × Bool :=
  let (hw, out, prev, found) := r
  if found = false ∧ s.driver = driver then
    if s.fireAt.isNone then
      let (hw, s) := hw.startSetUp s t prev
      (hw, out ++ [s], s.plan + 160, true)
    else (hw, out ++ [s], s.plan + 160, true)
  else
    let moved := s.fireAt.isSome && decide (s.plan < prev)
    let p := max s.plan prev
    let hw := if moved then hw.wrap (0x000200D0 + 4 * b) 1 else hw
    (hw, out ++ [{ s with plan := p, fireAt := s.fireAt.map (fun _ => p) }], p + 160, found)

theorem Hw.freeDriver_eq (w : Hw) (b driver t : Nat) : w.freeDriver b driver t =
    ((w.bank b).inFlight.foldl (freeStep b driver t) (w, [], t + 160, false)).1.setBank b
      { ((w.bank b).inFlight.foldl (freeStep b driver t) (w, [], t + 160, false)).1.bank b with
        inFlight := ((w.bank b).inFlight.foldl (freeStep b driver t) (w, [], t + 160, false)).2.1 } := rfl

theorem freeStep_arms (b driver t : Nat) (r : Hw × List Shot × Nat × Bool) (x : Shot) :
    r.1.Arms (freeStep b driver t r x).1 ∧ (freeStep b driver t r x).2.1.map (·.num) = r.2.1.map (·.num) ++ [x.num] := by
  obtain ⟨w, out, prev, found⟩ := r
  unfold freeStep
  dsimp only
  split
  · split
    · obtain ⟨arms, num⟩ := w.startSetUp_arms x t prev
      exact ⟨arms, by simp [num]⟩
    · exact ⟨.refl w, by simp⟩
  · exact ⟨.andThen (.refl w) (w.setReg_arms _ _ (Nat.le_add_right _ _)), by simp⟩

theorem freeSteps_arm (b driver t : Nat) (l : List Shot) (r : Hw × List Shot × Nat × Bool) :
    r.1.Arms (l.foldl (freeStep b driver t) r).1 ∧ (l.foldl (freeStep b driver t) r).2.1.map (·.num) = r.2.1.map (·.num) ++ l.map (·.num) := by
  induction l generalizing r with
  | nil => exact ⟨.refl _, by simp⟩
  | cons x l ih =>
    obtain ⟨arms, num⟩ := freeStep_arms b driver t r x
    obtain ⟨rest, nums⟩ := ih (freeStep b driver t r x)
    exact ⟨arms.trans rest, by rw [List.foldl_cons, nums, num]; simp⟩

/-- A driver set free: its bank keeps its shots, their instants aside. -/
theorem Hw.freeDriver_shape (w : Hw) (b driver t : Nat) : ∃ v l, w.Arms v ∧ l.map (·.num) = (w.bank b).inFlight.map (·.num) ∧
    w.freeDriver b driver t = v.setBank b { w.bank b with inFlight := l } := by
  obtain ⟨arms, nums⟩ := freeSteps_arm b driver t (w.bank b).inFlight (w, [], t + 160, false)
  refine ⟨_, _, arms, nums.trans (List.nil_append _), ?_⟩
  rw [Hw.freeDriver_eq]
  have same : ∀ v : Hw, w.Arms v → v.bank b = w.bank b := fun v h => by rw [Hw.bank, h.banks, Hw.bank]
  rw [same _ arms]

/-! ### SHOT_FIRE (R88) -/

theorem Hw.sendFired_shape (w : Hw) (x : Shot) (t : Nat) : ∃ d, w.sendFired x t = { w with descs := d } := by
  unfold Hw.sendFired
  split <;> exact ⟨_, rfl⟩

/-- A shot's descriptor sent, its pulse, its energy booked, the fire counted. -/
def Hw.fired (w : Hw) (b : Nat) (x : Shot) (t : Nat) : Hw := (((w.sendFired x t).pulse x t).bookShot x).wrap (0x000200A0 + 4 * b) 1

theorem Hw.fired_effect (w : Hw) (b : Nat) (x : Shot) (t : Nat) : (w.fired b x t).bcn.banks = w.bcn.banks ∧
    (w.fired b x t).bcn.fire = (w.pulse x t).bcn.fire ∧ (w.fired b x t).lnt = { w.lnt.book x with lastCur := mset 0 w.lnt.lastCur x.bank x.cur } ∧
    (w.fired b x t).tnd = w.tnd ∧ (w.fired b x t).outbox = w.outbox ∧
    (w.fired b x t).reg (0x000200A0 + 4 * b) = (w.reg (0x000200A0 + 4 * b) + 1) % 2 ^ 32 := by
  obtain ⟨d, e⟩ := w.sendFired_shape x t
  unfold Hw.fired
  rw [e]
  exact ⟨rfl, rfl, rfl, rfl, rfl, Hw.reg_setReg_same _ _ _⟩

/-- A driver that does not hold gives its row up at a fire (R84). -/
def Hw.letGo (w : Hw) (a : Nat) : Hw := if tb (w.drvReg a) 6 then w else w.setDriver a { w.driver a with held := none }

theorem Hw.letGo_arms (w : Hw) (a : Nat) : w.Arms (w.letGo a) := by
  unfold Hw.letGo
  split
  · exact .refl w
  · exact w.setDriver_arms _ _

theorem shotFire_due {w : Hw} {b t : Nat} {x : Shot} {r : List Shot} (first : (w.bank b).inFlight = x :: r) (set : x.fireAt = some t) (due : t ≤ w.ticks) :
    shotFire b w = (((w.fired b x t).letGo x.driver).setBank b { ((w.fired b x t).letGo x.driver).bank b with
      inFlight := r, lastFire := some t, refOpen := (((w.fired b x t).letGo x.driver).bank b).refOpen ++ [x] }).freeDriver b x.driver t := by
  unfold shotFire
  rw [first]
  dsimp only
  rw [set]
  exact if_pos due

theorem shotFire_idle {w : Hw} {b : Nat} (h : ∀ x r, (w.bank b).inFlight = x :: r → ∀ t, x.fireAt = some t → w.ticks < t) : shotFire b w = w := by
  unfold shotFire
  split
  · next x r first =>
    split
    · next t set => exact if_neg (Nat.not_le.mpr (h x r first t set))
    · rfl
  · rfl

theorem exec_shotFire {s : State} (q : s.hw.outbox = []) (on : s.hw.awake 15 = true) {b t : Nat} {x : Shot} {r : List Shot}
    (first : (s.hw.bank b).inFlight = x :: r) (set : x.fireAt = some t) (due : t ≤ s.hw.ticks) : ∃ u, exec (.shotFire b) s = .next u ∧
      (u.hw.bank b).inFlight.map (·.num) = r.map (·.num) ∧ (u.hw.bank b).lastFire = some t ∧
      (u.hw.bank b).refOpen = (s.hw.bank b).refOpen ++ [x] ∧
      u.hw.lnt = { s.hw.lnt.book x with lastCur := mset 0 s.hw.lnt.lastCur x.bank x.cur } ∧
      u.hw.bcn.fire = (s.hw.pulse x t).bcn.fire ∧ u.cmd = s.cmd ∧ u.hw.tnd = s.hw.tnd ∧
      (b < 4 → u.hw.reg (0x000200A0 + 4 * b) = (s.hw.reg (0x000200A0 + 4 * b) + 1) % 2 ^ 32) := by
  obtain ⟨banks, fire, lnt, tnd, outbox, count⟩ := s.hw.fired_effect b x t
  have freed := (s.hw.fired b x t).letGo_arms x.driver
  have fires := shotFire_due first set due
  revert freed fires
  generalize (s.hw.fired b x t).letGo x.driver = w
  intro freed fires
  have refOpen : (w.bank b).refOpen = (s.hw.bank b).refOpen := by rw [Hw.bank, freed.banks, banks, Hw.bank]
  obtain ⟨v, l, arms, nums, shape⟩ := (w.setBank b { w.bank b with inFlight := r, lastFire := some t, refOpen :=
      (w.bank b).refOpen ++ [x] }).freeDriver_shape b x.driver t
  rw [Hw.bank_setBank] at nums shape
  rw [shape] at fires
  refine ⟨_, next_clocked q on fires (arms.outbox.trans (freed.outbox.trans outbox)), ?_, ?_, ?_, arms.lnt.trans (freed.lnt.trans lnt),
    arms.fire.trans (freed.fire.trans fire), rfl, arms.tnd.trans (freed.tnd.trans tnd), fun bank => ?_⟩
  · rw [Hw.bank_setBank]
    exact nums
  · rw [Hw.bank_setBank]
  · rw [Hw.bank_setBank, refOpen]
  · have low : 0x000200A0 + 4 * b < 0x000200D0 := by omega
    exact (arms.reg _ low).trans ((freed.reg _ low).trans count)

/-! ### REF_WINDOW_CLOSE (R96, R97, R128) -/

/-- Registers, array and Beacon stay; nothing but mild signals goes out. -/
structure Hw.Notes (a b : Hw) : Prop where
  regs : b.regs = a.regs
  spd : b.spd = a.spd
  bcn : b.bcn = a.bcn
  mild : a.Mild → b.Mild

section
variable {a b c : Hw}

theorem Hw.Notes.refl (a : Hw) : a.Notes a := ⟨rfl, rfl, rfl, id⟩

theorem Hw.Notes.trans (h : a.Notes b) (k : b.Notes c) : a.Notes c :=
  ⟨k.regs.trans h.regs, k.spd.trans h.spd, k.bcn.trans h.bcn, fun m => k.mild (h.mild m)⟩

theorem Hw.Records.notes (h : a.Records b) : a.Notes b := by
  have mild := h.mild
  obtain ⟨_, _, rfl, -⟩ := h
  exact ⟨rfl, rfl, rfl, mild⟩

theorem Hw.Tells.notes (h : a.Tells b) : a.Notes b := by
  obtain ⟨_, _, rfl, -, mild⟩ := h
  exact ⟨rfl, rfl, rfl, fun m x hx => (List.mem_append.mp hx).elim (m x) (mild x)⟩

theorem Hw.safe001_notes (w : Hw) : w.Notes w.safe001 := by
  have off : ∀ v : Hw, v.Notes (v.safeEffect (fid (srcKpr 0) 4 1)) := fun v => by
    have commanded : v.Notes (v.command 0 0) := ⟨rfl, rfl, rfl, id⟩
    exact (commanded.trans (v.drive2_tells 0 0).notes).trans ⟨rfl, rfl, rfl, id⟩
  exact (Hw.recordFault_records w _ []).notes.trans (off _)

theorem Hw.lossOfPinned_notes (w : Hw) (pinned : Bool) : w.Notes (w.lossOfPinned pinned) := by
  unfold Hw.lossOfPinned
  split
  · exact w.safe001_notes
  · exact .refl w

end

/-- What the lamp-room cells that fired make of the misses of an emitter of column `c`. -/
def Hw.missesAfter (w : Hw) (n c : Nat) (e : Emitter) : Nat :=
  if w.refK ≤ popCount 4 (n / 2 ^ (4 * w.refGroup c)) then 0 else min 64 (e.misses + 1)

/-- An emitter of column `c` after the reference window of a shot that it fired. -/
def Hw.counted (w : Hw) (n c : Nat) (e : Emitter) : Emitter :=
  if tb w.spd.lampUnfit (w.refGroup c) = true then { e with fired := 0, misses := 0 }
  else { fired := min 64 (e.fired + 1), misses := w.missesAfter n c e, opened := e.opened || decide (w.missesAfter n c e = 64) }

theorem Hw.counted_congr {v w : Hw} (regs : v.regs = w.regs) (spd : v.spd = w.spd) : v.counted = w.counted := by
  unfold Hw.counted Hw.missesAfter Hw.refK Hw.refGroup Hw.reg
  rw [regs, spd]

def Hw.putEmitter (w : Hw) (i : Nat) (e : Emitter) : Hw := { w with bcn := { w.bcn with emitters := mset {} w.bcn.emitters i e } }

theorem refOne_notes (b row n : Nat) (w : Hw) (c : Nat) :
    (w.putEmitter (emIx b row c) (w.counted n c (w.emitter b row c))).Notes (refOne b row n w c) := by
  by_cases unfit : tb w.spd.lampUnfit (w.refGroup c) = true
  · rw [Hw.counted, if_pos unfit, show refOne b row n w c = _ from if_pos unfit]
    exact .refl _
  · have told : ∀ (v : Hw) (o : Bool), v.Notes (if o
        then (v.raise (fid srcBcn 2 10) (le 1 b ++ le 2 (16 * row + c))).lossOfPinned (v.lightsPinned b row c) else v) :=
      fun v o => by
        split
        · exact (Hw.raise_records v _ _ (by decide)).notes.trans (Hw.lossOfPinned_notes _ _)
        · exact .refl v
    have opens : ∀ o p : Bool, (o || p) = (o || (p && !o)) := by decide
    rw [Hw.counted, if_neg unfit, opens, show refOne b row n w c = _ from if_neg unfit]
    exact told _ _

theorem setBits_nodup (n x : Nat) : (setBits n x).Nodup := List.nodup_range.filter _

theorem mem_setBits {n x i : Nat} (h : i < n) : i ∈ setBits n x ↔ tb x i = true := by
  simp [setBits, tb, h]

/-- The counts of the columns met, each once; the banks and the terms of the count stay. -/
theorem foldl_refOne (b row n : Nat) (l : List Nat) (once : l.Nodup) (w : Hw) :
    (l.foldl (refOne b row n) w).bcn.banks = w.bcn.banks ∧ (w.Mild → (l.foldl (refOne b row n) w).Mild) ∧
    ∀ c, (l.foldl (refOne b row n) w).emitter b row c = if c ∈ l then w.counted n c (w.emitter b row c) else w.emitter b row c := by
  induction l generalizing w with
  | nil => exact ⟨rfl, id, fun _ => by simp⟩
  | cons k l ih =>
    obtain ⟨new, once⟩ := List.nodup_cons.mp once
    have notes := refOne_notes b row n w k
    obtain ⟨banks, mild, counts⟩ := ih once (refOne b row n w k)
    refine ⟨banks.trans (by rw [notes.bcn]; rfl), fun m => mild (notes.mild m), fun c => ?_⟩
    have terms : (refOne b row n w k).counted = w.counted := Hw.counted_congr notes.regs notes.spd
    rw [List.foldl_cons, counts, terms, Hw.emitter, notes.bcn]
    by_cases e : c = k
    · subst e
      rw [if_neg new, if_pos (by simp)]
      exact mget_mset_same _ _ _ _
    · have other : mget {} (w.putEmitter (emIx b row k) (w.counted n k (w.emitter b row k))).bcn.emitters (emIx b row c) = w.emitter b row c :=
        mget_mset_ne _ _ _ _ _ (by unfold emIx; omega)
      rw [other]
      simp [e]

section
variable {s : State} (q : s.hw.outbox = [])
include q

theorem exec_refWindowClose_idle (b n : Nat) (none : (s.hw.bank b).refOpen = []) : exec (.refWindowClose b n) s = .next s := by
  refine next_clocked_same q (f := refWindowClose b n) ?_
  unfold refWindowClose
  dsimp only
  rw [none]

theorem exec_refWindowClose {b n : Nat} {x : Shot} {r : List Shot} (on : s.hw.awake 15 = true) (first : (s.hw.bank b).refOpen = x :: r)
    (past : x.plan + bits (s.hw.reg 0x00020080) 0 8 + bits (s.hw.reg 0x00020080) 8 8 ≤ s.hw.ticks) : ∃ u,
      exec (.refWindowClose b n) s = .next u ∧ (u.hw.bank b).refOpen = r ∧ ∀ c < 16,
        u.hw.emitter b x.row c = if tb x.cols c = false then s.hw.emitter b x.row c else s.hw.counted n c (s.hw.emitter b x.row c) := by
  have closed : refWindowClose b n s.hw =
      (setBits 16 x.cols).foldl (refOne b x.row n) (s.hw.setBank b { s.hw.bank b with refOpen := r }) := by
    unfold refWindowClose
    dsimp only
    rw [first]
    exact if_pos past
  obtain ⟨banks, mild, counts⟩ := foldl_refOne b x.row n _ (setBits_nodup 16 x.cols) (s.hw.setBank b { s.hw.bank b with refOpen := r })
  obtain ⟨u, ran, log⟩ := State.clocked_logOnly on (refWindowClose b n) closed (mild (Hw.mild_of_empty q))
  refine ⟨u, ran, ?_, fun c column => ?_⟩
  · rw [Hw.bank, log.bcn]
    dsimp only
    rw [banks]
    exact congrArg BeaconBank.refOpen (Hw.bank_setBank s.hw b _)
  · rw [Hw.emitter, log.bcn]
    refine (counts c).trans ?_
    rw [← ite_not]
    refine if_congr ?_ rfl rfl
    rw [mem_setBits column, Bool.not_eq_true]

end

/-- Settles O21: each row does what is due by its conditions; the counts of a reference window are those of its columns, one by one. -/
theorem emissionRowsTakeEffect : Obligations.EmissionRowsTakeEffect := fun _ q on =>
  ⟨fun _ _ _ _ => exec_shotFire q on, fun _ h => next_clocked_same q (shotFire_idle h),
    fun _ bus here due gap => ⟨exec_driverPoll_reply q on bus here due gap, exec_driverPoll_counted q on bus here due gap,
      exec_driverPoll_excludes q on bus here due gap⟩,
    fun _ gap => ⟨exec_mapSend_clears q on gap, exec_mapSend_maps q on gap⟩, fun _ => exec_mapSend_idle q, exec_rampUpdate_idle q,
    fun _ _ => exec_rampUpdate_writes q on, fun _ => exec_rampUpdate_moves q on, exec_refWindowClose_idle q,
    fun _ _ _ _ => exec_refWindowClose q on⟩

end Sys2Proof.Machine
end

section
/-! PROOFS. Fires, conversions, shot edges and judgements (R122 to R126, R140 to R144, R173): a fire that passes first has its tile retire the
missing-shot descriptors it holds, and that can raise a fault. -/

namespace Sys2Proof.Machine

/-- The second shot of a point, skipped by its bank. -/
def skippedShot : Shot :=
  { num := 1, bank := 0, row := 0, profile := 0, cols := 1, pw := 0, slot := 0, driver := 0, dq := 0, cells := [], pattern := true }

/-- A channel whose point has lost its first shot to the stall rule; both its buffers are IDLE again. -/
def stalledChan : Chan := { gathers := [{ points := [(0, 0, 1)], perPoint := 2, stall := 1 }] }

/-- A device in SCAN, a host's session open on SPI: channel 0 has one armed microcell, the descriptor of its point's second shot, missing, waits
at its tile. -/
def aboutToStartLate : State :=
  { openForService with hw :=
    { dev := { mode := .scan }
      spd := { biasOn := true, regions := [(0, { state := 0 })] }
      tnd := { active := some { tracks := [(0, { nAcc := 2 })] } }
      tiles := [(0, { chans := [(0, stalledChan)] })]
      descs := [{ shots := [skippedShot], missing := some .skipped }] } }

/-- Refutes O27: the fire passes and is judged as a stop; the tile settles first, the skipped shot starts its histogram late under the stall
rule (R160), and F.TILE.014 goes to the session: Watch's side is not left alone. -/
theorem not_shotEdgesPairAndHistogramsAreJudged : ¬ Obligations.ShotEdgesPairAndHistogramsAreJudged := by
  unfold Obligations.ShotEdgesPairAndHistogramsAreJudged
  intro claim
  obtain ⟨fires, -⟩ := claim aboutToStartLate rfl rfl
  obtain ⟨-, judged⟩ := fires 0 0 0 0 [] { nAcc := 2 } rfl (by decide +kernel)
  obtain ⟨u, run, kept, -⟩ := judged (by decide) rfl
  have told : (pendingAfter (.gateEvent 0 0 0 ⟨0, []⟩) aboutToStartLate .spi).map (·.opcode) = [0xE1] := by decide +kernel
  rw [pendingAfter_next run, kept] at told
  exact absurd told (by decide)

end Sys2Proof.Machine
end

section
/-! PROOFS. The step of an empty queue (R36, R135, R137, R363). -/

namespace Sys2Proof.Machine

/-- Sessions that hold nothing leave nothing to take up. -/
theorem CmdSt.nextHeld_none {c : CmdSt} (h : ∀ t x, c.session t = some x → x.wait = none ∧ x.held = []) : c.nextHeld = none := by
  refine List.findSome?_eq_none_iff.mpr fun t _ => ?_
  cases e : c.session t with
  | none => rfl
  | some x =>
    obtain ⟨wait, held⟩ := h t x e
    simp only [wait, held]

/-- The session on SPI comes first of those that hold a command behind a wait that has ended. -/
theorem CmdSt.nextHeld_spi {c : CmdSt} {x : Session} {i : Instr} {r : List Instr} (h : c.spi = some x) (wait : x.wait = none) (held : x.held = i :: r) :
    c.nextHeld = some (.spi, x, i, r) := by
  simp only [CmdSt.nextHeld, transports, List.findSome?_cons, CmdSt.session, h, wait, held]

theorem State.endDenied_none {s : State} {t : Transport} (h : ∀ x, s.cmd.session t = some x → x.wait = none) : s.endDenied t = s := by
  unfold State.endDenied
  split
  · next x e => rw [h x e]
  · rfl

theorem State.lateReplies_none {s : State} (h : s.cmd.late = []) : s.lateReplies = s := by
  have same : ({ s.cmd with late := [] } : CmdSt) = s.cmd := by rw [← h]
  simp only [State.lateReplies, h, List.filter_nil, List.foldl_nil, same]

theorem Hw.inject_tick {w : Hw} (h : w.injecting = false) : w.tick.inject = w.tick :=
  if_pos (ne_true_of_eq_false h)

/-- With nothing held, delayed or injected an empty queue passes a tick. -/
theorem State.idle_tick {s : State} (late : s.cmd.late = []) (quiet : ∀ t x, s.cmd.session t = some x → x.wait = none ∧ x.held = [])
    (still : s.hw.injecting = false) : s.idle = { s with hw := s.hw.tick } := by
  have denied : transports.foldl (fun s t => State.endDenied s t) s = s := by
    have stays := fun t => State.endDenied_none (s := s) (t := t) fun x e => (quiet t x e).1
    simp only [transports, List.foldl_cons, List.foldl_nil, stays]
  unfold State.idle
  simp only [CmdSt.nextHeld_none quiet, State.lateReplies_none late, denied, Hw.inject_tick still]

theorem step_empty {s : State} (h : s.pending = []) : step s = .next s.idle := by
  unfold step
  rw [h]

/-- Settles O2: nothing waits and a tick passes, or the session on SPI gives up the first command it holds. -/
theorem emptyQueuePassesATick : Obligations.EmptyQueuePassesATick := by
  refine ⟨fun s empty late quiet still => ?_, fun s x c r h empty spi wait held hdr => ?_⟩
  · rw [step_empty empty, State.idle_tick late quiet still]
    rfl
  · rw [step_empty empty, State.idle, CmdSt.nextHeld_spi spi wait held]
    simp only [State.takeHeld, empty, hdr]
    rfl

end Sys2Proof.Machine
end

section
/-! PROOFS. Reads of device time (R136). -/

namespace Sys2Proof.Machine

/-! ### What a read leaves of CLK -/

section
variable (w : Hw)

theorem Hw.latchRead_clk {a : Nat} (h : a ≠ 0x00040010) : (w.latchRead a).clk = w.clk := by
  unfold Hw.latchRead
  dsimp only
  split
  case h_2 high =>
    rw [if_neg (by omega)]
    repeat' split
    all_goals rfl
  case h_9 => unfold Hw.pmcLatch; repeat' split
              all_goals rfl
  case h_10 => unfold Hw.evtLatch; repeat' split
               all_goals rfl
  all_goals repeat' split
  all_goals rfl

theorem Hw.rcClear_clk (a : Nat) : (w.rcClear a).clk = w.clk := by
  unfold Hw.rcClear
  dsimp only
  repeat' split
  all_goals rfl

/-- No read but that of CLK_TIME_LO changes CLK. -/
theorem Hw.readReg_clk {a : Nat} (h : a ≠ 0x00040010) : (w.readReg a).1.clk = w.clk := by
  unfold Hw.readReg
  dsimp only
  split
  · unfold sftPop Hw.popVal
    dsimp only
    split <;> rfl
  · split
    · unfold Hw.tileTabRead
      dsimp only
      split <;> rfl
    · rw [Hw.rcClear_clk, Hw.latchRead_clk w h]

theorem regDesc_timeLo : regDesc 0x00040010 = some { base := 0x00040010 } := by decide
theorem regDesc_timeHi : regDesc 0x00040014 = some { base := 0x00040014 } := by decide

/-- A read of CLK_TIME_LO returns the lower half of the count and latches the upper. -/
theorem Hw.readReg_timeLo : w.readReg 0x00040010 = (w.latchTime, w.clk.time.toNat % 2 ^ 32) := by
  have latch : w.latchRead 0x00040010 = w.latchTime := rfl
  have clear := Hw.rcClear_none w.latchTime 0x00040010 fun d e => by rw [← Option.some.inj (regDesc_timeLo.symm.trans e)]
  have value : w.peek 0x00040010 = w.clk.time.toNat % 2 ^ 32 := by
    unfold Hw.peek
    rw [regDesc_timeLo]
    rfl
  unfold Hw.readReg
  dsimp only
  rw [if_neg (by decide), if_neg (by decide), latch, clear, value]

theorem Hw.readReg_timeHi : (w.readReg 0x00040014).2 = w.clk.latchHi := by
  change w.peek 0x00040014 = _
  unfold Hw.peek
  rw [regDesc_timeHi]
  rfl

end

/-- Settles O59: one register latches, the next returns what is latched, and no other read touches it. -/
theorem deviceTimeReadsWhole : Obligations.DeviceTimeReadsWhole := by
  intro s
  have low := Hw.readReg_timeLo s.hw
  refine ⟨fun q => ⟨_, next_hwStep (t := s.hw.latchTime) rfl q, rfl, rfl, rfl⟩, congrArg Prod.snd low, by rw [low]; rfl, fun k same => ?_,
    fun a other => congrArg ClkSt.latchHi (Hw.readReg_clk s.hw other), fun h x t => ⟨_, State.served_read t (Nat.ne_of_beq_eq_false rfl) rfl rfl rfl⟩⟩
  rw [low] at same
  exact ⟨(Hw.readReg_timeHi k).trans same, congrArg ClkSt.latchHi (Hw.readReg_clk k (by decide))⟩

end Sys2Proof.Machine
end

section
/-! SUPPORT. What a step leaves of the hardware that did no more than record: all but the event state and the count of free values. -/

namespace Sys2Proof.Machine

/-- A step whose function records on top of `v`: beside the event state and the count of free values `v` stands, with nothing undelivered. -/
theorem State.hwStep_records {s : State} {f : Hw → Hw} {v w : Hw} (e : f s.hw = w) (r : v.Records w) (q : v.outbox = []) :
    (∃ ev n, (s.hwStep f).hw = { v with evt := ev, free := n }) ∧ ∀ g, w.isRaised g = true → (s.hwStep f).hw.isRaised g = true := by
  subst e
  have mild := r.mild (Hw.mild_of_empty q)
  have log := State.hwStep_logOnly s f mild
  obtain ⟨ev, l, records, -, -⟩ := r
  have still : ({ v with evt := ev, outbox := [] } : Hw) = { v with evt := ev } := by rw [← q]
  rw [records] at log
  obtain ⟨_, _, _, n, left⟩ := still ▸ log
  exact ⟨⟨_, n, left⟩, fun g raised => ((State.hwStep_mild s f mild).2 g).trans raised⟩

/-- The same of a clocked step. -/
theorem next_clocked_records {s : State} {n : Nat} (on : s.hw.awake n = true) {f : Hw → Hw} {v w : Hw} (e : f s.hw = w) (r : v.Records w)
    (q : v.outbox = []) : ∃ u, (.next (s.clocked n f) : Out) = .next u ∧ (∃ ev k, u.hw = { v with evt := ev, free := k }) ∧
      ∀ g, w.isRaised g = true → u.hw.isRaised g = true :=
  ⟨_, congrArg _ (State.clocked_run f on), State.hwStep_records e r q⟩

/-- A new device time: CLK and the frames that it runs through, then a record (R137). -/
theorem Hw.setTime_records (w : Hw) (t : U64) : Hw.Records { w with
    clk := { w.clk with time := t, setArmed := none }
    det := { w.det with past := [] }
    out := { w.out with frames := w.out.frames.map (fun (r : FrameRec) => if r.ended then r else { r with flags := r.flags ||| 256 }) } } (w.setTime t) :=
  Hw.post_records _ srcClk 0xE001 _ false

end Sys2Proof.Machine
end

section
/-! PROOFS. ARP, ICMP and PTP (R137, R139, R234, R235). -/

namespace Sys2Proof.Machine

/-! ### The table of addresses -/

section
variable {w : Hw} {ip : U32} {a : Arp}

theorem Hw.arpOf_ip (h : w.arpOf ip = some a) : a.ip = ip := by
  have found := List.find?_some h
  simpa using found

/-- An entry changed but in its address is found as it has become. -/
theorem Hw.arpOf_updArp (f : Arp → Arp) (keeps : ∀ a, (f a).ip = a.ip) (h : w.arpOf ip = some a) : (w.updArp ip f).arpOf ip = some (f a) := by
  have same : ∀ x : Arp, (if x.ip = ip then f x else x).ip = x.ip := fun x => by
    split
    · exact keeps x
    · rfl
  have found : (w.out.arp.map (fun a => if a.ip = ip then f a else a)).find? (fun a => decide (a.ip = ip)) =
      (w.arpOf ip).map (fun a => if a.ip = ip then f a else a) := by
    rw [List.find?_map]
    exact congrArg _ (congrArg (List.find? · _) (funext fun x => by simp only [Function.comp_apply, same]))
  exact (found.trans (congrArg _ h)).trans (congrArg some (if_pos (Hw.arpOf_ip h)))

theorem arpReply_found (mac : Nat) (h : w.arpOf ip = some a) :
    (arpReply ip mac w).arpOf ip = some { a with mac := some (mac % 2 ^ 48), since := w.ticks, faulted := false } :=
  Hw.arpOf_updArp _ (fun _ => rfl) h

/-- Whoever is learned is found with its MAC address. -/
theorem Hw.learn_found (w : Hw) (ip : U32) (mac : Nat) : ((w.learn ip mac).arpOf ip).bind (·.mac) = some (mac % 2 ^ 48) := by
  unfold Hw.learn
  cases h : w.arpOf ip with
  | some a => simp only [Option.isSome_some, if_true, arpReply_found mac h, Option.bind_some]
  | none =>
    rw [if_neg (by simp)]
    unfold Hw.arpOf at h ⊢
    rw [List.find?_append, h]
    simp

theorem Hw.learn_keeps (w : Hw) (ip : U32) (mac : Nat) : (w.learn ip mac).outbox = w.outbox ∧ (w.learn ip mac).out.ethOut = w.out.ethOut := by
  unfold Hw.learn
  split <;> exact ⟨rfl, rfl⟩

/-- An entry that is gone is not found, every other is. -/
theorem Hw.arpOf_removed (w : Hw) (ip ip' : U32) : (w.out.arp.filter (fun x => decide (x.ip ≠ ip))).find? (fun a => decide (a.ip = ip')) =
    if ip' = ip then none else w.arpOf ip' := by
  rw [List.find?_filter]
  split
  next same => exact List.find?_eq_none.mpr fun x _ => by simp [same]
  next other =>
    refine congrArg (List.find? · w.out.arp) (funext fun x => ?_)
    by_cases h : x.ip = ip' <;> simp [h, other]

end

section
variable {s : State} (q : s.hw.outbox = [])

/-! ### What arrives -/

section
include q

theorem exec_arpRequest_other {ip x : U32} {m : Nat} (other : s.hw.isEth = false ∨ ip.toNat ≠ s.hw.out.netAddr) :
    exec (.arpRequest ⟨ip, x, m⟩) s = .next s := by
  refine next_clocked_same q (if_neg fun ⟨eth, own⟩ => ?_)
  exact other.elim (fun off => Bool.false_ne_true (off.symm.trans eth)) fun far => far own

theorem exec_icmpEcho_off {ip : U32} {d : List Byte} (off : s.hw.isEth = false) : exec (.icmpEcho ip d) s = .next s :=
  next_clocked_same q (if_neg (ne_true_of_eq_false off))

theorem exec_ptpMessage_off {k : Nat} {o r : Int} (off : s.hw.out.ptp = 0 ∨ s.hw.isEth = false) : exec (.ptpMessage k o r) s = .next s :=
  next_clocked_same q (if_pos (off.imp_right ne_true_of_eq_false))

end

variable (on : s.hw.awake 10 = true)
include q on

theorem exec_arpRequest_own {ip x : U32} {m : Nat} (eth : s.hw.isEth = true) (own : ip.toNat = s.hw.out.netAddr) :
    ∃ u, exec (.arpRequest ⟨ip, x, m⟩) s = .next u ∧ u.cmd = s.cmd ∧
      u.hw.out.ethOut = s.hw.out.ethOut ++ [(0, .arp x.toNat (m % 2 ^ 48))] ∧ (u.hw.arpOf x).bind (·.mac) = some (m % 2 ^ 48) := by
  obtain ⟨quiet, sent⟩ := s.hw.learn_keeps x m
  refine ⟨_, next_clocked q on (if_pos ⟨eth, own⟩) quiet, rfl, ?_, s.hw.learn_found x m⟩
  exact congrArg (· ++ _) sent

theorem exec_icmpEcho {ip : U32} {d : List Byte} (eth : s.hw.isEth = true) : exec (.icmpEcho ip d) s =
    .next { s with hw := { s.hw with out := { s.hw.out with ethOut := s.hw.out.ethOut ++ [(0, .echo ip.toNat d)] } } } :=
  next_clocked q on (if_pos eth) rfl

theorem exec_arpReply (ip : U32) (m : Nat) : ∃ u, exec (.arpReply ip m) s = .next u ∧ u.cmd = s.cmd ∧
    u.hw.out.arp.length = s.hw.out.arp.length ∧ u.hw.evt = s.hw.evt ∧
    ∀ a, s.hw.arpOf ip = some a → u.hw.arpOf ip = some { a with mac := some (m % 2 ^ 48), since := s.hw.ticks, faulted := false } :=
  ⟨_, next_clocked q on (t := arpReply ip m s.hw) rfl rfl, rfl, List.length_map _, rfl, fun _ => arpReply_found m⟩

/-! ### What is due (R234) -/

omit on in
theorem exec_arp_unknown {ip : U32} (unknown : s.hw.arpOf ip = none) : exec (.arpRetry ip) s = .next s ∧
    exec (.arpCacheExpiry ip) s = .next s ∧ exec (.destUnresolvedTimeout ip) s = .next s := by
  refine ⟨next_clocked_same q ?_, next_clocked_same q ?_, next_clocked_same q ?_⟩
  · unfold arpRetry
    rw [unknown]
  · unfold arpExpiry
    rw [unknown]
  · unfold destUnresolved
    rw [unknown]

section
variable {ip : U32} {a : Arp} (known : s.hw.arpOf ip = some a)
include known

omit on in
theorem exec_arpRetry_idle (h : a.mac ≠ none ∨ s.hw.ticks < a.asked + 80000000) : exec (.arpRetry ip) s = .next s := by
  refine next_clocked_same q ?_
  unfold arpRetry
  rw [known]
  refine if_neg fun ⟨unresolved, due⟩ => ?_
  exact h.elim (fun resolved => resolved (Option.isNone_iff_eq_none.mp unresolved)) fun early => by omega

theorem exec_arpRetry (unresolved : a.mac = none) (due : a.asked + 80000000 ≤ s.hw.ticks) :
    ∃ u, exec (.arpRetry ip) s = .next u ∧ u.cmd = s.cmd ∧
      u.hw.arpOf ip = some { a with asked := s.hw.ticks } ∧ u.hw.out.ethOut = s.hw.out.ethOut ++ [(a.port, .ask ip.toNat)] := by
  have asks : arpRetry ip s.hw = (s.hw.updArp ip (fun a => { a with asked := s.hw.ticks })).sendNet a.port (.ask ip.toNat) := by
    unfold arpRetry
    rw [known]
    exact if_pos ⟨Option.isNone_iff_eq_none.mpr unresolved, due⟩
  exact ⟨_, next_clocked q on asks rfl, rfl, Hw.arpOf_updArp _ (fun _ => rfl) known, rfl⟩

omit on in
theorem exec_arpCacheExpiry_idle (h : a.mac = none ∨ s.hw.ticks < a.since + 48000000000) : exec (.arpCacheExpiry ip) s = .next s := by
  refine next_clocked_same q ?_
  unfold arpExpiry
  rw [known]
  refine if_neg fun ⟨resolved, due⟩ => ?_
  exact h.elim (fun none' => Option.isSome_iff_ne_none.mp resolved none') fun early => by omega

theorem exec_arpCacheExpiry (resolved : a.mac ≠ none) (due : a.since + 48000000000 ≤ s.hw.ticks) :
    ∃ u, exec (.arpCacheExpiry ip) s = .next u ∧ u.cmd = s.cmd ∧
      u.hw.arpOf ip = none ∧ ∀ ip', ip' ≠ ip → u.hw.arpOf ip' = s.hw.arpOf ip' := by
  have removes : arpExpiry ip s.hw = { s.hw with out := { s.hw.out with arp := s.hw.out.arp.filter (fun x => decide (x.ip ≠ ip)) } } := by
    unfold arpExpiry
    rw [known]
    exact if_pos ⟨Option.isSome_iff_ne_none.mpr resolved, due⟩
  exact ⟨_, next_clocked q on removes rfl, rfl, (Hw.arpOf_removed _ _ _).trans (if_pos rfl), fun ip' other =>
    (Hw.arpOf_removed _ _ _).trans (if_neg other)⟩

omit on in
theorem exec_destUnresolvedTimeout_idle (h : a.mac ≠ none ∨ a.faulted = true ∨ s.hw.ticks < a.since + 800000000) :
    exec (.destUnresolvedTimeout ip) s = .next s := by
  refine next_clocked_same q ?_
  unfold destUnresolved
  rw [known]
  refine if_neg fun ⟨unresolved, untold, due⟩ => ?_
  rcases h with resolved | told | early
  · exact resolved (Option.isNone_iff_eq_none.mp unresolved)
  · exact untold told
  · omega

theorem exec_destUnresolvedTimeout (unresolved : a.mac = none) (untold : a.faulted = false) (due : a.since + 800000000 ≤ s.hw.ticks)
    (room : s.hw.evt.table.length < 1024) : ∃ u, exec (.destUnresolvedTimeout ip) s = .next u ∧ u.hw.isRaised (fid srcOut 1 3) = true ∧
      u.hw.arpOf ip = some { a with faulted := true } := by
  have raises : destUnresolved ip s.hw = (s.hw.updArp ip (fun a => { a with faulted := true })).raise (fid srcOut 1 3) [] := by
    unfold destUnresolved
    rw [known]
    exact if_pos ⟨Option.isNone_iff_eq_none.mpr unresolved, ne_true_of_eq_false untold, due⟩
  obtain ⟨u, run, ⟨_, _, left⟩, raised⟩ := next_clocked_records on raises (Hw.raise_records _ (fid srcOut 1 3) [] (by decide)) q
  refine ⟨u, run, raised _ (Hw.isRaised_raise _ _ _ (by decide) room), ?_⟩
  rw [left]
  exact Hw.arpOf_updArp (fun a => { a with faulted := true }) (fun _ => rfl) known

end

/-! ### PTP (R235) -/

omit q on in
/-- A count of 1/80 tick is short of a tick exactly where no whole tick lies in it. -/
theorem tdiv_80_eq_zero (x : Int) : Int.tdiv x 80 = 0 ↔ x.natAbs < 80 := by
  rw [← Int.natAbs_eq_zero, Int.natAbs_tdiv]
  exact Nat.div_eq_zero_iff.trans (or_iff_right (by decide))

/-- A PTP source has shown. -/
def Hw.ptpShown (w : Hw) : Hw := { w with out := { w.out with ptpSeen := true } }

/-- PTP steers the reference by an offset. -/
def Hw.ptpSteered (w : Hw) (err : Int) : Hw :=
  { w.discipline err with out := { w.out with
      ptpOfs := err, ptpRun := w.lockRun err w.out.ptpRun, ptpLocked := decide (w.lockRun err w.out.ptpRun = 8)
      ptpLost := if w.lockRun err w.out.ptpRun = 8 then none else w.out.ptpLost.orElse (fun _ => some w.ticks) } }

section Running
variable (ptp : s.hw.out.ptp ≠ 0) (eth : s.hw.isEth = true)
include ptp eth

omit q on in
theorem ptpMessage_runs (k : Nat) (o : Int) : ptpMessage k o s.hw = if k = 0 then s.hw.ptpShown else
    if s.hw.out.ptp = 2 then
      if s.hw.dev.mode = .config ∧ Int.tdiv (64 * o) 80 ≠ 0 ∧ s.hw.dev.sched = none then
        (s.hw.ptpShown.setTime (BitVec.ofInt 64 ((s.hw.clk.time.toNat : Int) - Int.tdiv (64 * o) 80))).ptpSteered (64 * o - 80 * Int.tdiv (64 * o) 80)
      else s.hw.ptpShown.ptpSteered (64 * o)
    else { s.hw with out := { s.hw.out with ptpSeen := true, ptpOfs := 64 * o } } := by
  unfold ptpMessage
  rw [if_neg (by simp [ptp, eth])]
  dsimp only
  by_cases two : s.hw.out.ptp = 2
  · have jump : (decide (s.hw.dev.mode = .config ∧ Int.tdiv (64 * o) 80 ≠ 0) && s.hw.dev.sched.isNone) =
        decide (s.hw.dev.mode = .config ∧ Int.tdiv (64 * o) 80 ≠ 0 ∧ s.hw.dev.sched = none) := by
      rw [Bool.eq_iff_iff]
      simp [and_assoc]
    simp only [if_pos two, jump, decide_eq_true_eq]
    split
    · rfl
    · split <;> rfl
  · simp only [two, if_false]
    rfl

theorem exec_ptpMessage_announces (o r : Int) : exec (.ptpMessage 0 o r) s =
    .next { s with hw := { s.hw with out := { s.hw.out with ptpSeen := true } } } :=
  next_clocked q on (t := s.hw.ptpShown) ((ptpMessage_runs ptp eth 0 o).trans (if_pos rfl)) rfl

variable {k : Nat} (exchange : k ≠ 0)
include exchange

theorem exec_ptpMessage_measures {o r : Int} (one : s.hw.out.ptp = 1) : exec (.ptpMessage k o r) s =
    .next { s with hw := { s.hw with out := { s.hw.out with ptpSeen := true, ptpOfs := 64 * o } } } := by
  refine next_clocked q on ((ptpMessage_runs ptp eth k o).trans ?_) rfl
  rw [if_neg exchange, if_neg (by rw [one]; decide)]

theorem exec_ptpMessage_steps {o r : Int} (two : s.hw.out.ptp = 2) (config : s.hw.dev.mode = .config) (free : s.hw.dev.sched = none)
    (far : 80 ≤ (64 * o).natAbs) : ∃ u, exec (.ptpMessage k o r) s = .next u ∧
      u.hw.clk.time = BitVec.ofInt 64 ((s.hw.clk.time.toNat : Int) - Int.tdiv (64 * o) 80) ∧
      u.hw.out.ptpOfs = 64 * o - 80 * Int.tdiv (64 * o) 80 := by
  have ticks : Int.tdiv (64 * o) 80 ≠ 0 := fun e => absurd ((tdiv_80_eq_zero _).mp e) (Nat.not_lt.mpr far)
  have steps := ptpMessage_runs ptp eth k o
  rw [if_neg exchange, if_pos two, if_pos ⟨config, ticks, free⟩] at steps
  have told := s.hw.ptpShown.setTime_records (BitVec.ofInt 64 ((s.hw.clk.time.toNat : Int) - Int.tdiv (64 * o) 80))
  obtain ⟨u, run, _, _, _, _, left⟩ := State.clocked_logOnly on (ptpMessage k o) steps ((told.mild (Hw.mild_of_empty q)).of_same rfl)
  exact ⟨u, run, by rw [left]; rfl, by rw [left]; rfl⟩

theorem exec_ptpMessage_steers {o r : Int} (two : s.hw.out.ptp = 2) (near : s.hw.dev.mode ≠ .config ∨ (64 * o).natAbs < 80) :
    ∃ u, exec (.ptpMessage k o r) s = .next u ∧ u.cmd = s.cmd ∧ u.hw.clk = (s.hw.discipline (64 * o)).clk ∧ u.hw.out.ptpOfs = 64 * o := by
  have steers := ptpMessage_runs ptp eth k o
  rw [if_neg exchange, if_pos two, if_neg fun ⟨config, ticks, _⟩ => near.elim (fun other => other config) fun less =>
    ticks ((tdiv_80_eq_zero _).mpr less)] at steers
  exact ⟨_, next_clocked q on steers rfl, rfl, rfl, rfl⟩

end Running

omit on in
theorem exec_ptpLockLost_idle (idle : (s.hw.out.ptpLost = none ∧ (s.hw.out.ptp ≠ 2 ∨ s.hw.out.ptpLocked = false)) ∨
    ∃ t, s.hw.out.ptpLost = some t ∧ (s.hw.out.ptp ≠ 2 ∨ s.hw.ticks < t + 1600000000)) : exec .ptpLockLost s = .next s := by
  refine next_clocked_same q ?_
  unfold ptpLockLost
  obtain ⟨never, open'⟩ | ⟨t, lost, early⟩ := idle
  · rw [never]
    exact if_neg fun ⟨two, locked⟩ => open'.elim (fun other => other two) fun off => Bool.false_ne_true (off.symm.trans locked)
  · rw [lost]
    exact if_neg fun ⟨two, due⟩ => early.elim (fun other => other two) fun before => by omega

theorem exec_ptpLockLost_notes (never : s.hw.out.ptpLost = none) (two : s.hw.out.ptp = 2) (locked : s.hw.out.ptpLocked = true) :
    exec .ptpLockLost s = .next { s with hw := { s.hw with out := { s.hw.out with
      ptpLocked := false, ptpRun := 0, ptpLost := some s.hw.ticks } } } := by
  refine next_clocked q on ?_ rfl
  unfold ptpLockLost
  rw [never]
  exact if_pos ⟨two, locked⟩

theorem exec_ptpLockLost_raises {t : Nat} (lost : s.hw.out.ptpLost = some t) (two : s.hw.out.ptp = 2) (due : t + 1600000000 ≤ s.hw.ticks)
    (room : s.hw.evt.table.length < 1024) : ∃ u, exec .ptpLockLost s = .next u ∧ u.hw.isRaised (fid srcOut 1 4) = true ∧
      u.hw.out.ptpLost = none ∧ u.hw.out.ptpLocked = false := by
  have raises : ptpLockLost s.hw = ({ s.hw with out := { s.hw.out with ptpLost := none, ptpLocked := false, ptpRun := 0 } } : Hw).raise
      (fid srcOut 1 4) [] := by
    unfold ptpLockLost
    rw [lost]
    exact if_pos ⟨two, due⟩
  obtain ⟨u, run, ⟨_, _, left⟩, raised⟩ := next_clocked_records on raises (Hw.raise_records _ (fid srcOut 1 4) [] (by decide)) q
  exact ⟨u, run, raised _ (Hw.isRaised_raise _ _ _ (by decide) room), by rw [left], by rw [left]⟩

end

/-- Settles O42: each row by what arrives and by what its entry of the table, or the lock, finds due. -/
theorem networkRowsTakeEffect : Obligations.NetworkRowsTakeEffect := fun _ q on =>
  ⟨fun _ _ _ => exec_arpRequest_other q, fun _ _ _ => exec_arpRequest_own q on, fun _ _ => exec_icmpEcho_off q, fun _ _ => exec_icmpEcho q on,
    exec_arpReply q on, fun _ => exec_arp_unknown q,
    fun _ _ known => ⟨exec_arpRetry_idle q known, exec_arpRetry q on known, exec_arpCacheExpiry_idle q known, exec_arpCacheExpiry q on known,
      exec_destUnresolvedTimeout_idle q known, exec_destUnresolvedTimeout q on known⟩,
    fun _ _ _ => exec_ptpMessage_off q,
    fun ptp eth => ⟨exec_ptpMessage_announces q on ptp eth, fun _ _ _ exchange => exec_ptpMessage_measures q on ptp eth exchange,
      fun _ _ _ exchange => exec_ptpMessage_steps q on ptp eth exchange, fun _ _ _ exchange => exec_ptpMessage_steers q on ptp eth exchange⟩,
    fun never => ⟨fun open' => exec_ptpLockLost_idle q (.inl ⟨never, open'⟩), exec_ptpLockLost_notes q on never⟩,
    fun _ lost early => exec_ptpLockLost_idle q (.inr ⟨_, lost, early⟩), fun _ => exec_ptpLockLost_raises q on⟩

end Sys2Proof.Machine
end

section
/-! SUPPORT. CLK, Daymark and the temperatures lie beside what faults, axes and the values of CAL change: each leaves them as they are. -/

namespace Sys2Proof.Machine

/-- CLK, Daymark, the sensors and the time of their next reading stay; nothing but mild signals goes out. -/
structure Hw.Paces (a b : Hw) : Prop where
  clk : b.clk = a.clk
  dmk : b.dmk = a.dmk
  temps : b.temps = a.temps
  tempAt : b.tid.tempAt = a.tid.tempAt
  mild : a.Mild → b.Mild

section
variable {a b c : Hw}

theorem Hw.Paces.refl (a : Hw) : a.Paces a := ⟨rfl, rfl, rfl, rfl, id⟩

theorem Hw.Paces.trans (h : a.Paces b) (k : b.Paces c) : a.Paces c :=
  ⟨k.clk.trans h.clk, k.dmk.trans h.dmk, k.temps.trans h.temps, k.tempAt.trans h.tempAt, fun m => k.mild (h.mild m)⟩

/-- A change to none of what is kept. -/
theorem Hw.Paces.of_same (hc : b.clk = a.clk) (hd : b.dmk = a.dmk) (ht : b.temps = a.temps) (hn : b.tid.tempAt = a.tid.tempAt)
    (ho : b.outbox = a.outbox) : a.Paces b := ⟨hc, hd, ht, hn, fun m => m.of_same ho⟩

theorem Hw.Paces.ite {p : Prop} [Decidable p] (h : a.Paces b) (k : a.Paces c) : a.Paces (if p then b else c) := by
  split
  · exact h
  · exact k

theorem Hw.Paces.foldl {A : Type} {f : Hw → A → Hw} (h : ∀ (w : Hw) (x : A), w.Paces (f w x)) (l : List A) (w : Hw) : w.Paces (l.foldl f w) :=
  List.foldlRecOn l f (motive := w.Paces) (.refl w) fun v k x _ => k.trans (h v x)

theorem Hw.Records.paces (h : a.Records b) : a.Paces b := by
  have mild := h.mild
  obtain ⟨_, _, rfl, -⟩ := h
  exact ⟨rfl, rfl, rfl, rfl, mild⟩

theorem Hw.Tells.paces (h : a.Tells b) : a.Paces b := by
  obtain ⟨e, l, rfl, -, mild⟩ := h
  exact ⟨rfl, rfl, rfl, rfl, fun m x hx => (List.mem_append.mp hx).elim (m x) (mild x)⟩

end

section
variable (w : Hw)

/-! ### Faults of any class (R62, R64, R65, R140) -/

theorem offerShot_paces (n p : Nat) (s : Shot) (seen : Seen) : w.Paces (offerShot n p s seen w) := by
  have stuck : ∀ (v : Hw) t k, v.Paces (if k = 0 then v.setTile n t else (v.setTile n t).stick (tileReg n 0x10) k) := fun v t k =>
    .ite (.of_same rfl rfl rfl rfl rfl) (.of_same rfl rfl rfl rfl rfl)
  unfold offerShot
  dsimp only
  split
  · exact .refl w
  · split
    · exact .refl w
    · exact .foldl (fun v col => .ite ((stuck v _ _).trans (Hw.recordFault_records _ _ _).paces) (stuck v _ _)) _ w

theorem endTile_paces (n : Nat) : w.Paces (endTile n w) := by
  have told : ∀ (v : Hw) d, v.Paces (tellMissing n d v) := fun v d => by
    unfold tellMissing
    split
    · exact .foldl (fun v s => .foldl (fun v p => offerShot_paces v n p s _) _ v) _ v
    · exact .refl v
  exact .trans (.foldl told _ w) (.of_same rfl rfl rfl rfl rfl)

theorem Hw.disarmAll_paces : w.Paces w.disarmAll := by
  obtain ⟨b, e, -⟩ := w.disarmAll_shape
  rw [e]
  exact .of_same rfl rfl rfl rfl rfl

theorem Hw.inhibit_paces : w.Paces w.inhibit := by
  have missed : ∀ l : List Shot, w.Paces (l.foldl (fun h s => h.sendMissing s .skipped) w) := fun l =>
    .foldl (f := fun (h : Hw) s => h.sendMissing s .skipped) (fun _ _ => .of_same rfl rfl rfl rfl rfl) l w
  have stopped : ∀ (v : Hw) m, v.Paces { v with bcn := { v.bcn with inhibited := true, banks := m } } := fun _ _ => .of_same rfl rfl rfl rfl rfl
  exact ((missed _).trans (stopped _ _)).trans (Hw.disarmAll_paces _)

theorem Hw.scanEnd_paces : w.Paces w.scanEnd := by
  have frames : w.Paces (w.endFrames true) := .of_same rfl rfl rfl rfl rfl
  have tiles := frames.trans (.foldl (fun v n => endTile_paces v n) (List.range 48) _)
  unfold Hw.scanEnd
  dsimp only
  revert tiles
  generalize (List.range 48).foldl (fun h n => endTile n h) (w.endFrames true) = v
  exact fun tiles => tiles.trans (.of_same rfl rfl rfl rfl rfl)

theorem Hw.pinTest_paces (mask : Nat) : w.Paces (w.pinTest mask) := by
  have found : w.Paces (w.disarmAll.setReg 0x00020090 (mask % 2 ^ 32)) := w.disarmAll_paces.trans (.of_same rfl rfl rfl rfl rfl)
  exact .ite found (found.trans (Hw.recordFault_records _ _ _).paces)

theorem Hw.lampTest_paces (live : Nat) : w.Paces (w.lampTest live) :=
  .trans (b := (({ w with spd := { w.spd with
    lampLive := live % 2 ^ 64, lampUnfit := unfitGroups live w.refK } } : Hw).restUnfit (unfitGroups live w.refK))) (.of_same rfl rfl rfl rfl rfl)
    (.foldl (fun v _ => (Hw.recordFault_records v _ _).paces) _ _)

theorem Hw.configTests_paces (pins lamp : Option Nat) : w.Paces (w.configTests pins lamp) := by
  have drawn : ∀ v : Hw, v.Paces v.draw.2 := fun _ => .of_same rfl rfl rfl rfl rfl
  have tested : ∀ (v : Hw) p l, v.Paces ((v.pinTest p).lampTest l) := fun v p l => (v.pinTest_paces p).trans (Hw.lampTest_paces _ l)
  have mapped : ∀ (v : Hw) d, v.Paces { v with bcn := { v.bcn with drivers := d } } := fun _ _ => .of_same rfl rfl rfl rfl rfl
  unfold Hw.configTests
  split
  next p v e =>
  have first : w.Paces v := by
    cases pins <;> cases e
    · exact drawn w
    · exact .refl w
  split
  next l u e' =>
  have second : v.Paces u := by
    cases lamp <;> cases e'
    · exact drawn v
    · exact .refl v
  exact ((first.trans second).trans (tested u _ _)).trans (mapped _ _)

theorem Hw.safeEffect_paces (f : FaultId) : w.Paces (w.safeEffect f) :=
  .trans (b := w.command 0 0) (.of_same rfl rfl rfl rfl rfl) ((w.drive2_tells 0 0).paces.trans (.of_same rfl rfl rfl rfl rfl))

theorem Hw.safe001_paces : w.Paces w.safe001 := (Hw.recordFault_records w _ []).paces.trans (Hw.safeEffect_paces _ _)

/-- One more mild signal. -/
theorem Hw.tell_paces {x : Signal} (h : x.mild = true) : w.Paces { w with outbox := w.outbox ++ [x] } :=
  ⟨rfl, rfl, rfl, rfl, fun m y hy => (List.mem_append.mp hy).elim (m y) fun e => by rw [List.mem_singleton.mp e]; exact h⟩

theorem Hw.stopEffect_paces (src : Nat) (x : List Byte) : w.Paces (w.stopEffect src x) := by
  have unscheduled : w.Paces { w with dev := { w.dev with sched := none } } := .of_same rfl rfl rfl rfl rfl
  have inhibited := unscheduled.trans (Hw.inhibit_paces _)
  unfold Hw.stopEffect
  dsimp only
  split
  · exact unscheduled
  · exact .of_same rfl rfl rfl rfl rfl
  · refine .ite ?_ (.of_same rfl rfl rfl rfl rfl)
    exact .trans (b := { w with bcn := { w.bcn with inhibited := true }, dev := { w.dev with sched := none, target := none } })
      (.of_same rfl rfl rfl rfl rfl) (Hw.tell_paces _ (x := .stopInTransition) rfl)
  · have left : ∀ v : Hw, v.Paces (v.toMode .config 0x02) := fun _ => .of_same rfl rfl rfl rfl rfl
    have due : ∀ v : Hw, v.Paces { v with outbox := v.outbox ++ [.modeLeft], slt := { v.slt with testDue := true } } := fun v =>
      .trans (v.tell_paces (x := .modeLeft) rfl) (.of_same rfl rfl rfl rfl rfl)
    exact (((inhibited.trans (Hw.scanEnd_paces _)).trans (left _)).trans (Hw.configTests_paces _ none none)).trans (due _)
  · exact .ite (inhibited.trans (Hw.safe001_paces _)) unscheduled
  · exact inhibited

theorem Hw.casInhibit_paces (src : Nat) (f : FaultId) (b : Bool) : w.Paces (w.casInhibit src f b) := by
  obtain ⟨c, e⟩ := w.casInhibit_shape src f b
  rw [e]
  exact .of_same rfl rfl rfl rfl rfl

/-- No fault touches them. -/
theorem Hw.raise_paces (f : FaultId) (x : List Byte) : w.Paces (w.raise f x) := by
  have recorded := (Hw.recordFault_records w f x).paces
  unfold Hw.raise
  dsimp only
  exact .ite (recorded.trans ((Hw.casInhibit_paces _ _ _ _).trans (Hw.stopEffect_paces _ _ _)))
    (.ite (recorded.trans (Hw.safeEffect_paces _ f)) recorded)

/-- A fault of any class is raised while the table has room. -/
theorem Hw.raise_raised (f : FaultId) (x : List Byte) (room : w.evt.table.length < 1024) : (w.raise f x).isRaised f = true :=
  (w.raise_stands f x).raised f (Hw.isRaised_recordFault w f x room)

/-! ### Axes (R285, R292, R294, R297) -/

theorem Hw.setAxis_paces (a : Nat) (x : Axis) : w.Paces (w.setAxis a x) := .of_same rfl rfl rfl rfl rfl

theorem Hw.setDac_paces (n code slew : Nat) : w.Paces (w.setDac n code slew) := .of_same rfl rfl rfl rfl rfl

theorem Hw.swapLoop_paces (a : Nat) (outer forced keep : Bool) : w.Paces (w.swapLoop a outer forced keep) := by
  unfold Hw.swapLoop
  dsimp only
  split
  · exact .refl w
  · have told := fun x p => (w.setAxis_paces a x).trans (Hw.event_tells _ srcPds 0xE002 p).paces
    exact .ite ((told _ _).trans (Hw.raise_paces _ _ _)) (told _ _)

theorem Hw.stopOutputs_paces (a : Nat) (s : AxisState) : w.Paces (w.stopOutputs a s) := by
  unfold Hw.stopOutputs
  dsimp only
  have one := fun x code slew => (w.setAxis_paces a x).trans (Hw.setDac_paces _ a code slew)
  exact .ite (w.setAxis_paces a _) (.ite ((one _ _ _).trans (Hw.setDac_paces _ _ _ _)) (one _ _ _))

theorem Hw.axisTo_paces (a : Nat) (s : AxisState) (cause : Nat) : w.Paces (w.axisTo a s cause) := by
  unfold Hw.axisTo
  dsimp only
  split
  · exact .refl w
  · refine .trans ?_ (Hw.event_tells _ _ _ _).paces
    split
    · exact w.setAxis_paces a _
    · exact w.setAxis_paces a _
    · have forgets : ∀ v : Hw, v.Paces { v with preds := mset none v.preds a none } := fun _ => .of_same rfl rfl rfl rfl rfl
      have swapped := (w.swapLoop_paces a false false false).trans (Hw.swapLoop_paces _ a true false false)
      exact ((swapped.trans (Hw.setAxis_paces _ _ _)).trans (forgets _)).trans (Hw.stopOutputs_paces _ a s)

theorem Hw.axisFault_paces (a num cls : Nat) : w.Paces (w.axisFault a num cls) :=
  ((w.setAxis_paces a _).trans (Hw.axisTo_paces _ a .fault 1)).trans (Hw.raise_paces _ _ _)

theorem Hw.checkPred_paces (a t : Nat) (theta : Int) : w.Paces (w.checkPred a t theta) := by
  have warned : ∀ (v : Hw) x, v.Paces ((v.setAxis a x).raise (fid srcPds 1 5) (le 1 a)) := fun v x => (v.setAxis_paces a x).trans (Hw.raise_paces _ _ _)
  unfold Hw.checkPred
  dsimp only
  split
  · exact .refl w
  · refine .ite ?_ (w.setAxis_paces a _)
    have marked := fun x y => (w.setAxis_paces a x).trans (Hw.setAxis_paces _ a y)
    split
    · exact .ite (marked _ _) ((marked _ _).trans (warned _ _))
    · exact (marked _ _).trans (warned _ _)

theorem Hw.axisEdge_paces (a i s : Nat) (rising : Bool) : w.Paces (w.axisEdge a i s rising) := by
  unfold Hw.axisEdge
  dsimp only
  refine .ite (.refl w) ?_
  split
  · exact .ite (w.setAxis_paces a _) (.refl w)
  · have judged := fun x theta => (w.setAxis_paces a x).trans (Hw.checkPred_paces _ a (s / 320) theta)
    exact .ite (.ite ((judged _ _).trans (Hw.axisFault_paces _ _ _ _)) (judged _ _)) (.ite (judged _ _) (.refl w))
  · exact .refl w

/-! ### Thermistors and the values of CAL (R322, R361, R365, R366) -/

theorem Hw.takeTherm_paces (j : Nat) (r : Int) : w.Paces (w.takeTherm j r) := by
  have taken : ∀ m, w.Paces { w with tid := { w.tid with therm := m } } := fun _ => .of_same rfl rfl rfl rfl rfl
  unfold Hw.takeTherm
  dsimp only
  exact .ite ((taken _).trans (Hw.raise_paces _ _ _)) (taken _)

theorem maskCommit_paces : w.Paces (maskCommit w) := by
  have counted : ∀ v : Hw, v.Paces v.recount := fun v => by
    have found : v.Paces { v with spd := { v.spd with dead := v.deadChans } } := .of_same rfl rfl rfl rfl rfl
    exact found.trans (.ite (Hw.safe001_paces _) (.refl _))
  unfold maskCommit
  split
  · exact .trans (b := w.commitMask) (.of_same rfl rfl rfl rfl rfl) (counted _)
  · exact .of_same rfl rfl rfl rfl rfl
  · exact .of_same rfl rfl rfl rfl rfl
  · exact .of_same rfl rfl rfl rfl rfl
  · exact .refl w

theorem Hw.putGlobal_paces (q : Nat) (d : List Int) : w.Paces (w.putGlobal q d) := by
  unfold Hw.putGlobal
  dsimp only
  split
  · exact .of_same rfl rfl rfl rfl rfl
  · refine .trans ?_ (maskCommit_paces _)
    exact .of_same rfl rfl rfl rfl rfl
  · exact .of_same rfl rfl rfl rfl rfl
  · exact .of_same rfl rfl rfl rfl rfl
  · exact .refl w

theorem Hw.applySets_paces : w.Paces w.applySets := by
  have stored : ∀ (v : Hw) a x, v.Paces (v.setReg a x) := fun _ _ _ => .of_same rfl rfl rfl rfl rfl
  unfold Hw.applySets
  dsimp only
  generalize List.range 768 = codes, List.range 4 = banks, List.range 1632 = gains, List.range 64 = walks
  have skews := Hw.Paces.foldl (fun v k => stored v (chanReg k 0) (cx 24 (interpolate w.activeSets w.tDie fun s => sx 24 (mget 0 s.skew k)))) codes w
  have gained := Hw.Paces.foldl (fun v b => stored v (0x000280B0 + 4 * b)
    (interpolate w.activeSets w.tDie fun s => ((mget 0 s.xgain b : Nat) : Int)).toNat) banks
  refine skews.trans ((gained _).trans ?_)
  exact .of_same rfl rfl rfl rfl rfl

theorem Hw.calBoundary_paces : w.Paces w.calBoundary := by
  have freed : w.Paces { w with cal := { w.cal with held := [] } } := .of_same rfl rfl rfl rfl rfl
  have put : w.Paces (({ w with cal := { w.cal with held := [] } } : Hw).putGlobals w.cal.held) :=
    freed.trans (.foldl (f := fun (h : Hw) (e : Nat × List Int) => h.putGlobal e.1 e.2) (fun v e => v.putGlobal_paces e.1 e.2) _ _)
  unfold Hw.calBoundary
  dsimp only
  exact .ite (put.trans (Hw.applySets_paces _)) put

theorem Hw.recomputeValues_paces : w.Paces w.recomputeValues := by
  unfold Hw.recomputeValues
  split
  · exact .of_same rfl rfl rfl rfl rfl
  · exact .of_same rfl rfl rfl rfl rfl
  · exact .of_same rfl rfl rfl rfl rfl
  · exact w.applySets_paces

/-- A reading of the temperatures that has been taken makes CAL's values follow, no more. -/
theorem Hw.calTemps_paces : w.Paces w.calTemps := by
  have entered : w.Paces (if w.dev.mode = .config then w.calBoundary else w) := .ite w.calBoundary_paces (.refl w)
  have followed := fun t : Int => entered.trans (.ite (p := 16 ≤ (t - (if w.dev.mode = .config then w.calBoundary else w).cal.tForce).natAbs ∧
    (if w.dev.mode = .config then w.calBoundary else w).dev.mode ≠ .boot) (Hw.recomputeValues_paces _) (.refl _))
  have noted : ∀ (v : Hw) c, v.Paces { v with cal := c } := fun _ _ => .of_same rfl rfl rfl rfl rfl
  have told : ∀ (v : Hw) c q, v.Paces (({ v with cal := c } : Hw).raise (fid srcCal 0 5) (le 2 q)) := fun v c q =>
    (noted v c).trans (Hw.raise_paces _ _ _)
  unfold Hw.calTemps
  dsimp only
  refine .ite (followed _) ((followed _).trans (.foldl (fun v q => ?_) _ _))
  split
  · exact .refl v
  · exact .ite (.ite (noted v _) (told v _ q)) (.refl v)

end

end Sys2Proof.Machine
end

section
/-! PROOFS. CLK: device time set, PPS, the loop, loss of the clock (R134, R137, R138, R139, R235). -/

namespace Sys2Proof.Machine

/-! ### The registers of CLK and Daymark that no lock holds (R41) -/

theorem Hw.writeReg_clk (w : Hw) {a : Nat} (v : Nat) {d : RegDesc} (hb : a / 0x10000 = 0x04) (ha : a % 4 = 0) (hd : regDesc a = some d)
    (hr : d.rwl = 0) : w.writeReg false a v = w.storeReg false a v :=
  Hw.writeReg_unlocked w false v ha hd (by simp [Hw.locked, hd, hb, hr])

/-! ### CLK_TIME_SET (R137) -/

theorem Hw.writeReg_timeSet (w : Hw) (hi : Word) : w.writeReg false 0x0004001C hi.toNat = clkTimeSet hi w := by
  rw [Hw.writeReg_clk w _ (d := { base := 0x0004001C, wo := 0xFFFFFFFF }) rfl rfl (by decide) rfl]
  change clkTimeSet (wordOf hi.toNat) w = _
  rw [wordOf, BitVec.ofNat_toNat, BitVec.setWidth_eq]

section
variable {s : State} (q : s.hw.outbox = []) {hi : Word}
include q

theorem exec_clkTimeSet_mode (other : s.hw.dev.mode ≠ .config) : exec (.clkTimeSet hi) s =
    .next { s with hw := { s.hw with ack := 0x03, ackData := le 1 s.hw.dev.mode.code } } :=
  next_hwStep ((s.hw.writeReg_timeSet hi).trans (if_pos other)) q

variable (config : s.hw.dev.mode = .config)
include config

theorem exec_clkTimeSet_busy (due : s.hw.dev.sched ≠ none) :
    exec (.clkTimeSet hi) s = .next { s with hw := { s.hw with ack := 0x02, ackData := [] } } :=
  next_hwStep ((s.hw.writeReg_timeSet hi).trans ((if_neg (not_not_intro config)).trans (if_pos (Option.isSome_iff_ne_none.mpr due)))) q

variable (free : s.hw.dev.sched = none)
include free

omit q in
theorem clkTimeSet_free : clkTimeSet hi s.hw = if tb (s.hw.reg 0x00040000) 8 then { s.hw with
      ack := 0, ackData := [], clk := { s.hw.clk with setArmed := some (BitVec.ofNat 64 (hi.toNat * 2 ^ 32 + s.hw.clk.setLo)) } }
    else ({ s.hw with ack := 0, ackData := [] } : Hw).setTime (BitVec.ofNat 64 (hi.toNat * 2 ^ 32 + s.hw.clk.setLo)) :=
  (if_neg (not_not_intro config)).trans (if_neg (by rw [free]; decide))

theorem exec_clkTimeSet_armed (atPps : tb (s.hw.reg 0x00040000) 8 = true) : exec (.clkTimeSet hi) s = .next { s with hw := { s.hw with
    ack := 0, ackData := [], clk := { s.hw.clk with setArmed := some (BitVec.ofNat 64 (hi.toNat * 2 ^ 32 + s.hw.clk.setLo)) } } } :=
  next_hwStep ((s.hw.writeReg_timeSet hi).trans ((clkTimeSet_free config free).trans (if_pos atPps))) q

theorem exec_clkTimeSet_now (now : tb (s.hw.reg 0x00040000) 8 = false) : ∃ u, exec (.clkTimeSet hi) s = .next u ∧
    u.hw.clk = { s.hw.clk with time := BitVec.ofNat 64 (hi.toNat * 2 ^ 32 + s.hw.clk.setLo), setArmed := none } ∧
    u.hw.ack = 0 ∧ u.hw.ticks = s.hw.ticks := by
  have sets := (s.hw.writeReg_timeSet hi).trans ((clkTimeSet_free config free).trans (if_neg (ne_true_of_eq_false now)))
  obtain ⟨⟨_, _, left⟩, -⟩ := State.hwStep_records (s := s) (f := fun hw => hw.writeReg false 0x0004001C hi.toNat) sets (Hw.setTime_records _ _) q
  exact ⟨_, rfl, by rw [left], by rw [left], by rw [left]⟩

end

/-! ### CLK_CTL (R139, R235) -/

theorem regDesc_clkCtl : regDesc 0x00040000 = some { base := 0x00040000, rw := 0x113 } := by decide

theorem Hw.writeReg_clkCtl (w : Hw) (v : Nat) : w.writeReg false 0x00040000 v = clkCtlStore v w :=
  Hw.writeReg_clk w v rfl rfl regDesc_clkCtl rfl

/-- PPS_MODE acts as it reads, but for the reserved value. -/
theorem Hw.ppsMode_eq {w : Hw} {m : Nat} (h : bits (w.reg 0x00040000) 0 2 = m) (named : m ≠ 3) : w.ppsMode = m := by
  unfold Hw.ppsMode
  rw [h]
  exact if_neg named

/-- PPS_MODE is stored as written. -/
theorem bits_plainWrite_clkCtl (w : Hw) (v : Nat) : bits ((w.plainWrite 0x00040000 v).reg 0x00040000) 0 2 = bits v 0 2 := by
  rw [Hw.plainWrite_eq w v regDesc_clkCtl]
  unfold Hw.reg
  dsimp only
  rw [mget_mset_same]
  have whole : clampWrite 0x00040000 v = v := rfl
  rw [whole]
  simp only [bits, pow_zero, Nat.div_one, wordOf, BitVec.toNat_ofNat, Nat.mod_mod_of_dvd _ (Nat.pow_dvd_pow 2 (by decide : 2 ≤ 32)),
    Nat.or_mod_two_pow, Nat.and_mod_two_pow]
  have mode : (0x113 % 2 ^ 2 ||| 0 % 2 ^ 2 : Nat) = 2 ^ 2 - 1 := rfl
  have rest : ((0xFFFFFFFF ^^^ (0x113 ||| 0)) % 2 ^ 2 : Nat) = 0 := rfl
  rw [mode, rest, Nat.and_zero, Nat.zero_and, Nat.or_zero, Nat.and_two_pow_sub_one_eq_mod, Nat.mod_mod]

theorem plainWrite_ppsMode (w : Hw) {v m : Nat} (h : bits v 0 2 = m) (named : m ≠ 3) : (w.plainWrite 0x00040000 v).ppsMode = m :=
  Hw.ppsMode_eq ((bits_plainWrite_clkCtl w v).trans h) named

/-- Where CLK_CTL is written to measure or to discipline: the register, the term of MEASURE, the timeout of a PPS taken up from OFF. -/
theorem clkCtlStore_effect {v : Nat} {w : Hw} (on : bits v 0 2 = 1 ∨ (bits v 0 2 = 2 ∧ w.out.ptp ≠ 2)) :
    (clkCtlStore v w).outbox = w.outbox ∧ (clkCtlStore v w).regs = (w.plainWrite 0x00040000 v).regs ∧
      (clkCtlStore v w).clk.time = w.clk.time ∧
      (w.ppsMode = 0 → (clkCtlStore v w).clk.ppsMissAt = w.ticks + 1200000000 ∧ (clkCtlStore v w).clk.ppsQuiet = false) ∧
      (bits v 0 2 = 1 → w.out.ptp ≠ 2 → (clkCtlStore v w).clk.term = 0) := by
  have let' : ¬ (bits v 0 2 = 2 ∧ w.out.ptp = 2) := fun ⟨two, ptp⟩ => on.elim (fun one => by omega) fun h => h.2 ptp
  have mode : (w.plainWrite 0x00040000 v).ppsMode ≠ 0 := by
    obtain one | ⟨two, -⟩ := on
    · rw [plainWrite_ppsMode w one (by decide)]; decide
    · rw [plainWrite_ppsMode w two (by decide)]; decide
  obtain ⟨r, write⟩ := Hw.plainWrite_acked w v regDesc_clkCtl
  rw [write] at mode ⊢
  unfold clkCtlStore
  rw [if_neg let', write]
  dsimp only
  obtain ⟨m, y, resumed, due⟩ : ∃ m y, (if decide (w.ppsMode = 0) = true ∧ (w.acked r).ppsMode ≠ 0 then
      { w.acked r with clk := { (w.acked r).clk with ppsMissAt := (w.acked r).ticks + 1200000000, ppsQuiet := false } } else w.acked r) =
        { w.acked r with clk := { w.clk with ppsMissAt := m, ppsQuiet := y } } ∧ (w.ppsMode = 0 → m = w.ticks + 1200000000 ∧ y = false) := by
    by_cases off : w.ppsMode = 0
    · exact ⟨_, _, if_pos ⟨decide_eq_true off, mode⟩, fun _ => ⟨rfl, rfl⟩⟩
    · exact ⟨_, _, if_neg fun h => off (of_decide_eq_true h.1), fun h => absurd h off⟩
  rw [resumed]
  dsimp only
  split
  · exact ⟨rfl, rfl, rfl, due, fun _ _ => rfl⟩
  next other => exact ⟨rfl, rfl, rfl, due, fun one free => absurd ⟨one, free⟩ other⟩

section
variable {s : State} (q : s.hw.outbox = []) {v : Word}
include q

theorem exec_clkCtlWrite_refused (two : bits v.toNat 0 2 = 2) (ptp : s.hw.out.ptp = 2) :
    exec (.clkCtlWrite v) s = .next { s with hw := { s.hw with ack := 0x05, ackData := [] } } :=
  next_hwStep ((s.hw.writeReg_clkCtl v.toNat).trans (if_pos ⟨two, ptp⟩)) q

theorem exec_clkCtlWrite (on : bits v.toNat 0 2 = 1 ∨ (bits v.toNat 0 2 = 2 ∧ s.hw.out.ptp ≠ 2)) : ∃ u, exec (.clkCtlWrite v) s = .next u ∧
    u.cmd = s.cmd ∧ u.hw.regs = (s.hw.plainWrite 0x00040000 v.toNat).regs ∧ u.hw.clk.time = s.hw.clk.time ∧
    (s.hw.ppsMode = 0 → u.hw.clk.ppsMissAt = s.hw.ticks + 1200000000 ∧ u.hw.clk.ppsQuiet = false) ∧
    (bits v.toNat 0 2 = 1 → s.hw.out.ptp ≠ 2 → u.hw.clk.term = 0) := by
  obtain ⟨quiet, stored⟩ := clkCtlStore_effect on
  exact ⟨_, next_hwStep (s.hw.writeReg_clkCtl v.toNat) (quiet.trans q), rfl, stored⟩

theorem exec_clkCtlWrite_off (off : bits v.toNat 0 2 = 0) :
    exec (.clkCtlWrite v) s = .next { s with hw := s.hw.plainWrite 0x00040000 v.toNat } := by
  refine next_hwStep ((s.hw.writeReg_clkCtl v.toNat).trans ?_) ((Hw.plainWrite_outbox _ _ _).trans q)
  unfold clkCtlStore
  rw [if_neg fun h => absurd (off.symm.trans h.1) (by decide)]
  dsimp only
  have still : ¬ (decide (s.hw.ppsMode = 0) = true ∧ (s.hw.plainWrite 0x00040000 v.toNat).ppsMode ≠ 0) := fun h =>
    h.2 (plainWrite_ppsMode s.hw off (by decide))
  rw [if_neg still, if_neg fun h => absurd (off.symm.trans h.1) (by decide)]

end

/-! ### PPS_EDGE (R138, R139) -/

/-- The hardware with a PPS edge accepted, before the loop has acted on it. -/
def Hw.ppsSeen (w : Hw) (f : Nat) : Hw := { w with clk := { w.clk with
  ppsRef := some w.ticks, ppsMissAt := w.ticks + 1200000000, ppsQuiet := false, present := true, ppsStamp := w.clk.time
  ppsFine := f % 80, ppsErr := ppsErr w.clk.time.toNat (f % 80) } }

theorem Hw.ppsLoop_setArmed (w : Hw) (err : Int) : (w.ppsLoop err).clk.setArmed = w.clk.setArmed := by
  unfold Hw.ppsLoop
  split
  · rfl
  · split <;> rfl

section
variable {w : Hw} {r : Bool} {f : Nat} (mode : w.ppsMode ≠ 0) (edge : r ≠ tb (w.reg 0x00040000) 4)
include mode edge

theorem ppsEdge_first (first : w.clk.ppsRef = none) : ppsEdge r f w = { w with clk := { w.clk with ppsRef := some w.ticks } } := by
  unfold ppsEdge
  dsimp only
  rw [if_neg fun h => h.elim mode edge, first]

variable {p : Nat} (ref : w.clk.ppsRef = some p)
include ref

theorem ppsEdge_accepted (early : p + 799200000 ≤ w.ticks) (late : w.ticks ≤ p + 800800000) (still : w.clk.setArmed = none) :
    ppsEdge r f w = (w.ppsSeen f).ppsLoop (ppsErr w.clk.time.toNat (f % 80)) := by
  have unarmed : ((w.ppsSeen f).ppsLoop (ppsErr w.clk.time.toNat (f % 80))).clk.setArmed = none := (Hw.ppsLoop_setArmed _ _).trans still
  unfold ppsEdge
  dsimp only
  rw [if_neg fun h => h.elim mode edge, ref]
  dsimp only
  rw [if_pos (by omega)]
  unfold Hw.ppsSeen at unarmed ⊢
  rw [unarmed]

theorem ppsEdge_rejected (late : p + 800800000 < w.ticks) (none' : w.clk.rejTimes = []) : ppsEdge r f w = { w with clk := { w.clk with
    ppsRef := none, rejected := satAdd 0xFFFF w.clk.rejected 1, rejTimes := [w.ticks] } } := by
  have times : (w.ticks :: w.clk.rejTimes).filter (fun x => decide (w.ticks < x + 48000000000)) = [w.ticks] := by simp [none']
  unfold ppsEdge
  dsimp only
  rw [if_neg fun h => h.elim mode edge, ref]
  dsimp only
  rw [if_neg (by omega), times]
  rfl

end

section
variable {s : State} (q : s.hw.outbox = []) {r : Bool} {f : Nat}
include q

theorem exec_ppsEdge_off (off : bits (s.hw.reg 0x00040000) 0 2 = 0) : exec (.ppsEdge r f) s = .next s :=
  next_clocked_same q (if_pos (.inl (Hw.ppsMode_eq off (by decide))))

variable (on : s.hw.awake 6 = true) (mode : bits (s.hw.reg 0x00040000) 0 2 = 1 ∨ bits (s.hw.reg 0x00040000) 0 2 = 2)
  (edge : r ≠ tb (s.hw.reg 0x00040000) 4)
include mode

omit q in
theorem ppsMode_on : s.hw.ppsMode ≠ 0 := by
  obtain one | two := mode
  · rw [Hw.ppsMode_eq one (by decide)]; decide
  · rw [Hw.ppsMode_eq two (by decide)]; decide

include on edge

theorem exec_ppsEdge_first (first : s.hw.clk.ppsRef = none) :
    exec (.ppsEdge r f) s = .next { s with hw := { s.hw with clk := { s.hw.clk with ppsRef := some s.hw.ticks } } } :=
  next_clocked q on (ppsEdge_first (ppsMode_on mode) edge first) rfl

theorem exec_ppsEdge_rejected {p : Nat} (ref : s.hw.clk.ppsRef = some p) (late : p + 800800000 < s.hw.ticks) (none' : s.hw.clk.rejTimes = []) :
    ∃ u, exec (.ppsEdge r f) s = .next u ∧ u.cmd = s.cmd ∧ u.hw.clk.ppsRef = none ∧
      u.hw.clk.rejected = min 0xFFFF (s.hw.clk.rejected + 1) ∧ u.hw.clk.time = s.hw.clk.time :=
  ⟨_, next_clocked q on (ppsEdge_rejected (ppsMode_on mode) edge ref late none') rfl, rfl, rfl, rfl, rfl⟩

variable {p : Nat} (ref : s.hw.clk.ppsRef = some p) (early : p + 799200000 ≤ s.hw.ticks) (late : s.hw.ticks ≤ p + 800800000)
  (still : s.hw.clk.setArmed = none)
include ref early late still

omit mode in
theorem exec_ppsEdge_measures (one : bits (s.hw.reg 0x00040000) 0 2 = 1) (free : s.hw.out.ptp ≠ 2) : exec (.ppsEdge r f) s =
    .next { s with hw := { s.hw.ppsSeen f with clk := { (s.hw.ppsSeen f).clk with term := 0 } } } := by
  have measure : (s.hw.ppsSeen f).ppsMode = 1 := Hw.ppsMode_eq (w := s.hw) one (by decide)
  refine next_clocked q on ((ppsEdge_accepted (ppsMode_on (.inl one)) edge ref early late still).trans ?_) rfl
  unfold Hw.ppsLoop
  rw [if_neg (by rw [measure]; decide)]
  exact if_neg free

omit mode in
theorem exec_ppsEdge_disciplines (two : bits (s.hw.reg 0x00040000) 0 2 = 2) : ∃ u, exec (.ppsEdge r f) s = .next u ∧ u.cmd = s.cmd ∧
    u.hw.clk.ppsErr = ppsErr s.hw.clk.time.toNat (f % 80) ∧
    u.hw.clk.integ = (s.hw.discipline (ppsErr s.hw.clk.time.toNat (f % 80))).clk.integ ∧
    u.hw.clk.term = (s.hw.discipline (ppsErr s.hw.clk.time.toNat (f % 80))).clk.term ∧
    u.hw.clk.lockRun = s.hw.lockRun (ppsErr s.hw.clk.time.toNat (f % 80)) s.hw.clk.lockRun := by
  have discipline : (s.hw.ppsSeen f).ppsMode = 2 := Hw.ppsMode_eq (w := s.hw) two (by decide)
  have steers := ppsEdge_accepted (f := f) (ppsMode_on (.inr two)) edge ref early late still
  unfold Hw.ppsLoop at steers
  rw [if_pos discipline] at steers
  exact ⟨_, next_clocked q on steers rfl, rfl, rfl, rfl, rfl, rfl⟩

end

/-! ### PPS_TIMEOUT (R138) -/

section
variable {s : State} (q : s.hw.outbox = [])
include q

theorem exec_ppsTimeout_idle (early : s.hw.ticks < s.hw.clk.ppsMissAt ∨ (s.hw.ppsMode = 0 ∧ s.hw.clk.present = false)) :
    exec .ppsTimeout s = .next s :=
  next_clocked_same q (if_pos (early.imp_right fun ⟨off, gone⟩ => ⟨off, ne_true_of_eq_false gone⟩))

/-- The hardware a PPS edge was missing from. -/
def Hw.ppsMissed (w : Hw) : Hw := { w with clk := { w.clk with
  present := false, locked := false, lockRun := 0, missing := satAdd 0xFFFF w.clk.missing 1, ppsQuiet := true
  ppsMissAt := w.ticks + 800000000 } }

theorem exec_ppsTimeout (on : s.hw.awake 6 = true) (due : s.hw.clk.ppsMissAt ≤ s.hw.ticks) (heard : s.hw.ppsMode ≠ 0 ∨ s.hw.clk.present = true) :
    ∃ u, exec .ppsTimeout s = .next u ∧ u.hw.clk.present = false ∧ u.hw.clk.locked = false ∧
      u.hw.clk.missing = min 0xFFFF (s.hw.clk.missing + 1) ∧ u.hw.clk.ppsMissAt = s.hw.ticks + 800000000 ∧
      (s.hw.clk.ppsQuiet = false → s.hw.evt.table.length < 1024 → u.hw.isRaised (fid srcClk 1 3) = true) := by
  have misses : ppsTimeout s.hw = if s.hw.clk.ppsQuiet then s.hw.ppsMissed else s.hw.ppsMissed.raise (fid srcClk 1 3) [] := by
    refine if_neg fun h => h.elim (fun early => by omega) fun ⟨off, gone⟩ => ?_
    exact heard.elim (fun h => h off) gone
  have told : s.hw.ppsMissed.Records (if s.hw.clk.ppsQuiet then s.hw.ppsMissed else s.hw.ppsMissed.raise (fid srcClk 1 3) []) :=
    .ite (.refl _) (Hw.raise_records _ _ _ (by decide))
  obtain ⟨u, run, ⟨_, _, left⟩, raised⟩ := next_clocked_records on misses told q
  refine ⟨u, run, by rw [left]; rfl, by rw [left]; rfl, by rw [left]; rfl, by rw [left]; rfl, fun loud room => raised _ ?_⟩
  rw [if_neg (ne_true_of_eq_false loud)]
  exact Hw.isRaised_raise _ _ _ (by decide) room

end

/-! ### CRYSTAL_STOP and REF_PLL_UNLOCK (R66, R134) -/

section
variable {s : State} (q : s.hw.outbox = [])
include q

theorem exec_crystalStop_idle (stopped : s.hw.clk.xtalOk = false) : exec .crystalStop s = .next s :=
  next_clocked_same q (if_neg (ne_true_of_eq_false stopped))

theorem exec_refPllUnlock_idle (open' : s.hw.clk.refLock = false) : exec .refPllUnlock s = .next s :=
  next_clocked_same q (if_neg (ne_true_of_eq_false open'))

/-- A clocked step that raises a fault of any class: CLK is as it was before the fault, and the fault is raised. -/
theorem next_clocked_raises {n : Nat} (on : s.hw.awake n = true) (room : s.hw.evt.table.length < 1024) {f : Hw → Hw} {c : ClkSt} {x : FaultId}
    (e : f s.hw = ({ s.hw with clk := c } : Hw).raise x []) : ∃ u, (.next (s.clocked n f) : Out) = .next u ∧ u.hw.clk = c ∧ u.hw.isRaised x = true := by
  have kept := Hw.raise_paces { s.hw with clk := c } x []
  obtain ⟨u, run, log⟩ := State.clocked_logOnly on f e (kept.mild (Hw.mild_of_empty q))
  have raised := (log.isRaised x).trans (Hw.raise_raised { s.hw with clk := c } x [] room)
  obtain ⟨_, _, _, _, left⟩ := log
  exact ⟨u, run, by rw [left]; exact kept.clk, raised⟩

variable (on : s.hw.awake 6 = true) (room : s.hw.evt.table.length < 1024)
include on room

theorem exec_crystalStop (runs : s.hw.clk.xtalOk = true) : ∃ u, exec .crystalStop s = .next u ∧ u.hw.clk.xtalOk = false ∧
    u.hw.clk.timeValid = false ∧ u.hw.isRaised (fid srcClk 3 1) = true := by
  obtain ⟨u, run, clk, raised⟩ := next_clocked_raises q on room (f := crystalStop) (if_pos runs)
  exact ⟨u, run, by rw [clk], by rw [clk], raised⟩

theorem exec_refPllUnlock (locked : s.hw.clk.refLock = true) : ∃ u, exec .refPllUnlock s = .next u ∧ u.hw.clk.refLock = false ∧
    u.hw.clk.timeValid = false ∧ u.hw.isRaised (fid srcClk 3 2) = true := by
  obtain ⟨u, run, clk, raised⟩ := next_clocked_raises q on room (f := refUnlock) (if_pos locked)
  exact ⟨u, run, by rw [clk], by rw [clk], raised⟩

end

end Sys2Proof.Machine
end

section
/-! PROOFS. Daymark's edges, intervals and gates, and the temperatures (R146 to R149, R322, R466). -/

namespace Sys2Proof.Machine

/-! ### Edges (R146, R147) -/

theorem Hw.LogOnly.dmk {a b : Hw} (h : a.LogOnly b) : b.dmk = a.dmk := by
  obtain ⟨_, _, _, _, rfl⟩ := h
  rfl

/-- An input as a stamp leaves it: at the present time, with the fine field of a stamper that took it. -/
def Hw.stampOf (w : Hw) (i : Nat) (fine : Option Nat) : DmkIn :=
  { w.dmkIn i with stamped := true, tick := w.ticks, time := w.clk.time, fine := fine.getD 0, coarse := fine.isNone }

section
variable (w : Hw)

/-- A stamper that takes an edge, or counts a miss, changes Daymark but no input. -/
theorem Hw.fineStamp_shape (k f : Nat) : ∃ d, (w.fineStamp k f).2 = { w with dmk := d } ∧ d.ins = w.dmk.ins := by
  unfold Hw.fineStamp
  refine ⟨_, rfl, ?_⟩
  repeat' split
  all_goals rfl

/-- The stamper START takes an edge of its source while it is free. -/
theorem Hw.fineStamp_start {k : Nat} (f : Nat) (source : w.startSel = k) (free : w.dmk.startBusy ≤ w.ticks) : (w.fineStamp k f).1 = some f := by
  unfold Hw.fineStamp
  simp only [if_pos source, if_pos free, Option.some_or]

theorem Hw.intervalEdge_shape (k t : Nat) : ∃ d, w.intervalEdge k t = { w with dmk := d } ∧ d.ins = w.dmk.ins := by
  unfold Hw.intervalEdge
  dsimp only
  repeat' split
  all_goals exact ⟨_, rfl, rfl⟩

theorem Hw.freqEdge_shape (i t : Nat) (f : Option Nat) : ∃ d, w.freqEdge i t f = { w with dmk := d } ∧ d.ins = w.dmk.ins := by
  unfold Hw.freqEdge
  dsimp only
  repeat' split
  all_goals exact ⟨_, rfl, rfl⟩

variable {i : Nat} (input : i < 4) (r : Bool) (f : Nat)
include input

/-- A stamped edge changes Daymark alone, and the input as its stamp says. -/
theorem dmkEdge_stamps (stamps : w.dmkStamps i r = true) : ∃ d, dmkEdge i r f w = { w with dmk := d } ∧
    mget {} d.ins i = w.stampOf i (w.fineStamp i (f % 320)).1 := by
  have takes : w.dmkTakes i r = true := by
    simp only [Hw.dmkStamps, Bool.and_eq_true] at stamps
    exact stamps.1.2
  unfold dmkEdge
  rw [if_neg (Nat.not_le.mpr input), if_neg (not_not_intro takes), if_neg (not_not_intro stamps)]
  obtain ⟨a, taken, same⟩ := w.fineStamp_shape i (f % 320)
  dsimp only
  rw [taken]
  obtain ⟨b, offered, same'⟩ := Hw.intervalEdge_shape { w with dmk := { a with
    ins := mset {} a.ins i (({ w with dmk := a } : Hw).stampOf i (w.fineStamp i (f % 320)).1) } } i (320 * w.ticks + (w.fineStamp i (f % 320)).1.getD 0)
  obtain ⟨c, counted, same''⟩ := Hw.freqEdge_shape { w with dmk := b } i w.ticks (w.fineStamp i (f % 320)).1
  refine ⟨c, ?_, ?_⟩
  · exact (congrArg (fun v => v.freqEdge i w.ticks (w.fineStamp i (f % 320)).1) offered).trans counted
  · rw [same'', same']
    dsimp only
    rw [mget_mset_same]
    unfold Hw.stampOf Hw.dmkIn
    rw [same]

omit input in
theorem motionEdge_ignored (ignored : w.dmkStamps i r = false) : motionEdge i r f w = dmkEdge i r f w :=
  if_neg (ne_true_of_eq_false ignored)

end

section
variable {s : State} (q : s.hw.outbox = []) {i : Nat} (input : i < 4) {r : Bool} {f : Nat}
include q input

theorem exec_dmkEdge_off (off : s.hw.dmkTakes i r = false) : exec (.dmkEdge i r f) s = .next s := by
  refine next_clocked_same q ((motionEdge_ignored _ _ _ (by simp [Hw.dmkStamps, off])).trans ?_)
  exact (if_neg (Nat.not_le.mpr input)).trans (if_pos (ne_true_of_eq_false off))

variable (on : s.hw.awake 6 = true)
include on

theorem exec_dmkEdge_stamps (stamps : s.hw.dmkStamps i r = true) : ∃ u, exec (.dmkEdge i r f) s = .next u ∧
    (u.hw.dmkIn i).stamped = true ∧ (u.hw.dmkIn i).time = s.hw.clk.time ∧ (u.hw.dmkIn i).tick = s.hw.ticks ∧
    ((s.hw.startSel = i ∧ s.hw.dmk.startBusy ≤ s.hw.ticks) → (u.hw.dmkIn i).fine = f % 320 ∧ (u.hw.dmkIn i).coarse = false) := by
  obtain ⟨d, edge, stamp⟩ := dmkEdge_stamps s.hw input r f stamps
  have offered : ∃ t, motionEdge i r f s.hw = (List.range 4).foldl (fun h a => h.axisEdge a i t r) { s.hw with dmk := d } := by
    rw [← edge]
    exact ⟨_, if_pos stamps⟩
  obtain ⟨t, offered⟩ := offered
  have kept := Hw.Paces.foldl (fun v a => Hw.axisEdge_paces v a i t r) (List.range 4) { s.hw with dmk := d }
  obtain ⟨u, run, log⟩ := State.clocked_logOnly on (motionEdge i r f) offered (kept.mild (Hw.mild_of_empty q))
  have same : u.hw.dmkIn i = s.hw.stampOf i (s.hw.fineStamp i (f % 320)).1 := by
    rw [Hw.dmkIn, log.dmk.trans kept.dmk]
    exact stamp
  refine ⟨u, run, by rw [same]; rfl, by rw [same]; rfl, by rw [same]; rfl, fun ⟨source, free⟩ => ?_⟩
  rw [same, Hw.fineStamp_start s.hw _ source free]
  exact ⟨rfl, rfl⟩

theorem exec_dmkEdge_merges (takes : s.hw.dmkTakes i r = true) (stamped : (s.hw.dmkIn i).stamped = true)
    (soon : s.hw.ticks < (s.hw.dmkIn i).tick + 16) : ∃ u, exec (.dmkEdge i r f) s = .next u ∧ u.cmd = s.cmd ∧
    u.hw.dmkIn i = { s.hw.dmkIn i with merged := min 0xFFFFFFFF ((s.hw.dmkIn i).merged + 1) } ∧ u.hw.pds = s.hw.pds := by
  have merges : s.hw.dmkStamps i r = false := by simp [Hw.dmkStamps, stamped, soon]
  have edge := (motionEdge_ignored s.hw r f merges).trans
    ((if_neg (Nat.not_le.mpr input)).trans ((if_neg (not_not_intro takes)).trans (if_pos (ne_true_of_eq_false merges))))
  exact ⟨_, next_clocked q on edge rfl, rfl, mget_mset_same _ _ _ _, rfl⟩

end

/-! ### Intervals (R148) -/

section
variable {s : State} (q : s.hw.outbox = [])
include q

theorem exec_dmkIvArm : ∃ u, exec .dmkIvArm s = .next u ∧ u.cmd = s.cmd ∧ u.hw.dmk.armed = true ∧ u.hw.dmk.ivStart = none ∧
    u.hw.dmk.ivValid = false := by
  have named : regDesc 0x00048008 = some { base := 0x00048008, rw := 0xFFFF0002, w1s := 0x1, reset := 0x03E80000 } := by decide
  obtain ⟨r, write⟩ := Hw.plainWrite_acked s.hw (putBit (s.hw.reg 0x00048008) 0 true) named
  have arms : s.hw.writeReg false 0x00048008 (putBit (s.hw.reg 0x00048008) 0 true) = ivArm (s.hw.acked r) := by
    rw [Hw.writeReg_clk s.hw _ rfl rfl named rfl, ← write]
    exact if_pos (tb_putBit_true _ 0)
  exact ⟨_, next_hwStep arms q, rfl, rfl, rfl, rfl⟩

theorem exec_dmkIvTimeout (on : s.hw.awake 6 = true) (armed : s.hw.dmk.armed = true) (due : s.hw.dmk.ivDue ≤ s.hw.ticks) :
    exec .dmkIvTimeout s = .next { s with hw := { s.hw with dmk := { s.hw.dmk with armed := false, ivStart := none, ivTimeout := true } } } :=
  next_clocked q on (if_pos ⟨armed, due⟩) rfl

theorem exec_dmkIvTimeout_idle (idle : s.hw.dmk.armed = false ∨ s.hw.ticks < s.hw.dmk.ivDue) : exec .dmkIvTimeout s = .next s :=
  next_clocked_same q (if_neg fun ⟨armed, due⟩ => idle.elim (ne_true_of_eq_false · armed) fun early => by omega)

end

/-! ### Gates (R149, R285) -/

theorem regDesc_freqCtl : ∀ i < 4, regDesc (0x00048020 + 4 * i) =
    some { base := 0x00048020, n := 4, rw := 0xFFFFFFFE, w1s := 0x1, reset := 0x0FA0 } := by decide

theorem Hw.writeReg_freqCtl (w : Hw) {i : Nat} (v : Nat) (input : i < 4) : w.writeReg false (0x00048020 + 4 * i) v = dmkFreqStore i v w := by
  have block : (0x00048020 + 4 * i) / 0x10000 = 0x04 := by omega
  have off : (0x00048020 + 4 * i) % 0x10000 = 0x8020 + 4 * i := by omega
  rw [Hw.writeReg_clk w v block (by omega) (regDesc_freqCtl i input) rfl]
  unfold Hw.storeReg
  simp only [block, off]
  rw [if_neg (by omega), if_neg (by omega), if_neg (by omega), if_neg (by omega), if_pos (by omega),
    show (0x8020 + 4 * i - 0x8020) / 4 = i by omega]

@[simp] theorem Hw.freqOf_setFreq (w : Hw) (i : Nat) (x : DmkFreq) : (w.setFreq i x).freqOf i = x := mget_mset_same _ _ _ _

/-- A frequency result of an input that Pedestal does not own reaches no axis. -/
theorem Hw.freqResult_unowned {w : Hw} {i : Nat} (free : w.ownsFreq i = false) : w.freqResult i = w := by
  have none' : ∀ a ∈ List.range 4, (w.axis a).kind ≠ 1 ∨ (w.axis a).state = .off ∨ (w.axis a).edge ≠ i := fun a ha => by
    have unused := List.any_eq_false.mp free a ha
    simp only [decide_eq_true_eq, not_and_or, not_not] at unused
    exact unused
  unfold Hw.freqResult
  exact List.foldlRecOn (motive := (· = w)) _ _ rfl fun v e a ha => by
    subst e
    exact if_pos (none' a ha)

/-- The flags of a gate's result: the fit is there, all stamps were taken, too few were taken, the stamps were coarse, their number. -/
def gateFlags (few coarse : Bool) (n : Nat) : Nat :=
  b2n (!few) * 2 ^ 31 + b2n (decide (65536 ≤ n)) * 2 ^ 30 + b2n few * 2 ^ 29 + b2n coarse * 2 ^ 28 + n

theorem gateFlags_few (coarse : Bool) {n : Nat} (h : n < 3) : tb (gateFlags true coarse n) 29 = true := by
  have bit := b2n_le_one coarse
  have part : b2n (decide (65536 ≤ n)) = 0 := by rw [decide_eq_false (by omega)]; rfl
  simp only [gateFlags, tb, Nat.testBit_eq_decide_div_mod_eq, decide_eq_true_eq, part, show b2n (!true) = 0 from rfl, show b2n true = 1 from rfl]
  omega

theorem gateFlags_fit (coarse : Bool) {n : Nat} (h : n ≤ 65536) : tb (gateFlags false coarse n) 31 = true := by
  have bit := b2n_le_one coarse
  have full := b2n_le_one (decide (65536 ≤ n))
  simp only [gateFlags, tb, Nat.testBit_eq_decide_div_mod_eq, decide_eq_true_eq, show b2n (!false) = 1 from rfl, show b2n false = 0 from rfl]
  omega

section
variable {s : State} (q : s.hw.outbox = []) {i : Nat}
include q

theorem exec_dmkFreqGateEnd_idle (idle : (s.hw.freqOf i).running = false) : exec (.dmkFreqGateEnd i) s = .next s := by
  refine next_clocked_same q ?_
  unfold motionGateEnd freqGateEnd
  simp [idle]

variable (input : i < 4)
include input

theorem exec_dmkFreqStart_owned {v : Word} (owned : s.hw.ownsFreq i = true) :
    exec (.dmkFreqStart i v) s = .next { s with hw := { s.hw with ack := 0, ackData := [] } } :=
  (congrArg _ (if_pos input)).trans (next_hwStep ((s.hw.writeReg_freqCtl v.toNat input).trans (if_pos owned)) q)

theorem exec_dmkFreqStart {v : Word} (free : s.hw.ownsFreq i = false) (start : tb v.toNat 0 = true) :
    ∃ u, exec (.dmkFreqStart i v) s = .next u ∧ u.cmd = s.cmd ∧ (u.hw.freqOf i).running = true ∧ (u.hw.freqOf i).n = 0 ∧ u.hw.ack = 0 := by
  obtain ⟨r, write⟩ := Hw.plainWrite_acked s.hw v.toNat (regDesc_freqCtl i input)
  have opens : s.hw.writeReg false (0x00048020 + 4 * i) v.toNat = (s.hw.acked r).startGate i := by
    rw [Hw.writeReg_freqCtl s.hw _ input, ← write]
    exact (if_neg (ne_true_of_eq_false free)).trans (if_pos start)
  have gate : ∀ w : Hw, ((w.startGate i).freqOf i).running = true ∧ ((w.startGate i).freqOf i).n = 0 := fun w => by
    simp only [Hw.startGate, Hw.freqOf_setFreq, and_self]
  exact ⟨_, (congrArg _ (if_pos input)).trans (next_hwStep opens q), rfl, (gate _).1, (gate _).2, rfl⟩

omit q input in
/-- The fit of a gate's coarse or fine stamps. -/
def DmkFreq.fitted (x : DmkFreq) (coarse : Bool) (prescale : Nat) : Nat × Nat :=
  if coarse then fitGate x.n x.stc x.sntc x.sttc prescale else fitGate x.n x.st x.snt x.stt prescale

/-- A gate as its end leaves it, whose stamps were fitted to a period and a residue. -/
def DmkFreq.gateEnded (x : DmkFreq) (coarse : Bool) (fit : Nat × Nat) : DmkFreq :=
  { x with running := false, period := fit.1, flags := gateFlags (decide (x.n < 3)) coarse x.n, resid := fit.2 }

/-- The gate of an input that no axis owns ends, without repeating, in the fit of its stamps. -/
theorem exec_dmkFreqGateEnd (on : s.hw.awake 6 = true) (running : (s.hw.freqOf i).running = true)
    (due : (s.hw.freqOf i).gateEnd ≤ s.hw.ticks) (once : tb (s.hw.reg (0x00048020 + 4 * i)) 1 = false) (free : s.hw.ownsFreq i = false)
    {coarse : Bool} (grain : ((s.hw.freqOf i).anyCoarse || !decide (s.hw.startSel = i ∨ s.hw.stopSel = i)) = coarse) :
    ∃ u, exec (.dmkFreqGateEnd i) s = .next u ∧ u.cmd = s.cmd ∧ u.hw.freqOf i = (s.hw.freqOf i).gateEnded coarse
      (if (s.hw.freqOf i).n < 3 then (0, 0) else (s.hw.freqOf i).fitted coarse (s.hw.prescale i)) := by
  have ends : freqGateEnd i s.hw = s.hw.setFreq i ((s.hw.freqOf i).gateEnded coarse
      (if (s.hw.freqOf i).n < 3 then (0, 0) else (s.hw.freqOf i).fitted coarse (s.hw.prescale i))) := by
    subst grain
    unfold freqGateEnd
    dsimp only
    rw [if_neg (by simp [running, Nat.not_lt.mpr due])]
    refine (if_neg (ne_true_of_eq_false once)).trans (congrArg (s.hw.setFreq i) ?_)
    unfold DmkFreq.gateEnded DmkFreq.fitted
    by_cases few : (s.hw.freqOf i).n < 3
    · rw [decide_eq_true few, if_pos rfl, if_pos few]
      rfl
    · rw [decide_eq_false few, if_neg Bool.false_ne_true, if_neg few]
      rfl
  have told : motionGateEnd i s.hw = (freqGateEnd i s.hw).freqResult i :=
    if_pos (by simp [input, running, due])
  rw [ends] at told
  exact ⟨_, next_clocked q on (told.trans (Hw.freqResult_unowned (w := s.hw.setFreq i _) free)) rfl, rfl, Hw.freqOf_setFreq _ _ _⟩

/-- The gate's end as its registers show it: too few stamps, or the period and residue of their fit. -/
theorem exec_dmkFreqGateEnd_shows (on : s.hw.awake 6 = true) (running : (s.hw.freqOf i).running = true)
    (due : (s.hw.freqOf i).gateEnd ≤ s.hw.ticks) (counted : (s.hw.freqOf i).n ≤ 65536)
    (once : tb (s.hw.reg (0x00048020 + 4 * i)) 1 = false) (free : s.hw.ownsFreq i = false) :
    ∃ u, exec (.dmkFreqGateEnd i) s = .next u ∧ u.cmd = s.cmd ∧ (u.hw.freqOf i).running = false ∧
      ((s.hw.freqOf i).n < 3 → (u.hw.freqOf i).period = 0 ∧ tb (u.hw.freqOf i).flags 29 = true) ∧
      let fine := (s.hw.freqOf i).anyCoarse = false ∧ (s.hw.startSel = i ∨ s.hw.stopSel = i)
      let f := s.hw.freqOf i
      let fit := if fine then fitGate f.n f.st f.snt f.stt (s.hw.prescale i) else fitGate f.n f.stc f.sntc f.sttc (s.hw.prescale i)
      (3 ≤ (s.hw.freqOf i).n → (u.hw.freqOf i).period = fit.1 ∧ (u.hw.freqOf i).resid = fit.2 ∧ tb (u.hw.freqOf i).flags 31 = true) := by
  obtain ⟨u, run, cmd, ended⟩ := exec_dmkFreqGateEnd q input on running due once free rfl
  have grain : ((s.hw.freqOf i).anyCoarse || !decide (s.hw.startSel = i ∨ s.hw.stopSel = i)) = false ↔
      (s.hw.freqOf i).anyCoarse = false ∧ (s.hw.startSel = i ∨ s.hw.stopSel = i) := by
    rw [Bool.or_eq_false_iff, Bool.not_eq_false', decide_eq_true_iff]
  refine ⟨u, run, cmd, by rw [ended]; rfl, fun few => ?_, fun fits => ?_⟩
  · rw [ended, if_pos few]
    unfold DmkFreq.gateEnded
    exact ⟨rfl, by rw [decide_eq_true few]; exact gateFlags_few _ few⟩
  · have several : ¬ (s.hw.freqOf i).n < 3 := Nat.not_lt.mpr fits
    rw [ended, if_neg several]
    simp only [← grain]
    unfold DmkFreq.gateEnded DmkFreq.fitted
    rw [decide_eq_false several]
    dsimp only
    cases (s.hw.freqOf i).anyCoarse || !decide (s.hw.startSel = i ∨ s.hw.stopSel = i)
    · exact ⟨rfl, rfl, gateFlags_fit _ counted⟩
    · exact ⟨rfl, rfl, gateFlags_fit _ counted⟩

end

/-! ### Temperatures (R322, R466) -/

/-- Writing every place below `n` leaves each place below `n` with its value. -/
theorem mget_foldl_range_mset {V : Type} [DecidableEq V] (d : V) (f : Nat → V) (m : SMap V) {n j : Nat} (h : j < n) :
    mget d ((List.range n).foldl (fun m j => mset d m j (f j)) m) j = f j := by
  induction n with
  | zero => omega
  | succ n ih =>
    rw [List.range_succ, List.foldl_append, List.foldl_cons, List.foldl_nil]
    by_cases last : n = j
    · subst last
      exact mget_mset_same _ _ _ _
    · rw [mget_mset_ne _ _ _ _ _ last]
      exact ih (by omega)

/-- The hardware with the sensors taken up, before the temperatures have had an effect. -/
def Hw.tempsTaken (w : Hw) (l : List Int) : Hw := { w with
  temps := (List.range 8).foldl (fun m j => mset 0 m j (clampI (-32768) 32767 (l.getD j 0))) w.temps
  tid := { w.tid with tempAt := w.ticks + 800000 } }

section
variable {w : Hw} {l th : List Int} (due : ¬ (w.dev.mode = .dormant ∨ w.dev.inReset = true ∨ w.ticks < w.tid.tempAt))
  (started : ¬ w.dev.hotHold = true)
include due started

/-- Below 140 °C a reading leaves the sensors as taken up. -/
theorem tempConversion_paces (cool : l.foldl max (l.headD 0) < 140 * 64) : (w.tempsTaken l).Paces (tempConversion l th w) := by
  have judged : ∀ (v : Hw) d, v.Paces { v with dev := d } := fun _ _ => .of_same rfl rfl rfl rfl rfl
  have told : ∀ (v : Hw) (b : Bool) f, v.Paces (if b then v.raise f [] else v) := fun v b f => .ite (v.raise_paces f []) (.refl v)
  unfold tempConversion
  rw [if_neg due]
  dsimp only
  rw [if_neg started, if_neg (Int.not_le.mpr cool)]
  refine .trans (.foldl (f := fun (h : Hw) j => match th[j]? with
      | some r => h.takeTherm j r
      | none => h) (fun v j => ?_) (List.range 4) _)
    ((((judged _ _).trans (told _ _ _)).trans (told _ _ _)).trans (Hw.calTemps_paces _))
  split
  · exact v.takeTherm_paces j _
  · exact .refl v

/-- At 140 °C the device restarts into the hot hold. -/
theorem tempConversion_shutdown (hot : 140 * 64 ≤ l.foldl max (l.headD 0)) : tempConversion l th w =
    { (w.tempsTaken l).restart 5 with dev := { ((w.tempsTaken l).restart 5).dev with hotHold := true } } :=
  (if_neg due).trans ((if_neg started).trans (if_pos hot))

end

section
variable {s : State} (q : s.hw.outbox = [])
include q

theorem exec_tempConversion_idle {l th : List Int} (idle : s.hw.dev.mode = .dormant ∨ s.hw.ticks < s.hw.tid.tempAt) :
    exec (.tempConversion l th) s = .next s :=
  next_hwStep (if_pos (idle.imp_right .inr)) q

variable (reset : s.hw.dev.inReset = false) (started : s.hw.dev.hotHold = false) (due : s.hw.tid.tempAt ≤ s.hw.ticks)
include reset started due

omit q started in
theorem tempConversion_due (awake : s.hw.dev.mode ≠ .dormant) :
    ¬ (s.hw.dev.mode = .dormant ∨ s.hw.dev.inReset = true ∨ s.hw.ticks < s.hw.tid.tempAt) := by
  rintro (asleep | held | early)
  · exact awake asleep
  · exact ne_true_of_eq_false reset held
  · omega

theorem exec_tempConversion {l th : List Int} (awake : s.hw.dev.mode ≠ .dormant) (cool : l.foldl max (l.headD 0) < 140 * 64) :
    ∃ u, exec (.tempConversion l th) s = .next u ∧ u.hw.tid.tempAt = s.hw.ticks + 800000 ∧
      ∀ j < 8, mget 0 u.hw.temps j = clampI (-32768) 32767 (l.getD j 0) := by
  have taken := tempConversion_paces (th := th) (tempConversion_due reset due awake) (ne_true_of_eq_false started) cool
  have log := State.hwStep_logOnly s (tempConversion l th) (taken.mild (Hw.mild_of_empty q))
  have kept : (s.hwStep (tempConversion l th)).hw.temps = (tempConversion l th s.hw).temps ∧
      (s.hwStep (tempConversion l th)).hw.tid = (tempConversion l th s.hw).tid := by
    obtain ⟨_, _, _, _, left⟩ := log
    rw [left]
    exact ⟨rfl, rfl⟩
  refine ⟨_, rfl, (congrArg (·.tempAt) kept.2).trans taken.tempAt, fun j sensor => ?_⟩
  rw [kept.1, taken.temps]
  exact mget_foldl_range_mset 0 (fun j => clampI (-32768) 32767 (l.getD j 0)) s.hw.temps sensor

omit q in
theorem exec_tempConversion_shutdown {v : Int} (config : s.hw.dev.mode = .config) (hot : 140 * 64 ≤ v) :
    ∃ u, exec (.tempConversion [v] []) s = .next u ∧ u.hw.dev.hotHold = true ∧ u.hw.dev.mode = .boot ∧ u.cmd = {} := by
  have shuts := tempConversion_shutdown (l := [v]) (th := []) (tempConversion_due reset due (by rw [config]; decide))
    (ne_true_of_eq_false started) (hot.trans (le_max_left v v))
  obtain ⟨cmd, log⟩ := State.drain_reset { s with hw := tempConversion [v] [] s.hw } (l := []) (by rw [shuts]; rfl) (by simp)
  have dev := log.dev
  refine ⟨_, rfl, ?_, ?_, cmd⟩
  · refine (congrArg (·.hotHold) dev).trans ?_
    rw [shuts]
  · refine (congrArg (·.mode) dev).trans ?_
    rw [shuts]
    rfl

end

/-! ### The obligation -/

/-- Settles O38: clause by clause, from the lemmas about CLK, Daymark and the temperatures. -/
theorem clockRowsTakeEffect : Obligations.ClockRowsTakeEffect := fun _ q =>
  ⟨fun _ other => exec_clkTimeSet_mode q other, fun _ config due => exec_clkTimeSet_busy q config due,
    fun _ config free => ⟨exec_clkTimeSet_armed q config free, exec_clkTimeSet_now q config free⟩,
    fun _ two ptp => exec_clkCtlWrite_refused q two ptp, fun _ on => exec_clkCtlWrite q on, fun _ off => exec_clkCtlWrite_off q off,
    fun _ _ off => exec_ppsEdge_off q off,
    fun _ _ on mode edge => ⟨exec_ppsEdge_first q on mode edge,
      fun _ ref early late still => ⟨exec_ppsEdge_measures q on edge ref early late still, exec_ppsEdge_disciplines q on edge ref early late still⟩,
      fun _ ref late none' => exec_ppsEdge_rejected q on mode edge ref late none'⟩,
    exec_ppsTimeout_idle q, exec_ppsTimeout q, exec_crystalStop_idle q, exec_refPllUnlock_idle q,
    fun on room => ⟨exec_crystalStop q on room, exec_refPllUnlock q on room⟩,
    fun _ _ _ input off => exec_dmkEdge_off q input off, fun _ _ _ on input stamps => exec_dmkEdge_stamps q input on stamps,
    fun _ _ _ on input takes stamped soon => exec_dmkEdge_merges q input on takes stamped soon,
    exec_dmkIvArm q, exec_dmkIvTimeout q, exec_dmkIvTimeout_idle q,
    fun _ _ input free start => exec_dmkFreqStart q input free start, fun _ _ input owned => exec_dmkFreqStart_owned q input owned,
    fun _ idle => exec_dmkFreqGateEnd_idle q idle,
    fun _ on input running due counted once free => exec_dmkFreqGateEnd_shows q input on running due counted once free,
    fun _ _ idle => exec_tempConversion_idle q idle,
    fun _ _ awake reset started due cool => exec_tempConversion q reset started due awake cool,
    fun _ config reset started due hot => exec_tempConversion_shutdown reset started due config hot⟩

end Sys2Proof.Machine
end

section
/-! PROOFS. The region entry that governs a cell of a scan plan (R193). -/

namespace Sys2Proof.Machine

section
variable {p : List Byte} {h v : Nat}

theorem roiHolds_iff {i : Nat} : roiHolds p h v i = true ↔
    field (roiAt p i) 10 1 ≠ 0 ∧ field (roiAt p i) 0 2 ≤ h ∧ h ≤ field (roiAt p i) 2 2 ∧
      field (roiAt p i) 4 2 ≤ v ∧ v ≤ field (roiAt p i) 6 2 := by
  simp [roiHolds, and_assoc]

/-- The enabled region entries that contain the cell (h, v), in the order of their index. -/
def roisHolding (p : List Byte) (h v : Nat) : List Nat := (List.range 16).filter (roiHolds p h v)

theorem mem_roisHolding {i : Nat} : i ∈ roisHolding p h v ↔ i < 16 ∧ roiHolds p h v i = true := by
  simp [roisHolding]

theorem roisHolding_idxOf_le_iff {i j : Nat} (hi : i ∈ roisHolding p h v) (hj : j ∈ roisHolding p h v) :
    (roisHolding p h v).idxOf i ≤ (roisHolding p h v).idxOf j ↔ i ≤ j :=
  have ascending : (roisHolding p h v).SortedLT := (List.pairwise_lt_range.filter _).sortedLT
  (ascending.getIso _).symm.le_iff_le (x := ⟨i, hi⟩) (y := ⟨j, hj⟩)

/-- The fold that finds the governor is the library's `argmax` of the priority, which keeps the first of equals. -/
theorem governor_eq_argmax : governor p h v = (roisHolding p h v).argmax fun i => govPrio p (some i) := by
  rw [roisHolding, List.argmax, List.foldl_filter, governor]
  congr 1
  funext best i
  cases best <;> rfl

theorem governor_eq_some_iff {i : Nat} : governor p h v = some i ↔ i < 16 ∧ roiHolds p h v i = true ∧
    ∀ j < 16, roiHolds p h v j = true → j ≠ i →
      govPrio p (some j) < govPrio p (some i) ∨ (govPrio p (some j) = govPrio p (some i) ∧ i < j) := by
  rw [governor_eq_argmax, List.argmax_eq_some_iff, mem_roisHolding, and_assoc]
  refine and_congr_right fun inTable => and_congr_right fun holds => ?_
  have mem := mem_roisHolding.2 ⟨inTable, holds⟩
  constructor
  · rintro ⟨highest, first⟩ j jIn jHolds other
    have jMem := mem_roisHolding.2 ⟨jIn, jHolds⟩
    obtain lower | equal := (highest j jMem).lt_or_eq
    · exact .inl lower
    · have before := (roisHolding_idxOf_le_iff mem jMem).1 (first j jMem equal.ge)
      exact .inr ⟨equal, before.lt_of_ne' other⟩
  · intro wins
    have beaten : ∀ j ∈ roisHolding p h v, govPrio p (some j) ≤ govPrio p (some i) ∧
        (govPrio p (some i) ≤ govPrio p (some j) → i ≤ j) := by
      intro j jMem
      obtain ⟨jIn, jHolds⟩ := mem_roisHolding.1 jMem
      obtain rfl | other := eq_or_ne j i
      · exact ⟨le_rfl, fun _ => le_rfl⟩
      · have := wins j jIn jHolds other
        omega
    exact ⟨fun j jMem => (beaten j jMem).1,
      fun j jMem notLower => (roisHolding_idxOf_le_iff mem jMem).2 ((beaten j jMem).2 notLower)⟩

theorem governor_eq_none_iff : governor p h v = none ↔ ∀ j < 16, ¬ roiHolds p h v j = true := by
  rw [governor_eq_argmax, List.argmax_eq_none, roisHolding, List.filter_eq_nil_iff]
  simp only [List.mem_range]

end

/-! ### The obligation -/

/-- Settles O57: the governor is the first of the highest priority among the entries that hold the cell. -/
theorem cellsAreGovernedByPriority : Obligations.CellsAreGovernedByPriority := by
  intro p h v prio holds
  have holds_iff : ∀ i, roiHolds p h v i = true ↔ holds i := fun _ => roiHolds_iff
  simp only [← holds_iff]
  refine ⟨fun _ => governor_eq_some_iff, governor_eq_none_iff, fun _ governed => ?_, fun header => ?_⟩
  · rw [governed]
    rfl
  · rw [header]
    exact ⟨rfl, rfl, rfl, rfl, rfl⟩

end Sys2Proof.Machine
end
